-- ==== Sys2Proof/Word.lean ====
section
/-!
DEFINITION. The word types of the device and their plainest operations: bytes, 32-bit and 64-bit words,
floating-point bit patterns (00_scope.md R8) and the serial-number order of R37.
-/
namespace Sys2Proof

/-- One byte of a record (R5). -/
abbrev Byte := BitVec 8
/-- A 32-bit word. -/
abbrev Word := BitVec 32
/-- The bit pattern of an IEEE 754 binary32 value (R8). -/
abbrev F32 := BitVec 32
/-- The bit pattern of an IEEE 754 binary64 value (R8). -/
abbrev F64 := BitVec 64

/-- Serial-number comparison of R37: `a` follows `b` when (a - b) mod 2^32 lies in [1, 2^31). -/
def serialFollows (a b : Nat) : Bool :=
  let d := (a + 4294967296 - b % 4294967296) % 4294967296
  1 ≤ d && d < 2147483648

end Sys2Proof
end

