-- ==== Sys2Proof/Machine/Bytes.lean ====
section
/-!
DEFINITION. Byte-order helpers: every multi-byte field is stored least significant byte first (00_scope.md R5, R538),
bit fields (R4) and sign extension.
-/
namespace Sys2Proof.Machine
open Sys2Proof

/-- Bits [lo + n - 1 : lo] of `x` (R4). -/
def bitsAt (x lo n : Nat) : Nat := (x >>> lo) % 2 ^ n

/-- The little-endian number that a list of bytes spells (R5). -/
def leNat : List Byte → Nat
  | [] => 0
  | b :: bs => b.toNat + 256 * leNat bs

/-- The `n` little-endian bytes of `x` (R5). -/
def leBytes : Nat → Nat → List Byte
  | 0, _ => []
  | n + 1, x => BitVec.ofNat 8 x :: leBytes n (x / 256)

/-- The big-endian number that a list of bytes spells. -/
def beNat (bs : List Byte) : Nat := bs.foldl (fun a b => a * 256 + b.toNat) 0

/-- The `n` big-endian bytes of `x`. -/
def beBytes (n x : Nat) : List Byte := (leBytes n x).reverse

/-- `n` bytes of `bs` from offset `o`, missing bytes read as zero. -/
def slice (bs : List Byte) (o n : Nat) : List Byte :=
  let t := (bs.drop o).take n
  t ++ List.replicate (n - t.length) 0#8

/-- The little-endian field of `n` bytes at offset `o`. -/
def fieldAt (bs : List Byte) (o n : Nat) : Nat := leNat (slice bs o n)

/-- The two's-complement value of the low `n` bits of `x`. -/
def signedOf (n x : Nat) : Int :=
  let y := x % 2 ^ n
  if y < 2 ^ (n - 1) then (y : Int) else (y : Int) - (2 ^ n : Nat)

/-- The low `n` bits of an integer. -/
def unsignedOf (n : Nat) (x : Int) : Nat := (x % ((2 ^ n : Nat) : Int)).toNat

/-- R538: the first 64 bits of a digest, its first 8 bytes in digest order read as a U64 under R5. -/
def first64 (digest : List Byte) : Nat := leNat (digest.take 8)

/-- All bits of a list of bytes are zero. -/
def allZero (bs : List Byte) : Bool := bs.all (· == 0#8)

end Sys2Proof.Machine
end

