-- ==== Sys2Proof/Machine/Assoc.lean ====
section
/-!
DEFINITION. Finite maps as lists of pairs with strictly rising keys, and byte memories in one canonical form: addresses strictly
rising and no entry equal to zero, the value an unlisted address reads as (R492 steps 5 and 6 zero every RAM).
-/
namespace Sys2Proof.Machine
open Sys2Proof

/-- The value under a key. -/
def alGet {α : Type} (k : Nat) : List (Nat × α) → Option α
  | [] => none
  | (j, v) :: rest => if j == k then some v else alGet k rest

/-- Puts a value under a key, keeping the keys strictly rising. -/
def alSet {α : Type} (k : Nat) (v : α) : List (Nat × α) → List (Nat × α)
  | [] => [(k, v)]
  | (j, w) :: rest => if k < j then (k, v) :: (j, w) :: rest else if j == k then (k, v) :: rest else (j, w) :: alSet k v rest

/-- Removes a key. -/
def alErase {α : Type} (k : Nat) : List (Nat × α) → List (Nat × α)
  | [] => []
  | (j, w) :: rest => if j == k then rest else (j, w) :: alErase k rest

/-- Changes the value under a key, where there is one. -/
def alModify {α : Type} (k : Nat) (f : α → α) : List (Nat × α) → List (Nat × α)
  | [] => []
  | (j, w) :: rest => if j == k then (j, f w) :: rest else (j, w) :: alModify k f rest

/-- The value under a key, or a default. -/
def alGetD {α : Type} (k : Nat) (d : α) (m : List (Nat × α)) : α := (alGet k m).getD d

/-- Keys strictly rising. -/
def alSorted {α : Type} : List (Nat × α) → Bool
  | [] => true
  | [_] => true
  | (j, _) :: (k, w) :: rest => decide (j < k) && alSorted ((k, w) :: rest)

/-- A byte of memory; an unlisted address reads as zero. -/
def memRead (a : Nat) : List Host.Cell → Byte
  | [] => 0#8
  | (j, v) :: rest => if j == a then v else memRead a rest

/-- Writes one byte, keeping the canonical form: a zero byte removes its entry. -/
def memWrite (a : Nat) (b : Byte) : List Host.Cell → List Host.Cell
  | [] => if b == 0#8 then [] else [(a, b)]
  | (j, v) :: rest =>
    if a < j then (if b == 0#8 then (j, v) :: rest else (a, b) :: (j, v) :: rest)
    else if j == a then (if b == 0#8 then rest else (a, b) :: rest)
    else (j, v) :: memWrite a b rest

/-- The canonical form of a memory. -/
def memWf : List Host.Cell → Bool
  | [] => true
  | [(_, v)] => v != 0#8
  | (j, v) :: (k, w) :: rest => v != 0#8 && decide (j < k) && memWf ((k, w) :: rest)

/-- `n` bytes from an address upward. -/
def memReadBytes (m : List Host.Cell) (a : Nat) : Nat → List Byte
  | 0 => []
  | n + 1 => memRead a m :: memReadBytes m (a + 1) n

/-- Bytes stored from an address upward. -/
def memWriteBytes (m : List Host.Cell) (a : Nat) : List Byte → List Host.Cell
  | [] => m
  | b :: bs => memWriteBytes (memWrite a b m) (a + 1) bs

/-- A memory in its canonical form from any cells; of two for one address the later counts. -/
def memOf (cells : List Host.Cell) : List Host.Cell := cells.foldl (fun m c => memWrite c.1 c.2 m) []

/-- The little-endian number of `n` bytes at an address (R5). -/
def memReadNat (m : List Host.Cell) (a n : Nat) : Nat := leNat (memReadBytes m a n)

/-- Stores the `n` little-endian bytes of a number (R5). -/
def memWriteNat (m : List Host.Cell) (a n x : Nat) : List Host.Cell := memWriteBytes m a (leBytes n x)

/-- Removes the entries from `lo` up to and not including `hi`: those bytes read as zero. -/
def memClear (lo hi : Nat) (m : List Host.Cell) : List Host.Cell := m.filter (fun c => c.1 < lo || hi ≤ c.1)

/-- Replaces element `i` of a list. -/
def setAt {α : Type} (xs : List α) (i : Nat) (v : α) : List α := xs.set i v

/-- Changes element `i` of a list. -/
def modAt {α : Type} (xs : List α) (i : Nat) (f : α → α) : List α :=
  match xs[i]? with
  | some v => xs.set i (f v)
  | none => xs

/-- The first element a test accepts, changed. -/
def modFirst {α : Type} (p : α → Bool) (f : α → α) : List α → List α
  | [] => []
  | x :: xs => if p x then f x :: xs else x :: modFirst p f xs

/-- Sums a list of numbers. -/
def natSum (xs : List Nat) : Nat := xs.foldl (· + ·) 0

/-- The last element changed. -/
def modLast {α : Type} (f : α → α) : List α → List α
  | [] => []
  | [x] => [f x]
  | x :: y :: xs => x :: modLast f (y :: xs)

end Sys2Proof.Machine
end

