-- ==== Sys2Proof/Machine/ObjTable.lean ====
section
/-!
DEFINITION. The object dictionary as the spec's object tables give it (R25 to R35 and the tables of R20, R33, R51, R59, R71, …):
one row per object or run of objects, with index, count of indexes, subindex, count of subindexes, type, access, range and default.
Floating-point defaults and bounds are bit patterns (R8). Rows of one leading index digit stand in one list.
-/
namespace Sys2Proof.Machine
open Sys2Proof

/-- R27: the object types. -/
inductive ObjType where
  | bool | u8 | u16 | u32 | u64 | i32 | f32 | f64 | str | dom | time
  deriving DecidableEq, Repr

/-- R29: the access kinds. -/
inductive ObjAccess where
  | const | ro | rw | wo | rws
  deriving DecidableEq, Repr

/-- The range of an object (R28): anything of its type; closed intervals of unsigned values; closed intervals of floating-point values
given by their bit patterns; a byte block of a length between two bounds; or one of the field-wise ranges of 0x8000, 0x3220, 0x8601 and 0x7100. -/
inductive ObjRange where
  | any
  | nats (intervals : List (Nat × Nat))
  | floats (intervals : List (Nat × Nat))
  | bytes (least most : Nat)
  | twoBit
  | channel
  | mac
  | classLevel
  deriving DecidableEq, Repr

/-- One row of an object table. `defaults` holds one default for every subindex, or one for each. -/
structure ObjRow where
  idx : Nat
  idxCount : Nat
  sub : Nat
  subCount : Nat
  ty : ObjType
  access : ObjAccess
  range : ObjRange
  defaults : List Nat
  deriving DecidableEq, Repr

/-- Objects 0x1000 to 0x1FFF (R33, R51), part 0. -/
def objRows1_0 : List ObjRow :=
  [⟨0x1000, 1, 0, 1, .u32, .const, .any, [0x14600]⟩,
   ⟨0x1001, 1, 0, 1, .u32, .ro, .any, [0]⟩,
   ⟨0x1008, 1, 0, 1, .str, .const, .any, [0]⟩,
   ⟨0x1009, 1, 0, 1, .u16, .const, .any, [176]⟩,
   ⟨0x100a, 1, 0, 1, .u32, .ro, .any, [0x4000000]⟩,
   ⟨0x1018, 1, 0, 1, .u8, .const, .any, [5]⟩,
   ⟨0x1018, 1, 1, 1, .u32, .const, .any, [0x5a48]⟩,
   ⟨0x1018, 1, 2, 1, .u32, .const, .any, [0x4600]⟩,
   ⟨0x1018, 1, 3, 1, .u32, .ro, .any, [0xb00400]⟩,
   ⟨0x1018, 1, 4, 1, .u64, .const, .any, [0]⟩,
   ⟨0x1018, 1, 5, 1, .u64, .ro, .any, [0]⟩,
   ⟨0x1010, 1, 1, 1, .u16, .rws, .nats [(0x400, 0xffff)], [0xb8ca]⟩,
   ⟨0x1010, 1, 2, 1, .u8, .rws, .nats [(1, 8)], [4]⟩,
   ⟨0x1010, 1, 3, 1, .time, .rws, .nats [(0x5f5e100, 0xdf8475800)], [0xb2d05e00]⟩,
   ⟨0x1010, 1, 4, 1, .time, .rws, .nats [(0x989680, 0x4a817c800)], [0x3b9aca00]⟩,
   ⟨0x1010, 1, 5, 1, .bool, .rws, .nats [(0, 1)], [1]⟩,
   ⟨0x1010, 1, 6, 1, .bool, .rws, .nats [(0, 1)], [0]⟩,
   ⟨0x1011, 1, 1, 1, .u32, .rws, .any, [0xc0a80a2e]⟩,
   ⟨0x1011, 1, 2, 1, .u8, .rws, .nats [(8, 30)], [24]⟩,
   ⟨0x1011, 1, 3, 1, .u32, .rws, .any, [0]⟩]

/-- Objects 0x1000 to 0x1FFF (R51, R59), part 1. -/
def objRows1_1 : List ObjRow :=
  [⟨0x1011, 1, 4, 1, .u16, .rws, .nats [(0, 0xffe)], [0]⟩,
   ⟨0x1020, 1, 1, 1, .u64, .ro, .any, [0]⟩,
   ⟨0x1020, 1, 2, 1, .u64, .ro, .any, [0]⟩,
   ⟨0x1020, 1, 3, 1, .u64, .ro, .any, [0]⟩,
   ⟨0x1020, 1, 4, 1, .u64, .ro, .any, [0]⟩,
   ⟨0x1020, 1, 5, 1, .u64, .ro, .any, [0]⟩,
   ⟨0x1020, 1, 6, 1, .u64, .ro, .any, [0]⟩,
   ⟨0x1f00, 1, 1, 1, .u8, .ro, .any, [0]⟩,
   ⟨0x1f00, 1, 2, 1, .u64, .ro, .any, [0]⟩,
   ⟨0x1f00, 1, 3, 1, .u32, .rw, .nats [(50, 0x7d0)], [200]⟩,
   ⟨0x1f00, 1, 4, 1, .u32, .ro, .any, [0]⟩,
   ⟨0x1f00, 1, 5, 1, .u16, .ro, .any, [0]⟩,
   ⟨0x1f01, 1, 1, 1, .u16, .ro, .any, [0]⟩,
   ⟨0x1f01, 1, 2, 1, .u32, .ro, .any, [0]⟩,
   ⟨0x1f01, 1, 3, 1, .u32, .ro, .any, [0]⟩,
   ⟨0x1f01, 1, 4, 1, .u8, .ro, .any, [0]⟩,
   ⟨0x1f01, 1, 5, 1, .u32, .ro, .any, [0]⟩,
   ⟨0x1f01, 1, 6, 1, .i32, .ro, .any, [0]⟩,
   ⟨0x1f01, 1, 7, 1, .u64, .ro, .any, [0]⟩,
   ⟨0x1f02, 1, 0, 1, .u32, .ro, .any, [0]⟩]

/-- Objects 0x1000 to 0x1FFF (R59), part 2. -/
def objRows1_2 : List ObjRow :=
  [⟨0x1f03, 1, 1, 1, .u32, .ro, .any, [1]⟩,
   ⟨0x1f03, 1, 2, 1, .u32, .ro, .any, [0]⟩,
   ⟨0x1f10, 32, 0, 1, .dom, .rws, .bytes 0 1024, [0]⟩]

/-- Objects 0x1000 to 0x1FFF. -/
def objRows1 : List ObjRow := objRows1_0 ++ objRows1_1 ++ objRows1_2

/-- Objects 0x2000 to 0x2FFF (R71, R91), part 0. -/
def objRows2_0 : List ObjRow :=
  [⟨0x2000, 1, 0, 1, .u32, .rws, .nats [(0x1388, 0xc350)], [0x2710]⟩,
   ⟨0x2001, 1, 0, 1, .time, .rws, .any, [0]⟩,
   ⟨0x2010, 1, 1, 2, .u32, .rws, .nats [(0, 0xc350)], [0, 0x190]⟩,
   ⟨0x2011, 1, 1, 2, .u32, .rws, .nats [(0, 0xc350)], [0x190, 0x640]⟩,
   ⟨0x2012, 1, 1, 2, .u32, .rws, .nats [(0, 0xc350)], [0x4b0, 0x960]⟩,
   ⟨0x2013, 1, 1, 2, .u32, .rws, .nats [(0, 0xc350)], [0x7d0, 0x1770]⟩,
   ⟨0x2014, 1, 1, 2, .u32, .rws, .nats [(0, 0xc350)], [0x1770, 0x1e78]⟩,
   ⟨0x2015, 1, 1, 2, .u32, .rws, .nats [(0, 0xc350)], [0x1e78, 0x1f40]⟩,
   ⟨0x2016, 1, 1, 2, .u32, .rws, .nats [(0, 0xc350)], [0x2134]⟩,
   ⟨0x2017, 1, 1, 2, .u32, .rws, .nats [(0, 0xc350)], [0x2134, 0x2710]⟩,
   ⟨0x2002, 1, 1, 1, .u8, .rws, .nats [(0, 3)], [0]⟩,
   ⟨0x2002, 1, 2, 1, .u8, .rws, .nats [(0, 127)], [0]⟩,
   ⟨0x2002, 1, 3, 1, .u32, .rws, .nats [(50, 0x186a0)], [0x3e8]⟩,
   ⟨0x2002, 1, 4, 1, .u32, .rws, .nats [(100, 0xf4240)], [0x2710]⟩,
   ⟨0x2002, 1, 5, 1, .time, .rws, .nats [(0, 0x8bb2c97000)], [0x2540be400]⟩,
   ⟨0x2002, 1, 6, 1, .u32, .rws, .nats [(1, 100)], [10]⟩,
   ⟨0x2002, 1, 7, 1, .u32, .rws, .nats [(100, 0x186a0)], [0x3e8]⟩,
   ⟨0x2003, 1, 1, 1, .u32, .rws, .nats [(0, 200)], [20]⟩,
   ⟨0x2004, 1, 1, 1, .bool, .rws, .nats [(0, 1)], [1]⟩,
   ⟨0x2004, 1, 2, 1, .f32, .rws, .floats [(0, 0x3f800000)], [0x3d4ccccd]⟩]

/-- Objects 0x2000 to 0x2FFF (R91, R92, R93), part 1. -/
def objRows2_1 : List ObjRow :=
  [⟨0x2004, 1, 3, 1, .f32, .rws, .floats [(0, 0x3dcccccd)], [0x3ba3d70a]⟩,
   ⟨0x2004, 1, 4, 1, .f32, .rws, .floats [(0, 0x40000000)], [0x3dcccccd]⟩,
   ⟨0x2005, 1, 1, 1, .u8, .rws, .nats [(0, 16)], [4]⟩,
   ⟨0x2020, 1, 1, 1, .u8, .ro, .any, [0]⟩,
   ⟨0x2020, 1, 2, 1, .i32, .ro, .any, [0]⟩,
   ⟨0x2020, 1, 3, 1, .i32, .ro, .any, [0]⟩,
   ⟨0x2020, 1, 4, 1, .u64, .ro, .any, [0]⟩,
   ⟨0x2020, 1, 5, 1, .time, .ro, .any, [0]⟩,
   ⟨0x2020, 1, 6, 1, .u64, .ro, .any, [0]⟩,
   ⟨0x2020, 1, 7, 1, .i32, .ro, .any, [0]⟩,
   ⟨0x2020, 1, 8, 1, .u64, .ro, .any, [0]⟩,
   ⟨0x2020, 1, 9, 1, .time, .ro, .any, [0]⟩,
   ⟨0x2021, 1, 1, 1, .u64, .ro, .any, [0]⟩,
   ⟨0x2021, 1, 2, 1, .u64, .ro, .any, [0]⟩,
   ⟨0x2021, 1, 3, 1, .u64, .ro, .any, [0]⟩,
   ⟨0x2021, 1, 4, 1, .u64, .ro, .any, [0]⟩,
   ⟨0x2021, 1, 5, 1, .u64, .ro, .any, [0]⟩,
   ⟨0x2021, 1, 6, 1, .u64, .ro, .any, [0]⟩,
   ⟨0x2021, 1, 7, 1, .u64, .ro, .any, [0]⟩,
   ⟨0x2021, 1, 8, 1, .u64, .ro, .any, [0]⟩]

/-- Objects 0x2000 to 0x2FFF (R93), part 2. -/
def objRows2_2 : List ObjRow :=
  [⟨0x2021, 1, 9, 1, .u64, .ro, .any, [0]⟩]

/-- Objects 0x2000 to 0x2FFF. -/
def objRows2 : List ObjRow := objRows2_0 ++ objRows2_1 ++ objRows2_2

/-- Objects 0x3000 to 0x3FFF (R130, R131), part 0. -/
def objRows3_0 : List ObjRow :=
  [⟨0x3100, 128, 1, 1, .u8, .rws, .nats [(0, 6)], [0]⟩,
   ⟨0x3100, 128, 2, 1, .u8, .rws, .nats [(0, 2)], [0]⟩,
   ⟨0x3100, 128, 3, 1, .u32, .rws, .nats [(0, 0xffffff)], [0]⟩,
   ⟨0x3100, 128, 4, 1, .u16, .rws, .nats [(0xd000, 0xdfff)], [0xd000]⟩,
   ⟨0x3100, 128, 5, 1, .u8, .rws, .nats [(0, 15)], [0]⟩,
   ⟨0x3100, 128, 6, 1, .bool, .rws, .nats [(0, 1)], [0]⟩,
   ⟨0x3100, 128, 7, 1, .bool, .rws, .nats [(0, 1)], [0]⟩,
   ⟨0x3100, 128, 8, 1, .time, .rws, .nats [(0xf4240, 0x3b9aca00)], [0x5f5e100]⟩,
   ⟨0x3100, 128, 9, 1, .u8, .rws, .nats [(0, 16)], [2]⟩,
   ⟨0x3100, 128, 10, 1, .f32, .rws, .floats [(0x3d800000, 0x40000000)], [0x3e000000]⟩,
   ⟨0x3100, 128, 11, 1, .f32, .rws, .floats [(0, 0x40000000)], [0x3e4ccccd]⟩,
   ⟨0x3100, 128, 12, 1, .f32, .rws, .floats [(0, 0x40000000)], [0x3dcccccd]⟩,
   ⟨0x3100, 128, 13, 1, .f32, .rws, .floats [(0, 0x41a00000)], [0x40000000]⟩,
   ⟨0x3100, 128, 14, 1, .time, .rws, .nats [(0, 0x3b9aca00)], [0xbebc200]⟩,
   ⟨0x3100, 128, 15, 1, .f32, .rws, .floats [(0, 0x3f000000)], [0]⟩,
   ⟨0x3180, 128, 1, 1, .u64, .ro, .any, [0]⟩,
   ⟨0x3180, 128, 2, 1, .u64, .ro, .any, [0]⟩,
   ⟨0x3180, 128, 3, 1, .u64, .ro, .any, [0]⟩,
   ⟨0x3180, 128, 4, 1, .u64, .ro, .any, [0]⟩,
   ⟨0x3180, 128, 5, 1, .u64, .ro, .any, [0]⟩]

/-- Objects 0x3000 to 0x3FFF (R131, R132, R133, R134), part 1. -/
def objRows3_1 : List ObjRow :=
  [⟨0x3180, 128, 6, 1, .u64, .ro, .any, [0]⟩,
   ⟨0x3200, 1, 1, 1, .f32, .const, .any, [0x3e000000]⟩,
   ⟨0x3200, 1, 2, 1, .f32, .const, .any, [0x3f000000]⟩,
   ⟨0x3200, 1, 3, 1, .u16, .const, .any, [0x400]⟩,
   ⟨0x3200, 1, 4, 1, .u8, .const, .any, [64]⟩,
   ⟨0x3200, 1, 5, 1, .u8, .const, .any, [32]⟩,
   ⟨0x3200, 1, 6, 1, .time, .const, .any, [0xee6b280]⟩,
   ⟨0x3200, 1, 7, 1, .f32, .rws, .floats [(0, 0x42800000)], [0x42000000]⟩,
   ⟨0x3200, 1, 8, 1, .f32, .rws, .floats [(0, 0x43800000)], [0x43000000]⟩,
   ⟨0x3200, 1, 9, 1, .u64, .rws, .nats [(0x40000000, 0x600000000)], [0x300000000]⟩,
   ⟨0x3200, 1, 10, 1, .f32, .rws, .floats [(0x3c23d70a, 0x3f800000)], [0x3dcccccd]⟩,
   ⟨0x3210, 16, 1, 1, .u8, .rws, .nats [(0, 3)], [1, 1, 1, 3, 2, 0]⟩,
   ⟨0x3210, 16, 2, 1, .bool, .rws, .nats [(0, 1)], [0, 1, 1, 0]⟩,
   ⟨0x3210, 16, 3, 1, .u8, .rws, .nats [(0, 255)], [0, 255, 112, 0]⟩,
   ⟨0x3210, 16, 4, 1, .f32, .rws, .floats [(0, 0x40400000)], [0, 0, 0x3f800000, 0]⟩,
   ⟨0x3210, 16, 5, 1, .f32, .rws, .floats [(0x3f800000, 0x42800000)], [0x41800000]⟩,
   ⟨0x3210, 16, 6, 1, .bool, .rws, .nats [(0, 1)], [1]⟩,
   ⟨0x3210, 16, 7, 1, .u16, .rws, .nats [(0, 0x1000)], [0]⟩,
   ⟨0x3210, 16, 8, 1, .u8, .rws, .nats [(0, 255)], [0]⟩,
   ⟨0x3220, 1, 1, 1, .u8, .rws, .nats [(0, 32)], [19]⟩]

/-- Objects 0x3000 to 0x3FFF (R134, R135), part 2. -/
def objRows3_2 : List ObjRow :=
  [⟨0x3220, 1, 2, 32, .u16, .rws, .channel, [32, 0x100, 0x104, 0x108, 0x10c, 0x110, 0x114, 0x118, 0x11c, 0x200, 0x204, 0x208, 0x20c, 0x210, 0x214, 0x218, 0x21c, 0x320, 0x420, 0, 0, 0, 0, 0, 0, 0, 0, 0, 0, 0, 0, 0]⟩,
   ⟨0x3220, 1, 34, 1, .u16, .rws, .nats [(0, 0x1000)], [0x400]⟩,
   ⟨0x3220, 1, 35, 1, .u16, .rws, .nats [(0, 0x200)], [0x100]⟩,
   ⟨0x3220, 1, 36, 1, .f32, .rws, .floats [(0x3f800000, 0x42800000)], [0x41800000]⟩,
   ⟨0x3300, 1, 1, 1, .u64, .ro, .any, [0]⟩,
   ⟨0x3300, 1, 2, 1, .u64, .ro, .any, [0]⟩,
   ⟨0x3300, 1, 3, 1, .u32, .ro, .any, [0]⟩,
   ⟨0x3300, 1, 4, 1, .u16, .ro, .any, [0]⟩,
   ⟨0x3300, 1, 5, 1, .u16, .ro, .any, [0]⟩,
   ⟨0x3301, 1, 1, 1, .u64, .ro, .any, [0]⟩,
   ⟨0x3301, 1, 2, 1, .u64, .ro, .any, [0]⟩,
   ⟨0x3301, 1, 3, 1, .u64, .ro, .any, [0]⟩,
   ⟨0x3301, 1, 4, 1, .u64, .ro, .any, [0]⟩,
   ⟨0x3301, 1, 5, 1, .u64, .ro, .any, [0]⟩,
   ⟨0x3301, 1, 6, 1, .u64, .ro, .any, [0]⟩]

/-- Objects 0x3000 to 0x3FFF. -/
def objRows3 : List ObjRow := objRows3_0 ++ objRows3_1 ++ objRows3_2

/-- Objects 0x4000 to 0x4FFF (R166), part 0. -/
def objRows4_0 : List ObjRow :=
  [⟨0x4000, 1, 1, 1, .u8, .rws, .nats [(0, 3)], [3]⟩,
   ⟨0x4000, 1, 2, 1, .u8, .rws, .nats [(0, 2)], [1]⟩,
   ⟨0x4000, 1, 3, 1, .f32, .rws, .floats [(0xc0400000, 0x40400000)], [0xbecccccd]⟩,
   ⟨0x4000, 1, 4, 1, .f32, .rws, .floats [(0x40000000, 0x41a00000)], [0x41233333]⟩,
   ⟨0x4000, 1, 5, 1, .f32, .rws, .floats [(0xc0400000, 0x40400000)], [0]⟩,
   ⟨0x4000, 1, 6, 1, .f32, .rws, .floats [(0x40000000, 0x41a00000)], [0x40e00000]⟩,
   ⟨0x4000, 1, 7, 1, .f32, .rws, .floats [(0x3dcccccd, 0x3fcccccd)], [0x3f866666]⟩,
   ⟨0x4000, 1, 8, 1, .f32, .rws, .floats [(0x3dcccccd, 0x3fcccccd)], [0x3f866666]⟩,
   ⟨0x4000, 1, 9, 1, .f32, .rws, .floats [(0, 0x42100000)], [0x41c80000]⟩,
   ⟨0x4000, 1, 10, 1, .f32, .rws, .floats [(0x3dcccccd, 0x40a00000)], [0x3fc00000]⟩,
   ⟨0x4000, 1, 11, 1, .f32, .rws, .floats [(0xc1200000, 0xbf000000)], [0xc0c00000]⟩,
   ⟨0x4000, 1, 12, 1, .f32, .rws, .floats [(0x3dcccccd, 0x41a00000)], [0x40000000]⟩,
   ⟨0x4000, 1, 13, 1, .f32, .rws, .floats [(0x3c23d70a, 0x3f000000)], [0x3df5c28f]⟩,
   ⟨0x4000, 1, 14, 1, .f32, .rws, .floats [(0x3a83126f, 0x3f800000)], [0x3d4ccccd]⟩,
   ⟨0x4000, 1, 15, 1, .f32, .rws, .floats [(0x3f000000, 0x41200000)], [0x40800000]⟩,
   ⟨0x4000, 1, 16, 1, .f32, .rws, .floats [(0, 0x3f000000)], [0x3d4ccccd]⟩,
   ⟨0x4000, 1, 17, 1, .f32, .rws, .floats [(0x3dcccccd, 0x3f800000)], [0x3f000000]⟩,
   ⟨0x4000, 1, 18, 3, .f32, .rws, .floats [(0x3f000000, 0x3fc00000)], [0x3f828f5c]⟩,
   ⟨0x4000, 1, 21, 3, .f32, .rws, .floats [(0x3e99999a, 0x40800000)], [0x3f99999a, 0x400ccccd, 0x400ccccd]⟩,
   ⟨0x4000, 1, 24, 1, .u8, .rws, .nats [(1, 16)], [4]⟩]

/-- Objects 0x4000 to 0x4FFF (R166, R167, R169), part 1. -/
def objRows4_1 : List ObjRow :=
  [⟨0x4000, 1, 25, 1, .u16, .rws, .nats [(0, 128)], [8]⟩,
   ⟨0x4000, 1, 26, 1, .f32, .rws, .floats [(0, 0), (0x3f000000, 0x40c00000)], [0]⟩,
   ⟨0x4001, 1, 1, 1, .u8, .rws, .nats [(1, 128)], [64]⟩,
   ⟨0x4001, 1, 2, 1, .u32, .rws, .nats [(0xc350, 0x7a120)], [0x1e848]⟩,
   ⟨0x4010, 1, 1, 1, .u8, .rws, .nats [(0, 64)], [0]⟩,
   ⟨0x4010, 1, 2, 1, .dom, .rws, .bytes 0 1024, [0]⟩,
   ⟨0x4100, 1, 1, 1, .bool, .rws, .nats [(0, 1)], [1]⟩,
   ⟨0x4100, 1, 2, 1, .u8, .rws, .nats [(0, 15)], [0]⟩,
   ⟨0x4100, 1, 3, 1, .u64, .rws, .any, [0]⟩,
   ⟨0x4200, 1, 1, 1, .bool, .rws, .nats [(0, 1)], [1]⟩,
   ⟨0x4200, 1, 2, 1, .dom, .rws, .bytes 0 7340096, [0]⟩,
   ⟨0x4300, 1, 1, 1, .u8, .rws, .nats [(1, 4)], [4]⟩,
   ⟨0x4300, 1, 2, 1, .u8, .rws, .nats [(1, 64)], [32]⟩,
   ⟨0x4300, 1, 3, 3, .u32, .rws, .nats [(0, 0x2bfc0)], [0x4000]⟩,
   ⟨0x4300, 1, 6, 3, .f32, .rws, .floats [(0, 0x3dcccccd)], [0x3b83126f, 0x3b03126f, 0x3a83126f]⟩,
   ⟨0x4300, 1, 9, 3, .f32, .rws, .floats [(0, 0x40a00000)], [0x3f4ccccd, 0x3ecccccd, 0x3e4ccccd]⟩,
   ⟨0x4400, 1, 1, 1, .u64, .ro, .any, [0]⟩,
   ⟨0x4400, 1, 2, 1, .u64, .ro, .any, [0]⟩,
   ⟨0x4400, 1, 3, 1, .u64, .ro, .any, [0]⟩,
   ⟨0x4400, 1, 4, 1, .u64, .ro, .any, [0]⟩]

/-- Objects 0x4000 to 0x4FFF (R169), part 2. -/
def objRows4_2 : List ObjRow :=
  [⟨0x4400, 1, 5, 1, .u64, .ro, .any, [0]⟩,
   ⟨0x4400, 1, 6, 1, .u64, .ro, .any, [0]⟩,
   ⟨0x4400, 1, 7, 1, .u64, .ro, .any, [0]⟩,
   ⟨0x4400, 1, 8, 1, .u64, .ro, .any, [0]⟩,
   ⟨0x4400, 1, 9, 1, .u64, .ro, .any, [0]⟩]

/-- Objects 0x4000 to 0x4FFF. -/
def objRows4 : List ObjRow := objRows4_0 ++ objRows4_1 ++ objRows4_2

/-- Objects 0x5000 to 0x5FFF (R198, R199, R200), part 0. -/
def objRows5_0 : List ObjRow :=
  [⟨0x5000, 1, 1, 32, .f32, .rws, .floats [(0xc9742400, 0x49742400)], [0x3f800000]⟩,
   ⟨0x5001, 1, 1, 1, .bool, .rws, .nats [(0, 1)], [0]⟩,
   ⟨0x5001, 1, 2, 1, .u16, .rws, .nats [(0xc000, 0xcfff)], [0xc000]⟩,
   ⟨0x5001, 1, 3, 1, .u8, .rws, .nats [(0, 32)], [0]⟩,
   ⟨0x5010, 1, 1, 16, .f32, .rws, .floats [(0, 0x40000000)], [0x3e800000]⟩,
   ⟨0x5010, 1, 17, 1, .f32, .rws, .floats [(0, 0x3f800000)], [0x3d4ccccd]⟩,
   ⟨0x5010, 1, 18, 1, .u16, .rws, .any, [0xffff]⟩,
   ⟨0x5010, 1, 19, 1, .u8, .rws, .nats [(0, 15), (255, 255)], [3]⟩,
   ⟨0x5010, 1, 20, 1, .u8, .rws, .nats [(0, 15), (255, 255)], [255]⟩,
   ⟨0x5010, 1, 21, 1, .u8, .rws, .nats [(1, 255)], [255]⟩,
   ⟨0x5020, 1, 1, 1, .u64, .ro, .any, [0]⟩,
   ⟨0x5020, 1, 2, 1, .u64, .ro, .any, [0]⟩,
   ⟨0x5020, 1, 3, 1, .u64, .ro, .any, [0]⟩,
   ⟨0x5020, 1, 4, 1, .u64, .ro, .any, [0]⟩,
   ⟨0x5020, 1, 5, 1, .u64, .ro, .any, [0]⟩,
   ⟨0x5020, 1, 6, 1, .u64, .ro, .any, [0]⟩,
   ⟨0x5020, 1, 7, 1, .u64, .ro, .any, [0]⟩,
   ⟨0x5021, 1, 1, 8, .u64, .ro, .any, [0]⟩,
   ⟨0x5021, 1, 9, 1, .u64, .ro, .any, [0]⟩]

/-- Objects 0x5000 to 0x5FFF. -/
def objRows5 : List ObjRow := objRows5_0

/-- Objects 0x6000 to 0x6FFF (R220, R221, R222), part 0. -/
def objRows6_0 : List ObjRow :=
  [⟨0x6000, 1, 1, 1, .u8, .rws, .nats [(1, 64)], [64]⟩,
   ⟨0x6000, 1, 2, 1, .u8, .rws, .nats [(0, 1)], [0]⟩,
   ⟨0x6001, 1, 1, 1, .u64, .ro, .any, [0]⟩,
   ⟨0x6001, 1, 2, 1, .u8, .ro, .any, [0]⟩,
   ⟨0x6001, 1, 3, 1, .u8, .ro, .any, [0]⟩,
   ⟨0x6001, 1, 4, 1, .u32, .ro, .any, [0]⟩,
   ⟨0x6001, 1, 5, 1, .u8, .ro, .any, [0]⟩,
   ⟨0x6001, 1, 6, 1, .u8, .ro, .any, [0]⟩,
   ⟨0x6001, 1, 7, 1, .u8, .ro, .any, [0]⟩,
   ⟨0x6003, 1, 0, 1, .dom, .ro, .any, [0]⟩,
   ⟨0x6002, 1, 1, 1, .u64, .ro, .any, [0]⟩,
   ⟨0x6002, 1, 2, 1, .u64, .ro, .any, [0]⟩,
   ⟨0x6002, 1, 3, 1, .u64, .ro, .any, [0]⟩,
   ⟨0x6002, 1, 4, 1, .u64, .ro, .any, [0]⟩,
   ⟨0x6002, 1, 5, 1, .u64, .ro, .any, [0]⟩,
   ⟨0x6002, 1, 6, 1, .u64, .ro, .any, [0]⟩,
   ⟨0x6002, 1, 7, 1, .u64, .ro, .any, [0]⟩,
   ⟨0x6002, 1, 8, 1, .u64, .ro, .any, [0]⟩,
   ⟨0x6002, 1, 9, 1, .u64, .ro, .any, [0]⟩,
   ⟨0x6002, 1, 10, 1, .u64, .ro, .any, [0]⟩]

/-- Objects 0x6000 to 0x6FFF (R257, R258, R259), part 1. -/
def objRows6_1 : List ObjRow :=
  [⟨0x6100, 1, 1, 1, .bool, .rws, .nats [(0, 1)], [1]⟩,
   ⟨0x6100, 1, 2, 1, .u8, .rws, .nats [(1, 64)], [64]⟩,
   ⟨0x6100, 1, 3, 1, .u8, .rws, .nats [(1, 40)], [40]⟩,
   ⟨0x6100, 1, 4, 1, .f32, .rws, .floats [(0x30800000, 0x3a800000)], [0x35800000]⟩,
   ⟨0x6100, 1, 5, 1, .f32, .rws, .floats [(0x322bcc77, 0x3f800000)], [0x38d1b717]⟩,
   ⟨0x6100, 1, 6, 1, .f32, .rws, .floats [(0x322bcc77, 0x3f800000)], [0x38d1b717]⟩,
   ⟨0x6100, 1, 7, 1, .f32, .rws, .floats [(0x2edbe6ff, 0x3f800000)], [0x358637bd]⟩,
   ⟨0x6100, 1, 8, 1, .bool, .rws, .nats [(0, 1)], [1]⟩,
   ⟨0x6100, 1, 9, 1, .f32, .rws, .floats [(0x322bcc77, 0x3f800000)], [0x3a83126f]⟩,
   ⟨0x6100, 1, 10, 1, .bool, .rws, .nats [(0, 1)], [1]⟩,
   ⟨0x6100, 1, 11, 1, .f32, .rws, .floats [(0, 0x3f800000)], [0x3f000000]⟩,
   ⟨0x6100, 1, 12, 1, .f32, .rws, .floats [(0, 0x40a00000)], [0x3f000000]⟩,
   ⟨0x6100, 1, 13, 1, .f32, .rws, .floats [(0, 0x3f000000)], [0x3d4ccccd]⟩,
   ⟨0x6100, 1, 14, 1, .f32, .rws, .floats [(0x3f800000, 0x447a0000)], [0x41200000]⟩,
   ⟨0x6100, 1, 15, 1, .u32, .rws, .nats [(0x12c, 0x2710)], [0x2bc]⟩,
   ⟨0x6101, 1, 1, 10, .f32, .rws, .floats [(0, 0x49742400)], [0x3f800000, 0x3f800000, 0x41200000, 0x3dcccccd, 0x3dcccccd, 0x41200000, 0x3f800000, 0x3f800000, 0, 0]⟩,
   ⟨0x6102, 1, 1, 3, .f32, .rws, .floats [(0x358637bd, 0x49742400)], [0x42c80000, 0x3f000000, 0x3f800000]⟩,
   ⟨0x6200, 1, 1, 1, .u8, .rws, .nats [(2, 128)], [100]⟩,
   ⟨0x6200, 1, 2, 1, .u32, .rws, .nats [(0x2710, 0x7a120)], [0xc350]⟩,
   ⟨0x6200, 1, 3, 1, .f32, .rws, .floats [(0x3f000000, 0x41200000)], [0x40000000]⟩]

/-- Objects 0x6000 to 0x6FFF (R259, R260, R261), part 2. -/
def objRows6_2 : List ObjRow :=
  [⟨0x6200, 1, 4, 1, .f32, .rws, .floats [(0x3dcccccd, 0x40a00000)], [0x3f800000]⟩,
   ⟨0x6200, 1, 5, 1, .f32, .rws, .floats [(0x3f000000, 0x41200000)], [0x40400000]⟩,
   ⟨0x6300, 1, 1, 1, .u8, .rws, .nats [(1, 16)], [4]⟩,
   ⟨0x6302, 1, 1, 1, .u64, .ro, .any, [0]⟩,
   ⟨0x6302, 1, 2, 1, .u8, .ro, .any, [3]⟩,
   ⟨0x6302, 1, 3, 1, .u32, .ro, .any, [0]⟩,
   ⟨0x6110, 1, 1, 1, .u64, .ro, .any, [0]⟩,
   ⟨0x6110, 1, 2, 1, .u64, .ro, .any, [0]⟩,
   ⟨0x6110, 1, 3, 1, .u64, .ro, .any, [0]⟩,
   ⟨0x6110, 1, 4, 1, .u64, .ro, .any, [0]⟩,
   ⟨0x6110, 1, 5, 1, .u64, .ro, .any, [0]⟩,
   ⟨0x6110, 1, 6, 1, .u64, .ro, .any, [0]⟩,
   ⟨0x6110, 1, 7, 1, .u64, .ro, .any, [0]⟩,
   ⟨0x6110, 1, 8, 1, .u64, .ro, .any, [0]⟩,
   ⟨0x6110, 1, 9, 1, .u64, .ro, .any, [0]⟩,
   ⟨0x6301, 1, 1, 4, .u64, .ro, .any, [0]⟩,
   ⟨0x6301, 1, 5, 1, .u64, .ro, .any, [0]⟩,
   ⟨0x6301, 1, 6, 1, .u64, .ro, .any, [0]⟩,
   ⟨0x6301, 1, 7, 1, .u64, .ro, .any, [0]⟩,
   ⟨0x6301, 1, 8, 1, .u64, .ro, .any, [0]⟩]

/-- Objects 0x6000 to 0x6FFF (R261), part 3. -/
def objRows6_3 : List ObjRow :=
  [⟨0x6301, 1, 9, 1, .u64, .ro, .any, [0]⟩,
   ⟨0x6301, 1, 10, 1, .u64, .ro, .any, [0]⟩]

/-- Objects 0x6000 to 0x6FFF. -/
def objRows6 : List ObjRow := objRows6_0 ++ objRows6_1 ++ objRows6_2 ++ objRows6_3

/-- Objects 0x7000 to 0x7FFF (R291, R292, R293, R294), part 0. -/
def objRows7_0 : List ObjRow :=
  [⟨0x7000, 1, 0, 1, .u8, .const, .any, [18]⟩,
   ⟨0x7000, 1, 1, 16, .u32, .ro, .any, [5]⟩,
   ⟨0x7000, 1, 17, 1, .u8, .ro, .any, [0]⟩,
   ⟨0x7000, 1, 18, 1, .u16, .ro, .any, [0]⟩,
   ⟨0x7010, 16, 1, 32, .u32, .ro, .any, [5]⟩,
   ⟨0x7002, 1, 1, 1, .bool, .rws, .nats [(0, 1)], [1]⟩,
   ⟨0x7002, 1, 2, 1, .u8, .rws, .nats [(0, 16)], [3]⟩,
   ⟨0x7002, 1, 3, 1, .u32, .rws, .nats [(20, 0x3e8)], [100]⟩,
   ⟨0x7003, 1, 0, 1, .u16, .rw, .any, [0]⟩,
   ⟨0x7004, 1, 1, 16, .u32, .rw, .any, [0]⟩,
   ⟨0x7100, 1, 1, 9, .u8, .rws, .classLevel, [0, 0, 1, 1, 2, 2, 5, 6, 7]⟩,
   ⟨0x7100, 1, 10, 1, .bool, .rws, .nats [(0, 1)], [1]⟩,
   ⟨0x7100, 1, 11, 1, .u8, .rws, .nats [(1, 32)], [4]⟩,
   ⟨0x7100, 1, 12, 1, .bool, .rws, .nats [(0, 1)], [1]⟩,
   ⟨0x7100, 1, 13, 1, .u32, .rws, .nats [(0x400, 0x8000)], [0x4000]⟩,
   ⟨0x7101, 1, 1, 1, .u64, .ro, .any, [0]⟩,
   ⟨0x7101, 1, 2, 1, .u64, .ro, .any, [0]⟩,
   ⟨0x7101, 1, 3, 1, .u64, .ro, .any, [0]⟩,
   ⟨0x7101, 1, 4, 1, .u64, .ro, .any, [0]⟩,
   ⟨0x7101, 1, 5, 1, .u64, .ro, .any, [0]⟩]

/-- Objects 0x7000 to 0x7FFF (R294, R384, R385), part 1. -/
def objRows7_1 : List ObjRow :=
  [⟨0x7101, 1, 6, 1, .u64, .ro, .any, [0]⟩,
   ⟨0x7101, 1, 7, 1, .u64, .ro, .any, [0]⟩,
   ⟨0x7101, 1, 8, 1, .u64, .ro, .any, [0]⟩,
   ⟨0x7101, 1, 9, 1, .u64, .ro, .any, [0]⟩,
   ⟨0x7101, 1, 10, 1, .u64, .ro, .any, [0]⟩,
   ⟨0x7101, 1, 11, 1, .u64, .ro, .any, [0]⟩,
   ⟨0x7101, 1, 12, 1, .u64, .ro, .any, [0]⟩,
   ⟨0x7200, 1, 1, 1, .u8, .rws, .nats [(0, 1)], [0]⟩,
   ⟨0x7200, 1, 2, 1, .u8, .rws, .nats [(0, 1)], [0]⟩,
   ⟨0x7201, 1, 0, 1, .dom, .rws, .bytes 16 16, [0]⟩,
   ⟨0x7202, 1, 1, 1, .u64, .ro, .any, [0]⟩,
   ⟨0x7202, 1, 2, 1, .u64, .ro, .any, [0]⟩,
   ⟨0x7204, 1, 1, 1, .bool, .rws, .nats [(0, 1)], [0]⟩,
   ⟨0x7204, 1, 2, 1, .bool, .rw, .nats [(0, 1)], [0]⟩,
   ⟨0x7204, 1, 3, 1, .u64, .ro, .any, [0]⟩,
   ⟨0x7205, 1, 1, 1, .u64, .ro, .any, [0]⟩,
   ⟨0x7205, 1, 2, 1, .u16, .ro, .any, [0]⟩,
   ⟨0x7220, 1, 1, 1, .bool, .rw, .nats [(0, 1)], [0]⟩,
   ⟨0x7220, 1, 2, 1, .u8, .ro, .any, [0]⟩,
   ⟨0x7220, 1, 3, 1, .u64, .ro, .any, [0]⟩]

/-- Objects 0x7000 to 0x7FFF (R386, R387), part 2. -/
def objRows7_2 : List ObjRow :=
  [⟨0x7210, 1, 1, 1, .bool, .rws, .nats [(0, 1)], [0]⟩,
   ⟨0x7210, 1, 2, 1, .u32, .rws, .nats [(0x1f4, 0x4e20)], [0x7d0]⟩,
   ⟨0x7211, 1, 1, 1, .u64, .ro, .any, [0]⟩,
   ⟨0x7211, 1, 2, 1, .u32, .ro, .any, [0]⟩,
   ⟨0x7211, 1, 3, 1, .u64, .ro, .any, [0]⟩,
   ⟨0x7211, 1, 4, 1, .u64, .ro, .any, [0]⟩,
   ⟨0x7211, 1, 5, 1, .u16, .ro, .any, [0]⟩,
   ⟨0x7203, 1, 1, 1, .u64, .ro, .any, [0]⟩,
   ⟨0x7203, 1, 2, 1, .u64, .ro, .any, [0]⟩,
   ⟨0x7203, 1, 3, 9, .u64, .ro, .any, [0]⟩,
   ⟨0x7203, 1, 12, 1, .u64, .ro, .any, [0]⟩,
   ⟨0x7212, 1, 1, 1, .u64, .ro, .any, [0]⟩,
   ⟨0x7212, 1, 2, 1, .u64, .ro, .any, [0]⟩,
   ⟨0x7212, 1, 3, 1, .u64, .ro, .any, [0]⟩,
   ⟨0x7212, 1, 4, 1, .u64, .ro, .any, [0]⟩,
   ⟨0x7212, 1, 5, 1, .u64, .ro, .any, [0]⟩,
   ⟨0x7212, 1, 6, 1, .u64, .ro, .any, [0]⟩,
   ⟨0x7212, 1, 7, 1, .u64, .ro, .any, [0]⟩]

/-- Objects 0x7000 to 0x7FFF. -/
def objRows7 : List ObjRow := objRows7_0 ++ objRows7_1 ++ objRows7_2

/-- Objects 0x8000 to 0x8FFF (R353, R354, R355, R356), part 0. -/
def objRows8_0 : List ObjRow :=
  [⟨0x8000, 1, 0, 1, .u8, .const, .any, [64]⟩,
   ⟨0x8000, 1, 1, 64, .u32, .rws, .twoBit, [0]⟩,
   ⟨0x8001, 1, 1, 9, .u32, .ro, .any, [0]⟩,
   ⟨0x8001, 1, 10, 1, .u16, .ro, .any, [0x400]⟩,
   ⟨0x8100, 1, 1, 1, .u64, .rws, .nats [(0, 0x500000000)], [0x200000000]⟩,
   ⟨0x8100, 1, 2, 1, .u8, .rws, .nats [(0, 31)], [0]⟩,
   ⟨0x8100, 1, 3, 1, .u8, .rws, .nats [(0, 31)], [30]⟩,
   ⟨0x8100, 1, 4, 1, .u8, .rws, .nats [(0, 31), (255, 255)], [16]⟩,
   ⟨0x8100, 1, 5, 1, .u32, .rws, .nats [(10, 0xe10)], [60]⟩,
   ⟨0x8101, 1, 1, 32, .u32, .ro, .any, [0]⟩,
   ⟨0x8200, 128, 1, 1, .u16, .rws, .nats [(1, 0x400)], [64]⟩,
   ⟨0x8200, 128, 2, 1, .bool, .wo, .nats [(1, 1)], [0]⟩,
   ⟨0x8200, 128, 3, 1, .u32, .ro, .any, [0]⟩,
   ⟨0x8280, 1, 1, 1, .u8, .rws, .nats [(1, 16)], [2]⟩,
   ⟨0x8002, 1, 1, 5, .u64, .ro, .any, [0]⟩,
   ⟨0x8002, 1, 6, 5, .u64, .ro, .any, [0]⟩,
   ⟨0x8102, 1, 1, 1, .u64, .ro, .any, [0]⟩,
   ⟨0x8102, 1, 2, 1, .u64, .ro, .any, [0]⟩,
   ⟨0x8102, 1, 3, 1, .u64, .ro, .any, [0]⟩,
   ⟨0x8102, 1, 4, 1, .u64, .ro, .any, [0]⟩]

/-- Objects 0x8000 to 0x8FFF (R356, R423, R424), part 1. -/
def objRows8_1 : List ObjRow :=
  [⟨0x8102, 1, 5, 1, .u64, .ro, .any, [0]⟩,
   ⟨0x8300, 128, 1, 1, .u64, .ro, .any, [0]⟩,
   ⟨0x8300, 128, 2, 1, .u64, .ro, .any, [0]⟩,
   ⟨0x8300, 128, 3, 1, .u64, .ro, .any, [0]⟩,
   ⟨0x8300, 128, 4, 1, .u64, .ro, .any, [0]⟩,
   ⟨0x8400, 1, 1, 1, .dom, .rws, .bytes 0 131072, [0]⟩,
   ⟨0x8400, 1, 2, 1, .dom, .rws, .bytes 0 524288, [0]⟩,
   ⟨0x8400, 1, 3, 1, .u16, .rws, .nats [(0x400, 0xffff)], [0xb8cb]⟩,
   ⟨0x8401, 1, 1, 1, .u8, .ro, .any, [0]⟩,
   ⟨0x8401, 1, 2, 1, .u8, .ro, .any, [0]⟩,
   ⟨0x8401, 1, 3, 1, .u32, .ro, .any, [0]⟩,
   ⟨0x8401, 1, 4, 1, .u32, .ro, .any, [0]⟩,
   ⟨0x8402, 1, 1, 1, .u64, .ro, .any, [0]⟩,
   ⟨0x8402, 1, 2, 1, .u64, .ro, .any, [0]⟩,
   ⟨0x8402, 1, 3, 1, .u64, .ro, .any, [0]⟩,
   ⟨0x8402, 1, 4, 1, .u64, .ro, .any, [0]⟩,
   ⟨0x8402, 1, 5, 1, .u64, .ro, .any, [0]⟩,
   ⟨0x8402, 1, 6, 1, .u64, .ro, .any, [0]⟩,
   ⟨0x8402, 1, 7, 1, .u64, .ro, .any, [0]⟩,
   ⟨0x8402, 1, 8, 1, .u64, .ro, .any, [0]⟩]

/-- Objects 0x8000 to 0x8FFF (R424, R452, R453), part 2. -/
def objRows8_2 : List ObjRow :=
  [⟨0x8402, 1, 9, 1, .u64, .ro, .any, [0]⟩,
   ⟨0x8402, 1, 10, 1, .u64, .ro, .any, [0]⟩,
   ⟨0x8402, 1, 11, 1, .u64, .ro, .any, [0]⟩,
   ⟨0x8402, 1, 12, 1, .u64, .ro, .any, [0]⟩,
   ⟨0x8600, 1, 1, 1, .u8, .rws, .nats [(0, 2)], [0]⟩,
   ⟨0x8600, 1, 2, 1, .u8, .rws, .nats [(0, 3)], [0]⟩,
   ⟨0x8600, 1, 3, 1, .u8, .rws, .nats [(0, 5)], [0]⟩,
   ⟨0x8600, 1, 4, 1, .u8, .rws, .nats [(1, 15)], [1]⟩,
   ⟨0x8600, 1, 5, 1, .u32, .rws, .nats [(20, 0x3e8)], [100]⟩,
   ⟨0x8600, 1, 6, 1, .u32, .rws, .nats [(200, 0x4e20)], [0x3e8]⟩,
   ⟨0x8600, 1, 7, 1, .u32, .rws, .nats [(50, 0x1388)], [200]⟩,
   ⟨0x8600, 1, 8, 1, .u32, .rws, .nats [(20, 0x3e8)], [100]⟩,
   ⟨0x8600, 1, 9, 1, .u32, .rws, .nats [(0x100000, 0x4000000)], [0x2000000]⟩,
   ⟨0x8600, 1, 10, 1, .u32, .rws, .nats [(100, 0x186a0)], [0x2710]⟩,
   ⟨0x8600, 1, 11, 1, .u32, .rws, .nats [(0x1f4, 0xc350)], [0x7d0]⟩,
   ⟨0x8600, 1, 12, 1, .u8, .rws, .nats [(0, 6)], [3]⟩,
   ⟨0x8600, 1, 13, 1, .u8, .rws, .nats [(0, 6)], [4]⟩,
   ⟨0x8600, 1, 14, 1, .u8, .rws, .nats [(0, 6)], [6]⟩,
   ⟨0x8600, 1, 15, 1, .u32, .rws, .any, [0]⟩,
   ⟨0x8601, 2, 1, 1, .bool, .rws, .nats [(0, 1)], [1]⟩]

/-- Objects 0x8000 to 0x8FFF (R453, R454, R455), part 3. -/
def objRows8_3 : List ObjRow :=
  [⟨0x8601, 2, 2, 1, .u64, .rws, .mac, [0]⟩,
   ⟨0x8601, 2, 3, 1, .u32, .rws, .any, [0]⟩,
   ⟨0x8601, 2, 4, 1, .u8, .rws, .nats [(8, 30)], [24]⟩,
   ⟨0x8601, 2, 5, 1, .u16, .rws, .nats [(0, 0xffe)], [0]⟩,
   ⟨0x8603, 1, 1, 8, .u32, .rws, .any, [0]⟩,
   ⟨0x8604, 1, 1, 1, .u8, .ro, .any, [0]⟩,
   ⟨0x8604, 1, 2, 1, .u8, .ro, .any, [0]⟩,
   ⟨0x8604, 1, 3, 4, .u32, .ro, .any, [0]⟩,
   ⟨0x8604, 1, 7, 1, .u64, .ro, .any, [0]⟩,
   ⟨0x8605, 1, 1, 1, .u64, .ro, .any, [0]⟩,
   ⟨0x8605, 1, 2, 1, .u64, .ro, .any, [0]⟩,
   ⟨0x8605, 1, 3, 1, .u64, .ro, .any, [0]⟩,
   ⟨0x8605, 1, 4, 1, .u64, .ro, .any, [0]⟩,
   ⟨0x8605, 1, 5, 1, .u64, .ro, .any, [0]⟩,
   ⟨0x8605, 1, 6, 1, .u64, .ro, .any, [0]⟩,
   ⟨0x8605, 1, 7, 1, .u64, .ro, .any, [0]⟩,
   ⟨0x8605, 1, 8, 1, .u64, .ro, .any, [0]⟩,
   ⟨0x8605, 1, 9, 1, .u64, .ro, .any, [0]⟩,
   ⟨0x8605, 1, 10, 1, .u64, .ro, .any, [0]⟩,
   ⟨0x8605, 1, 11, 1, .u64, .ro, .any, [0]⟩]

/-- Objects 0x8000 to 0x8FFF (R455), part 4. -/
def objRows8_4 : List ObjRow :=
  [⟨0x8605, 1, 12, 1, .u64, .ro, .any, [0]⟩]

/-- Objects 0x8000 to 0x8FFF. -/
def objRows8 : List ObjRow := objRows8_0 ++ objRows8_1 ++ objRows8_2 ++ objRows8_3 ++ objRows8_4

/-- Objects 0x9000 to 0x9FFF (R469, R484, R485, R486), part 0. -/
def objRows9_0 : List ObjRow :=
  [⟨0x9100, 1, 1, 1, .u32, .const, .any, [4]⟩,
   ⟨0x9100, 1, 2, 1, .u32, .const, .any, [96]⟩,
   ⟨0x9100, 1, 3, 1, .u32, .const, .any, [40]⟩,
   ⟨0x9100, 1, 4, 1, .u32, .const, .any, [64]⟩,
   ⟨0x9100, 1, 5, 1, .u32, .const, .any, [1]⟩,
   ⟨0x9100, 1, 6, 1, .u32, .const, .any, [0x384]⟩,
   ⟨0x9100, 1, 7, 1, .u32, .const, .any, [30]⟩,
   ⟨0x9100, 1, 8, 1, .u32, .const, .any, [0x3e8]⟩,
   ⟨0x9100, 1, 9, 1, .u32, .const, .any, [0x1f40]⟩,
   ⟨0x9100, 1, 10, 1, .u32, .const, .any, [0x320]⟩,
   ⟨0x9100, 1, 11, 1, .u32, .const, .any, [0xc350]⟩,
   ⟨0x9101, 1, 1, 1, .i32, .ro, .any, [0]⟩,
   ⟨0x9000, 1, 1, 1, .u16, .rws, .nats [(1, 0x3e8)], [3]⟩,
   ⟨0x9000, 1, 2, 1, .u16, .rws, .nats [(1, 0x2710)], [100]⟩,
   ⟨0x9000, 1, 3, 1, .u8, .rws, .nats [(1, 64)], [4]⟩,
   ⟨0x9001, 1, 1, 1, .u32, .ro, .any, [0]⟩,
   ⟨0x9001, 1, 2, 1, .u32, .ro, .any, [0]⟩,
   ⟨0x9001, 1, 3, 1, .u8, .ro, .any, [3]⟩,
   ⟨0x9001, 1, 4, 1, .u64, .ro, .any, [0]⟩,
   ⟨0x9200, 1, 1, 1, .bool, .rws, .nats [(0, 1)], [1]⟩]

/-- Objects 0x9000 to 0x9FFF (R486, R487, R488, R489), part 1. -/
def objRows9_1 : List ObjRow :=
  [⟨0x9200, 1, 2, 1, .u64, .rws, .any, [0]⟩,
   ⟨0x9200, 1, 3, 1, .u64, .rws, .any, [0]⟩,
   ⟨0x9200, 1, 4, 1, .f32, .rws, .floats [(0x3f000000, 0x41000000)], [0x40400000]⟩,
   ⟨0x9200, 1, 5, 1, .f32, .rws, .floats [(0, 0x3f800000)], [0x3e4ccccd]⟩,
   ⟨0x9200, 1, 6, 1, .f32, .rws, .floats [(0, 0x40000000)], [0x3e99999a]⟩,
   ⟨0x9200, 1, 7, 1, .f32, .rws, .floats [(0, 0x41a00000)], [0x40000000]⟩,
   ⟨0x9200, 1, 8, 1, .bool, .rws, .nats [(0, 1)], [1]⟩,
   ⟨0x9200, 1, 9, 1, .u16, .rws, .nats [(1, 0x2710)], [50]⟩,
   ⟨0x9200, 1, 10, 3, .f32, .rws, .floats [(0x3f000000, 0x41a00000)], [0x40a00000, 0x413b3333, 0x41000000]⟩,
   ⟨0x9200, 1, 13, 3, .f32, .rws, .floats [(0, 0x40a00000)], [0x3f800000, 0x3fc00000, 0x3fa66666]⟩,
   ⟨0x9200, 1, 16, 3, .f32, .rws, .floats [(0x3f000000, 0x3fcccccd)], [0x3fa66666]⟩,
   ⟨0x9201, 1, 1, 1, .u8, .ro, .any, [0]⟩,
   ⟨0x9201, 1, 2, 1, .u16, .ro, .any, [0]⟩,
   ⟨0x9201, 1, 3, 1, .u8, .ro, .any, [3]⟩,
   ⟨0x9201, 1, 4, 1, .u8, .ro, .any, [0]⟩,
   ⟨0x9300, 1, 1, 1, .time, .rws, .nats [(0x5f5e100, 0x2540be400)], [0x3b9aca00]⟩,
   ⟨0x9300, 1, 2, 1, .u32, .rws, .nats [(20, 0x3e8)], [100]⟩,
   ⟨0x9002, 1, 1, 1, .u64, .ro, .any, [0]⟩,
   ⟨0x9002, 1, 2, 1, .u64, .ro, .any, [0]⟩,
   ⟨0x9002, 1, 3, 1, .u64, .ro, .any, [0]⟩]

/-- Objects 0x9000 to 0x9FFF (R489), part 2. -/
def objRows9_2 : List ObjRow :=
  [⟨0x9002, 1, 4, 1, .u64, .ro, .any, [0]⟩,
   ⟨0x9002, 1, 5, 1, .u64, .ro, .any, [0]⟩,
   ⟨0x9202, 1, 1, 1, .u64, .ro, .any, [0]⟩,
   ⟨0x9202, 1, 2, 1, .u64, .ro, .any, [0]⟩,
   ⟨0x9202, 1, 3, 1, .u64, .ro, .any, [0]⟩,
   ⟨0x9202, 1, 4, 1, .u64, .ro, .any, [0]⟩,
   ⟨0x9202, 1, 5, 1, .u64, .ro, .any, [0]⟩,
   ⟨0x9202, 1, 6, 1, .u64, .ro, .any, [0]⟩,
   ⟨0x9301, 1, 1, 1, .u64, .ro, .any, [0]⟩,
   ⟨0x9301, 1, 2, 1, .u64, .ro, .any, [0]⟩,
   ⟨0x9301, 1, 3, 1, .u64, .ro, .any, [0]⟩,
   ⟨0x9301, 1, 4, 1, .u64, .ro, .any, [0]⟩]

/-- Objects 0x9000 to 0x9FFF. -/
def objRows9 : List ObjRow := objRows9_0 ++ objRows9_1 ++ objRows9_2

/-- Objects 0xA000 to 0xAFFF (R518, R519, R520), part 0. -/
def objRowsA_0 : List ObjRow :=
  [⟨0xa000, 1, 1, 1, .dom, .rws, .bytes 3200 3200, [0]⟩,
   ⟨0xa000, 1, 2, 1, .u32, .ro, .any, [0]⟩,
   ⟨0xa000, 1, 3, 1, .u8, .ro, .any, [0]⟩,
   ⟨0xa000, 1, 4, 1, .u16, .ro, .any, [0]⟩,
   ⟨0xa000, 1, 5, 1, .u8, .ro, .any, [0]⟩,
   ⟨0xa000, 1, 6, 1, .u32, .ro, .any, [0]⟩,
   ⟨0xa000, 1, 7, 1, .u16, .ro, .any, [0]⟩,
   ⟨0xa000, 1, 8, 1, .u64, .ro, .any, [0]⟩,
   ⟨0xa000, 1, 9, 1, .u8, .ro, .any, [4]⟩,
   ⟨0xa000, 1, 10, 1, .u32, .ro, .any, [0]⟩,
   ⟨0xa000, 1, 11, 1, .u32, .ro, .any, [0]⟩,
   ⟨0xa100, 1, 1, 1, .dom, .wo, .bytes 24640 4190272, [0]⟩,
   ⟨0xa100, 1, 2, 1, .u32, .ro, .any, [0]⟩,
   ⟨0xa100, 1, 3, 1, .u32, .ro, .any, [0]⟩,
   ⟨0xa100, 1, 4, 1, .u8, .ro, .any, [0]⟩,
   ⟨0xa100, 1, 5, 1, .u8, .wo, .nats [(0, 1)], [0]⟩,
   ⟨0xa100, 1, 6, 1, .bool, .wo, .nats [(1, 1)], [0]⟩,
   ⟨0xa100, 1, 7, 1, .u8, .rw, .nats [(1, 8)], [3]⟩,
   ⟨0xa200, 1, 1, 1, .dom, .wo, .bytes 16 16, [0]⟩,
   ⟨0xa200, 1, 2, 1, .dom, .ro, .any, [0]⟩]

/-- Objects 0xA000 to 0xAFFF (R520), part 1. -/
def objRowsA_1 : List ObjRow :=
  [⟨0xa200, 1, 3, 1, .u32, .ro, .any, [0]⟩]

/-- Objects 0xA000 to 0xAFFF. -/
def objRowsA : List ObjRow := objRowsA_0 ++ objRowsA_1

/-- Objects 0xB000 to 0xBFFF (R20, R535, R536, R537), part 0. -/
def objRowsB_0 : List ObjRow :=
  [⟨0xb100, 1, 0, 1, .u8, .const, .any, [100]⟩,
   ⟨0xb100, 1, 1, 100, .u32, .ro, .any, [0]⟩,
   ⟨0xb200, 1, 1, 1, .f32, .rws, .floats [(0x42aa0000, 0x42f00000)], [0x42d20000]⟩,
   ⟨0xb200, 1, 2, 1, .f32, .rws, .floats [(0x3f000000, 0x40a00000)], [0x40000000]⟩,
   ⟨0xb200, 1, 3, 1, .f32, .rws, .floats [(0x42b40000, 0x42f80000)], [0x42e60000]⟩,
   ⟨0xb200, 1, 4, 1, .f32, .rws, .floats [(0x42c80000, 0x438c0000)], [0x438c0000]⟩,
   ⟨0xb200, 1, 5, 1, .u8, .rws, .nats [(8, 119)], [64]⟩,
   ⟨0xb200, 1, 6, 1, .bool, .rws, .nats [(0, 1)], [1]⟩,
   ⟨0xb201, 1, 1, 1, .f32, .ro, .any, [0]⟩,
   ⟨0xb201, 1, 2, 1, .u8, .ro, .any, [0]⟩,
   ⟨0xb201, 1, 3, 1, .f32, .ro, .any, [0]⟩,
   ⟨0xb201, 1, 4, 1, .f32, .ro, .any, [0x3f47ae14]⟩,
   ⟨0xb201, 1, 5, 1, .f32, .ro, .any, [0]⟩,
   ⟨0xb201, 1, 6, 1, .u8, .ro, .any, [0]⟩,
   ⟨0xb201, 1, 7, 1, .u8, .ro, .any, [0]⟩,
   ⟨0xb201, 1, 8, 1, .u32, .ro, .any, [0]⟩,
   ⟨0xb203, 1, 1, 32, .f32, .ro, .any, [0]⟩,
   ⟨0xb202, 1, 1, 1, .u64, .ro, .any, [0]⟩,
   ⟨0xb202, 1, 2, 1, .u64, .ro, .any, [0]⟩,
   ⟨0xb202, 1, 3, 1, .u64, .ro, .any, [0]⟩]

/-- Objects 0xB000 to 0xBFFF (R537), part 1. -/
def objRowsB_1 : List ObjRow :=
  [⟨0xb202, 1, 4, 1, .u64, .ro, .any, [0]⟩,
   ⟨0xb202, 1, 5, 1, .u64, .ro, .any, [0]⟩]

/-- Objects 0xB000 to 0xBFFF. -/
def objRowsB : List ObjRow := objRowsB_0 ++ objRowsB_1

/-- Objects 0xC000 to 0xCFFF (R324), part 0. -/
def objRowsC_0 : List ObjRow :=
  [⟨0xc000, 256, 1, 1, .dom, .rws, .bytes 0 82048, [0]⟩,
   ⟨0xc000, 256, 2, 1, .u8, .ro, .any, [0]⟩,
   ⟨0xc000, 256, 3, 1, .u64, .ro, .any, [0]⟩,
   ⟨0xc000, 256, 4, 1, .u16, .ro, .any, [0]⟩,
   ⟨0xc000, 256, 5, 1, .u32, .ro, .any, [0]⟩,
   ⟨0xc000, 256, 6, 1, .u32, .ro, .any, [0]⟩,
   ⟨0xc000, 256, 7, 1, .u32, .ro, .any, [0]⟩,
   ⟨0xc000, 256, 8, 1, .bool, .ro, .any, [0]⟩,
   ⟨0xc000, 256, 9, 1, .u32, .ro, .any, [0]⟩,
   ⟨0xc000, 256, 10, 1, .dom, .ro, .any, [0]⟩]

/-- Objects 0xC000 to 0xCFFF. -/
def objRowsC : List ObjRow := objRowsC_0

/-- Objects 0xD000 to 0xDFFF (R324), part 0. -/
def objRowsD_0 : List ObjRow :=
  [⟨0xd000, 256, 1, 1, .dom, .rws, .bytes 0 82048, [0]⟩,
   ⟨0xd000, 256, 2, 1, .u8, .ro, .any, [0]⟩,
   ⟨0xd000, 256, 3, 1, .u64, .ro, .any, [0]⟩,
   ⟨0xd000, 256, 4, 1, .u16, .ro, .any, [0]⟩,
   ⟨0xd000, 256, 5, 1, .u32, .ro, .any, [0]⟩,
   ⟨0xd000, 256, 6, 1, .u32, .ro, .any, [0]⟩,
   ⟨0xd000, 256, 7, 1, .u32, .ro, .any, [0]⟩,
   ⟨0xd000, 256, 8, 1, .bool, .ro, .any, [0]⟩,
   ⟨0xd000, 256, 9, 1, .u32, .ro, .any, [0]⟩,
   ⟨0xd000, 256, 10, 1, .dom, .ro, .any, [0]⟩]

/-- Objects 0xD000 to 0xDFFF. -/
def objRowsD : List ObjRow := objRowsD_0

/-- Objects 0xE000 to 0xEFFF (R168), part 0. -/
def objRowsE_0 : List ObjRow :=
  [⟨0xe000, 16, 1, 1, .u8, .ro, .any, [0]⟩,
   ⟨0xe000, 16, 2, 1, .u64, .ro, .any, [0]⟩,
   ⟨0xe000, 16, 3, 1, .u64, .ro, .any, [0]⟩,
   ⟨0xe000, 16, 4, 1, .u8, .ro, .any, [0]⟩,
   ⟨0xe000, 16, 5, 1, .u16, .ro, .any, [0]⟩,
   ⟨0xe000, 16, 6, 1, .u8, .ro, .any, [0]⟩,
   ⟨0xe000, 16, 7, 1, .u64, .ro, .any, [0]⟩,
   ⟨0xe000, 16, 8, 1, .u32, .ro, .any, [0]⟩,
   ⟨0xe000, 16, 9, 1, .u32, .ro, .any, [0]⟩]

/-- Objects 0xE000 to 0xEFFF. -/
def objRowsE : List ObjRow := objRowsE_0

/-- The rows whose indexes begin with the digit of `idx`. -/
def objRowsAt (idx : Nat) : List ObjRow :=
  match idx / 4096 with
  | 1 => objRows1
  | 2 => objRows2
  | 3 => objRows3
  | 4 => objRows4
  | 5 => objRows5
  | 6 => objRows6
  | 7 => objRows7
  | 8 => objRows8
  | 9 => objRows9
  | 10 => objRowsA
  | 11 => objRowsB
  | 12 => objRowsC
  | 13 => objRowsD
  | 14 => objRowsE
  | _ => []

/-- Every row. -/
def objRows : List ObjRow := objRows1 ++ objRows2 ++ objRows3 ++ objRows4 ++ objRows5 ++ objRows6 ++ objRows7 ++ objRows8 ++ objRows9 ++ objRowsA ++ objRowsB ++ objRowsC ++ objRowsD ++ objRowsE

/-- R26, R35: the counter objects, those with ClearMask at 0xFE and SaturatedMask at 0xFF, as (first index, count). -/
def counterIndexes : List (Nat × Nat) :=
  [(0x1020, 1), (0x2021, 1), (0x3180, 128), (0x3301, 1), (0x4400, 1), (0x5020, 1), (0x5021, 1), (0x6002, 1), (0x6110, 1), (0x6301, 1), (0x7101, 1), (0x7203, 1), (0x7212, 1), (0x8002, 1), (0x8102, 1), (0x8300, 128), (0x8402, 1), (0x8605, 1), (0x9002, 1), (0x9202, 1), (0x9301, 1), (0xB202, 1)]

end Sys2Proof.Machine
end

