-- ==== Sys2Proof/Machine/TypesCore.lean ====
section
/-!
DEFINITION. The parts of the state that every family shares: dictionary values, the commit machine, ODP sessions, the rule interpreter,
the timebase, events and the messages the device has sent.
-/
namespace Sys2Proof.Machine
open Sys2Proof

/-- A dictionary value: a number of any of the fixed-size types, or the bytes of a STR or DOM (R27). -/
inductive Value where
  | num (n : Nat)
  | blob (bytes : List Byte)
  deriving DecidableEq, Repr

/-- Objects by key 256·index + subindex (R6). -/
abbrev ObjMap := List (Nat × Value)

/-- The manufacturing area (R498, R502): the vendor root public key, SerialNumber, the MAC addresses of R453 and the PCIe subsystem IDs of R389, the helper data, the identity
public key, the endorsement, the unit-availability record (R503) and the vendor root key's signature over all of it. Keys are x then y, signatures r then s. -/
structure Part where
  rootKey : List Byte
  serial : Nat
  macs : List Nat
  subsystemVendor : Nat
  subsystemId : Nat
  helper : List Byte
  identityKey : List Byte
  endorsement : List Byte
  record : List Byte
  /-- R528: the step-0 core voltages of the 17 temperature bands, in mV. -/
  voltages : List Nat
  signature : List Byte
  deriving DecidableEq, Repr

/-- No manufacturing area has been read. -/
def Part.blank : Part := ⟨[], 0, [], 0, 0, [], [], [], [], [], []⟩

/-- The dictionary's stores (R29 to R31, R52). An object not listed in `active` holds its default. -/
structure Dict where
  /-- Values that differ from the default. -/
  active : ObjMap
  /-- Shadow values of the staged objects. -/
  shadow : ObjMap
  /-- The stored values last saved to flash, and the ActiveSetId saved with them (R31). -/
  saved : ObjMap
  savedSetId : Nat
  /-- Saved values waiting for SETTINGS_SAVE, with their set ID. -/
  unsaved : Option (ObjMap × Nat)
  /-- The sticky saturated bits of each counter object (R35). -/
  saturated : List (Nat × Nat)
  /-- The manufacturing area that start-up accepted (R500), which gives some objects their values (R33, R453, R504). -/
  part : Part
  deriving DecidableEq, Repr

/-- R52: the commit states, in CommitState's code order. -/
inductive CommitState where
  | idle | staging | checked | pending
  deriving DecidableEq, Repr

/-- A BLOCK WRITE in progress (R42). -/
structure BlockXfer where
  session : Nat
  key : Nat
  total : Nat
  got : List Byte
  deriving DecidableEq, Repr

/-- CommitControl, CheckReport and the set identifiers (R52 to R59). -/
structure CommitCtl where
  st : CommitState
  target : Nat
  owner : Nat
  lastStatus : Nat
  checkResult : Nat
  checkedRev : Nat
  failObject : Nat
  failStage : Nat
  failRule : Nat
  margin : Int
  checkFrame : Nat
  activeSetId : Nat
  stagedRev : Nat
  transfers : List BlockXfer
  /-- Whether a commit has been made since reset (FRAME_LOCK requires it, R52). -/
  committed : Bool
  deriving DecidableEq, Repr

/-- R38: how an ODP message travels; `ring` is a DICTIONARY descriptor of R410. -/
inductive Transport where
  | mgmt
  | mailbox (channel : Nat)
  | peer (port : Nat)
  | ring (r : Nat)
  deriving DecidableEq, Repr

/-- A subscription (R43). `last` is the value of the last notice, or the value at the SUBSCRIBE. -/
structure Subscription where
  idx : Nat
  sub : Nat
  interval : Nat
  last : Option Value
  /-- The frame of the last notice. -/
  lastFrame : Option Nat
  deriving DecidableEq, Repr

/-- The response to one transaction (R44). -/
structure OdpResp where
  opcode : Nat
  flags : Nat
  status : Nat
  payload : List Byte
  deriving DecidableEq, Repr

/-- An ODP session (R46 to R50). -/
structure Session where
  id : Nat
  keyId : Nat
  /-- The roles of the key (R504). -/
  roles : Nat
  key : List Byte
  transport : Transport
  rxCounter : Nat
  txCounter : Nat
  failedTags : Nat
  heard : Nat
  sent : Nat
  subs : List Subscription
  noticeNo : Nat
  kept : List (Nat × OdpResp)
  deriving DecidableEq, Repr

/-- The ODP server. -/
structure OdpServer where
  sessions : List Session
  nextId : Nat
  deriving DecidableEq, Repr

/-- How a rule stands (R60 to R62). -/
inductive RuleStatus where
  | running
  | passed
  | failed (code : Nat) (op : Nat)
  deriving DecidableEq, Repr

/-- The rule interpreter: the stack (top first), the index of the next operation and the bytes still skipped after a JZ. -/
structure RuleVm where
  stack : List Int
  status : RuleStatus
  opIndex : Nat
  skip : Nat
  deriving DecidableEq, Repr

/-- R66: the timebase states, in TimebaseState's code order. -/
inductive TbState where
  | acquiring | locked | holdover | freeRun
  deriving DecidableEq, Repr

/-- The timebase, its servo and the tick schedule (R64 to R70). Offsets are added to the device's time `now`. -/
structure Timebase where
  st : TbState
  /-- Timebase minus device time. -/
  tbOffset : Int
  /-- Tick clock minus device time (R68). -/
  tickOffset : Int
  servoOffset : Int
  goodSyncs : Nat
  gmId : Option Nat
  everLocked : Bool
  lastSync : Nat
  holdoverSince : Nat
  anchorFrame : Nat
  anchorTick : Int
  /-- The frame length in force, in ns. -/
  period : Nat
  /-- The next frame to tick, once a first frame is known. -/
  nextFrame : Option Nat
  /-- The last frame number used and its tick (R92). -/
  curFrame : Nat
  curTick : Nat
  ticked : Bool
  /-- The last live frame that ticked: frames resume above it when replay ends (R375). -/
  liveFrame : Nat
  epochUsed : Option Nat
  /-- A change of source has broken the schedule, so the next tick steps. -/
  renumber : Bool
  ppsIn : Int
  /-- The device instant of the last PPS_OUT pulse. -/
  lastPps : Option Nat
  pdelaySeq : Nat
  deriving DecidableEq, Repr

/-- An event raised (R417). -/
structure EventRec where
  code : Nat
  arg : Nat
  frame : Nat
  time : Nat
  arg2 : Nat
  deriving DecidableEq, Repr

/-- gPTP messages the device sends (R65). -/
inductive GptpKind where
  | pdelayReq | pdelayResp | pdelayRespFollowUp
  deriving DecidableEq, Repr

/-- Messages and writes that leave the device, in the order sent: the model's own record of its outputs. -/
inductive WireMsg where
  /-- An ODP message with its tag (R39). -/
  | odp (transport : Transport) (bytes : List Byte)
  | gptp (source : Nat) (kind : GptpKind) (sequence : Nat) (time : Nat)
  /-- An MSI-X vector signalled (R399). -/
  | msix (vector : Nat)
  /-- Bytes written to host memory by DMA. -/
  | hostWrite (address : Nat) (bytes : List Byte)
  /-- A RoCEv2 WRITE under an R_Key to a client's mirror region (R398, R420). -/
  | roceWrite (qp key address : Nat) (bytes : List Byte)
  /-- A congestion notification packet (R429). -/
  | cnp (qp : Nat)
  /-- A retransmission on a queue pair (R427). -/
  | roceResend (qp : Nat) (message : Nat)
  /-- A NAK for an invalid request on a queue pair (R124, R427). -/
  | roceNak (qp : Nat)
  /-- A PFC frame that pauses, or resumes, a priority on a peer port (R282, R428). -/
  | pfc (port priority : Nat) (pause : Bool)
  /-- A gratuitous ARP announcement of an address on a port (R448). -/
  | arp (port address : Nat)
  /-- A datagram of records to a UDP client's address (R421). -/
  | udpRecords (destination : Nat) (bytes : List Byte)
  /-- A chip-group message to a peer, on a port, to its PeerAddress there, ended with an immediate value (R433). -/
  | group (peer port address immediate : Nat) (bytes : List Byte)
  /-- A VOUT_COMMAND of the power manager to the regulator at VrAddress, in its LSBs (R528, R529). -/
  | voltage (address word : Nat)
  deriving DecidableEq, Repr

end Sys2Proof.Machine
end

