-- ==== Sys2Proof/Machine/TypesHost.lean ====
section
/-!
DEFINITION. The host interface's part of the state: rings and their control blocks (R396 to R403), the journal (R412), the dictionary mailbox (R419)
and the registers of the PCIe function (R390, R394, R395).
-/
namespace Sys2Proof.Machine
open Sys2Proof

/-- R403: the states of a ring, in STATE's code order. -/
inductive RingState where
  | disabled | active | draining | recovering
  deriving DecidableEq, Repr

/-- An entry of the ring table (R399). -/
structure RingCfg where
  enabled : Bool
  inBuffer : Bool
  size : Nat
  vector : Nat
  modCount : Nat
  modTime : Nat
  base : Nat
  eventMask : Nat
  deriving DecidableEq, Repr

/-- An entry of the client table (R398). -/
structure ClientCfg where
  enabled : Bool
  transport : Nat
  opcodes : Nat
  binding : Nat
  remoteAddress : Nat
  remoteKey : Nat
  deriving DecidableEq, Repr

/-- The table entries of a ring and of its client. -/
structure RingTables where
  ring : RingCfg
  client : ClientCfg
  deriving DecidableEq, Repr

/-- A ring's control block (R403), the records the device has written to it, its interrupt moderation (R399) and, for an event ring, the events held and lost (R417). -/
structure Ring where
  producer : Nat
  consumer : Nat
  nextSeq : Nat
  seqSet : Bool
  st : RingState
  lastStatus : Nat
  outstanding : Nat
  /-- Entries by slot (index mod size). -/
  entries : List (Nat × List Byte)
  unsignalled : Nat
  firstUnsignalled : Nat
  held : List EventRec
  lost : Nat
  /-- The newest entries, oldest first, that wait for the ring to leave RECOVERING before they are written to the client (R415, R420); for each, whether its interrupt is at once. -/
  owed : List Bool
  /-- The table entries by which a ring goes that the tables in force no longer describe: a draining one (R400), or one recovered before the stored tables are loaded (R415, R508). -/
  kept : Option RingTables
  deriving DecidableEq, Repr

/-- A ring just enabled (R400). -/
def Ring.fresh : Ring := ⟨0, 0, 0, false, .active, 0, 0, [], 0, 0, [], 0, [], none⟩

/-- A submit descriptor (R401), by field. -/
structure Desc where
  sequence : Nat
  client : Nat
  opcode : Nat
  targeted : Bool
  devicePayload : Bool
  notify : Bool
  reserved : Nat
  userTag : Nat
  payloadAddress : Nat
  payloadLength : Nat
  targetFrame : Nat
  /-- Bytes 32 to 63. -/
  specific : List Byte
  deriving DecidableEq, Repr

/-- R412: the states of a journal record. -/
inductive JState where
  | accepted | completing | retired
  deriving DecidableEq, Repr

/-- A journal record (R412). `owner` is a client for a descriptor and a stream number for a network packet. -/
structure JRec where
  id : Nat
  st : JState
  isDescriptor : Bool
  owner : Nat
  submitIndex : Nat
  sequence : Nat
  stamp : Nat
  completionIndex : Nat
  desc : Option Desc
  payload : List Byte
  /-- The payload is read from the client without error. -/
  payloadOk : Bool
  completion : List Byte
  /-- STATUS and RESULT_LENGTH with which the item has committed (R412). -/
  outcome : Option (Nat × Nat)
  replayed : Bool
  /-- The copies, A and B, of which a block of the record cannot be read without an uncorrected error (R338). -/
  badA : Bool
  badB : Bool
  /-- Waiting for the mirror's acknowledgement in a pair-mirror group (R443). -/
  waitsMirror : Bool
  /-- Its item has been queued: once the ACCEPTED record has been written (R407), and after a reset or a takeover once it is replayed (R416). -/
  ready : Bool
  deriving DecidableEq, Repr

/-- An accepted record whose item waits to be queued again (R416). -/
def JRec.unqueued (j : JRec) : Bool := j.st == .accepted && !j.ready && !j.waitsMirror

/-- A descriptor that has passed the tests of R406 and waits for its acceptance. -/
structure Fetched where
  ring : Nat
  index : Nat
  desc : Desc
  payload : List Byte
  payloadOk : Bool
  deriving DecidableEq, Repr

/-- A mailbox channel (R419). A request is answered in the step that submits it, so that none is ever unanswered between steps and no REQ_LEN is discarded for one. -/
structure Mailbox where
  resp : List Byte
  placed : Nat
  vector : Nat
  deriving DecidableEq, Repr

/-- A completion record kept for a UDP client (R421): its index, its bytes, and when it was last sent. -/
structure UdpRecord where
  index : Nat
  bytes : List Byte
  sent : Option Nat
  deriving DecidableEq, Repr

/-- What the device holds of a UDP client (R421): its counters, the source and the session of its last valid datagram, and the records not acknowledged, oldest first. -/
structure UdpClient where
  rxCounter : Nat
  txCounter : Nat
  source : Option Nat
  session : Nat
  unacked : List UdpRecord
  deriving DecidableEq, Repr

structure HostPort where
  rings : List (Nat × Ring)
  fetched : List Fetched
  journal : List JRec
  nextJournal : Nat
  journalFull : Bool
  mailboxes : List Mailbox
  udp : List (Nat × UdpClient)
  linkSpeed : Nat
  linkWidth : Nat
  linkBelow : Bool
  busMaster : Bool
  /-- The addresses that the host has assigned to BAR0, BAR2 and BAR4 (R392, R393), and the bytes of the MSI-X table. -/
  bars : List Nat
  msix : List Host.Cell
  apertureBase : Nat
  recovery : Bool
  /-- The last HOST_STATUS shown, whose change signals vector 0 (R394). -/
  statusShown : Nat
  /-- Host buffer space (R395): bytes the device keeps for the host. -/
  buffer : List Host.Cell
  deriving DecidableEq, Repr

/-- The host interface in reset (R392): no ring, an empty journal. -/
def HostPort.initial : HostPort :=
  { rings := [], fetched := [], journal := [], nextJournal := 0, journalFull := false,
    mailboxes := List.replicate 8 ⟨[], 0, 0⟩, udp := [], linkSpeed := 0, linkWidth := 0, linkBelow := false,
    busMaster := false, bars := [0, 0, 0], msix := [], apertureBase := 0, recovery := false, statusShown := 0, buffer := [] }

end Sys2Proof.Machine
end

