-- ==== Sys2Proof/Machine/TypesWorld.lean ====
section
/-!
DEFINITION. Streams, stream buffers, source state, map versions and the run-ahead map (04_world_model.md), with the GDDR6 and Hall state
of 11_memory_buffers.md.
-/
namespace Sys2Proof.Machine
open Sys2Proof

/-- R74: the frame of a packet whose frame has no number yet, its seal being that of the tick still to come (R68, R375): more than any frame number, which has 64 bits. -/
def pendingFrame : Nat := 2 ^ 64

/-- A stream packet accepted and waiting for its filter (R74, R101, R413). -/
structure InPacket where
  bytes : List Byte
  stamp : Nat
  /-- Transport code of R101 and the SourceId it came by. -/
  transport : Nat
  source : Nat
  /-- The journal record that holds it. -/
  journal : Nat
  /-- TARGET_FRAME of a TARGETED descriptor (R75). -/
  target : Option Nat
  /-- The frame whose seal comes at or after the stamp, `pendingFrame` until its tick numbers it, and whether the stamp lies between the seal of the frame before it and that
  tick (R85). -/
  frame : Nat
  afterSeal : Bool
  deriving DecidableEq, Repr

/-- Where a buffer word lies (R343). -/
inductive WordHome where
  | bank0 | bank1 | chain
  deriving DecidableEq, Repr

/-- A stream-buffer word (R343, R344): its eight lanes, those above the lanes in use zero; LANES, END, TRUNC, POISON, and its parity as written. -/
structure BufWord where
  lanes : List Nat
  used : Nat
  isEnd : Bool
  trunc : Bool
  poison : Bool
  /-- The status with which a truncated-packet marker discards its packet: 0x0303 of a flush or 0x0305 of a filter. -/
  cause : Nat
  parity : Nat
  home : WordHome
  deriving DecidableEq, Repr

/-- A packet in the stream buffer, oldest word first, with its notice (R346). -/
structure BufPacket where
  words : List BufWord
  /-- The packet as accepted (R362). -/
  payload : List Byte
  stamp : Nat
  journal : Nat
  target : Option Nat
  frame : Nat
  afterSeal : Bool
  complete : Bool
  readStarted : Bool
  /-- The words the map builder has read, each of which freed its place (R345). -/
  read : List BufWord
  deriving DecidableEq, Repr

/-- A filter's packet of which words are still to be written: lanes, truncated-packet marker and its cause (R343, R345); the words written to the output port, and
whether they close the packet (R471). -/
structure FilterRun where
  packet : InPacket
  rest : List (List Nat × Bool × Nat)
  output : List Nat
  closed : Bool
  deriving DecidableEq, Repr

/-- R355: the state of a bank, in BufferState's code order. -/
inductive BankState where
  | inService | out | test
  deriving DecidableEq, Repr

/-- Stream buffer n (R343 to R351). -/
structure StreamBuf where
  bank0 : BankState
  bank1 : BankState
  chain : Bool
  /-- Where the writer puts its next word, 0 to 2047. -/
  writePos : Nat
  errors0 : Nat
  errors1 : Nat
  /-- The bank failed its test and stays out until the next reset (R349). -/
  failed0 : Bool
  failed1 : Bool
  packets : List BufPacket
  deriving DecidableEq, Repr

/-- One predicted mode of an agent: probability and samples (DX, DY, HEADING), R105. -/
structure AgentMode where
  prob : F32
  samples : List (F32 × F32 × F32)
  deriving DecidableEq, Repr

structure Agent where
  id : Nat
  cls : Nat
  modes : List AgentMode
  x : F64
  y : F64
  heading : F32
  speed : F32
  length : F32
  width : F32
  step : F32
  time : Nat
  deriving DecidableEq, Repr

structure RouteSeg where
  id : Nat
  onRoute : Bool
  x : F64
  y : F64
  points : List (F32 × F32)
  widthLeft : F32
  widthRight : F32
  speedLimit : F32
  deriving DecidableEq, Repr

/-- A source raster tile: 4,096 cells at 2, 8 or 1 bits each (R105). -/
structure SrcTile where
  tx : Int
  ty : Int
  time : Nat
  cells : List Nat
  deriving DecidableEq, Repr

structure EgoState where
  x : F64
  y : F64
  heading : F32
  speed : F32
  accel : F32
  curvature : F32
  art1 : F32
  art2 : F32
  time : Nat
  mapFrame : Nat
  deriving DecidableEq, Repr

/-- A parsed update record (R104, R105). -/
inductive UpdRec where
  | rasterTile (t : SrcTile)
  | tileDrop (tx ty : Int)
  | agent (a : Agent)
  | agentRemove (id : Nat)
  | segment (r : RouteSeg)
  | routeClear
  | ego (e : EgoState)
  | packetEnd (count : Nat) (urgent : Bool) (target : Nat)
  deriving DecidableEq, Repr

/-- A packet the map builder has read and holds for its seal (R95): its records, each as (MAP_FRAME_ID, position of its header's last word, SENSOR_TIME, record),
its first cause of discard as (position, status) (R124), and its URGENT mark. Positions count 32-bit lanes from the packet's first. -/
structure HeldPacket where
  records : List (Nat × Nat × Nat × UpdRec)
  cause : Option (Nat × Nat)
  urgent : Bool
  payload : List Byte
  stamp : Nat
  journal : Nat
  frame : Nat
  afterSeal : Bool
  /-- Its target frame (R75). -/
  target : Option Nat
  deriving DecidableEq, Repr

/-- A key of source state lost (R107, R341). -/
inductive LostKey where
  | tile (tx ty : Int)
  | agent (id : Nat)
  | segment (id : Nat)
  | ego
  deriving DecidableEq, Repr

/-- Stream n: packets waiting, filter memory, buffer and source state. -/
structure Stream where
  waiting : List InPacket
  /-- The working area, local addresses 0x8000 to 0xFFFF (R305). -/
  working : List Host.Cell
  /-- The filter image in the ingress processor's program store. -/
  program : List Byte
  reloadDue : Bool
  /-- Packets the filter has run whose output is not yet written in full, oldest first. -/
  running : List FilterRun
  buf : StreamBuf
  held : List HeldPacket
  tiles : List SrcTile
  agents : List Agent
  segments : List RouteSeg
  ego : Option EgoState
  newest : Option Nat
  applied : Bool
  discarded : Bool
  staleRun : Nat
  stale : Bool
  /-- The consecutive stale count as it stood before the last seal (R125, R127). -/
  runBefore : Nat
  /-- The keys lost to an uncorrected error or with a channel, and the instant until which the stream's layers are stale (R341). -/
  lostKeys : List LostKey
  lostUntil : Nat
  deriving DecidableEq, Repr

/-- A state on a plan or of the vehicle: position and heading in the map frame in FP64, the rest in FP32 (R78, R96). -/
structure StartState where
  x : F64
  y : F64
  heading : F64
  speed : F32
  accel : F32
  curvature : F32
  art1 : F32
  art2 : F32
  deriving DecidableEq, Repr

def StartState.zero : StartState := ⟨0#64, 0#64, 0#64, 0#32, 0#32, 0#32, 0#32, 0#32⟩

/-- What one seal froze (R77, R103): per stream its kind, tiles, agents and segments; the instant T(N) + LandingStart; the start state. -/
structure Inputs where
  frame : Nat
  landing : Nat
  start : StartState
  tiles : List (Nat × List SrcTile)
  agents : List (Nat × List Agent)
  segments : List RouteSeg
  deriving DecidableEq, Repr

/-- The place of a tile (R98, R117): layer, grid (0 near, 1 far), slice (32 static), tile index. -/
structure TileKey where
  layer : Nat
  grid : Nat
  slice : Nat
  tile : Nat
  deriving DecidableEq, Repr

/-- A stored tile with its directory entry (R116, R117). The entries of dynamic slices that name a static-only layer's tile (ALIAS) are not stored: they are
read through `MapView.sliceOf`. -/
structure Tile where
  key : TileKey
  addr : Nat
  origin : Nat
  spec : Bool
  kept : Bool
  unknown : Bool
  values : List Nat
  lost : Bool
  deriving DecidableEq, Repr

/-- A version record with its directory (R117, R118). -/
structure Version where
  number : Nat
  spec : Bool
  parent : Option Nat
  frame : Nat
  mapFrame : Nat
  staleLayers : Nat
  urgent : Bool
  egoStale : Bool
  reinitialised : Bool
  sealTime : Nat
  tilesNew : Nat
  inputs : Inputs
  tiles : List Tile
  /-- Jobs not yet done, in the order of R120: grid, slice, tile. -/
  jobs : List (Nat × Nat × Nat)
  /-- The directory is published and map-ready signalled. -/
  ready : Bool
  /-- The latest stamp of an urgent delta it contains (R88). -/
  deltaStamp : Option Nat
  deriving DecidableEq, Repr

/-- The scene tensor of a frame (R128): its bytes in part order, the frame it belongs to, and how many of its values were NaNs converted to 0 (R141). -/
structure Scene where
  frame : Nat
  bytes : List Byte
  numeric : Nat
  deriving DecidableEq, Repr

/-- The map builder. -/
structure World where
  streams : List Stream
  versions : List Version
  /-- The last sealed version number and the last speculative one (R77, R118). -/
  lastVersion : Nat
  lastSpec : Nat
  nextTile : Nat
  ego : Option EgoState
  mapFrame : Nat
  /-- The reference position of R107. -/
  refX : F64
  refY : F64
  scene : Option Scene
  /-- The run-ahead scene tensor (R82). -/
  specScene : Option Scene
  /-- Tiles still to compare with the run-ahead map, and the groups re-versioned so far (R81, R122). -/
  compare : List TileKey
  reversioned : List TileKey
  comparing : Bool
  /-- Urgent deltas applied in the current frame, and the urgent packets read after its seal (R85, R86). -/
  deltas : Nat
  deltaDue : List (Nat × HeldPacket)
  /-- Deltas applied whose version has not sealed (R85). -/
  deltaOpen : List (Nat × HeldPacket)
  /-- No tile is shared with an older version at the next seal (R341). -/
  noShare : Bool
  deriving DecidableEq, Repr

def StreamBuf.initial : StreamBuf := ⟨.inService, .inService, false, 0, 0, 0, false, false, []⟩

def Stream.initial : Stream :=
  { waiting := [], working := [], program := [], reloadDue := false, running := [], buf := StreamBuf.initial, held := [], tiles := [], agents := [],
    segments := [], ego := none, newest := none, applied := false, discarded := false, staleRun := 0, stale := false, runBefore := 0, lostKeys := [], lostUntil := 0 }

def World.initial : World :=
  { streams := List.replicate 128 Stream.initial, versions := [], lastVersion := 0, lastSpec := 0, nextTile := 0, ego := none, mapFrame := 0,
    refX := 0#64, refY := 0#64, scene := none, specScene := none, compare := [], reversioned := [], comparing := false, deltas := 0,
    deltaDue := [], deltaOpen := [], noShare := false }

/-- R353, R354: one GDDR6 channel. -/
structure Channel where
  lost : Bool
  /-- 0 none, 1 copy A, 2 copy B, 3 spare. -/
  role : Nat
  /-- Blocks with an uncorrected error within the last second, and when (R340). -/
  bad : List (Nat × Nat)
  deriving DecidableEq, Repr

/-- Power states of a Hall bank (R333). -/
inductive BankPower where
  | on | retention | off
  deriving DecidableEq, Repr

/-- Hall and GDDR6 (R330 to R342). -/
structure Memory where
  channels : List Channel
  banks : List BankPower
  /-- Banks the pending commit turns On, waking since the last Landing (R334), with their former state. -/
  waking : List (Nat × BankPower)
  /-- First bank and bank count of regions 0 to 8 (R330). -/
  regions : List (Nat × Nat)
  /-- The regions the last commit moved, the serials of the items of the frame before it in service at its tick that use their old banks, and the banks that stay On, each
  with the serials of those among them that use it (R332, R334). -/
  moved : List Nat
  users : List Nat
  keptOn : List (Nat × List Nat)
  /-- Re-replication of the journal to the spare is under way for this role (R339). -/
  rereplicating : Option Nat
  /-- The last instant at which event 0x0801 was raised, per store (R327). -/
  corrected : List (Nat × Nat)
  /-- Tally bytes lost to an uncorrected error, by program slot (R331). -/
  tallyLost : List Nat
  /-- The library copy is being restored until this instant (R341). -/
  libraryUntil : Nat
  deriving DecidableEq, Repr

def Memory.initial : Memory :=
  { channels := List.replicate 32 ⟨false, 0, []⟩, banks := List.replicate 1024 .on, waking := [], regions := List.replicate 9 (0, 0), moved := [], users := [], keptOn := [],
    rereplicating := none, corrected := [], tallyLost := [], libraryUntil := 0 }

end Sys2Proof.Machine
end

