-- ==== Sys2Proof/Machine/TypesFrame.lean ====
section
/-!
DEFINITION. Candidates, engines, work items, the Stair, refinement and publication: the parts of the state that one frame moves through
(05_proposal.md to 10_engine_programs.md).
-/
namespace Sys2Proof.Machine
open Sys2Proof

/-- A pose record (R156). -/
structure Pose where
  x : F32
  y : F32
  heading : F32
  art1 : F32
  art2 : F32
  speed : F32
  accel : F32
  curvature : F32
  deriving DecidableEq, Repr

def Pose.zero : Pose := ⟨0#32, 0#32, 0#32, 0#32, 0#32, 0#32, 0#32, 0#32⟩

/-- One step of a control sequence: curvature rate and jerk. -/
structure Control where
  sigma : F32
  jerk : F32
  deriving DecidableEq, Repr

/-- A candidate's record and poses (R155, R156), with the controls as clamped (R226) and the substep nodes (R239). -/
structure Expansion where
  cid : Nat
  poses : List Pose
  applied : List Control
  /-- Nodes 0 to J with the distance d of the substep that follows. -/
  nodes : List (Pose × F32)
  clampCount : Nat
  stopped : Bool
  limitCode : Nat
  limitStep : Nat
  deriving DecidableEq, Repr

/-- How an engine-program invocation stands (R302, R314, R316). -/
inductive InvStatus where
  | running
  /-- Ended by YIELD. -/
  | yielded
  /-- The candidate ended with a rejection code; in a filter the packet is discarded as malformed. -/
  | ended (code : Nat)
  /-- R316. -/
  | faulted
  deriving DecidableEq, Repr

/-- A loop in progress (R320): its body's first index, the index past it, and the iterations left after this one. -/
structure LoopFrame where
  start : Nat
  stop : Nat
  left : Nat
  deriving DecidableEq, Repr

/-- The kind of an engine program (R297). -/
inductive ProgKind where
  | tread | filter
  deriving DecidableEq, Repr

/-- One invocation of an engine program: the registers of R301, the spaces of R303 to R305 as the program sees them, and what it has produced. -/
structure Invocation where
  kind : ProgKind
  g : List Word
  v : List (List Word)
  p : List Bool
  acc : List F32
  pc : Nat
  loops : List LoopFrame
  status : InvStatus
  /-- The words of the program. -/
  code : List Word
  consts : List Byte
  /-- The tally area (R313): its length and its bytes. -/
  tallyLength : Nat
  tally : List Host.Cell
  /-- The candidate's state area at local addresses, or a filter's working area. -/
  mem : List Host.Cell
  /-- Tread: the candidate's expansion, its number within the block, the pose index and the horizon. -/
  exp : Expansion
  slot : Nat
  pose : Nat
  horizon : Nat
  /-- The map version read. -/
  version : Nat
  specMap : Bool
  /-- Filter: the packet's bytes and the words written to the output port. -/
  packet : List Byte
  output : List Nat
  merit : Option F32
  /-- The touched-tile signature: bit g set when a tile of group g was read (R192). -/
  groups : Nat
  queries : Nat
  /-- An ATOM ADD.F32 has taken effect (R318). -/
  fpAtomic : Bool
  /-- The program slot whose image runs, and whose tally area it adds to. -/
  progSlot : Option Nat
  /-- g0 to g7 as the invocation began (R302), and the frame it belongs to. -/
  first : List Word
  frame : Nat
  deriving DecidableEq, Repr

/-- A Stair entry (R205). -/
structure Entry where
  merit : F32
  cid : Nat
  empty : Bool
  clamped : Bool
  bisected : Bool
  beyond : Bool
  stale : Bool
  stopped : Bool
  withdrawn : Bool
  code : Nat
  deriving DecidableEq, Repr

/-- A padding entry (R210). -/
def Entry.padding : Entry :=
  ⟨0xFF800000#32, 0xFFFFFFFF, true, false, false, false, false, false, false, 0⟩

/-- A sorted list with its TIE_CUT (R209). -/
structure SortedList where
  entries : List Entry
  tieCut : Nat
  deriving DecidableEq, Repr

/-- A block record in the block table (R206). `beta` is its slot, `gallery` the Gallery whose stair unit received it. -/
structure BlockRec where
  beta : Nat
  frame : Nat
  version : Nat
  firstId : Nat
  entries : List Entry
  speculative : Bool
  withdrawn : Bool
  replay : Bool
  tieCut : Nat
  count : Nat
  rejected : Nat
  /-- Bit g set: tile group g was read. -/
  signature : Nat
  gallery : Nat
  /-- The special candidates' entries as offered, kept or not (R215); empty for other blocks. -/
  offered : List Entry
  /-- Entered the Gallery list, and forwarded to the top stair. -/
  inGallery : Bool
  inTop : Bool
  deriving DecidableEq, Repr

/-- R265: item kinds, in code order from 0x01. -/
inductive ItemKind where
  | candidateBlock | candidateSingle | reference | recheck | tileJob | qpInstance | streamPacket | hostCommand | selfTest | policyRun
  deriving DecidableEq, Repr

/-- The one list an item is in (R279): a dispatcher's ready or delay list, an engine's queue, service, a flow's chain behind its head,
held by central dispatch for a full delay list, or none yet of its dispatcher's ready lists because its inputs do not exist (R22, R270). -/
inductive ItemLoc where
  | ready (dispatcher : Nat)
  /-- `fresh`: it has never been ready, so that its ENQUEUE_TIME is still to be taken. -/
  | waiting (dispatcher : Nat) (fresh : Bool)
  | delay (dispatcher : Nat) (release : Nat)
  | held (dispatcher : Nat) (release : Nat)
  | chain (dispatcher : Nat)
  | queued (engine : Nat)
  | service (engine : Nat)
  /-- In service at a unit other than an engine, named by its dispatcher. -/
  | unit (dispatcher : Nat)
  deriving DecidableEq, Repr

/-- A work item (R266). `serial` is the order of creation, `field` its ARG as the descriptor and R270 have it, `arg` the model's own name for what it is about, and `home` the
dispatcher whose lists it is in or came from. -/
structure Item where
  serial : Nat
  kind : ItemKind
  level : Nat
  cls : Nat
  flow : Option Nat
  spec : Bool
  replay : Bool
  pinned : Bool
  late : Bool
  lane : Nat
  frame : Nat
  arg : Nat
  field : Nat
  version : Nat
  enqueue : Nat
  home : Nat
  loc : ItemLoc
  /-- Has committed its result and waits for its retirement (R264). -/
  committed : Bool
  /-- Its results are to be dropped (R23, R90). -/
  dropped : Bool
  deriving DecidableEq, Repr

/-- R291: the states of an engine or Gallery, in STATE's code order. -/
inductive UnitState where
  | inService | outFault | outAdmin | draining | rejoinPending | unavailable
  deriving DecidableEq, Repr

/-- An engine or Gallery (R284 to R291). -/
structure ServiceUnit where
  st : UnitState
  cause : Nat
  faults : Nat
  /-- The instant it registered with its dispatcher (R289). -/
  registered : Option Nat
  deriving DecidableEq, Repr

/-- What an engine holds of the block it serves: how many pose windows have been filled, and the expansions (R155). -/
structure EngineUnit where
  windows : Nat
  exps : List Expansion
  /-- The tread program in its program store. -/
  program : List Byte
  reloadDue : Bool
  deriving DecidableEq, Repr

/-- A re-evaluation under R211: the ID, whether its item has been created (R281), and whether it has committed. Its entry is the record in slot 4112 + n of the
frame's records, for re-evaluation slot n. -/
structure Reeval where
  cid : Nat
  started : Bool
  done : Bool
  deriving DecidableEq, Repr

/-- The proposal array's run for a frame (R146 to R149). -/
structure PolicyRun where
  started : Bool
  failed : Bool
  emitted : Nat
  total : Nat
  steps : Nat
  /-- The control sequences emitted so far, by proposal. -/
  output : List (List Control)
  /-- R141: conversions of a NaN to 0 in the run. -/
  numericEvents : Nat
  deriving DecidableEq, Repr

/-- A policy round that has not begun. -/
def PolicyRun.initial : PolicyRun := ⟨false, false, 0, 0, 0, [], 0⟩

/-- The special block's controls (R159 to R161): the continuation, if present, and the minimum-risk manoeuvre. -/
structure Special where
  continuation : Option (List Control)
  minRisk : List Control
  deriving DecidableEq, Repr

/-- The closed list record (R215). -/
structure ClosedList where
  frame : Nat
  k : Nat
  validCount : Nat
  corruptCount : Nat
  roundsMerged : Nat
  orderMode : Nat
  chips : Nat
  integrity : Bool
  collective : Bool
  roundDropped : Bool
  tieCut : Nat
  continuation : Entry
  minRisk : Entry
  places : List Entry
  deriving DecidableEq, Repr

/-- QP outcomes of R237. -/
inductive QpOutcome where
  | waiting | running | converged | iterationLimit | deadline | notStarted | infeasible | numeric
  deriving DecidableEq, Repr

/-- An iterate of a QP at one step (R230, R235): Δu_i, and the (slack, dual) of its rows on u_i and on x_i, family by family. -/
structure QpPart where
  du : List F32
  uRows : List (F32 × F32)
  xRows : List (F32 × F32)
  deriving DecidableEq, Repr

/-- The QP of a place (R227 to R238). -/
structure QpRun where
  outcome : QpOutcome
  iterations : Nat
  pivots : Nat
  /-- The physical lanes that run it, 16 to a solver (R233, R360). -/
  lanes : List Nat
  /-- It has started, perhaps more than once (R233). -/
  started : Bool
  /-- The last completed iterate, step by step. -/
  iterate : List QpPart
  deriving DecidableEq, Repr

/-- A plan point (R249). -/
structure PlanPoint where
  time : Nat
  pose : Pose
  stopped : Bool
  limited : Bool
  beyond : Bool
  deriving DecidableEq, Repr

/-- A prepared plan (R224): ladder position 0 to 63 places, 64 continuation, 65 minimum risk. -/
structure Plan where
  pos : Nat
  entry : Entry
  /-- The candidate's own sequence, the applied controls ū, and the final sequence. -/
  source : List Control
  applied : List Control
  controls : List Control
  reference : List Pose
  slack : List F32
  referenced : Bool
  qp : QpRun
  truncated : Bool
  regularised : Bool
  unrefined : Bool
  speedLimited : Bool
  iterLimit : Bool
  failed : Bool
  /-- The control sequence is settled, so the plan can be time-scaled. -/
  ready : Bool
  points : Option (List PlanPoint)
  /-- The last recheck: the version and whether it passed, with its code. -/
  verdict : Option (Nat × Nat)
  staleUsed : Bool
  /-- The sentry's verdict on this plan: agree or not (R474). -/
  sentry : Option Bool
  sentryPoint : Nat
  presented : Bool
  deriving DecidableEq, Repr

/-- An entry of the warm-start cache (R236): the structure signature and the iterate kept. -/
structure WarmEntry where
  place : Nat
  signature : Nat
  iterate : List QpPart
  deriving DecidableEq, Repr

/-- A published control sequence (R159, R248); `none` controls after NONE. -/
structure History where
  frame : Nat
  tick : Nat
  stepLength : Nat
  controls : Option (List Control)
  start : StartState
  /-- T + LandingStart of the frame. -/
  landing : Nat
  /-- The values of 0x4000:01 to 0x4000:1A under which the plan was made (R78). -/
  settings : List Nat
  deriving DecidableEq, Repr

/-- A result slot (R250, R251): GENERATION, READY, bytes 32 to 127 of the header, and the points. -/
structure ResultSlot where
  generation : Nat
  ready : Bool
  body : List Byte
  points : List Byte
  deriving DecidableEq, Repr

/-- A round of a frame (R213). -/
structure Round where
  /-- Frame block indexes issued. -/
  issued : List Nat
  /-- Every block of the round has been issued. -/
  complete : Bool
  /-- Merged in full, with the snapshot of the top stair's list taken then. -/
  snapshot : Option (List Entry)
  deriving DecidableEq, Repr

/-- What the device keeps of one of the two frames in flight (R24). -/
structure FrameWork where
  frame : Nat
  tick : Nat
  start : StartState
  reinitialised : Bool
  sealed : Bool
  version : Nat
  /-- The version that the seal numbered, before urgent deltas (R87), and the version against which verdicts count: none while an urgent one is being built (R88, R244). -/
  base : Nat
  due : Option Nat
  speculative : Bool
  /-- When run-ahead items of the frame are released (R272): SlackStart of the frame before. -/
  release : Option Nat
  /-- R360: S, the solvers in service as the list closed, less those lost until RefineStart; and w, the lanes of each QP under PHYSICAL decomposition, fixed as the first one starts:
  0 before, and under VIRTUAL. -/
  qpSolvers : Nat
  qpLanes : Nat
  /-- SolverStop has passed (R237). -/
  solverStopped : Bool
  policyBlocks : Nat
  applicable : List Nat
  /-- The library copy was being restored as the frame's work opened: no lattice candidates (R341). -/
  noLattice : Bool
  special : Special
  policy : PolicyRun
  rounds : List Round
  blocks : List BlockRec
  galleryLists : List SortedList
  topList : SortedList
  /-- Entries forwarded by the Galleries, oldest first. -/
  forwarded : List Entry
  reevals : List Reeval
  /-- IDs that have met one integrity fault, and those excluded after a second (R211, R212). -/
  faulted : List Nat
  excluded : List Nat
  evaluated : List Nat
  /-- Candidates whose expansion has been counted (R150, R153, R169), and the blocks and single candidates abandoned under R193 (Item.mark). -/
  counted : List Nat
  abandoned : List Nat
  closed : Option ClosedList
  /-- Bit n: code 0x0600 + n arose in the frame (R251). -/
  status : Nat
  /-- Determinism mask bits (R369). -/
  mask : Nat
  /-- Events already raised that are raised once per frame. -/
  once : List Nat
  plans : List Plan
  chosen : Option Nat
  landed : Bool
  slack : Bool
  /-- Squashes, withdrawals and integrity faults whose rebuild (R214) has not run. -/
  rebuildDue : Bool
  /-- R78 reinitialised the start, or the scene digest differs, at the commit point: run-ahead blocks still in service are squashed when they complete (R82). -/
  squashAll : Bool
  squashPolicy : Bool
  deriving DecidableEq, Repr

/-- The publication engine and the plan history. -/
structure Publisher where
  slots : List ResultSlot
  history : Option History
  warm : List WarmEntry
  lastList : List Byte
  /-- The plan status of the carried state (R377). -/
  carriedStatus : Nat
  /-- Status of the last Landing (R260). -/
  lastFrame : Nat
  lastStatus : Nat
  lastFrameStatus : Nat
  deriving DecidableEq, Repr

/-- Galleries, engines, items and central dispatch. -/
structure Dispatch where
  engines : List ServiceUnit
  galleries : List ServiceUnit
  units : List EngineUnit
  items : List Item
  nextSerial : Nat
  /-- The engine that serves each lane under the mapping in force (R268). -/
  laneEngine : List Nat
  /-- The load of each Gallery at the last ranking (R277). -/
  loads : List Nat
  withheld : Bool
  deriving DecidableEq, Repr

def ServiceUnit.initial : ServiceUnit := ⟨.unavailable, 0, 0, none⟩
def EngineUnit.initial : EngineUnit := ⟨0, [], [], false⟩

def Dispatch.initial : Dispatch :=
  { engines := List.replicate 512 ServiceUnit.initial, galleries := List.replicate 16 ServiceUnit.initial,
    units := List.replicate 512 EngineUnit.initial, items := [], nextSerial := 0, laneEngine := [], loads := List.replicate 16 0, withheld := false }

def Publisher.initial : Publisher :=
  { slots := List.replicate 16 ⟨0, false, [], []⟩, history := none, warm := [], lastList := [], carriedStatus := 3, lastFrame := 0, lastStatus := 3,
    lastFrameStatus := 0 }

def Expansion.empty : Expansion := ⟨0, [], [], [], 0, false, 0, 0⟩

/-- An invocation that has not begun. -/
def Invocation.initial : Invocation :=
  { kind := .tread, g := List.replicate 64 0#32, v := List.replicate 16 (List.replicate 8 0#32), p := List.replicate 8 false,
    acc := List.replicate 32 0#32, pc := 0, loops := [], status := .running, code := [], consts := [], tallyLength := 0, tally := [],
    mem := [], exp := Expansion.empty, slot := 0, pose := 0, horizon := 0, version := 0, specMap := false, packet := [], output := [],
    merit := none, groups := 0, queries := 0, fpAtomic := false, progSlot := none, first := List.replicate 8 0#32, frame := 0 }

end Sys2Proof.Machine
end

