-- ==== Sys2Proof/Machine/TypesSafety.lean ====
section
/-!
DEFINITION. The Newel with its pins, the sentry and the self-test (15_safety.md), the clock domains (R15 to R20), the power manager
(17_electrical.md), and start-up, flash and identity (16_startup_security.md).
-/
namespace Sys2Proof.Machine
open Sys2Proof

/-- The levels of the device's output pins (R524). The active-low pins are held as asserted or not. `floating` is a pad the device does not drive. -/
structure Pins where
  fault : Bool
  safeState : Bool
  planOk : Bool
  ready : Bool
  thermAlert : Bool
  /-- The input JTAG_TRST_N as last sampled, high or low; an internal pull-down holds an undriven one low. -/
  jtagTrst : Bool
  /-- PPS_OUT pulses of 1 ms given since reset (R67). -/
  ppsOut : Nat
  /-- FRAME_TICK pulses given since reset. -/
  ticks : Nat
  /-- The FAULT_N, SAFE_STATE_N and PLAN_OK pads float (R524). -/
  floating : Bool
  deriving DecidableEq, Repr

/-- A packet copy in the sentry buffer (R471): its records' bytes, whether it was closed with a PACKET_END, and whether its CRC matches. -/
structure SentryPacket where
  stream : Nat
  words : List Byte
  closed : Bool
  crcOk : Bool
  stamp : Nat
  frame : Nat
  deriving DecidableEq, Repr

/-- Records the Newel holds for a seal (R471): (MAP_FRAME_ID, record). -/
structure SentryHeld where
  stream : Nat
  frame : Nat
  records : List (Nat × UpdRec)
  deriving DecidableEq, Repr

/-- The sentry's own source state of a stream (R471). -/
structure SentrySource where
  stream : Nat
  tiles : List SrcTile
  agents : List Agent
  deriving DecidableEq, Repr

/-- What the sentry raster of a frame is drawn from (R472): the frame's placement and the sentry's source state at its seal. -/
structure SentryScene where
  frame : Nat
  landing : Nat
  start : StartState
  sources : List SentrySource
  deriving DecidableEq, Repr

/-- R487, R475: the verdicts, in LastVerdict's code order. -/
inductive Verdict where
  | agree | disagree | incomplete | noPlan
  deriving DecidableEq, Repr

/-- The course of a unit's self-test (R477, R481): the next segment, the end of its last pass or its entry into service, and how far an overdue pass has been reported
(0 not, 1 event 0x0A0B raised, 2 cause SELF_TEST set). -/
structure TestCourse where
  segment : Nat
  since : Nat
  overdue : Nat
  deriving DecidableEq, Repr

structure Newel where
  /-- The secret reconstructed from the SRAM array (R501), from which the identity private key and the settings key derive; 0 before start-up has reconstructed it. -/
  secret : Nat
  pins : Pins
  booted : Bool
  running : Bool
  faultCause : Nat
  /-- A warm sequence that began with a device fault latched has not yet reached READY (R463). -/
  faultHeld : Bool
  /-- NONE frames and publication failures hold this many more Landings (R460); `none` is no hold. -/
  hold : Option Nat
  safeFrame : Nat
  /-- The start-up hold of R461. -/
  startHold : Bool
  /-- The frame of the last publication failure (R468). -/
  lastPubFailure : Option Nat
  degraded : Nat
  /-- Causes whose clearing condition has been met within the span in which they were set (R465). -/
  setThisSpan : Nat
  clearDue : Nat
  /-- Landings without an INTEGRITY event and compared frames without a divergence, and the events of this frame. -/
  integrityRun : Nat
  lockstepRun : Nat
  corruptEvents : Nat
  excludedEvents : Nat
  diverged : Bool
  /-- The last cut-off of each singular unit (R470), by unit name. -/
  singular : List (Nat × Nat)
  /-- The 1 MiB sentry buffer, oldest packet first (R471). -/
  buffer : List SentryPacket
  held : List SentryHeld
  sources : List SentrySource
  scene : Option SentryScene
  mapFrame : Nat
  streak : Nat
  clearCount : Nat
  lastVerdict : Verdict
  lastFirstPoint : Nat
  /-- Self-test courses: engine e under e, Hall bank b under 1024 + b, stream buffer banks under 4096 + 2n + i. -/
  courses : List (Nat × TestCourse)
  /-- Segments passed by the units that await their rejoin: engine e under e, Gallery g under 512 + g (R289). -/
  rejoinTests : List (Nat × Nat)
  /-- The slices of Hall banks and stream-buffer banks placed for a slack, with their release (R478), under the units' numbers among the courses, and the one in service with its
  start on the tick clock. -/
  bankSlices : List (Nat × Nat)
  bankTest : Option (Nat × Nat)
  /-- The Landing margin of R466. -/
  marginNow : Int
  deriving DecidableEq, Repr

/-- A clock domain (R15 to R20). -/
structure ClockDomain where
  /-- Its source has locked since reset. -/
  locked : Bool
  /-- It runs: its clock has not stopped since. -/
  running : Bool
  /-- The last window's measurement lay outside the limits. -/
  outside : Bool
  fault : Bool
  deriving DecidableEq, Repr

/-- The power manager (R528 to R537). Temperatures are in °C, powers in W and voltages in V, as F32. -/
structure Power where
  temps : List F32
  tj : F32
  hottest : Nat
  /-- PackagePower of the last 1 ms window, and READ_IOUT. -/
  power : F32
  current : F32
  step : Nat
  demandT : Nat
  demandP : Nat
  /-- Consecutive windows below PowerLimit − 10 W. -/
  lowWindows : Nat
  /-- The core target in force, in V. -/
  target : F32
  alert : Bool
  tripped : Bool
  /-- PowerFaultCause, and the instant of the sample that wrote it (R536). -/
  faultCause : Nat
  faultAt : Nat
  /-- Since when Tj has been 125 °C or more with s at 8. -/
  hotSince : Option Nat
  /-- A step asked for and not yet applied (R529). -/
  wanted : Option Nat
  /-- A lower step whose voltage has been written and not yet settled, with the instant of the write. -/
  settling : Option (Nat × Nat)
  /-- A voltage write has failed and none has succeeded since. -/
  writeFailed : Bool
  /-- When ThrottledTime was last brought up to date, and the ns it does not hold yet (R537). -/
  lastEval : Nat
  throttledRest : Nat
  deriving DecidableEq, Repr

/-- R519: the states of a firmware slot, in STATE's code order. -/
inductive FwState where
  | empty | writing | verified | active | trial | rejected | invalid
  deriving DecidableEq, Repr

/-- An entry of the settings log (R506). -/
inductive LogEntry where
  | object (sequence key ty : Nat) (value : Value)
  | stagedDom (sequence key ty : Nat) (value : List Byte)
  /-- A commit entry: ActiveSetId, the count of entries since the previous commit, the staged entries it keeps, and its HMAC. -/
  | commit (sequence setId count : Nat) (keeps : List Nat) (mac : List Byte)
  deriving DecidableEq, Repr

/-- The settings area of a slot (R498, R506, R507): the format of its log, the half in use and the bytes used in it. -/
structure SettingsArea where
  format : Nat
  retired : Bool
  log : List LogEntry
  half : Nat
  used : Nat
  sequence : Nat
  deriving DecidableEq, Repr

/-- A firmware slot (R498, R509 to R513). -/
structure FwSlot where
  st : FwState
  attempts : Nat
  securityVersion : Nat
  image : List Byte
  /-- Blocks of 4 KiB erased ahead of a transfer's write pointer (R510). -/
  erased : Nat
  area : SettingsArea
  deriving DecidableEq, Repr

/-- R503: the units a part may use. -/
structure Availability where
  galleries : Nat
  quadrants : Nat
  solvers : Nat
  timeScalers : Nat
  ingress : Nat
  engines : Nat
  halls : Nat
  digest : Nat
  deriving DecidableEq, Repr

/-- R145, R168: the states of a model slot, in SlotState's code order. -/
inductive ModelState where
  | empty | loading | valid | invalid
  deriving DecidableEq, Repr

/-- A model slot of the model store. -/
structure ModelSlot where
  st : ModelState
  image : List Byte
  /-- The full SM3 measurement. -/
  measurement : List Byte
  deriving DecidableEq, Repr

/-- R518: the kinds of reset, in LastReset's code order. -/
inductive ResetKind where
  | powerOn | pcie | warm
  deriving DecidableEq, Repr

/-- A copy of the boot header (R499): each slot's state code and ATTEMPTS, the slot named as the next to boot (R511), MinSecurityVersion, the 64-bit write sequence, the SM3
digest truncated to 128 bits (R538) and the HMAC-SM3 under the settings key. -/
structure BootHeader where
  slots : List (Nat × Nat)
  next : Option Nat
  minSecurity : Nat
  sequence : Nat
  digest : List Byte
  mac : List Byte
  deriving DecidableEq, Repr

structure Boot where
  ready : Bool
  stage : Nat
  status : Nat
  warm : Bool
  stopped : Bool
  lastReset : ResetKind
  startupTime : Nat
  /-- POR_N or PERST_N is asserted. -/
  coldHeld : Bool
  /-- WARM_RST_N is low. -/
  warmHeld : Bool
  /-- VDDQ_G6 has left its limits while WARM_RST_N was low (R497). -/
  excursion : Bool
  /-- The journal header in GDDR6: its magic and IdentityDigest (R497). -/
  journalHeader : Option (Nat × Nat)
  slots : List FwSlot
  running : Nat
  nextBoot : Option Nat
  minSecurity : Nat
  /-- The write sequence of the boot header (R499). -/
  headerSequence : Nat
  /-- The header's two copies, the same on both flash devices. -/
  headers : List BootHeader
  /-- The manufacturing areas of flash devices A and B, as start-up found them (R498, R500). -/
  areas : List Part
  unitRecord : List Byte
  available : Availability
  /-- Stored DOM objects have been loaded (R508). -/
  domsLoaded : Bool
  storedBytes : Nat
  converted : Nat
  defaulted : Nat
  nonce : Option (List Byte)
  report : List Byte
  reportSequence : Nat
  models : List ModelSlot
  /-- The tally areas of the active images (R313, R324), by program slot. -/
  tallies : List (Nat × List Host.Cell)
  deriving DecidableEq, Repr

def Pins.initial : Pins :=
  { fault := true, safeState := true, planOk := false, ready := false, thermAlert := false, jtagTrst := false, ppsOut := 0, ticks := 0, floating := false }

/-- The Newel held in reset (R461): FAULT_N and SAFE_STATE_N asserted, PLAN_OK low. -/
def Newel.initial : Newel :=
  { secret := 0, pins := Pins.initial, booted := false, running := true, faultCause := 0, faultHeld := false, hold := none, safeFrame := 0, startHold := true,
    lastPubFailure := none, degraded := 0, setThisSpan := 0, clearDue := 0, integrityRun := 0, lockstepRun := 0, corruptEvents := 0, excludedEvents := 0,
    diverged := false, singular := [], buffer := [], held := [], sources := [], scene := none, mapFrame := 0, streak := 0, clearCount := 0,
    lastVerdict := .noPlan, lastFirstPoint := 0, courses := [], rejoinTests := [], bankSlices := [], bankTest := none, marginNow := 0 }

def ClockDomain.initial : ClockDomain := ⟨false, false, false, false⟩

/-- The power manager before the first sample: the core at its boot value of 0.78 V (R528, R536). -/
def Power.initial : Power :=
  { temps := List.replicate 32 0#32, tj := 0#32, hottest := 0, power := 0#32, current := 0#32, step := 0, demandT := 0, demandP := 0, lowWindows := 0,
    target := 0x3F47AE14#32, alert := false, tripped := false, faultCause := 0, faultAt := 0, hotSince := none, wanted := none, settling := none, writeFailed := false, lastEval := 0, throttledRest := 0 }

def SettingsArea.initial : SettingsArea := ⟨4, false, [], 0, 0, 0⟩

def Availability.initial : Availability := ⟨0, 0, 0, 0, 0, 0, 0, 0⟩

/-- Start-up state while power-on reset is held: slot A active, slot B empty. -/
def Boot.initial : Boot :=
  { ready := false, stage := 0, status := 0, warm := false, stopped := false, lastReset := .powerOn, startupTime := 0, coldHeld := true, warmHeld := false,
    excursion := false, journalHeader := none,
    slots := [⟨.active, 0, 0, [], 0, SettingsArea.initial⟩, ⟨.empty, 0, 0, [], 0, SettingsArea.initial⟩], running := 0, nextBoot := none, minSecurity := 0,
    headerSequence := 0, headers := List.replicate 2 ⟨[(3, 0), (0, 0)], none, 0, 0, [], []⟩, areas := [], unitRecord := [], available := Availability.initial, domsLoaded := false, storedBytes := 0, converted := 0, defaulted := 0,
    nonce := none, report := [], reportSequence := 0, models := List.replicate 16 ⟨.empty, [], []⟩, tallies := [] }

end Sys2Proof.Machine
end

