-- ==== Sys2Proof/Machine/TypesGroup.lean ====
section
/-!
DEFINITION. Peer ports, queue pairs and the chip group (14_peer_links.md), and replay, regeneration and lock-step comparison (12_determinism.md).
-/
namespace Sys2Proof.Machine
open Sys2Proof

/-- R454: the states of a peer, in STATE's code order. -/
inductive PeerStatus where
  | absent | joining | present | lost | self
  deriving DecidableEq, Repr

/-- What a HELLO reported: a frame, its tick and the sender's group digest for it (R433, R436). -/
structure HelloInfo where
  frame : Nat
  tick : Nat
  digest : Nat
  setId : Nat
  deriving DecidableEq, Repr

/-- How a chip that was not heard came to be heard again (R449, R450): this chip had lost the other and both ran on, the other has begun anew, or this chip has. -/
inductive Rejoin where
  | both | theirs | own
  deriving DecidableEq, Repr

/-- What the device keeps of chip c (R433 to R450, R454). -/
structure Peer where
  st : PeerStatus
  role : Nat
  outOfStep : Bool
  lossCount : Nat
  /-- The last instant a valid message, and a HELLO on each port, was heard. -/
  heard : Option Nat
  hello0 : Option Nat
  hello1 : Option Nat
  joinSince : Nat
  rxSeq : Nat
  txSeq : Nat
  last : Option HelloInfo
  /-- The frame in which the peer was last found out of step. -/
  outFrame : Option Nat
  rejoin : Rejoin
  /-- The frame at whose tick the chip became PRESENT (R450). -/
  since : Nat
  deriving DecidableEq, Repr

/-- A message sent on a queue pair and not acknowledged (R427, R430). -/
structure QpMessage where
  number : Nat
  /-- Its priority (R428), and whether it has been sent: a PFC pause holds it back. -/
  priority : Nat
  sent : Bool
  msg : WireMsg
  deriving DecidableEq, Repr

/-- A RoCEv2 queue pair (R427, R429). The rate is in bits a second. `timer` is when the local ACK timeout last began to run. -/
structure QueuePair where
  rate : Nat
  lastCnp : Option Nat
  lastRaise : Nat
  /-- The last congestion notification the device returned. -/
  cnpSent : Option Nat
  nextMessage : Nat
  outstanding : List QpMessage
  timer : Nat
  retries : Nat
  /-- Retries exhausted: in error until re-established. -/
  error : Bool
  deriving DecidableEq, Repr

/-- A peer port (R426, R428, R430). `paused` is a mask of the priorities a PFC pause holds; `lastAck` the last acknowledgement, or when messages became outstanding; `held` what of
InputPriority a pause holds back besides the queue pairs' messages. -/
structure PeerPort where
  up : Bool
  paused : Nat
  lastAck : Nat
  held : List WireMsg
  deriving DecidableEq, Repr

/-- A closed list received from a proposer (R441): its record and the control sequences of its places. -/
structure ListMsg where
  chip : Nat
  list : ClosedList
  controls : List (List Control)
  deriving DecidableEq, Repr

/-- A PLAN received (R442): the frame, the published slot header and the published control sequence. -/
structure PlanMsg where
  frame : Nat
  header : List Byte
  controls : List Control
  deriving DecidableEq, Repr

/-- A journal record mirrored by a peer (R443); `ackDue` is the frame and the SEQUENCE of its MIRROR message while it waits for a descriptor of this chip's pool (R282). -/
structure MirrorRec where
  chip : Nat
  record : JRec
  ackDue : Option (Nat × Nat)
  deriving DecidableEq, Repr

structure Group where
  /-- 0xFF is no role (R454). -/
  role : Nat
  activePort : Nat
  ports : List PeerPort
  peers : List Peer
  qps : List (Nat × QueuePair)
  digest : Nat
  /-- The group digests of the last frames (R433, R436): (frame, digest). -/
  digests : List (Nat × Nat)
  /-- Requests answered with a NAK for an invalid request (R427); no object shows the count. -/
  naks : Nat
  /-- When HELLO was last sent (R436). -/
  helloSent : Option Nat
  /-- The segments received so far of messages in several segments (R433), under 16 × sender + KIND. -/
  parts : List (Nat × List Byte)
  lists : List ListMsg
  plan : Option PlanMsg
  mirrored : List MirrorRec
  /-- Journal records sent in MIRROR messages and not acknowledged: (MIRROR sequence, record). -/
  mirrorSent : List (Nat × Nat)
  /-- The mirror target is unavailable and event 0x0908 has been raised (R444). -/
  mirrorDown : Bool
  /-- R445: when the current frame period of the peer budget began, and the bytes of the mirror and of the map chain sent in it. -/
  budgetSince : Nat
  budgetSpent : Nat
  /-- The data priority of the peer ports is paused (R282, R428). -/
  pauseSent : Bool
  /-- The STANDBY role is to be taken at the next frame tick (R449), or the REFINER role (R448). -/
  takeAtTick : Option Nat
  /-- Chips whose role this chip has taken (R448). -/
  alsoWorld : Bool
  /-- The rejoined chip that awaits the carried state taken at the next seal (R450). -/
  checkpointDue : Option Nat
  deriving DecidableEq, Repr

/-- R385: ReplayState, in code order. -/
inductive ReplayState where
  | live | entering | replaying | leaving
  deriving DecidableEq, Repr

/-- A phase digest (R362): the frame, phase code, round, its step digests by index and its root. -/
structure PhaseDigest where
  frame : Nat
  phase : Nat
  round : Nat
  leaves : List (Nat × Nat)
  root : Nat
  /-- Every step of the phase has its content. -/
  ready : Bool
  /-- The root is final, and it has been sent (DIGEST_FINAL). -/
  final : Bool
  /-- Already compared with the peer's. -/
  compared : Bool
  deriving DecidableEq, Repr

/-- A phase digest received from the peer (R379) with the peer's determinism mask. -/
structure PeerDigest where
  frame : Nat
  phase : Nat
  round : Nat
  root : Nat
  mask : Nat
  deriving DecidableEq, Repr

/-- A divergence search (R381): the tree, and the node reached as (level from the root, index at that level). -/
structure Search where
  frame : Nat
  phase : Nat
  round : Nat
  level : Nat
  node : Nat
  deriving DecidableEq, Repr

/-- R386: LockstepLast. -/
structure LastDivergence where
  frame : Nat
  step : Nat
  localDigest : Nat
  peerDigest : Nat
  peerMask : Nat
  deriving DecidableEq, Repr

/-- The replayed frame in progress (R376): its descriptor's frame, tick, and the journal record it completes. -/
structure ReplayRun where
  frame : Nat
  tick : Nat
  record : Nat
  /-- The packets of its log that still wait for a descriptor (R282, R376): (stream, stamp, packet). -/
  packets : List (Nat × Nat × List Byte)
  deriving DecidableEq, Repr

/-- What a stream carries from frame to frame (R377): its source state (R107), its lost-key records (R341), its stale count (R127) and its filter working area (R305). -/
structure CarriedStream where
  tiles : List SrcTile
  agents : List Agent
  segments : List RouteSeg
  ego : Option EgoState
  newest : Option Nat
  staleRun : Nat
  lostKeys : List LostKey
  lostUntil : Nat
  working : List Host.Cell
  deriving DecidableEq, Repr

/-- R377: the carried state of a frame, with the map frame and the reference position that R95 and R107 keep beside the streams. -/
structure Carried where
  streams : List CarriedStream
  mapFrame : Nat
  refX : F64
  refY : F64
  history : Option History
  status : Nat
  warm : List WarmEntry
  deriving DecidableEq, Repr

structure Determinism where
  replay : ReplayState
  /-- The current frame is a replayed one: it runs unpaced (R376). -/
  unpaced : Bool
  lastReplayed : Option Nat
  run : Option ReplayRun
  stepCounter : Nat
  landingStep : Nat
  maskFrame : Nat
  mask : Nat
  /-- The masks of the frames landed last, by frame, for the class of a divergence (R382). -/
  masks : List (Nat × Nat)
  /-- The held frame of R373. -/
  held : Option FrameWork
  /-- The active set of the held frame (R374). -/
  heldSet : ObjMap
  /-- The steps' digests of the current and the previous frame (R379). -/
  own : List PhaseDigest
  peer : List PeerDigest
  search : Option Search
  waiting : List Search
  /-- Frames that have diverged, and those whose first diverging step has been searched. -/
  divergedFrames : List Nat
  last : LastDivergence
  /-- Disturbances and choices that arose after a Landing, charged to the next frame (R369). -/
  carryMask : Nat
  /-- The carried-state images this device has made, with what each holds: the model's own record, since the spec gives an image no layout (log entry 24). -/
  images : List (List Byte × Carried)
  /-- Carried-state images taken at a seal for DUMP descriptors (R410): (journal record, StepCounter, image). -/
  dumps : List (Nat × Nat × List Byte)
  deriving DecidableEq, Repr

def Peer.initial : Peer := ⟨.absent, 0, false, 0, none, none, none, 0, 0, 0, none, none, .both, 0⟩
/-- R429: the full rate, 100 Gb/s. -/
def fullRate : Nat := 100000000000
def QueuePair.initial : QueuePair := ⟨fullRate, none, 0, none, 0, [], 0, 0, false⟩
def PeerPort.initial : PeerPort := ⟨false, 0, 0, []⟩

def Group.initial : Group :=
  { role := 0, activePort := 0, ports := List.replicate 2 PeerPort.initial, peers := List.replicate 4 Peer.initial, qps := [], digest := 0, digests := [], naks := 0, helloSent := none, parts := [],
    lists := [], plan := none, mirrored := [], mirrorSent := [], mirrorDown := false, budgetSince := 0, budgetSpent := 0, pauseSent := false, takeAtTick := none,
    alsoWorld := false, checkpointDue := none }

def Determinism.initial : Determinism :=
  { replay := .live, unpaced := false, lastReplayed := none, run := none, stepCounter := 0, landingStep := 0, maskFrame := 0, mask := 0, masks := [], held := none, heldSet := [], own := [], peer := [],
    search := none, waiting := [], divergedFrames := [], last := ⟨0, 0, 0, 0, 0⟩, carryMask := 0, images := [], dumps := [] }

end Sys2Proof.Machine
end

