-- ==== Sys2Proof/Config.lean ====
section
/-!
DEFINITION. What one part or one implementation fixes, and the free values: constants without a body, of which nothing can be proved (log entries 9 to 13).
Values that the device draws anew take the number of the draw, a counter of the state.
-/
namespace Sys2Proof.Config

/-- R33: patch and build of the firmware the device was made with, in the layout of 0x100A [15:0]; its major and minor are release 4.0's (R33). -/
opaque firmwareBuild : BitVec 16
/-- R504: the provisioning key of the factory table, which the integrator supplies. -/
opaque provisioningKey : BitVec 512
/-- R504: the signature of the factory key table. -/
opaque factorySignature : BitVec 512
/-- R500, R516: the measurement of the firmware the device was made with, and the digest of an image's Newel portion, which the spec does not place (no bytes: the image the
device was made with). -/
opaque firmwareMeasurement : BitVec 256
opaque newelMeasurement : List Byte → BitVec 256
/-- R46, R515: the random number of an SM2 signature, the last where the standard draws again. -/
opaque signatureScalar : Nat → BitVec 256
/-- R46: the device's nonce of a setup, and the random scalar of its ephemeral key. -/
opaque deviceNonce : Nat → BitVec 128
opaque deviceSecret : Nat → BitVec 256
/-- R499, R511: the boot header's bytes before its digest, of which the spec gives the content and not the layout: each slot's state and ATTEMPTS, the slot named as the next to
boot, MinSecurityVersion and the write sequence. -/
opaque headerImage : List (Nat × Nat) → Option Nat → Nat → Nat → List Byte
/-- R97, R472: whether an FP64 sine or cosine is rounded up or down, which the spec does not state; and its value for an angle of 2^64 and more, where the spec states no reduction
(log entry 7). -/
opaque sin64Up : F64 → Bool
opaque cos64Up : F64 → Bool
opaque sin64 : F64 → F64
opaque cos64 : F64 → F64
/-- R117, R337: where the n-th tile written lies in the map store. -/
opaque tileAddress : Nat → BitVec 32
/-- R142 to R146: one control (curvature rate, jerk) of the policy's output, for the scene tensor, the model's measurement, the number of quadrants that sum under
PHYSICAL decomposition (8 otherwise), the proposal and the step. The model body's format is not in the spec. -/
opaque policyControl : List Byte → List Byte → Nat → Nat → Nat → F32 × F32
/-- R141: how many conversions inside a model run meet a NaN (log entry 60), for the same scene, measurement and number of quadrants. -/
opaque policyNumeric : List Byte → List Byte → Nat → Nat
/-- R141: which NaN of a format a NaN converts to, and its sign, by the place of the format's sign bit and its fraction bits (log entry 60). -/
opaque narrowNan : Nat → Nat → BitVec 16
/-- A value the spec does not state, by the place of the question and the number of the draw. -/
opaque openValue : Nat → Nat → BitVec 64
/-- R438: acceleration, curvature and articulation angles 1 and 2 of a start state received in a VERSION record, which does not hold them: by the frame and start fields it holds, and the
field (log entry 48). -/
opaque startTail : List Byte → Nat → F32
/-- R328, R331: what the 64-bit word of a Hall region at a place holds: by the region, the word's place in it, and which of the model's questions about the word is meant (log entry 41). -/
opaque hallWord : Nat → Nat → Nat → BitVec 64
/-- R417: ARG and ARG2 of an event, where the spec does not state them: by its code and its number since reset (log entry 14). -/
opaque eventArg : Nat → Nat → BitVec 32
opaque eventArg2 : Nat → Nat → BitVec 64
/-- R528: the regulator's LSB, as its VOUT_MODE gives it: 2^−e V. -/
opaque voutExponent : BitVec 5

/-- R377: the carried-state image, and what an image holds that this device did not make. The spec gives the image's content and not its layout (log entry 24). -/
opaque carriedImage : Machine.Carried → List Byte
opaque carriedOf : List Byte → Option Machine.Carried

end Sys2Proof.Config
end

