-- ==== Sys2Proof/Machine/Crypto.lean ====
section
/-!
DEFINITION. The algorithms the spec names by their standards, computed on bytes: SM3 (GB/T 32905), HMAC-SM3 (RFC 2104, R40),
SM4 encryption of one block (GB/T 32907, R164) and the CRC-32C register (R315, R251). PRESUMED: the algorithms' constants come from
those standards, which the spec names and does not reprint (log entry 6).
-/
namespace Sys2Proof.Machine
open Sys2Proof

/-- Left rotation of a 32-bit word. -/
def rotl (n : Nat) (x : Word) : Word := x.rotateLeft n

/-- The big-endian word at the head of four bytes. -/
def wordBE (a b c d : Byte) : Word := BitVec.ofNat 32 (beNat [a, b, c, d])

/-- Bytes as big-endian words; a short tail is dropped. -/
def wordsBE : List Byte → List Word
  | a :: b :: c :: d :: rest => wordBE a b c d :: wordsBE rest
  | _ => []

/-- Words as big-endian bytes. -/
def bytesOfWordsBE (ws : List Word) : List Byte := ws.flatMap (fun w => beBytes 4 w.toNat)

/-- The initial chaining value of SM3. -/
def sm3Init : List Word :=
  [0x7380166f, 0x4914b2b9, 0x172442d7, 0xda8a0600, 0xa96f30bc, 0x163138aa, 0xe38dee4d, 0xb0fb0e4e]

def sm3P0 (x : Word) : Word := x ^^^ rotl 9 x ^^^ rotl 17 x
def sm3P1 (x : Word) : Word := x ^^^ rotl 15 x ^^^ rotl 23 x
def sm3FF (j : Nat) (x y z : Word) : Word := if j < 16 then x ^^^ y ^^^ z else (x &&& y) ||| (x &&& z) ||| (y &&& z)
def sm3GG (j : Nat) (x y z : Word) : Word := if j < 16 then x ^^^ y ^^^ z else (x &&& y) ||| (~~~x &&& z)
def sm3T (j : Nat) : Word := if j < 16 then 0x79cc4519#32 else 0x7a879d8a#32

/-- Message expansion: the list is newest first, and each new word is made from its predecessors. -/
def sm3Expand : Nat → List Word → List Word
  | 0, ws => ws
  | n + 1, ws =>
    let g (k : Nat) : Word := ws.getD k 0#32
    sm3Expand n ((sm3P1 (g 15 ^^^ g 8 ^^^ rotl 15 (g 2)) ^^^ rotl 7 (g 12) ^^^ g 5) :: ws)

/-- The eight working registers of SM3's compression. -/
structure Sm3Regs where
  a : Word
  b : Word
  c : Word
  d : Word
  e : Word
  f : Word
  g : Word
  h : Word
  deriving DecidableEq, Repr

/-- One round with expanded words `w` and `w'` (w' = w ⊕ the word four later). -/
def sm3Round (j : Nat) (w w' : Word) (r : Sm3Regs) : Sm3Regs :=
  let ss1 := rotl 7 (rotl 12 r.a + r.e + rotl (j % 32) (sm3T j))
  let ss2 := ss1 ^^^ rotl 12 r.a
  let tt1 := sm3FF j r.a r.b r.c + r.d + ss2 + w'
  let tt2 := sm3GG j r.e r.f r.g + r.h + ss1 + w
  { a := tt1, b := r.a, c := rotl 9 r.b, d := r.c, e := sm3P0 tt2, f := r.e, g := rotl 19 r.f, h := r.g }

/-- Rounds j, j + 1, … over the expanded words. -/
def sm3Rounds : Nat → Nat → List Word → Sm3Regs → Sm3Regs
  | 0, _, _, r => r
  | n + 1, j, ws, r => sm3Rounds n (j + 1) ws.tail (sm3Round j (ws.getD 0 0#32) (ws.getD 0 0#32 ^^^ ws.getD 4 0#32) r)

/-- Compression of one 64-byte block into the chaining value. -/
def sm3Compress (v : List Word) (block : List Word) : List Word :=
  let ws := (sm3Expand 52 block.reverse).reverse
  let g (k : Nat) : Word := v.getD k 0#32
  let r := sm3Rounds 64 0 ws ⟨g 0, g 1, g 2, g 3, g 4, g 5, g 6, g 7⟩
  [r.a ^^^ g 0, r.b ^^^ g 1, r.c ^^^ g 2, r.d ^^^ g 3, r.e ^^^ g 4, r.f ^^^ g 5, r.g ^^^ g 6, r.h ^^^ g 7]

/-- Compression of every 16-word block in turn. -/
def sm3Blocks : Nat → List Word → List Word → List Word
  | 0, _, v => v
  | n + 1, ws, v => sm3Blocks n (ws.drop 16) (sm3Compress v (ws.take 16))

/-- The padded message: a one bit, zeros, and the length in bits as 8 bytes. -/
def sm3Pad (m : List Byte) : List Byte :=
  m ++ 0x80#8 :: List.replicate ((119 - m.length % 64) % 64) 0#8 ++ beBytes 8 (8 * m.length)

/-- The SM3 digest of a message, 32 bytes. -/
def sm3 (m : List Byte) : List Byte :=
  let p := sm3Pad m
  bytesOfWordsBE (sm3Blocks (p.length / 64) (wordsBE p) sm3Init)

/-- R538: the first 64 bits of the SM3 digest. -/
def sm3First64 (m : List Byte) : Nat := first64 (sm3 m)

/-- HMAC-SM3 of RFC 2104 (R40). -/
def hmacSm3 (key m : List Byte) : List Byte :=
  let k0 := if key.length > 64 then sm3 key else key
  let k := k0 ++ List.replicate (64 - k0.length) 0#8
  sm3 (k.map (· ^^^ 0x5c#8) ++ sm3 (k.map (· ^^^ 0x36#8) ++ m))

/-- The S-box of SM4: entry x is byte x. -/
def sm4Sbox : Nat := 0x4839cbd73e5fee79204ddc3aec7df01884c66ec509f1b9657e77960c4a976989b0b4e5b812d0742dbd7bcda58831c10ad85a101f415cd9117fbcddbb92af1b8d515b6c6d726aff032f8efdde4537dbd56f4e530dab2329c060ca66822ee2f61de3b18cf5303293ad551a349ba45daee0a11561f9cef2f7a3b538c740d28abfea9ec8c4a0e702364c5227d39f574600d4877821013b7c2225a2d158635e0e241e359d56704b0febf88bda6471b2816b68a84f85e6193c5983ba1773f3fca70747a63f8f75fa94df8095e808c9a91cb3e462accfed430b54337a98ef91f450429c99068649261344aac304be2a769a672b052cfb28c214b616b73de1ccfee990d6

def sm4SubByte (x : Byte) : Byte := BitVec.ofNat 8 (bitsAt sm4Sbox (8 * x.toNat) 8)

/-- The S-box on each byte of a word. -/
def sm4Tau (x : Word) : Word :=
  BitVec.ofNat 32 (leNat ((leBytes 4 x.toNat).map sm4SubByte))

def sm4L (x : Word) : Word := x ^^^ rotl 2 x ^^^ rotl 10 x ^^^ rotl 18 x ^^^ rotl 24 x
def sm4LKey (x : Word) : Word := x ^^^ rotl 13 x ^^^ rotl 23 x

/-- The constant CK_i: byte j is (4i + j)·7 mod 256. -/
def sm4CK (i : Nat) : Word :=
  wordBE (BitVec.ofNat 8 (28 * i)) (BitVec.ofNat 8 (28 * i + 7)) (BitVec.ofNat 8 (28 * i + 14)) (BitVec.ofNat 8 (28 * i + 21))

/-- Four words of SM4 state. -/
structure Sm4Quad where
  x0 : Word
  x1 : Word
  x2 : Word
  x3 : Word
  deriving DecidableEq, Repr

/-- Key schedule and encryption side by side: round i derives the round key and uses it. -/
def sm4Rounds : Nat → Nat → Sm4Quad → Sm4Quad → Sm4Quad
  | 0, _, _, x => x
  | n + 1, i, k, x =>
    let rk := k.x0 ^^^ sm4LKey (sm4Tau (k.x1 ^^^ k.x2 ^^^ k.x3 ^^^ sm4CK i))
    let y := x.x0 ^^^ sm4L (sm4Tau (x.x1 ^^^ x.x2 ^^^ x.x3 ^^^ rk))
    sm4Rounds n (i + 1) ⟨k.x1, k.x2, k.x3, rk⟩ ⟨x.x1, x.x2, x.x3, y⟩

/-- SM4 encryption of one 16-byte block under a 16-byte key. -/
def sm4Encrypt (key block : List Byte) : List Byte :=
  let q (ws : List Word) : Sm4Quad := ⟨ws.getD 0 0#32, ws.getD 1 0#32, ws.getD 2 0#32, ws.getD 3 0#32⟩
  let mk := q (wordsBE key)
  let k : Sm4Quad := ⟨mk.x0 ^^^ 0xA3B1BAC6#32, mk.x1 ^^^ 0x56AA3350#32, mk.x2 ^^^ 0x677D9197#32, mk.x3 ^^^ 0xB27022DC#32⟩
  let r := sm4Rounds 32 0 k (q (wordsBE block))
  bytesOfWordsBE [r.x3, r.x2, r.x1, r.x0]

/-- One bit of the reflected CRC-32C register (polynomial 0x82F6_3B78, R315). -/
def crcBit (c : Word) : Word := if c.getLsbD 0 then (c >>> 1) ^^^ 0x82F63B78#32 else c >>> 1

def crcBits : Nat → Word → Word
  | 0, c => c
  | n + 1, c => crcBits n (crcBit c)

/-- One byte into the register, with no inversion. -/
def crcByte (c : Word) (b : Byte) : Word := crcBits 8 (c ^^^ b.zeroExtend 32)

/-- The register advanced over bytes in order (R315). -/
def crcRun (c : Word) (bs : List Byte) : Word := bs.foldl crcByte c

/-- CRC-32C with inversion at both ends (R251). -/
def crc32c (bs : List Byte) : Word := ~~~(crcRun 0xFFFFFFFF#32 bs)

end Sys2Proof.Machine
end

