-- ==== Sys2Proof/Machine/Sm2.lean ====
section
/-!
DEFINITION. SM2 signature verification (GB/T 32918) over the recommended 256-bit prime curve, which R46, R145, R298, R500, R504 and R510 rely on.
PRESUMED: the curve and the verification equation come from the standard the spec names (log entry 6). DEDUCED: the value signed is the SM3 digest the rule names,
with no identifier digest in front, and the coordinates and r, s are 32-byte fields stored under R5 (log entry 8).
-/
namespace Sys2Proof.Machine
open Sys2Proof

def sm2P : Nat := 0xFFFFFFFEFFFFFFFFFFFFFFFFFFFFFFFFFFFFFFFF00000000FFFFFFFFFFFFFFFF
def sm2A : Nat := 0xFFFFFFFEFFFFFFFFFFFFFFFFFFFFFFFFFFFFFFFF00000000FFFFFFFFFFFFFFFC
def sm2B : Nat := 0x28E9FA9E9D9F5E344D5A9E4BCF6509A7F39789F515AB8F92DDBCBD414D940E93
def sm2N : Nat := 0xFFFFFFFEFFFFFFFFFFFFFFFFFFFFFFFF7203DF6B21C6052B53BBF40939D54123
def sm2Gx : Nat := 0x32C4AE2C1F1981195F9904466A39C9948FE30BBFF2660BE1715A4589334C74C7
def sm2Gy : Nat := 0xBC3736A2F4F6779C59BDCEE36B692153D0A9877CC62A474002DF32E52139F0A0

/-- A point in Jacobian coordinates; z = 0 is the point at infinity. -/
structure JPoint where
  x : Nat
  y : Nat
  z : Nat
  deriving DecidableEq, Repr

/-- a − b modulo the field prime. -/
def fieldSub (a b : Nat) : Nat := (a + sm2P - b) % sm2P

/-- Doubling. -/
def JPoint.double (q : JPoint) : JPoint :=
  if q.z == 0 || q.y == 0 then ⟨1, 1, 0⟩ else
  let yy := q.y * q.y % sm2P
  let s := 4 * q.x * yy % sm2P
  let zz := q.z * q.z % sm2P
  let m := (3 * q.x * q.x + sm2A * (zz * zz % sm2P)) % sm2P
  let x := fieldSub (m * m % sm2P) (2 * s % sm2P)
  ⟨x, fieldSub (m * fieldSub s x % sm2P) (8 * yy * yy % sm2P), 2 * q.y * q.z % sm2P⟩

/-- Addition. -/
def JPoint.add (a b : JPoint) : JPoint :=
  if a.z == 0 then b else if b.z == 0 then a else
  let za := a.z * a.z % sm2P
  let zb := b.z * b.z % sm2P
  let ua := a.x * zb % sm2P
  let ub := b.x * za % sm2P
  let sa := a.y * (zb * b.z % sm2P) % sm2P
  let sb := b.y * (za * a.z % sm2P) % sm2P
  let h := fieldSub ub ua
  let r := fieldSub sb sa
  if h == 0 then (if r == 0 then a.double else ⟨1, 1, 0⟩) else
  let hh := h * h % sm2P
  let hhh := hh * h % sm2P
  let v := ua * hh % sm2P
  let x := fieldSub (fieldSub (r * r % sm2P) hhh) (2 * v % sm2P)
  ⟨x, fieldSub (r * fieldSub v x % sm2P) (sa * hhh % sm2P), h * a.z * b.z % sm2P⟩

/-- k·g + t·q, reading `n` bits of each factor from the top. -/
def JPoint.mulAdd (g q : JPoint) (k t : Nat) : Nat → JPoint → JPoint
  | 0, acc => acc
  | n + 1, acc =>
    let d := acc.double
    let d := if k.testBit n then d.add g else d
    mulAdd g q k t n (if t.testBit n then d.add q else d)

/-- The point at infinity. -/
def JPoint.zero : JPoint := ⟨1, 1, 0⟩

/-- x^e modulo the field prime, over the low `n` bits of e. -/
def fieldPow (x e : Nat) : Nat → Nat → Nat
  | 0, acc => acc
  | n + 1, acc =>
    let q := acc * acc % sm2P
    fieldPow x e n (if e.testBit n then q * x % sm2P else q)

/-- The affine x coordinate. -/
def JPoint.affineX (q : JPoint) : Nat :=
  let i := fieldPow q.z (sm2P - 2) 256 1
  q.x * (i * i % sm2P) % sm2P

/-- A public key lies on the curve. -/
def sm2OnCurve (x y : Nat) : Bool :=
  decide (x < sm2P) && decide (y < sm2P) && (y * y % sm2P == (x * x % sm2P * x + sm2A * x + sm2B) % sm2P)

/-- SM2 verification: `key` is x then y, `signature` r then s, each 32 bytes stored under R5; `digest` is the SM3 digest signed. -/
def sm2Verify (key digest signature : List Byte) : Bool :=
  let x := fieldAt key 0 32
  let y := fieldAt key 32 32
  let r := fieldAt signature 0 32
  let s := fieldAt signature 32 32
  let t := (r + s) % sm2N
  sm2OnCurve x y && decide (1 ≤ r) && decide (r < sm2N) && decide (1 ≤ s) && decide (s < sm2N) && t != 0 &&
    (let q := JPoint.mulAdd ⟨sm2Gx, sm2Gy, 1⟩ ⟨x, y, 1⟩ s t 256 JPoint.zero
     q.z != 0 && (beNat digest + q.affineX) % sm2N == r)

/-- The affine y coordinate. -/
def JPoint.affineY (q : JPoint) : Nat :=
  let i := fieldPow q.z (sm2P - 2) 256 1
  q.y * (i * i % sm2P * i % sm2P) % sm2P

/-- d·q. -/
def JPoint.mul (q : JPoint) (d : Nat) : JPoint := JPoint.mulAdd q JPoint.zero d 0 256 JPoint.zero

/-- A private scalar from a random number: 1 to the group order less 2. -/
def sm2Scalar (d : Nat) : Nat := d % (sm2N - 2) + 1

/-- The public key of a scalar: x then y. -/
def sm2Public (d : Nat) : List Byte := let q := JPoint.mul ⟨sm2Gx, sm2Gy, 1⟩ d; leBytes 32 q.affineX ++ leBytes 32 q.affineY

/-- R47: the x coordinate of the point that a scalar shares with a public key, as a field element of GB/T 32918. -/
def sm2SharedX (d : Nat) (key : List Byte) : List Byte := beBytes 32 (JPoint.mul ⟨fieldAt key 0 32, fieldAt key 32 32, 1⟩ d).affineX

/-- x^e modulo the group order, over the low `n` bits of e. -/
def orderPow (x e : Nat) : Nat → Nat → Nat
  | 0, acc => acc
  | n + 1, acc =>
    let q := acc * acc % sm2N
    orderPow x e n (if e.testBit n then q * x % sm2N else q)

/-- SM2 signing: the signature, r then s, of a digest by private scalar `d` with random number `k` (R46, R515). -/
def sm2Sign (d k : Nat) (digest : List Byte) : List Byte :=
  let r := (beNat digest + (JPoint.mul ⟨sm2Gx, sm2Gy, 1⟩ k).affineX) % sm2N
  let i := orderPow ((1 + d) % sm2N) (sm2N - 2) 256 1
  leBytes 32 r ++ leBytes 32 (i * ((k + sm2N - r * d % sm2N) % sm2N) % sm2N)

/-- The key derivation function of GB/T 32918 for 32 bytes: SM3 of the input followed by the counter 1. -/
def sm2Kdf32 (z : List Byte) : List Byte := sm3 (z ++ [0#8, 0#8, 0#8, 1#8])

end Sys2Proof.Machine
end

