-- ==== Sys2Proof/Machine/TypesCommand.lean ====
section
/-!
DEFINITION. The operands of commands: messages and measurements that come from outside the block, field by field.
-/
namespace Sys2Proof.Machine
open Sys2Proof

/-- An ODP message (R39) but for its KIND and OPCODE, which the command names: how it came and from which sender, its header fields, payload and tag.
`reserved` gathers the reserved bits of FLAGS and of the header. -/
structure OdpMsg where
  transport : Transport
  source : Nat
  version : Nat
  flags : Nat
  session : Nat
  xid : Nat
  counter : Nat
  status : Nat
  length : Nat
  reserved : Nat
  payload : List Byte
  tag : List Byte
  deriving DecidableEq, Repr

/-- A gPTP Sync with its Follow_Up (R65, R66): the port it came by (a source code of R64), its domain, the grandmaster's identity and the grandmaster's
time, corrected for the path, at the instant of reception. -/
structure SyncMsg where
  source : Nat
  domain : Nat
  grandmaster : Nat
  origin : Int
  deriving DecidableEq, Repr

/-- A gPTP message without a time: its port, domain, and the identity (Announce) or sequence number (Pdelay_Req) it carries. -/
structure GptpMsg where
  source : Nat
  domain : Nat
  value : Nat
  deriving DecidableEq, Repr

/-- A group message (R433) but for its KIND: the port it came by and its header fields. `reserved` gathers the reserved bits. -/
structure GroupMsg where
  port : Nat
  sender : Nat
  receiver : Nat
  last : Bool
  segment : Nat
  length : Nat
  frame : Nat
  sequence : Nat
  version : Nat
  reserved : Nat
  digest : Nat
  payload : List Byte
  deriving DecidableEq, Repr

/-- What the power manager measures over a 1 ms window (R533): READ_IOUT in A, and the sum of the other rails' powers in W. -/
structure PowerReading where
  coreAmps : F32
  otherWatts : F32
  deriving DecidableEq, Repr

/-- A RoCEv2 request on a queue pair, and whether it is of a kind that the device supports: SEND, WRITE, WRITE with immediate (R427). -/
structure RoceRequest where
  qp : Nat
  supported : Bool
  deriving DecidableEq, Repr

/-- A UDP datagram of a client (R421): the port it came by (0 and 1 the peer ports, 2 the management port, R397), its source address and its bytes, the tag last. -/
structure UdpDatagram where
  port : Nat
  source : Nat
  bytes : List Byte
  deriving DecidableEq, Repr

/-- A host command in service: its journal record; whether its result can be written to host memory (R410); and what a replay of it reads at the payload's address in host memory, and
whether that read succeeds (R411). -/
structure HostRun where
  record : Nat
  wrote : Bool
  payload : List Byte
  readOk : Bool
  deriving DecidableEq, Repr

/-- A host access to BAR4 (R395): a read of a number of bytes at an offset, or a write. -/
inductive Bar4Access where
  | read (offset length : Nat)
  | write (offset : Nat) (bytes : List Byte)
  deriving DecidableEq, Repr

/-- A write of APERTURE_BASE, with the BAR4 accesses that have arrived since the last and go through the present window (R395). -/
structure ApertureWrite where
  value : Nat
  before : List Bar4Access
  deriving DecidableEq, Repr

/-- A write of Bus Master Enable, with what the host has written before it: addresses assigned to the BARs (0, 1, 2 for BAR0, BAR2, BAR4), and bytes of the MSI-X table by offset
(R392, R393). -/
structure ConfigWrite where
  enable : Bool
  bars : List (Nat × Nat)
  msix : List (Nat × List Byte)
  deriving DecidableEq, Repr

/-- Why a unit leaves service: the cause of R284, and the store in which an uncorrected error (cause 2) was found (R326). -/
structure LeaveCause where
  cause : Nat
  store : Nat
  deriving DecidableEq, Repr

/-- What the clock monitor counts in a window (R19): the frequencies measured, as (domain, kHz), and the level of JTAG_TRST_N. A domain not listed was measured at its current
frequency. -/
structure ClockWindow where
  measured : List (Nat × Nat)
  jtagTrst : Bool
  deriving DecidableEq, Repr

/-- The body of a SEND with a consumer doorbell (R420): the index, and the reserved bytes. -/
structure ConsumerBody where
  value : Nat
  reserved : Nat
  deriving DecidableEq, Repr

/-- R467, R470: what the Newel cuts off: an item, with the map-builder domain (65 to 68) in which a tile job overran; the time scaling of a place on a unit; a stair rebuild,
at the top stair or in the Gallery stair units; the publication of the last frame. -/
inductive CutOff where
  | item (serial domain : Nat)
  | timeScaling (place unit : Nat)
  | rebuild (top : Bool)
  | publication
  deriving DecidableEq, Repr

/-- How a self-test slice ends: its segment has passed; and, where the program store is reloaded after it, its digest equals the bound program's (R477). -/
structure SliceResult where
  passed : Bool
  digestEqual : Bool
  deriving DecidableEq, Repr

/-- A slice abandoned at a unit, and whether its program store, reloaded, has the bound program's digest (R479). -/
structure AbandonedSlice where
  unit : Nat
  digestEqual : Bool
  deriving DecidableEq, Repr

/-- What start-up finds (R492, R500 to R503): for each fact, as the hardware and the flash devices show it at that reset. -/
structure BootFacts where
  /-- The sources of R15 that run and are locked: the SYSCLK PLLs, SYSCLK itself, REFCLK_ETH, REFCLK_PCIE, NEWEL_CLK and JTAG_TCK. -/
  pllLocked : Bool
  sysclk : Bool
  refEth : Bool
  refPcie : Bool
  newelClk : Bool
  jtagTck : Bool
  /-- The SM3 digest of the vendor root public key that the Newel's ROM holds, and the manufacturing areas read from flash devices A and B (R498, R500). -/
  romDigest : List Byte
  areaA : Part
  areaB : Part
  /-- Bit errors of the SRAM fingerprint against the helper data, and the 256-bit secret it yields where they can be corrected (R501). -/
  bitErrors : Nat
  secret : Nat
  /-- The image of slot A, and of slot B, reads as it was written; for the image the device was made with, whose bytes the model does not hold, that it verifies (R500 step 4). -/
  imageA : Bool
  imageB : Bool
  /-- The copies of the boot header that cannot be read or whose update a reset interrupted (R499). -/
  badHeaders : List Nat
  /-- GDDR6 channels that fail to train. -/
  untrained : List Nat
  sramZeroed : Bool
  gddrZeroed : Bool
  /-- Engines and Galleries that fail their BIST pass. -/
  failedEngines : List Nat
  failedGalleries : List Nat
  /-- The settings area of the slot that boots, and of the other slot, can be read. -/
  areaReadable : Bool
  otherReadable : Bool
  /-- Microseconds from the release to READY. -/
  elapsed : Nat
  deriving DecidableEq, Repr

end Sys2Proof.Machine
end

