-- ==== Sys2Proof/Syntax.lean ====
section
/-!
DEFINITION. The commands of the SLN-4600: one constructor for each row of spec/opcode_table.json, in the table's order, with the row's operands.
`t` is the instant of a command that comes from outside, on the device's time in nanoseconds; commands without it happen at an instant the state fixes.
-/
namespace Sys2Proof
open Machine

inductive Instr where
  /- Object dictionary (R39 to R51) -/
  | read (t : Nat) (m : OdpMsg)
  | write (t : Nat) (m : OdpMsg)
  | blockRead (t : Nat) (m : OdpMsg)
  | blockWrite (t : Nat) (m : OdpMsg)
  | stage (t : Nat) (m : OdpMsg)
  | check (t : Nat) (m : OdpMsg)
  | commit (t : Nat) (m : OdpMsg)
  | abort (t : Nat) (m : OdpMsg)
  | subscribe (t : Nat) (m : OdpMsg)
  | setupRequest (t : Nat) (m : OdpMsg)
  | close (t : Nat) (m : OdpMsg)
  | keepAlive (t : Nat) (m : OdpMsg)
  | sessionIdleTimeout (session : Nat)
  | keepAliveTimer (session : Nat)
  | subscriptionNotice (session idx sub : Nat)
  | counterClear (idx mask : Nat)
  /- Rule bytecode (R60) -/
  | ruleEnd
  | pushi (imm : BitVec 32)
  | pushq (imm : BitVec 64)
  | ld (idx : BitVec 16) (sub : BitVec 8)
  | ldact (idx : BitVec 16) (sub : BitVec 8)
  | ruleAdd | ruleSub | ruleMul | ruleDiv
  | ruleAnd | ruleOr | ruleXor | ruleShl | ruleShr | ruleNeg
  | ruleEq | ruleNe | ruleLt | ruleLe | ruleNot
  | ruleDup | ruleDrop | ruleSwap
  | ruleAssert (code : BitVec 8)
  | ruleJz (offset : BitVec 8)
  /- Timebase (R64 to R67) -/
  | sync (t : Nat) (m : SyncMsg)
  | announce (t : Nat) (m : GptpMsg)
  | pdelayReq (t : Nat) (m : GptpMsg)
  | pdelayReqIssue (t : Nat)
  | syncTimeout (t : Nat)
  | holdoverLimit
  | ppsIn (t : Nat)
  | ppsOut
  /- Frame cycle and world model -/
  | frameTick
  | programReload (ingress : Bool) (number : Nat)
  | settingsSave
  | seal
  | runaheadTileCompare
  | runaheadCommitPoint
  | tileJob (lane : Nat)
  | mapReady
  | sceneTensorEmit
  | buildEndPromotion
  | streamPacketArrivalUdp (t destination : Nat) (bytes : List Byte)
  | streamPacketArrivalRoce (t : Nat) (r : RoceRequest) (bytes : List Byte)
  | filterInvocation (stream : Nat)
  | streamReadStart (stream : Nat)
  | packetApply (stream : Nat) (flips : List (Nat × Nat))
  | streamBankReturn (stream bank : Nat)
  | flush (stream : Nat)
  | urgentDelta (stream : Nat)
  | urgentVersionSeal
  /- Proposal and checking -/
  | policyRun (failAfter : Option Nat)
  | expanderWindowFill (engine : Nat)
  | candidateBlock (engine : Nat)
  /- Engine instructions (R307 to R321) -/
  | ialu (rd ra rb : BitVec 6) (pred : BitVec 3) (fn : BitVec 5)
  | icmp (rd ra rb : BitVec 6) (pred : BitVec 3) (fn : BitVec 5)
  | falu (rd ra rb : BitVec 6) (pred : BitVec 3) (fn : BitVec 5)
  | fcmp (rd ra rb : BitVec 6) (pred : BitVec 3) (fn : BitVec 5)
  | valu (rd ra rb : BitVec 6) (pred : BitVec 3) (fn : BitVec 5)
  | plog (rd ra rb : BitVec 6) (pred : BitVec 3) (fn : BitVec 5)
  | bswap32 (rd ra : BitVec 6) (pred : BitVec 3)
  | bswap16 (rd ra : BitVec 6) (pred : BitVec 3)
  | crc32c (rd ra rb : BitVec 6) (pred : BitVec 3) (fn : BitVec 5)
  | addi (rd ra : BitVec 6) (imm : BitVec 14)
  | ori (rd ra : BitVec 6) (imm : BitVec 14)
  | andi (rd ra : BitVec 6) (imm : BitVec 14)
  | lui (rd : BitVec 6) (imm : BitVec 20)
  | bfx (rd ra : BitVec 6) (pos widthLess1 : BitVec 5)
  | ldwS (rd ra : BitVec 6) (imm : BitVec 14)
  | stwS (rd ra : BitVec 6) (imm : BitVec 14)
  | vldS (rd ra : BitVec 6) (imm : BitVec 14)
  | vstS (rd ra : BitVec 6) (imm : BitVec 14)
  | ldwT (rd ra : BitVec 6) (imm : BitVec 14)
  | ldwH (rd ra : BitVec 6) (imm : BitVec 14)
  | atomAddI32 (ra rb : BitVec 6) (pred : BitVec 3)
  | atomAddI64 (ra rb : BitVec 6) (pred : BitVec 3)
  | atomAddU16q7s (ra rb : BitVec 6) (pred : BitVec 3)
  | atomAddF32 (ra rb : BitVec 6) (pred : BitVec 3)
  | poseSphere (rd ra : BitVec 6) (pred : BitVec 3)
  | poseAxle (rd ra : BitVec 6) (pred : BitVec 3)
  | query (rd ra rb : BitVec 6) (pred : BitVec 3)
  | lookup (rd ra rb : BitVec 6) (pred : BitVec 3)
  | acc (ra : BitVec 6) (pred : BitVec 3) (fn : BitVec 5)
  | merit (ra : BitVec 6) (pred : BitVec 3)
  | scg (rd rb : BitVec 6) (pred : BitVec 3)
  | br (pred : BitVec 3) (inv : Bool) (offset : BitVec 12)
  | loop (rs : BitVec 6) (body bound : BitVec 10)
  | yield (pred : BitVec 3)
  | reject (ra : BitVec 6) (pred : BitVec 3) (code : BitVec 8)
  /- Selection -/
  | galleryMerge (gallery beta : Nat)
  | topStairMerge
  | listRebuild
  | candidateSingle (engine : Nat)
  | selectionClose
  /- Refinement and publication -/
  | reference (engine : Nat)
  | qpInstance (place : Nat)
  | qpIteration (place : Nat)
  | solverStop
  | timeScaling (place : Nat)
  | recheck (engine : Nat)
  | sentryCheck (place : Nat)
  | sentryPacket
  | landing
  | publicationFailure
  | slackStart
  | release (t slot generation : Nat)
  /- Dispatch -/
  | dispatcherTick (t tick : Nat)
  | loadRanking
  | steal (gallery : Nat)
  | itemAssign (t dispatcher : Nat)
  | itemRetire (t serial : Nat)
  | itemAdmission
  | engineLeavesService (engine : Nat) (cause : Machine.LeaveCause)
  | galleryLeavesService (gallery : Nat) (cause : Machine.LeaveCause)
  | adminOutWrite (engines : Bool) (index : Nat) (mask : Nat)
  | drainComplete (engine : Bool) (number : Nat)
  | rejoinRegister (engine : Bool) (number : Nat) (passed : Bool)
  | selfTestSlice (t unit : Nat) (result : SliceResult)
  | sliceAbandon (slice : AbandonedSlice)
  | coverageOverdue (t : Nat) (unit : Nat)
  | itemCutOff (t : Nat) (what : CutOff)
  | clockMonitorWindow (t : Nat) (window : Machine.ClockWindow)
  | newelLockstepMismatch (t : Nat)
  | uncorrectedHallError (t address : Nat)
  | correctedErrorEvent (t store : Nat)
  | channelLoss (t channel : Nat)
  | journalRereplicationDone (t : Nat)
  /- Host interface -/
  | doorbell (t ring value : Nat)
  | descriptorFetch (t ring : Nat) (bytes payload : List Byte) (readOk : Bool)
  | descriptorAccept (t : Nat)
  | nop (record : Nat)
  | streamData (record : Nat)
  | dictionary (t : Nat) (run : Machine.HostRun)
  | loadModel (run : Machine.HostRun) (operationsKnown : Bool)
  | loadProgram (t : Nat) (run : Machine.HostRun)
  | replay (run : Machine.HostRun) (checkpoint : List Byte)
  | regenerate (run : Machine.HostRun)
  | dump (run : Machine.HostRun)
  | interruptModerationTimer (t ring : Nat)
  | apertureBaseWrite (w : Machine.ApertureWrite)
  | recoveryControl (t value : Nat)
  | reqLen (t channel : Nat) (length : Option Nat) (bytes : List Byte) (vector : Option Nat)
  | roceDoorbell (t qp ring : Nat) (value : Nat)
  | roceConsumerSend (t qp ring : Nat) (body : Machine.ConsumerBody)
  | udpDescriptorDatagram (t : Nat) (d : UdpDatagram)
  | udpAcknowledgement (t : Nat) (d : UdpDatagram)
  | udpRecordResend (t client : Nat)
  | linkTrained (t speed width : Nat)
  /- Peer links -/
  | hello (t : Nat) (m : GroupMsg)
  | helloTimer (t : Nat)
  | mapSegment (t : Nat) (m : GroupMsg)
  | version (t : Nat) (m : GroupMsg)
  | scene (t : Nat) (m : GroupMsg)
  | list (t : Nat) (m : GroupMsg)
  | plan (t : Nat) (m : GroupMsg)
  | digest (t : Nat) (m : GroupMsg)
  | digestFinal (frame phase round : Nat)
  | digestMissing (frame phase round : Nat)
  | bisect (t : Nat) (m : GroupMsg)
  | mirror (t : Nat) (m : GroupMsg)
  | mirrorAck (t : Nat) (m : GroupMsg)
  | takeover (t : Nat) (m : GroupMsg)
  | checkpoint (t : Nat) (m : GroupMsg)
  | peerLoss (t chip : Nat)
  | portFailover (t : Nat)
  | cnp (t qp : Nat)
  | ecnCePacket (t qp : Nat)
  | rateRecoveryTimer (t qp : Nat)
  | substituteVersion
  | replayEnableWrite (value : Bool)
  /- Start-up, security and power -/
  | powerOnReset (t : Nat) (pcie : Bool) (facts : BootFacts)
  | warmRstNAssert (t : Nat)
  | warmRstNRelease (t : Nat) (facts : BootFacts)
  | pwrGoodFall (t : Nat)
  | storedDomLoad (t : Nat)
  | firmwareActivate (slot : Nat)
  | firmwareConfirm
  | attestationReportBuild (t : Nat)
  | throttleEvaluation (t : Nat) (window : Option PowerReading)
  | stepChange (t : Nat) (acknowledged : Bool)
  | temperatureSample (t : Nat) (temps : List F32)
  | railExcursion (t rail : Nat) (high : Bool)
  | coldResetAssert (t : Nat) (pcie : Bool)
  | newelClkFailure (t : Nat)
  | newelSramEccError (t : Nat)
  | vddNewelLoss (t : Nat)
  | vddAonLoss (t : Nat)
  | patrolScrub (t store : Nat) (single : List (Nat × Nat)) (several : List (Nat × List Nat))
  | coreVoltageSettled (t : Nat)
  | portLinkDown (t port : Nat)
  | portLinkUp (t port : Nat)
  | pfcPause (t port priority : Nat) (pause : Bool)
  | roceAck (t qp message : Nat)
  | roceAckTimeout (t qp : Nat)
  | roceConnectionReestablished (t qp : Nat)
  | busMasterEnableWrite (t : Nat) (w : Machine.ConfigWrite)
  deriving DecidableEq, Repr

end Sys2Proof
end

