-- ==== Sys2Proof/Machine/State.lean ====
section
/-!
DEFINITION. The state of the device: every register, store, queue, mode and pin of the spec, as plain data, with the queue of waiting commands; and the state
in which power-on reset holds it.
-/
namespace Sys2Proof.Machine
open Sys2Proof

/-- The device never stops on a fault of its own: every failure the spec describes is a status, an event, a latched cause or a refusal in a response (R417, R463).
The type has no member, so a step that stops never stops with one. Safe. -/
inductive Fault where
  deriving DecidableEq, Repr

/-- Why a command has no effect to give. -/
inductive Refusal where
  /-- Raised by an arm of exec whose command has no meaning yet. Safe: the run stops where the device goes on. -/
  | notModelled (mnemonic : String)
  deriving DecidableEq, Repr

/-- The whole state. -/
structure State where
  /-- The instant of the last command, in ns of the device's time. -/
  now : Nat
  /-- The commands that wait, first in first out. -/
  pending : List Instr
  /-- The object dictionary's stores (02_dictionary.md). -/
  dict : Dict
  /-- CommitControl, CheckReport and the set identifiers (R52 to R59). -/
  ctl : CommitCtl
  /-- ODP sessions (R38 to R51). -/
  odp : OdpServer
  /-- The rule interpreter (R60 to R62). -/
  rule : RuleVm
  /-- The timebase and the tick schedule (R64 to R70). -/
  tb : Timebase
  /-- The frames in flight, older first (R24). -/
  frames : List FrameWork
  /-- The host port: rings, journal, mailbox (13_host_interface.md). -/
  host : HostPort
  /-- Streams, stream buffers and the map (04_world_model.md). -/
  world : World
  /-- Hall and GDDR6 (11_memory_buffers.md). -/
  mem : Memory
  /-- The registers of the engine or ingress processor whose program is in hand (R301): engine instructions act on them. -/
  eng : Invocation
  /-- The processor in hand: engine e as e, ingress processor n as 512 + n. -/
  engUnit : Nat
  /-- The registers of the other processors (R301). -/
  processors : List (Nat × Invocation)
  /-- Engines, Galleries and work items (09_galleries_dispatch.md). -/
  disp : Dispatch
  /-- Result slots, plan history and warm-start cache (R236, R248 to R254). -/
  pub : Publisher
  /-- The Newel (15_safety.md). -/
  newel : Newel
  /-- The 100 clock domains (R15). -/
  clocks : List ClockDomain
  /-- The power manager (17_electrical.md). -/
  power : Power
  /-- Start-up, firmware, flash and attestation (16_startup_security.md), the model store and the tallies. -/
  boot : Boot
  /-- Peer ports and the chip group (14_peer_links.md). -/
  group : Group
  /-- Replay, regeneration and lock-step comparison (12_determinism.md). -/
  det : Determinism
  /-- The events raised since reset, oldest first: the model's own record. -/
  events : List EventRec
  /-- What the device has sent and driven since reset, oldest first: the model's own record. -/
  wire : List WireMsg
  /-- How many of Config's free values have been drawn: the model's own counter. -/
  draws : Nat
  deriving DecidableEq, Repr

def Dict.initial : Dict := ⟨[], [], [], 0, none, [], Part.blank⟩

/-- CommitControl in reset (R59). -/
def CommitCtl.initial : CommitCtl :=
  { st := .idle, target := 0, owner := 0, lastStatus := 0, checkResult := 0, checkedRev := 0, failObject := 0, failStage := 0, failRule := 0, margin := 0,
    checkFrame := 0, activeSetId := 0, stagedRev := 0, transfers := [], committed := false }

def OdpServer.initial : OdpServer := ⟨[], 1⟩
def RuleVm.initial : RuleVm := ⟨[], .running, 0, 0⟩

/-- The timebase in reset (R66, R71, R92): ACQUIRING. -/
def Timebase.initial : Timebase :=
  { st := .acquiring, tbOffset := 0, tickOffset := 0, servoOffset := 0, goodSyncs := 0, gmId := none, everLocked := false, lastSync := 0, holdoverSince := 0,
    anchorFrame := 0, anchorTick := 0, period := 10000000, nextFrame := none, curFrame := 0, curTick := 0, ticked := false, liveFrame := 0, epochUsed := none, renumber := false,
    ppsIn := 0, lastPps := none, pdelaySeq := 0 }

/-- The device held in power-on reset (R458, R491, R524): READY low, FAULT_N and SAFE_STATE_N asserted, PLAN_OK low, every object at its default. -/
def State.reset : State :=
  { now := 0, pending := [], dict := Dict.initial, ctl := CommitCtl.initial, odp := OdpServer.initial, rule := RuleVm.initial, tb := Timebase.initial,
    frames := [], host := HostPort.initial, world := World.initial, mem := Memory.initial, eng := Invocation.initial, engUnit := 0, processors := [], disp := Dispatch.initial,
    pub := Publisher.initial, newel := Newel.initial, clocks := List.replicate 100 ClockDomain.initial, power := Power.initial, boot := Boot.initial,
    group := Group.initial, det := Determinism.initial, events := [], wire := [], draws := 0 }

end Sys2Proof.Machine
end

