-- ==== Sys2Proof/Machine/Dictionary.lean ====
section
/-!
DEFINITION. The object dictionary's lookups: rows, defaults, active and shadow values (02_dictionary.md R25 to R36), and counters (R34, R35).
-/
namespace Sys2Proof.Machine
open Sys2Proof

/-- The key of an object (R6). -/
def objKey (idx sub : Nat) : Nat := 256 * idx + sub

/-- An object reference as CheckReport and event arguments give it: [31:16] index, [15:8] subindex. -/
def objRef (idx sub : Nat) : Nat := idx * 65536 + sub * 256

/-- The row holds the object. -/
def ObjRow.covers (r : ObjRow) (idx sub : Nat) : Bool :=
  decide (r.idx ≤ idx) && decide (idx < r.idx + r.idxCount) && decide (r.sub ≤ sub) && decide (sub < r.sub + r.subCount)

/-- R26, R35: the index is a counter object. -/
def isCounterIndex (idx : Nat) : Bool := counterIndexes.any (fun p => decide (p.1 ≤ idx) && decide (idx < p.1 + p.2))

/-- The highest subindex of an index that its rows give. -/
def highestSub (idx : Nat) : Nat :=
  (objRowsAt idx).foldl (fun a r => if decide (r.idx ≤ idx) && decide (idx < r.idx + r.idxCount) then max a (r.sub + r.subCount - 1) else a) 0

/-- The index is defined by some chapter (R32). -/
def indexDefined (idx : Nat) : Bool := (objRowsAt idx).any (fun r => decide (r.idx ≤ idx) && decide (idx < r.idx + r.idxCount))

/-- The row of an object: one of the tables', the counter controls of R35, or subindex 0 of a record, which holds its highest subindex (R26). -/
def objFind (idx sub : Nat) : Option ObjRow :=
  match (objRowsAt idx).find? (fun r => r.covers idx sub) with
  | some r => some r
  | none =>
    if isCounterIndex idx && sub == 0xFE then some ⟨idx, 1, 0xFE, 1, .u64, .wo, .any, [0]⟩
    else if isCounterIndex idx && sub == 0xFF then some ⟨idx, 1, 0xFF, 1, .u64, .ro, .any, [0]⟩
    else if sub == 0 && indexDefined idx then some ⟨idx, 1, 0, 1, .u8, .const, .any, [highestSub idx]⟩
    else none

/-- The default that a row gives an object: one for each subindex (or each index of a run), the last one repeated. -/
def ObjRow.defaultFor (r : ObjRow) (idx sub : Nat) : Nat :=
  let i := if r.idxCount > 1 then idx - r.idx else sub - r.sub
  match r.defaults[i]? with
  | some d => d
  | none => r.defaults.getLastD 0

/-- The factory table of authorised keys (R504): the vendor root key in slot 0 and the provisioning key in slot 1. -/
def factoryKeyTable (rootKey : List Byte) : List Byte :=
  let entry (i roles : Nat) (key : List Byte) : List Byte := leBytes 1 i ++ [0#8] ++ leBytes 2 roles ++ List.replicate 28 0#8 ++ key
  leBytes 4 0x5A4B5431 ++ leBytes 4 0 ++ leBytes 4 1 ++ List.replicate 52 0#8
    ++ entry 0 0x10 (leBytes 64 (leNat rootKey)) ++ entry 1 0x22 (leBytes 64 Config.provisioningKey.toNat)
    ++ ((List.range 30).flatMap (fun i => entry (i + 2) 0 (List.replicate 64 0#8)))
    ++ leBytes 64 Config.factorySignature.toNat

/-- ASCII of the device name (R33). -/
def deviceName : List Byte := [0x53#8, 0x4C#8, 0x4E#8, 0x2D#8, 0x34#8, 0x36#8, 0x30#8, 0x30#8]

/-- The default value of an object that no manufacturing area gives. The firmware's build comes from Config (log entry 12). -/
def objDefault (idx sub : Nat) : Value :=
  if idx == 0x1008 && sub == 0 then .blob deviceName
  else if idx == 0x100A && sub == 0 then .num (0x04000000 + Config.firmwareBuild.toNat)
  else if idx == 0x1018 && sub == 3 then .num 0x00B00400
  else if idx == 0x7201 && sub == 0 then .blob (List.replicate 16 0#8)
  else
    match objFind idx sub with
    | some r => if r.ty == .dom || r.ty == .str then .blob [] else .num (r.defaultFor idx sub)
    | none => .num 0

def Value.toNum : Value → Nat
  | .num n => n
  | .blob b => b.length

def Value.toBytes : Value → List Byte
  | .num _ => []
  | .blob b => b

/-- R501: IdentityDigest, the first 64 bits of the SM3 digest of the identity public key; 0 before a manufacturing area is accepted. -/
def Part.identityDigest (p : Part) : Nat := if p.identityKey.isEmpty then 0 else sm3First64 p.identityKey

/-- R33, R453, R501, R504: the default value of an object: what the manufacturing area gives SerialNumber, IdentityDigest, the MAC addresses and slot 0 of AuthorisedKeys. -/
def Dict.default (d : Dict) (idx sub : Nat) : Value :=
  if idx == 0x1018 && sub == 4 then .num d.part.serial
  else if idx == 0x1018 && sub == 5 then .num d.part.identityDigest
  else if (idx == 0x8601 || idx == 0x8602) && sub == 2 then .num ((d.part.macs[idx - 0x8601]?).getD 0)
  else if idx == 0xA000 && sub == 1 then .blob (factoryKeyTable d.part.rootKey)
  else objDefault idx sub

/-- The active value of an object. -/
def Dict.activeVal (d : Dict) (idx sub : Nat) : Value := (alGet (objKey idx sub) d.active).getD (d.default idx sub)

/-- The value in the post-commit view of R53 (`staged`) or in the active set. -/
def Dict.val (d : Dict) (staged : Bool) (idx sub : Nat) : Value :=
  match (if staged then alGet (objKey idx sub) d.shadow else none) with
  | some v => v
  | none => d.activeVal idx sub

/-- Sets an active value, keeping only values that differ from the default. -/
def Dict.setActive (d : Dict) (idx sub : Nat) (v : Value) : Dict :=
  { d with active := if v == d.default idx sub then alErase (objKey idx sub) d.active else alSet (objKey idx sub) v d.active }

/-- The active value of a numeric object. -/
def State.cfg (s : State) (idx sub : Nat) : Nat := (s.dict.activeVal idx sub).toNum

/-- The active value of an F32 object. -/
def State.cfgF (s : State) (idx sub : Nat) : F32 := BitVec.ofNat 32 (s.cfg idx sub)

/-- The active value of a BOOL object. -/
def State.cfgB (s : State) (idx sub : Nat) : Bool := s.cfg idx sub != 0

/-- The bytes of an active DOM object. -/
def State.cfgBytes (s : State) (idx sub : Nat) : List Byte := (s.dict.activeVal idx sub).toBytes

/-- The device sets a numeric object of its own. -/
def State.setObj (s : State) (idx sub n : Nat) : State := { s with dict := s.dict.setActive idx sub (.num n) }

/-- R34: the largest value of a counter. -/
def counterMax : Nat := 0xFFFFFFFFFFFFFFFF

/-- R34: a counter rises by `n`, holding at its largest value; the answer says whether its sticky bit was newly set. -/
def Dict.bump (d : Dict) (idx sub n : Nat) : Dict × Bool :=
  let v := (d.activeVal idx sub).toNum
  let w := min counterMax (v + n)
  let mask := alGetD idx 0 d.saturated
  let fresh := w == counterMax && !mask.testBit (sub - 1)
  let d := d.setActive idx sub (.num w)
  (if fresh then { d with saturated := alSet idx (mask ||| 2 ^ (sub - 1)) d.saturated } else d, fresh)

/-- R35: bit n − 1 of a clear mask zeroes the counter at subindex n and its sticky bit. -/
def Dict.clearCounters (d : Dict) (idx mask : Nat) : Dict :=
  let d := (List.range 64).foldl (fun d i => if mask.testBit i then { d with active := alErase (objKey idx (i + 1)) d.active } else d) d
  let kept := (List.range 64).foldl (fun a i => if (alGetD idx 0 d.saturated).testBit i && !mask.testBit i then a + 2 ^ i else a) 0
  { d with saturated := if kept == 0 then alErase idx d.saturated else alSet idx kept d.saturated }

end Sys2Proof.Machine
end

