-- ==== Sys2Proof/Machine/Ops.lean ====
section
/-!
DEFINITION. Operations every family shares: time, records written to rings (R391, R396 to R403, R408, R417), events (R417), counters (R34), device faults (R463),
the causes of DEGRADED (R465), the determinism mask (R367, R368) and free values.
-/
namespace Sys2Proof.Machine
open Sys2Proof

/-- A command that comes from outside at instant `t`: the device's time never runs backward. -/
def State.at (s : State) (t : Nat) : State := { s with now := max s.now t }

/-- A device event at instant `t` of the tick clock (R68). -/
def State.atTick (s : State) (t : Nat) : State := { s with now := max s.now ((t : Int) - s.tb.tickOffset).toNat }

/-- A device event at instant `t` of the timebase. -/
def State.atTime (s : State) (t : Nat) : State := { s with now := max s.now ((t : Int) - s.tb.tbOffset).toNat }

/-- The timebase at the instant of the command (R64). DESIGN CHOICE (log entry 17): in HOLDOVER and FREE_RUN the last frequency estimate (R66) is the rate of `now`. -/
def State.time (s : State) : Nat := ((s.now : Int) + s.tb.tbOffset).toNat

/-- The tick clock at the instant of the command (R68). -/
def State.tickTime (s : State) : Int := (s.now : Int) + s.tb.tickOffset

/-- Modulus of ring indexes and sequence numbers (R37). -/
def u32Mod : Nat := 4294967296

/-- Records what the device sends. -/
def State.send (s : State) (m : WireMsg) : State := { s with wire := s.wire ++ [m] }

/-- The next number of a free value. -/
def State.draw (s : State) : Nat × State := (s.draws, { s with draws := s.draws + 1 })

/-! Peer ports and queue pairs (R427, R428, R430) -/

/-- R433: the number of the queue pair towards chip d on port p. -/
def groupQp (p d : Nat) : Nat := 0x100 + 4 * p + d

def State.qp (s : State) (n : Nat) : QueuePair := (alGet n s.group.qps).getD QueuePair.initial
def State.setQp (s : State) (n : Nat) (q : QueuePair) : State := { s with group := { s.group with qps := alSet n q s.group.qps } }
def State.port (s : State) (p : Nat) : PeerPort := (s.group.ports[p]?).getD PeerPort.initial
def State.modPort (s : State) (p : Nat) (f : PeerPort → PeerPort) : State := { s with group := { s.group with ports := modAt s.group.ports p f } }

/-- The port that queue pair n uses: its own for the group's, the active one for clients' (R430, R433). -/
def State.qpPort (s : State) (n : Nat) : Nat := if 0x100 ≤ n ∧ n < 0x108 then (n - 0x100) / 4 else s.group.activePort

/-- Messages are outstanding on a port. -/
def State.portBusy (s : State) (p : Nat) : Bool := s.group.qps.any (fun x => s.qpPort x.1 == p && x.2.outstanding.any (·.sent))

/-- R427: a message leaves on a queue pair; it stays outstanding until acknowledged, and a PFC pause of its priority holds it back (R428). -/
def State.sendQp (s : State) (n priority : Nat) (m : WireMsg) : State :=
  let p := s.qpPort n
  let held := (s.port p).paused.testBit priority
  let q := s.qp n
  let s := if s.portBusy p || held then s else s.modPort p (fun x => { x with lastAck := s.now })
  let timer := if q.outstanding.any (·.sent) then q.timer else s.now
  let s := s.setQp n { q with nextMessage := q.nextMessage + 1, outstanding := q.outstanding ++ [⟨q.nextMessage, priority, !held, m⟩], timer := timer }
  if held then s else s.send m

/-- R428: what goes out on a peer port at InputPriority, streams', clients' and ODP's, waits there while a PFC pause holds that priority. -/
def State.sendInput (s : State) (p : Nat) (m : WireMsg) : State :=
  if (s.port p).paused.testBit (s.cfg 0x8600 0x0C) then s.modPort p (fun x => { x with held := x.held ++ [m] }) else s.send m

/-! Rings -/

/-- Ring `r` of a ring table (R399). -/
def ringEntry (table : List Byte) (r : Nat) : RingCfg :=
  let b := slice table (32 * r) 32
  let w := fieldAt b 0 4
  { enabled := w.testBit 0, inBuffer := w.testBit 1, size := 64 * 2 ^ bitsAt w 2 4, vector := bitsAt w 8 11, modCount := fieldAt b 4 2,
    modTime := fieldAt b 6 2, base := fieldAt b 8 8, eventMask := fieldAt b 16 2 }

/-- Client `c` of a client table (R398). -/
def clientEntry (table : List Byte) (c : Nat) : ClientCfg :=
  let b := slice table (32 * c) 32
  let w := fieldAt b 0 4
  { enabled := w.testBit 0, transport := bitsAt w 1 2, opcodes := bitsAt w 8 8, binding := fieldAt b 4 4, remoteAddress := fieldAt b 8 8,
    remoteKey := fieldAt b 16 4 }

def State.clientCfg (s : State) (c : Nat) : ClientCfg := clientEntry (s.cfgBytes 0x8400 1) c
def State.ring? (s : State) (r : Nat) : Option Ring := alGet r s.host.rings

/-- The table entries of ring r and of its client, as the tables in force have them. -/
def State.tableRing (s : State) (r : Nat) : RingTables := ⟨ringEntry (s.cfgBytes 0x8400 2) r, s.clientCfg (r / 4)⟩

/-- The table entries by which ring r goes: those kept with it, or those in force. -/
def State.ringTables (s : State) (r : Nat) : RingTables := ((s.ring? r).bind (·.kept)).getD (s.tableRing r)
def State.ringCfg (s : State) (r : Nat) : RingCfg := (s.ringTables r).ring
def State.ringClient (s : State) (r : Nat) : ClientCfg := (s.ringTables r).client
def State.setRing (s : State) (r : Nat) (x : Ring) : State := { s with host := { s.host with rings := alSet r x s.host.rings } }

/-- Bytes of an entry of ring r (R396). -/
def ringEntrySize (r : Nat) : Nat := match r % 4 with | 0 => 64 | 3 => 128 | _ => 32

/-- Entries between the two indexes of a ring (R396). -/
def Ring.held? (x : Ring) : Nat := (x.producer + u32Mod - x.consumer) % u32Mod

/-- Free entries of a ring. -/
def State.ringRoom (s : State) (r : Nat) : Nat :=
  match s.ring? r with
  | some x => (s.ringCfg r).size - x.held?
  | none => 0

/-- R408: PHASE of the entry at an index. -/
def phaseAt (index size : Nat) : Bool := (index / size) % 2 == 0

/-- What the device holds of UDP client c. -/
def State.udpClient (s : State) (c : Nat) : UdpClient := (alGet c s.host.udp).getD ⟨0, 0, none, 0, []⟩
def State.setUdp (s : State) (c : Nat) (u : UdpClient) : State := { s with host := { s.host with udp := alSet c u s.host.udp } }

/-- R421: a datagram of `count` records for client c under a session's key, with the device's counter and the completion ring's consumer index. -/
def udpDatagram (c count session counter consumer : Nat) (key records : List Byte) : List Byte :=
  let b := leBytes 4 0x5A524431 ++ leBytes 2 c ++ leBytes 1 2 ++ leBytes 1 count ++ leBytes 4 session ++ leBytes 8 counter ++ leBytes 4 consumer ++ leBytes 8 0 ++ records
  b ++ hmacSm3 key b

/-- R464: the management port is down: one of its clock domains is marked FAULT. -/
def State.mgmtDown (s : State) : Bool := [83, 84].any (fun d => match s.clocks[d]? with | some c => c.fault | none => false)

/-- Sends a frame by the management port, where it is up. -/
def State.sendMgmt (s : State) (m : WireMsg) : State := if s.mgmtDown then s else s.send m

/-- R338, R339: the journal has one copy that can be read: a channel of the two is lost, and the spare has not taken its role. -/
def State.journalSingle (s : State) : Bool := s.mem.channels.any (fun x => (x.role == 1 || x.role == 2) && x.lost)

/-- The session of UDP client c's last valid datagram, while it is open. -/
def State.udpSession (s : State) (c : Nat) : Option Session := s.odp.sessions.find? (fun x => x.id == (s.udpClient c).session)

/-- R421: records go to the source of the client's last valid datagram, in one datagram; none has been valid, or its session has ended, and nothing is sent. -/
def State.sendRecords (s : State) (c : Nat) (records : List (List Byte)) : State :=
  let u := s.udpClient c
  match u.source, s.udpSession c with
  | some d, some x =>
    let consumer := match s.ring? (4 * c + 1) with | some y => y.consumer | none => 0
    let m : WireMsg := .udpRecords d (udpDatagram c records.length u.session (u.txCounter + 1) consumer x.key records.flatten)
    let s := s.setUdp c { u with txCounter := u.txCounter + 1 }
    if (s.ringClient (4 * c + 1)).transport == 3 then s.sendMgmt m else s.sendInput s.group.activePort m
  | _, _ => s

/-- R421: UDP client c can be sent records now. -/
def State.udpReaches (s : State) (c : Nat) : Bool := (s.udpClient c).source.isSome && (s.udpSession c).isSome

/-- Sends `bytes` to where a ring's entry lies: host memory or host buffer space (PCIe, R397), the client's mirror region (RoCEv2, R420), or a datagram (UDP, R421), a completion record
being kept until it is acknowledged. -/
def State.deliverEntry (s : State) (r index : Nat) (bytes : List Byte) : State :=
  let c := r / 4
  let rc := s.ringCfg r
  let cc := s.ringClient r
  let offset := ringEntrySize r * (index % rc.size)
  match cc.transport with
  | 0 =>
    if rc.inBuffer then { s with host := { s.host with buffer := memWriteBytes s.host.buffer (rc.base + offset) bytes } }
    else s.send (.hostWrite (rc.base + offset) bytes)
  | 1 =>
    let before := (if r % 4 > 1 then 32 * (s.ringCfg (4 * c + 1)).size else 0) + (if r % 4 > 2 then 32 * (s.ringCfg (4 * c + 2)).size else 0)
    s.sendQp cc.binding (s.cfg 0x8600 0x0C) (.roceWrite cc.binding cc.remoteKey (cc.remoteAddress + before + offset) bytes)
  | _ =>
    let u := s.udpClient c
    let sent := if s.udpReaches c then some s.now else none
    let s := if r % 4 == 1 then s.setUdp c { u with unacked := u.unacked ++ [⟨index, bytes, sent⟩] } else s
    s.sendRecords c [bytes]

/-- R399: one more entry of a ring: its vector is signalled when MOD_COUNT entries have gathered, or at once where the entry asks for it. -/
def State.moderate (s : State) (r : Nat) (atOnce : Bool) : State :=
  match s.ring? r with
  | none => s
  | some x =>
    let rc := s.ringCfg r
    let n := x.unsignalled + 1
    if atOnce || decide (rc.modCount ≤ n) then
      (s.setRing r { x with unsignalled := 0 }).send (.msix rc.vector)
    else s.setRing r { x with unsignalled := n, firstUnsignalled := if x.unsignalled == 0 then s.now else x.firstUnsignalled }

/-- Writes a record at a ring's PRODUCER and advances it; `mk` gives the record for its PHASE bit. A ring in RECOVERING is halted, and the entry waits (R415, R420). -/
def State.ringPush (s : State) (r : Nat) (mk : Bool → List Byte) (atOnce : Bool) : State :=
  match s.ring? r with
  | none => s
  | some x =>
    let size := (s.ringCfg r).size
    let bytes := mk (phaseAt x.producer size)
    let x' : Ring := { x with producer := (x.producer + 1) % u32Mod, entries := alSet (x.producer % size) bytes x.entries }
    if x.st == .recovering then s.setRing r { x' with owed := x.owed ++ [atOnce] }
    else ((s.setRing r x').deliverEntry r x.producer bytes).moderate r atOnce

/-- R416, R420: a ring leaves RECOVERING, ACTIVE or draining, and the entries that have waited are written. -/
def State.ringResumes (s : State) (r : Nat) (st : RingState) : State :=
  match s.ring? r with
  | none => s
  | some x =>
    if x.st != .recovering then s
    else
      let size := (s.ringCfg r).size
      let first := x.producer + u32Mod - x.owed.length
      x.owed.zipIdx.foldl (fun s o =>
        let index := (first + o.2) % u32Mod
        (s.deliverEntry r index ((alGet (index % size) x.entries).getD [])).moderate r o.1) (s.setRing r { x with st := st, owed := [] })

/-! Events and counters -/

/-- An event record's bytes (R417). -/
def EventRec.bytes (e : EventRec) (phase : Bool) : List Byte :=
  leBytes 2 e.code ++ [if phase then 1#8 else 0#8, 0#8] ++ leBytes 4 e.arg ++ leBytes 8 e.frame ++ leBytes 8 e.time ++ leBytes 8 e.arg2

/-- R417: an event for one event ring: written, held for a full ring, or counted as lost. -/
def State.offerEvent (s : State) (r : Nat) (e : EventRec) : State :=
  match s.ring? r with
  | none => s
  | some x =>
    if x.held.isEmpty && x.lost == 0 && decide (0 < s.ringRoom r) then s.ringPush r e.bytes false
    else if decide (x.held.length < 256) && x.lost == 0 then s.setRing r { x with held := x.held ++ [e] }
    else { s.setRing r { x with lost := x.lost + 1 } with dict := (s.dict.bump 0x8402 7 1).1 }

/-- The rings that take an event of a code: enabled event rings whose EVENT_MASK holds its family (R417). -/
def State.eventRings (s : State) (code : Nat) : List Nat :=
  (s.host.rings.filter (fun p => p.1 % 4 == 2 && p.2.st != .disabled && ((s.ringCfg p.1).eventMask).testBit (bitsAt code 8 4))).map (·.1)

/-- R417: an event goes to the rings that take it. -/
def State.emit (s : State) (frame code arg arg2 : Nat) : State :=
  let e : EventRec := ⟨code, arg, frame, s.time, arg2⟩
  (s.eventRings code).foldl (fun s r => s.offerEvent r e) { s with events := s.events ++ [e] }

/-- ARG and ARG2 of the next event, where the spec does not state them (log entry 14). -/
def State.openArg (s : State) (code : Nat) : Nat := (Config.eventArg code s.events.length).toNat
def State.openArg2 (s : State) (code : Nat) : Nat := (Config.eventArg2 code s.events.length).toNat

/-- R34: the sticky saturated bit of EventsLost. -/
def State.lostSaturated (s : State) : Bool := (alGetD 0x8402 0 s.dict.saturated).testBit 6

/-- R417: raises an event, for the frame `frame`. Where an event ring's loss saturates EventsLost, event 0x0112 follows (R34). -/
def State.raiseFor (s : State) (frame code arg arg2 : Nat) : State :=
  let t := s.emit frame code arg arg2
  if t.lostSaturated && !s.lostSaturated then t.emit t.tb.curFrame 0x0112 (objRef 0x8402 7) (t.openArg2 0x0112) else t

/-- R417: raises an event for the current frame, about the object, ring, stream or unit `arg`. -/
def State.raise (s : State) (code arg : Nat) : State := s.raiseFor s.tb.curFrame code arg (s.openArg2 code)

/-- R417: raises an event for a frame, whose ARG the spec does not state. -/
def State.raiseOpen (s : State) (frame code : Nat) : State := s.raiseFor frame code (s.openArg code) (s.openArg2 code)

/-- R34: a statistics counter rises by `n`; at its largest value event 0x0112 is raised once. -/
def State.count (s : State) (idx sub n : Nat) : State :=
  let (d, fresh) := s.dict.bump idx sub n
  let s := { s with dict := d }
  if fresh then s.raise 0x0112 (objRef idx sub) else s

/-- R417: when an event ring has room again, the events it held are written, then one record with the number lost. -/
def State.drainEvents : Nat → Nat → State → State
  | 0, _, s => s
  | n + 1, r, s =>
    match s.ring? r with
    | none => s
    | some x =>
      if s.ringRoom r == 0 then s else
      match x.held with
      | e :: rest => drainEvents n r ((s.setRing r { x with held := rest }).ringPush r e.bytes false)
      | [] =>
        if x.lost == 0 then s
        else (s.setRing r { x with lost := 0 }).ringPush r (EventRec.bytes ⟨0x020C, r, s.tb.curFrame, s.time, x.lost⟩) false

/-! HOST_STATUS (R394) -/

def bit01 (b : Bool) (n : Nat) : Nat := if b then 2 ^ n else 0

/-- The model and the programs that the active set binds (R539) are there; a model slot whose image has been lost counts, since frames run on without its policy (R149). -/
def State.bindingsLoaded (s : State) : Bool :=
  let image (i : Nat) : Bool := !(s.cfgBytes i 1).isEmpty
  (!s.cfgB 0x4100 1 || (match s.boot.models[s.cfg 0x4100 2]? with | some m => m.st == .valid || m.st == .invalid | none => false))
    && (!s.cfgB 0x5001 1 || image (s.cfg 0x5001 2))
    && (List.range 128).all (fun n => s.cfg (0x3100 + n) 1 == 0 || image (s.cfg (0x3100 + n) 4))

/-- R33: FRAME_LOCK; replay clears it from the Landing at which it begins (R375). -/
def State.frameLock (s : State) : Bool :=
  (s.tb.st == .locked || s.tb.st == .holdover) && s.ctl.committed && s.boot.domsLoaded && (s.det.replay == .live || s.det.replay == .entering) && s.bindingsLoaded

/-- HOST_STATUS. -/
def State.hostStatus (s : State) : Nat :=
  bit01 s.boot.ready 0 + bit01 s.frameLock 1 + bit01 (s.newel.degraded != 0) 2 + bit01 s.newel.pins.safeState 3 + bit01 s.newel.pins.fault 4
    + bit01 s.host.recovery 5 + bit01 s.host.linkBelow 6

/-- Vector 0 signals a change of HOST_STATUS; before READY the device issues no DMA (R392). -/
def State.signalStatus (s : State) : State :=
  let w := s.hostStatus
  if w == s.host.statusShown then s
  else
    let s := { s with host := { s.host with statusShown := w } }
    if s.boot.ready then s.send (.msix 0) else s

/-! Safety -/

/-- A number with one bit cleared. -/
def clearBitNat (x b : Nat) : Nat := if x.testBit b then x - 2 ^ b else x

/-- Changes the pins that the Newel's island does not drive. -/
def State.setPads (s : State) (f : Pins → Pins) : State := { s with newel := { s.newel with pins := f s.newel.pins } }

/-- Changes FAULT_N, SAFE_STATE_N or PLAN_OK while the Newel drives them. -/
def State.setPins (s : State) (f : Pins → Pins) : State :=
  if s.newel.running then ({ s with newel := { s.newel with pins := f s.newel.pins } }).signalStatus else s

/-- R463: latches a device fault: FAULT_N and SAFE_STATE_N asserted, PLAN_OK low, event 0x0A01 with the cause's number. -/
def State.deviceFault (s : State) (cause : Nat) : State :=
  let new := !s.newel.faultCause.testBit cause
  let s := { s with newel := { s.newel with faultCause := s.newel.faultCause ||| 2 ^ cause } }
  let s := s.setPins (fun p => { p with fault := true, safeState := true, planOk := false })
  if new then s.raise 0x0A01 cause else s

/-- A device fault is latched. -/
def State.faulted (s : State) : Bool := s.newel.faultCause != 0

/-- R465: a cause of DEGRADED is set; event 0x0A02 and DegradedEpisodes when DEGRADED goes from 0 to 1. -/
def State.setCause (s : State) (cause : Nat) : State :=
  let n := s.newel
  let rising := n.degraded == 0
  let s := { s with newel := { n with degraded := n.degraded ||| 2 ^ cause,
                                      setThisSpan := if n.degraded.testBit cause then n.setThisSpan else n.setThisSpan ||| 2 ^ cause,
                                      clearDue := clearBitNat n.clearDue cause } }
  if rising then ((s.count 0x9002 1 1).raise 0x0A02 cause).signalStatus else s

/-- Clears the causes of a mask; event 0x0A03 when DEGRADED goes from 1 to 0. -/
def State.dropCauses (s : State) (mask : Nat) : State :=
  let n := s.newel
  let left := (List.range 10).foldl (fun a b => if n.degraded.testBit b && !mask.testBit b then a + 2 ^ b else a) 0
  let s := { s with newel := { n with degraded := left } }
  if n.degraded != 0 && left == 0 then (s.raiseOpen s.tb.curFrame 0x0A03).signalStatus else s

/-- R465: a cause's clearing condition is met: the cause is cleared, or, when it was set in this span, at the next Landing. -/
def State.clearCause (s : State) (cause : Nat) : State :=
  if !s.newel.degraded.testBit cause then s
  else if s.newel.setThisSpan.testBit cause then { s with newel := { s.newel with clearDue := s.newel.clearDue ||| 2 ^ cause } }
  else s.dropCauses (2 ^ cause)

/-- A cause's condition for staying set holds again, so it is not cleared at the span's end. -/
def State.holdCause (s : State) (cause : Nat) : State :=
  { s with newel := { s.newel with clearDue := clearBitNat s.newel.clearDue cause } }

/-! Frames -/

/-- The work of a frame in flight. -/
def State.work? (s : State) (frame : Nat) : Option FrameWork := s.frames.find? (fun w => w.frame == frame)

/-- Changes the work of a frame in flight. -/
def State.modWork (s : State) (frame : Nat) (f : FrameWork → FrameWork) : State :=
  { s with frames := modFirst (fun w => w.frame == frame) f s.frames }

/-- R251: status code 0x0600 + n of a frame arose. -/
def State.frameStatus (s : State) (frame n : Nat) : State := s.modWork frame (fun w => { w with status := w.status ||| 2 ^ n })

/-- R369: the frame in flight that a cause is charged to: its own, or, after its Landing, the next, where its work has begun. -/
def State.charged? (s : State) (frame : Nat) : Option FrameWork :=
  match s.work? frame with
  | some w => if w.landed then s.work? (frame + 1) else some w
  | none => none

/-- R369: the determinism mask that a cause arising against a frame goes to: that of the frame charged, or the one the next frame begins with. -/
def State.maskOf (s : State) (frame : Nat) : Nat :=
  match s.charged? frame with
  | some w => w.mask
  | none => s.det.carryMask

/-- R369: a bit of that mask is set. -/
def State.maskBit (s : State) (frame bit : Nat) : State :=
  match s.charged? frame with
  | some w => s.modWork w.frame (fun w => { w with mask := w.mask ||| 2 ^ bit })
  | none => { s with det := { s.det with carryMask := s.det.carryMask ||| 2 ^ bit } }

/-- R367: a timing-dependent choice of cause `bit`: ChoiceCount, the cause's own counter and the mask bit. `once` counts it once per frame charged. -/
def State.choice (s : State) (frame bit : Nat) (once : Bool) : State :=
  if once && (s.maskOf frame).testBit bit then s else ((s.maskBit frame bit).count 0x7203 1 1).count 0x7203 (bit + 3) 1

/-- R368: a disturbance of a frame's work; DisturbedFrames counts the frame once. -/
def State.disturb (s : State) (frame : Nat) : State :=
  if (s.maskOf frame).testBit 15 then s else (s.maskBit frame 15).count 0x7203 0x0C 1

/-! The registers of engines and ingress processors (R301) -/

/-- The registers of a processor. -/
def State.processor (s : State) (n : Nat) : Invocation := if n == s.engUnit then s.eng else (alGet n s.processors).getD Invocation.initial

/-- Sets the registers of a processor. -/
def State.setProcessor (s : State) (n : Nat) (v : Invocation) : State := if n == s.engUnit then { s with eng := v } else { s with processors := alSet n v s.processors }

/-- A processor begins an invocation, which is then the one in hand; those of the others are kept. -/
def State.takeInHand (s : State) (n : Nat) (v : Invocation) : State :=
  { s with processors := if n == s.engUnit then s.processors else alErase n (alSet s.engUnit s.eng s.processors), engUnit := n, eng := v }

/-- R289, R479: the scratchpad of an engine is zeroed: the state areas of its invocation read zero. -/
def State.zeroScratchpad (s : State) (e : Nat) : State := s.setProcessor e { s.processor e with mem := [] }

/-- Raises an event once in a frame, its ARG unstated; the answer is the state unchanged where the frame has already raised it. -/
def State.raiseOnce (s : State) (frame code : Nat) : State :=
  match s.work? frame with
  | some w => if w.once.contains code then s else (s.modWork frame (fun w => { w with once := code :: w.once })).raiseOpen frame code
  | none => s.raiseOpen frame code

/-! Roles and readiness -/

/-- R459: the chip publishes in its role (0 SOLO, 3 REFINER, 4 PRIMARY). -/
def State.publishes (s : State) : Bool := s.group.role == 0 || s.group.role == 3 || s.group.role == 4

/-- R458: SAFE_STATE_N follows FAULT_N, the hold and the start-up hold; on a chip that does not publish, FAULT_N alone (R459). -/
def State.driveSafe (s : State) : State :=
  s.setPins (fun p => { p with safeState := p.fault || (s.publishes && (s.newel.hold.isSome || s.newel.startHold)) })

/-- R459, R446: a change of role: a chip that does not publish holds PLAN_OK at 0. -/
def State.roleChanged (s : State) : State := (s.setPins (fun p => { p with planOk := p.planOk && s.publishes })).driveSafe

/-- R33: READY. -/
def State.isReady (s : State) : Bool := s.boot.ready

/-- R15: work is done only between READY and a reset. -/
def State.works (s : State) : Bool := s.boot.ready

/-- R534: a thermal trip has stopped the throttled domains: Galleries, proposal quadrants, QP solvers and the map builder. -/
def State.throttledRun (s : State) : Bool := !s.power.tripped

/-- R534: the unit behind a dispatcher runs: ingress and the management processor are in no throttled domain. -/
def State.unitRuns (s : State) (dispatcher : Nat) : Bool := dispatcher == 18 || dispatcher == 19 || s.throttledRun

end Sys2Proof.Machine
end

