-- ==== Sys2Proof/Machine/Program.lean ====
section
/-!
DEFINITION. Engine programs as images: the header (R297), the instruction encoding (R307, R309), the verifier (R298, R319 to R321) with its bound (R322, R323),
and the authorised-key table (R504).
-/
namespace Sys2Proof.Machine
open Sys2Proof

/-! Authorised keys (R504) -/

/-- ROLES of a slot of the authorised-key table; 0 for a slot the table does not hold. -/
def keyRoles (table : List Byte) (slot : Nat) : Nat := if slot < 32 then fieldAt table (64 + 96 * slot + 2) 2 else 0
/-- The public key of a slot. -/
def keyPublic (table : List Byte) (slot : Nat) : List Byte := slice table (64 + 96 * slot + 32) 64
/-- The slot's key holds a role (bit number of ROLES) and signs `digest`. -/
def keySigns (table : List Byte) (slot role : Nat) (digest signature : List Byte) : Bool :=
  (keyRoles table slot).testBit role && sm2Verify (keyPublic table slot) digest signature

/-! Program images (R297) -/

/-- The header of a program image. -/
structure ProgHeader where
  magic : Nat
  kind : Nat
  version : Nat
  count : Nat
  constLength : Nat
  tallyLength : Nat
  boundCycles : Nat
  boundTile : Nat
  boundHall : Nat
  lixis : Nat
  signer : Nat
  reservedZero : Bool
  deriving DecidableEq, Repr

def progHeader (b : List Byte) : ProgHeader :=
  { magic := fieldAt b 0 4, kind := fieldAt b 4 1, version := fieldAt b 5 1, count := fieldAt b 6 2, constLength := fieldAt b 8 4,
    tallyLength := fieldAt b 12 4, boundCycles := fieldAt b 16 4, boundTile := fieldAt b 20 4, boundHall := fieldAt b 24 4,
    lixis := fieldAt b 28 4, signer := fieldAt b 32 4, reservedZero := allZero (slice b 36 28) }

/-- The words of a list of bytes. -/
def wordsLE : Nat → List Byte → List Word
  | 0, _ => []
  | n + 1, bs => BitVec.ofNat 32 (leNat (bs.take 4)) :: wordsLE n (bs.drop 4)

/-- The instruction words of an image. -/
def progCode (b : List Byte) : List Word := wordsLE (progHeader b).count (b.drop 64)
/-- The constants of an image. -/
def progConsts (b : List Byte) : List Byte := slice b (64 + 4 * (progHeader b).count) (progHeader b).constLength
/-- The signed part of an image, whose SM3 digest is the program's measurement (R297). -/
def progSigned (b : List Byte) : List Byte := b.take (64 + 4 * (progHeader b).count + (progHeader b).constLength)
def progMeasurement (b : List Byte) : List Byte := sm3 (progSigned b)

/-! Encoding (R307, R309) -/

def wOp (w : Word) : Nat := bitsAt w.toNat 26 6
def wRd (w : Word) : BitVec 6 := BitVec.ofNat 6 (bitsAt w.toNat 20 6)
def wRa (w : Word) : BitVec 6 := BitVec.ofNat 6 (bitsAt w.toNat 14 6)
def wRb (w : Word) : BitVec 6 := BitVec.ofNat 6 (bitsAt w.toNat 8 6)
def wPred (w : Word) : BitVec 3 := BitVec.ofNat 3 (bitsAt w.toNat 5 3)
def wFn (w : Word) : BitVec 5 := BitVec.ofNat 5 (bitsAt w.toNat 0 5)
def wImm (w : Word) : BitVec 14 := BitVec.ofNat 14 (bitsAt w.toNat 0 14)

/-- The instruction of a word with a defined major opcode and function (R309 to R315); none for a reserved encoding. -/
def engDecode (w : Word) : Option Instr :=
  let fn := bitsAt w.toNat 0 5
  match wOp w with
  | 0x01 => if fn ≤ 0x0D then some (.ialu (wRd w) (wRa w) (wRb w) (wPred w) (wFn w)) else none
  | 0x02 => if fn ≤ 5 then some (.icmp (wRd w) (wRa w) (wRb w) (wPred w) (wFn w)) else none
  | 0x03 => if fn ≤ 0x10 then some (.falu (wRd w) (wRa w) (wRb w) (wPred w) (wFn w)) else none
  | 0x04 => if fn ≤ 3 then some (.fcmp (wRd w) (wRa w) (wRb w) (wPred w) (wFn w)) else none
  | 0x05 => if fn ≤ 0x0E then some (.valu (wRd w) (wRa w) (wRb w) (wPred w) (wFn w)) else none
  | 0x06 => if fn ≤ 3 then some (.plog (wRd w) (wRa w) (wRb w) (wPred w) (wFn w)) else none
  | 0x07 =>
    match fn with
    | 0 => some (.bswap32 (wRd w) (wRa w) (wPred w))
    | 1 => some (.bswap16 (wRd w) (wRa w) (wPred w))
    | 2 | 3 | 4 => some (.crc32c (wRd w) (wRa w) (wRb w) (wPred w) (wFn w))
    | _ => none
  | 0x08 => some (.addi (wRd w) (wRa w) (wImm w))
  | 0x09 => some (.ori (wRd w) (wRa w) (wImm w))
  | 0x0A => some (.andi (wRd w) (wRa w) (wImm w))
  | 0x0B => some (.lui (wRd w) (BitVec.ofNat 20 (bitsAt w.toNat 0 20)))
  | 0x0C => some (.bfx (wRd w) (wRa w) (BitVec.ofNat 5 (bitsAt w.toNat 9 5)) (BitVec.ofNat 5 (bitsAt w.toNat 4 5)))
  | 0x10 => some (.ldwS (wRd w) (wRa w) (wImm w))
  | 0x11 => some (.stwS (wRd w) (wRa w) (wImm w))
  | 0x12 => some (.vldS (wRd w) (wRa w) (wImm w))
  | 0x13 => some (.vstS (wRd w) (wRa w) (wImm w))
  | 0x14 => some (.ldwT (wRd w) (wRa w) (wImm w))
  | 0x15 => some (.ldwH (wRd w) (wRa w) (wImm w))
  | 0x16 =>
    match fn with
    | 0 => some (.atomAddI32 (wRa w) (wRb w) (wPred w))
    | 1 => some (.atomAddI64 (wRa w) (wRb w) (wPred w))
    | 2 => some (.atomAddU16q7s (wRa w) (wRb w) (wPred w))
    | 3 => some (.atomAddF32 (wRa w) (wRb w) (wPred w))
    | _ => none
  | 0x20 =>
    match fn with
    | 0 => some (.poseSphere (wRd w) (wRa w) (wPred w))
    | 1 => some (.poseAxle (wRd w) (wRa w) (wPred w))
    | _ => none
  | 0x21 => if fn == 0 then some (.query (wRd w) (wRa w) (wRb w) (wPred w)) else none
  | 0x22 => if fn == 0 then some (.lookup (wRd w) (wRa w) (wRb w) (wPred w)) else none
  | 0x23 => some (.acc (wRa w) (wPred w) (wFn w))
  | 0x24 => if fn == 0 then some (.merit (wRa w) (wPred w)) else none
  | 0x25 => if fn == 0 then some (.scg (wRd w) (wRb w) (wPred w)) else none
  | 0x30 => some (.br (BitVec.ofNat 3 (bitsAt w.toNat 23 3)) (w.getLsbD 22) (BitVec.ofNat 12 (bitsAt w.toNat 0 12)))
  | 0x31 => some (.loop (wRd w) (BitVec.ofNat 10 (bitsAt w.toNat 10 10)) (BitVec.ofNat 10 (bitsAt w.toNat 0 10)))
  | 0x32 => some (.yield (BitVec.ofNat 3 (bitsAt w.toNat 8 3)))
  | 0x33 => some (.reject (wRd w) (BitVec.ofNat 3 (bitsAt w.toNat 8 3)) (BitVec.ofNat 8 (bitsAt w.toNat 0 8)))
  | _ => none

/-- R309, R315: the instruction is allowed for the kind of program. -/
def engAllowed (k : ProgKind) (i : Instr) : Bool :=
  match i with
  | .bswap32 _ _ _ | .bswap16 _ _ _ | .crc32c _ _ _ _ _ | .bfx _ _ _ _ => k == .filter
  | .ldwT _ _ _ | .poseSphere _ _ _ | .poseAxle _ _ _ | .query _ _ _ _ | .lookup _ _ _ _ | .acc _ _ _ | .merit _ _ | .scg _ _ _ => k == .tread
  | _ => true

/-- Check 4 of R298: reserved fields are zero, register fields in range and aligned, and no instruction writes p0. DEDUCED: a field an instruction does not use is
reserved only where the spec calls it zero (log entry 20). -/
def engFieldsOk (w : Word) : Bool :=
  let rd := (wRd w).toNat; let ra := (wRa w).toNat; let rb := (wRb w).toNat
  let fn := bitsAt w.toNat 0 5
  match wOp w with
  | 0x02 | 0x04 => decide (1 ≤ rd) && decide (rd ≤ 7)
  | 0x05 =>
    if fn == 0x0A then decide (rd < 16)
    else if fn == 0x0B then decide (ra < 16)
    else if fn == 0x0C then decide (rd < 16)
    else if fn ≥ 0x0D then decide (ra < 16)
    else decide (rd < 16) && decide (ra < 16) && decide (rb < 16)
  | 0x06 => decide (1 ≤ rd) && decide (rd ≤ 7) && decide (ra ≤ 7) && (fn == 3 || decide (rb ≤ 7))
  | 0x0C => bitsAt w.toNat 0 4 == 0 && decide (bitsAt w.toNat 9 5 + bitsAt w.toNat 4 5 + 1 ≤ 32)
  | 0x12 | 0x13 => decide (rd < 16)
  | 0x16 => rd == 0 && (fn != 1 || rb % 2 == 0)
  | 0x20 => rd % 2 == 0
  | 0x21 | 0x22 => ra % 2 == 0
  | 0x23 => rd == 0 && rb == 0
  | 0x25 => rd % 4 == 0
  | 0x30 => bitsAt w.toNat 12 10 == 0
  | 0x32 => rd == 0 && bitsAt w.toNat 11 9 == 0 && bitsAt w.toNat 0 8 == 0
  | 0x33 => bitsAt w.toNat 11 9 == 0
  | _ => true

/-! Structure (R319 to R321) -/

/-- Whether word `w` is a LOOP, with BODY and BOUND. -/
def loopOf (w : Word) : Option (Nat × Nat) := if wOp w == 0x31 then some (bitsAt w.toNat 10 10, bitsAt w.toNat 0 10) else none
/-- OFFSET of a BR. -/
def branchOf (w : Word) : Option Nat := if wOp w == 0x30 then some (bitsAt w.toNat 0 12) else none
/-- R321: YIELD or REJECT with PRED 0. -/
def isTerminator (w : Word) : Bool := (wOp w == 0x32 || wOp w == 0x33) && bitsAt w.toNat 8 3 == 0

/-- The loops of a program: (index, first of the body, index past the body). -/
def loopSpans (code : List Word) : List (Nat × Nat × Nat) :=
  code.zipIdx.filterMap (fun (w, j) => (loopOf w).map (fun (body, _) => (j, j + 1, j + body + 1)))

/-- R319: the branch at index j with OFFSET o is allowed. -/
def branchOk (spans : List (Nat × Nat × Nat)) (n j o : Nat) : Bool :=
  let t := j + o
  let holds (i : Nat) (s : Nat × Nat × Nat) : Bool := decide (s.2.1 ≤ i) && decide (i < s.2.2)
  let mine := spans.filter (holds j)
  let past := mine.foldl (fun a s => min a s.2.2) (n + 1)
  decide (1 ≤ o) && (if mine.isEmpty then decide (t < n) else decide (t ≤ past))
    && ((spans.filter (holds t)).all (fun s => mine.contains s))

/-- R320: the loop at index j is allowed. -/
def loopOk (code : List Word) (spans : List (Nat × Nat × Nat)) (j body bound : Nat) : Bool :=
  let e := j + body + 1
  decide (1 ≤ body) && decide (1 ≤ bound) && decide (e ≤ code.length)
    && (match code[e - 1]? with | some w => (loopOf w).isNone | none => false)
    && spans.all (fun s => decide (s.2.2 ≤ j + 1) || decide (e ≤ s.2.1) || (decide (j + 1 ≤ s.2.1) && decide (s.2.2 ≤ e)) || (decide (s.2.1 ≤ j + 1) && decide (e ≤ s.2.2)))
    && decide ((spans.filter (fun s => decide (s.2.1 ≤ j) && decide (j < s.2.2))).length < 4)

/-! Bounds (R322, R323) -/

/-- A triple (C, E_t, E_h). -/
structure Bound3 where
  cycles : Nat
  tile : Nat
  hall : Nat
  deriving DecidableEq, Repr

def Bound3.add (a b : Bound3) : Bound3 := ⟨a.cycles + b.cycles, a.tile + b.tile, a.hall + b.hall⟩
def Bound3.max (a b : Bound3) : Bound3 := ⟨Nat.max a.cycles b.cycles, Nat.max a.tile b.tile, Nat.max a.hall b.hall⟩
def Bound3.scale (n : Nat) (a : Bound3) : Bound3 := ⟨n * a.cycles, n * a.tile, n * a.hall⟩

/-- R322: the charge of an instruction; of LOOP, its own cycle. -/
def chargeOf (w : Word) : Bound3 :=
  let fn := bitsAt w.toNat 0 5
  match wOp w with
  | 0x03 => if fn == 0x03 || fn == 0x04 then ⟨12, 0, 0⟩ else if fn == 0x0D || fn == 0x0E then ⟨24, 0, 0⟩ else ⟨4, 0, 0⟩
  | 0x05 => if fn == 0x0D || fn == 0x0E then ⟨12, 0, 0⟩ else ⟨4, 0, 0⟩
  | 0x04 | 0x24 | 0x32 | 0x33 => ⟨2, 0, 0⟩
  | 0x16 | 0x23 => ⟨4, 0, 0⟩
  | 0x10 | 0x11 | 0x12 | 0x13 => ⟨2, 0, 0⟩
  | 0x14 => ⟨2, 1, 0⟩
  | 0x15 => ⟨2, 0, 1⟩
  | 0x20 => ⟨16, 0, 0⟩
  | 0x21 => ⟨2, 2, 0⟩
  | 0x22 => ⟨8, 1, 0⟩
  | 0x25 => ⟨20, 0, 0⟩
  | _ => ⟨1, 0, 0⟩

/-- One step of the procedure `bound` of R323: `w` holds the triples already computed, by index. -/
def boundStep (word : Word) (j : Nat) (w : List (Nat × Bound3)) (inner : Nat → Bound3) : Bound3 :=
  let at' (i : Nat) : Bound3 := (alGet i w).getD ⟨0, 0, 0⟩
  let c := chargeOf word
  match loopOf word, branchOf word with
  | some (body, bound), _ => (c.add (((inner (j + body + 1)).add ⟨1, 0, 0⟩).scale bound)).add (at' (j + body + 1))
  | none, some o => c.add ((at' (j + 1)).max (at' (j + o)))
  | none, none => if isTerminator word then c else c.add (at' (j + 1))

/-- The procedure `bound(a, b)` of R323 over the instructions from b − 1 down to a; `depth` bounds the nesting of loops. -/
def boundFrom (code : List Word) : Nat → Nat → Nat → Bound3
  | 0, _, _ => ⟨0, 0, 0⟩
  | depth + 1, a, b =>
    let table := ((List.range (b - a)).reverse).foldl
      (fun w k =>
        let j := a + k
        match code[j]? with
        | some word => (j, boundStep word j w (fun e => boundFrom code depth (j + 1) e)) :: w
        | none => w) [(b, ⟨0, 0, 0⟩)]
    (alGet a table).getD ⟨0, 0, 0⟩

/-- R323: the bound of a whole program. Loops nest at most 4 deep (R320). -/
def progBound (code : List Word) : Bound3 := boundFrom code 6 0 code.length

/-! The verifier (R298) -/

/-- The first index whose word fails a test. -/
def firstBad (code : List Word) (ok : Word → Nat → Bool) : Option Nat :=
  (code.zipIdx.find? (fun (w, j) => !ok w j)).map (·.2)

/-- Check 1 of R298. -/
def progFormOk (kind : ProgKind) (b : List Byte) : Bool :=
  let h := progHeader b
  decide (64 ≤ b.length) && h.magic == 0x5A504731 && h.version == 1 && (h.kind == (match kind with | .tread => 1 | .filter => 2))
    && decide (1 ≤ h.count) && decide (h.count ≤ 4096) && decide (h.constLength ≤ 65536) && h.constLength % 4 == 0
    && decide (h.tallyLength ≤ 65536) && h.tallyLength % 8 == 0 && h.reservedZero
    && b.length == 64 + 4 * h.count + h.constLength + 64

/-- R298: the result code of the verifier and the index of the first offending instruction; code 0 where every check passes. -/
def verifyProgram (kind : ProgKind) (keys : List Byte) (strict : Bool) (b : List Byte) : Nat × Nat :=
  let h := progHeader b
  let code := progCode b
  let spans := loopSpans code
  let n := code.length
  if !progFormOk kind b then (1, 0)
  else if !keySigns keys h.signer 3 (progMeasurement b) (b.drop (b.length - 64)) then (2, 0)
  else
  match firstBad code (fun w _ => match engDecode w with | some i => engAllowed kind i | none => false) with
  | some j => (3, j)
  | none =>
  match firstBad code (fun w _ => engFieldsOk w) with
  | some j => (4, j)
  | none =>
  match firstBad code (fun w j => match branchOf w with | some o => branchOk spans n j o | none => true) with
  | some j => (5, j)
  | none =>
  match firstBad code (fun w j => match loopOf w with | some (body, bound) => loopOk code spans j body bound | none => true) with
  | some j => (6, j)
  | none =>
  match code.getLast? with
  | none => (7, 0)
  | some last =>
  if !isTerminator last then (7, n - 1)
  else
  match firstBad code (fun w _ => wOp w != 0x33 || (let c := bitsAt w.toNat 0 8; c == 0 || c == 6 || decide (16 ≤ c))) with
  | some j => (8, j)
  | none =>
  if progBound code != ⟨h.boundCycles, h.boundTile, h.boundHall⟩ then (9, 0)
  else
  match (if strict then firstBad code (fun w _ => !(wOp w == 0x16 && bitsAt w.toNat 0 5 == 3)) else none) with
  | some j => (10, j)
  | none => (0, 0)

/-- R324: the image holds an ATOM ADD.F32. -/
def usesFpAtomic (b : List Byte) : Bool := (progCode b).any (fun w => wOp w == 0x16 && bitsAt w.toNat 0 5 == 3)

end Sys2Proof.Machine
end

