-- ==== Sys2Proof/Decode.lean ====
section
/-!
DEFINITION. The device is a block that takes commands, and spec/opcode_table.json gives no row of its table any bits. The rows of the engine instructions are words of
32 bits by R307 and R309: of these a word picks the command; no other word spells one.
-/
namespace Sys2Proof

/-- The command that a word spells: a 32-bit word of R307 whose major opcode and function R309 to R315 list and whose register fields are in range; none for any other. -/
def decodeTableWord (nbits w : Nat) : Option Instr :=
  if nbits == 32 && decide (w < 2 ^ 32) && Machine.engFieldsOk (BitVec.ofNat 32 w) then Machine.engDecode (BitVec.ofNat 32 w) else none

end Sys2Proof
end

