-- ==== Sys2Proof/Machine/Fp.lean ====
section
/-!
DEFINITION. IEEE 754 arithmetic on bit patterns (00_scope.md R8; 10_engine_programs.md R311; 05_proposal.md R152):
a value is unpacked to a sign, an integer and a power of two, the operation is exact, and one rounding packs the result.
No operation is fused and subnormals are kept. Every NaN result is the quiet NaN of R311.
-/
namespace Sys2Proof.Machine
open Sys2Proof

/-- A binary interchange format: exponent bits and fraction bits. -/
structure FpFmt where
  ebits : Nat
  mbits : Nat
  deriving DecidableEq, Repr

def fmt16 : FpFmt := ⟨5, 10⟩
def fmt32 : FpFmt := ⟨8, 23⟩
def fmt64 : FpFmt := ⟨11, 52⟩

/-- Rounding directions: to nearest even, towards +∞, towards −∞, towards zero. -/
inductive FpRound where
  | rne | rup | rdn | rtz
  deriving DecidableEq, Repr

/-- An unpacked value: `fin neg m e` stands for (−1)^neg · m · 2^e. -/
inductive FpVal where
  | nan
  | inf (neg : Bool)
  | fin (neg : Bool) (m : Nat) (e : Int)
  deriving DecidableEq, Repr

/-- The exponent of the least subnormal bit of a format. -/
def fpMinExp (f : FpFmt) : Int := 2 - (2 ^ (f.ebits - 1) : Nat) - (f.mbits : Int)

/-- The exponent field of infinities and NaNs. -/
def fpMaxField (f : FpFmt) : Nat := 2 ^ f.ebits - 1

/-- The quiet NaN with no payload (R311: 0x7FC0_0000 in binary32). -/
def fpNaN (f : FpFmt) : Nat := fpMaxField f * 2 ^ f.mbits + 2 ^ (f.mbits - 1)

/-- The sign bit in place. -/
def fpSignBit (f : FpFmt) (neg : Bool) : Nat := if neg then 2 ^ (f.ebits + f.mbits) else 0

/-- The bit pattern of an infinity. -/
def fpInf (f : FpFmt) (neg : Bool) : Nat := fpSignBit f neg + fpMaxField f * 2 ^ f.mbits

/-- Reads a bit pattern as a value. -/
def fpUnpack (f : FpFmt) (x : Nat) : FpVal :=
  let frac := x % 2 ^ f.mbits
  let ex := (x >>> f.mbits) % 2 ^ f.ebits
  let neg := (x >>> (f.mbits + f.ebits)) % 2 == 1
  if ex == fpMaxField f then (if frac == 0 then .inf neg else .nan)
  else if ex == 0 then .fin neg frac (fpMinExp f)
  else .fin neg (frac + 2 ^ f.mbits) (fpMinExp f + (ex : Int) - 1)

/-- Whether a rounding direction moves a kept magnitude up, from its lowest kept bit, the comparison of the discarded part with one half, and whether anything was discarded. -/
def fpRoundsUp (rm : FpRound) (neg odd above tie inexact : Bool) : Bool :=
  match rm with
  | .rne => above || (tie && odd)
  | .rup => inexact && !neg
  | .rdn => inexact && neg
  | .rtz => false

/-- The result of a magnitude too large for the format. -/
def fpOverflow (f : FpFmt) (rm : FpRound) (neg : Bool) : Nat :=
  let toInf := match rm with
    | .rne => true
    | .rup => !neg
    | .rdn => neg
    | .rtz => false
  if toInf then fpInf f neg else fpInf f neg - 1

/-- Rounds (m + a part in (0, 1) when `sticky`) · 2^e to the format. -/
def fpPack (f : FpFmt) (rm : FpRound) (neg : Bool) (m : Nat) (e : Int) (sticky : Bool) : Nat :=
  if m == 0 && !sticky then fpSignBit f neg
  else
    let len : Int := (Nat.log2 m : Int) + 1
    let q : Int := max (e + len - ((f.mbits : Int) + 1)) (fpMinExp f)
    let sh : Nat := (q - e).toNat
    let up : Nat := (e - q).toNat
    let kept : Nat := (m <<< up) >>> sh
    let rem2 : Nat := 2 * (m % 2 ^ sh)
    let full : Nat := 2 ^ sh
    let above := sh != 0 && (decide (rem2 > full) || (rem2 == full && sticky))
    let tie := sh != 0 && rem2 == full && !sticky
    let inexact := rem2 != 0 && sh != 0 || sticky
    let k1 := if fpRoundsUp rm neg (kept % 2 == 1) above tie inexact then kept + 1 else kept
    let carry := k1 == 2 ^ (f.mbits + 1)
    let k2 := if carry then k1 / 2 else k1
    let q2 : Int := if carry then q + 1 else q
    if k2 < 2 ^ f.mbits then fpSignBit f neg + k2
    else
      let field : Nat := (q2 - fpMinExp f + 1).toNat
      if field ≥ fpMaxField f then fpOverflow f rm neg
      else fpSignBit f neg + field * 2 ^ f.mbits + (k2 - 2 ^ f.mbits)

/-- Packs a signed integer times a power of two; an exact zero takes the sign given. -/
def fpPackInt (f : FpFmt) (rm : FpRound) (zeroNeg : Bool) (v : Int) (e : Int) : Nat :=
  if v == 0 then fpSignBit f zeroNeg else fpPack f rm (decide (v < 0)) v.natAbs e false

/-- Signed magnitude. -/
def fpSigned (neg : Bool) (m : Nat) : Int := if neg then -(m : Int) else m

/-- Addition. -/
def fpAdd (f : FpFmt) (rm : FpRound) (a b : Nat) : Nat :=
  match fpUnpack f a, fpUnpack f b with
  | .nan, _ => fpNaN f
  | _, .nan => fpNaN f
  | .inf s, .inf t => if s == t then fpInf f s else fpNaN f
  | .inf s, .fin .. => fpInf f s
  | .fin .., .inf t => fpInf f t
  | .fin s m e, .fin t n d =>
    let lo := min e d
    let v := fpSigned s (m <<< (e - lo).toNat) + fpSigned t (n <<< (d - lo).toNat)
    fpPackInt f rm (if m == 0 && n == 0 && s == t then s else rm == .rdn) v lo

/-- The pattern with its sign inverted; a NaN stays the quiet NaN of R311 only where the caller asks for it. -/
def fpFlip (f : FpFmt) (a : Nat) : Nat :=
  if (a >>> (f.ebits + f.mbits)) % 2 == 1 then a - 2 ^ (f.ebits + f.mbits) else a + 2 ^ (f.ebits + f.mbits)

/-- Subtraction. -/
def fpSub (f : FpFmt) (rm : FpRound) (a b : Nat) : Nat := fpAdd f rm a (fpFlip f b)

/-- Multiplication. -/
def fpMul (f : FpFmt) (rm : FpRound) (a b : Nat) : Nat :=
  match fpUnpack f a, fpUnpack f b with
  | .nan, _ => fpNaN f
  | _, .nan => fpNaN f
  | .inf s, .inf t => fpInf f (s != t)
  | .inf s, .fin t n _ => if n == 0 then fpNaN f else fpInf f (s != t)
  | .fin s m _, .inf t => if m == 0 then fpNaN f else fpInf f (s != t)
  | .fin s m e, .fin t n d => fpPack f rm (s != t) (m * n) (e + d) false

/-- Division. -/
def fpDiv (f : FpFmt) (rm : FpRound) (a b : Nat) : Nat :=
  match fpUnpack f a, fpUnpack f b with
  | .nan, _ => fpNaN f
  | _, .nan => fpNaN f
  | .inf _, .inf _ => fpNaN f
  | .inf s, .fin t _ _ => fpInf f (s != t)
  | .fin s _ _, .inf t => fpSignBit f (s != t)
  | .fin s m e, .fin t n d =>
    if n == 0 then (if m == 0 then fpNaN f else fpInf f (s != t))
    else if m == 0 then fpSignBit f (s != t)
    else
      let k := 2 * f.mbits + 8
      let q := (m <<< k) / n
      fpPack f rm (s != t) q (e - d - (k : Int)) (decide ((m <<< k) % n ≠ 0))

/-- Integer square root, one bit at a time from bit `b`. -/
def isqrtFrom (n : Nat) : Nat → Nat → Nat
  | 0, r => r
  | b + 1, r =>
    let c := r + 2 ^ b
    isqrtFrom n b (if c * c ≤ n then c else r)

/-- The integer square root. -/
def isqrt (n : Nat) : Nat := isqrtFrom n (Nat.log2 n / 2 + 1) 0

/-- Square root. -/
def fpSqrt (f : FpFmt) (rm : FpRound) (a : Nat) : Nat :=
  match fpUnpack f a with
  | .nan => fpNaN f
  | .inf s => if s then fpNaN f else fpInf f false
  | .fin s m e =>
    if m == 0 then fpSignBit f s
    else if s then fpNaN f
    else
      let k := 2 * f.mbits + 10
      let odd : Nat := (e % 2).toNat
      let big := m <<< (k + odd)
      let r := isqrt big
      fpPack f rm false r ((e - (odd : Int) - (k : Int)) / 2) (r * r != big)

/-- Numeric comparison of two patterns; none when either is a NaN. Zeros of both signs are equal. -/
def fpCompare (f : FpFmt) (a b : Nat) : Option Ordering :=
  match fpUnpack f a, fpUnpack f b with
  | .nan, _ => none
  | _, .nan => none
  | .inf s, .inf t => some (compare (if s then (0 : Nat) else 1) (if t then 0 else 1))
  | .inf s, .fin .. => some (if s then .lt else .gt)
  | .fin .., .inf t => some (if t then .gt else .lt)
  | .fin s m e, .fin t n d =>
    let lo := min e d
    some (compare (fpSigned s (m <<< (e - lo).toNat)) (fpSigned t (n <<< (d - lo).toNat)))

def fpLt (f : FpFmt) (a b : Nat) : Bool := fpCompare f a b == some .lt
def fpEq (f : FpFmt) (a b : Nat) : Bool := fpCompare f a b == some .eq
def fpLe (f : FpFmt) (a b : Nat) : Bool := fpLt f a b || fpEq f a b

def fpIsNaN (f : FpFmt) (a : Nat) : Bool := fpUnpack f a == .nan

/-- Neither a NaN nor an infinity. -/
def fpIsFinite (f : FpFmt) (a : Nat) : Bool := (a >>> f.mbits) % 2 ^ f.ebits != fpMaxField f

/-- R311 FMIN: NaN when either input is a NaN; −0 ranks below +0. -/
def fpMin (f : FpFmt) (a b : Nat) : Nat :=
  match fpCompare f a b with
  | none => fpNaN f
  | some .lt => a
  | some .gt => b
  | some .eq => if (a >>> (f.ebits + f.mbits)) % 2 == 1 then a else b

/-- R311 FMAX. -/
def fpMax (f : FpFmt) (a b : Nat) : Nat :=
  match fpCompare f a b with
  | none => fpNaN f
  | some .lt => b
  | some .gt => a
  | some .eq => if (a >>> (f.ebits + f.mbits)) % 2 == 1 then b else a

/-- R311 FABS: the sign bit cleared. -/
def fpAbs (f : FpFmt) (a : Nat) : Nat := a % 2 ^ (f.ebits + f.mbits)

/-- An integer as a floating-point value. -/
def fpOfInt (f : FpFmt) (rm : FpRound) (v : Int) : Nat := fpPackInt f rm false v 0

/-- The rational v · 2^e as a floating-point value. -/
def fpOfScaled (f : FpFmt) (rm : FpRound) (v : Int) (e : Int) : Nat := fpPackInt f rm false v e

/-- The exact quotient of two integers as a floating-point value. -/
def fpOfRatio (f : FpFmt) (rm : FpRound) (num : Int) (den : Nat) : Nat :=
  if num == 0 then 0
  else
    let k := f.mbits + 8 + (Nat.log2 den + 1)
    let n := num.natAbs <<< k
    fpPack f rm (decide (num < 0)) (n / den) (-(k : Int)) (decide (n % den ≠ 0))

/-- Conversion between formats. -/
def fpConvert (f g : FpFmt) (rm : FpRound) (a : Nat) : Nat :=
  match fpUnpack f a with
  | .nan => fpNaN g
  | .inf s => fpInf g s
  | .fin s m e => fpPack g rm s m e false

/-- The integer a finite value rounds to in a direction; none for a NaN or an infinity. -/
def fpToIntExact (f : FpFmt) (rm : FpRound) (a : Nat) : Option Int :=
  match fpUnpack f a with
  | .nan => none
  | .inf _ => none
  | .fin s m e =>
    if e ≥ 0 then some (fpSigned s (m <<< e.toNat))
    else
      let sh := (-e).toNat
      let kept := m >>> sh
      let rem2 := 2 * (m % 2 ^ sh)
      let full := 2 ^ sh
      let k := if fpRoundsUp rm s (kept % 2 == 1) (decide (rem2 > full)) (rem2 == full) (rem2 != 0) then kept + 1 else kept
      some (fpSigned s k)

/-- Clamps an integer into [lo, hi]. -/
def clampInt (lo hi x : Int) : Int := if x < lo then lo else if x > hi then hi else x

/-- R311 FTOI: truncation, saturation, and 0 for a NaN; the two's-complement word. -/
def fpToI32 (f : FpFmt) (a : Nat) : Nat :=
  match fpUnpack f a with
  | .nan => 0
  | .inf s => if s then 0x80000000 else 0x7FFFFFFF
  | .fin .. =>
    match fpToIntExact f .rtz a with
    | some v => unsignedOf 32 (clampInt (-2147483648) 2147483647 v)
    | none => 0

/-- π with 460 fraction bits. -/
def piBits : Nat := 0x3243f6a8885a308d313198a2e03707344a4093822299f31d0082efa98ec4e6c89452821e638d01377be5466cf34e90c6cc0ac29b7c97c50dd3f8

/-- Fraction bits of the working fixed-point numbers of `sinCosFixed`. -/
def trigFrac : Nat := 320

/-- Taylor terms of sine or cosine: `term` is the signed term of index k, divided on by (k+1)(k+2). -/
def taylorSum (x2 : Int) : Nat → Nat → Int → Int → Int
  | 0, _, _, acc => acc
  | fuel + 1, k, term, acc =>
    let next := -(term * x2) / (2 ^ (2 * trigFrac - trigFrac) : Nat) / (((k + 1) * (k + 2) : Nat) : Int)
    taylorSum x2 fuel (k + 2) next (acc + term)

/-- Sine (or cosine) of a fixed-point angle of small magnitude. -/
def taylorTrig (cosine : Bool) (r : Int) : Int :=
  let x2 := r * r / (2 ^ trigFrac : Nat)
  if cosine then taylorSum x2 60 0 ((2 ^ trigFrac : Nat) : Int) 0
  else taylorSum x2 60 1 r 0

/-- The sine (`cosine` false) or cosine of m·2^e with its sign, as a fixed-point number: the angle is reduced by multiples of π/2 held to 460 fraction bits. -/
def sinCosFixed (cosine neg : Bool) (m : Nat) (e : Int) : Int :=
  let x : Int := fpSigned neg ((m <<< (e + 460).toNat) >>> (-(e + 460)).toNat)
  let half : Int := (piBits : Int) / 2
  let k : Int := (2 * x + half) / (2 * half)
  let r : Int := (x - k * half) / (2 ^ (460 - trigFrac) : Nat)
  let quadrant := (k + (if cosine then 1 else 0)) % 4
  if quadrant == 0 then taylorTrig false r
  else if quadrant == 1 then taylorTrig true r
  else if quadrant == 2 then -(taylorTrig false r)
  else -(taylorTrig true r)

/-- Correctly rounded binary32 sine and cosine (R152, R311). DEDUCED: no binary32 argument lies so close to a rounding boundary that the 320 fraction bits kept decide it wrongly (log entry 7). -/
def f32SinCosNat (cosine : Bool) (a : Nat) : Nat :=
  match fpUnpack fmt32 a with
  | .nan => fpNaN fmt32
  | .inf _ => fpNaN fmt32
  | .fin s m e =>
    if m == 0 then (if cosine then 0x3F800000 else fpSignBit fmt32 s)
    else
      let v := sinCosFixed cosine s m e
      fpPack fmt32 .rne (decide (v < 0)) v.natAbs (-(trigFrac : Int)) true

/-- The binary64 value at or beside the sine (`cosine` false) or cosine of a binary64 angle below 2^64 in magnitude: the least that is not below it, or the greatest that is not above.
DEDUCED: no such argument lies so close to a binary64 value that the 320 fraction bits kept decide it wrongly; below 2^−26 the sine lies between the angle and its neighbour towards 0,
and the cosine between 1 and its neighbour below (log entry 7). -/
def f64SinCosNat (cosine up : Bool) (a : Nat) : Nat :=
  let one : Nat := 0x3FF0000000000000
  match fpUnpack fmt64 a with
  | .nan => fpNaN fmt64
  | .inf _ => fpNaN fmt64
  | .fin s m e =>
    if m == 0 then (if cosine then one else a)
    else if a % 2 ^ 63 < 0x3E50000000000000 then
      (if cosine then (if up then one else one - 1) else if up == s then a - 1 else a)
    else
      let v := sinCosFixed cosine s m e
      fpPack fmt64 (if up then .rup else .rdn) (decide (v < 0)) v.natAbs (-(trigFrac : Int)) true

/-- FP64 sine and cosine: a value beside the exact one, on the side that Config names (log entry 7). -/
def f64Sin (a : F64) : F64 := if decide (0x43F0000000000000 ≤ a.toNat % 2 ^ 63) then Config.sin64 a else BitVec.ofNat 64 (f64SinCosNat false (Config.sin64Up a) a.toNat)
def f64Cos (a : F64) : F64 := if decide (0x43F0000000000000 ≤ a.toNat % 2 ^ 63) then Config.cos64 a else BitVec.ofNat 64 (f64SinCosNat true (Config.cos64Up a) a.toNat)

/-! Binary32 and binary64 operations on words. -/

def f32Op2 (g : Nat → Nat → Nat) (a b : F32) : F32 := BitVec.ofNat 32 (g a.toNat b.toNat)
def f64Op2 (g : Nat → Nat → Nat) (a b : F64) : F64 := BitVec.ofNat 64 (g a.toNat b.toNat)

def f32Add (a b : F32) : F32 := f32Op2 (fpAdd fmt32 .rne) a b
def f32Sub (a b : F32) : F32 := f32Op2 (fpSub fmt32 .rne) a b
def f32Mul (a b : F32) : F32 := f32Op2 (fpMul fmt32 .rne) a b
def f32Div (a b : F32) : F32 := f32Op2 (fpDiv fmt32 .rne) a b
def f32AddUp (a b : F32) : F32 := f32Op2 (fpAdd fmt32 .rup) a b
def f32MulUp (a b : F32) : F32 := f32Op2 (fpMul fmt32 .rup) a b
def f32AddDown (a b : F32) : F32 := f32Op2 (fpAdd fmt32 .rdn) a b
def f32MulDown (a b : F32) : F32 := f32Op2 (fpMul fmt32 .rdn) a b
def f32Min (a b : F32) : F32 := f32Op2 (fpMin fmt32) a b
def f32Max (a b : F32) : F32 := f32Op2 (fpMax fmt32) a b
def f32Sqrt (a : F32) : F32 := BitVec.ofNat 32 (fpSqrt fmt32 .rne a.toNat)
def f32SqrtUp (a : F32) : F32 := BitVec.ofNat 32 (fpSqrt fmt32 .rup a.toNat)
def f32Neg (a : F32) : F32 := a ^^^ 0x80000000#32
def f32Abs (a : F32) : F32 := a &&& 0x7FFFFFFF#32
def f32Sin (a : F32) : F32 := BitVec.ofNat 32 (f32SinCosNat false a.toNat)
def f32Cos (a : F32) : F32 := BitVec.ofNat 32 (f32SinCosNat true a.toNat)
def f32Lt (a b : F32) : Bool := fpLt fmt32 a.toNat b.toNat
def f32Le (a b : F32) : Bool := fpLe fmt32 a.toNat b.toNat
def f32Eq (a b : F32) : Bool := fpEq fmt32 a.toNat b.toNat
def f32Finite (a : F32) : Bool := fpIsFinite fmt32 a.toNat
def f32IsNaN (a : F32) : Bool := fpIsNaN fmt32 a.toNat
def f32OfInt (v : Int) : F32 := BitVec.ofNat 32 (fpOfInt fmt32 .rne v)
def f32OfRatio (n : Int) (d : Nat) : F32 := BitVec.ofNat 32 (fpOfRatio fmt32 .rne n d)
def f32Zero : F32 := 0#32
def f32One : F32 := 0x3F800000#32
def f32Clamp (lo hi x : F32) : F32 := if f32Lt x lo then lo else if f32Lt hi x then hi else x
def f32Sum (xs : List F32) : F32 := xs.foldl f32Add f32Zero

def f64Add (a b : F64) : F64 := f64Op2 (fpAdd fmt64 .rne) a b
def f64Sub (a b : F64) : F64 := f64Op2 (fpSub fmt64 .rne) a b
def f64Mul (a b : F64) : F64 := f64Op2 (fpMul fmt64 .rne) a b
def f64Div (a b : F64) : F64 := f64Op2 (fpDiv fmt64 .rne) a b
def f64Neg (a : F64) : F64 := a ^^^ 0x8000000000000000#64
def f64Sqrt (a : F64) : F64 := BitVec.ofNat 64 (fpSqrt fmt64 .rne a.toNat)
def f64Abs (a : F64) : F64 := a &&& 0x7FFFFFFFFFFFFFFF#64
def f64Lt (a b : F64) : Bool := fpLt fmt64 a.toNat b.toNat
def f64Le (a b : F64) : Bool := fpLe fmt64 a.toNat b.toNat
def f64Finite (a : F64) : Bool := fpIsFinite fmt64 a.toNat
def f64OfInt (v : Int) : F64 := BitVec.ofNat 64 (fpOfInt fmt64 .rne v)
def f64OfF32 (a : F32) : F64 := BitVec.ofNat 64 (fpConvert fmt32 fmt64 .rne a.toNat)
def f32OfF64 (a : F64) : F32 := BitVec.ofNat 32 (fpConvert fmt64 fmt32 .rne a.toNat)

end Sys2Proof.Machine
end

