-- ==== Sys2Proof/Machine/Certify.lean ====
section
/-!
DEFINITION. Reading a map version at a point (06_checking.md R174 to R177, R184, R187, R192) and the certified tests over it (R179 to R182), as functions of the tiles.
-/
namespace Sys2Proof.Machine
open Sys2Proof

/-- A finite binary32 value times 2^149, exactly. -/
def f32Fix (a : F32) : Int :=
  match fpUnpack fmt32 a.toNat with
  | .fin s m e => fpSigned s (m <<< (e + 149).toNat)
  | _ => 0

/-- A finite binary64 value times 2^1074, exactly. -/
def f64Fix (a : F64) : Int :=
  match fpUnpack fmt64 a.toNat with
  | .fin s m e => fpSigned s (m <<< (e + 1074).toNat)
  | _ => 0

def fix32One : Int := ((2 ^ 149 : Nat) : Int)

/-- What a reader of one version needs: the grid's lower extents, the layers and the tiles. -/
structure MapView where
  nearRear : Int
  farRear : Int
  types : List Nat
  sliced : List Bool
  tiles : List Tile
  deriving Repr

def State.layerType (s : State) (l : Nat) : Nat := if l < 16 then s.cfg (0x3210 + l) 1 else 0
def State.layerSliced (s : State) (l : Nat) : Bool := s.cfgB (0x3210 + l) 2

def State.mapView (s : State) (tiles : List Tile) : MapView :=
  { nearRear := f32Fix (s.cfgF 0x3200 7), farRear := f32Fix (s.cfgF 0x3200 8), types := (List.range 16).map s.layerType,
    sliced := (List.range 16).map s.layerSliced, tiles := tiles }

/-- R98: the lower extents of a grid (0 near, 1 far), times 2^149. -/
def MapView.xMin (m : MapView) (grid : Nat) : Int := if grid == 0 then -m.nearRear else -m.farRear
def gridYMin (grid : Nat) : Int := if grid == 0 then -64 * fix32One else -256 * fix32One
/-- Cells per metre of a grid. -/
def gridScale (grid : Nat) : Int := if grid == 0 then 8 else 2

def MapView.typeOf (m : MapView) (l : Nat) : Nat := (m.types[l]?).getD 0
/-- R108: the OCCUPANCY layers in ascending order. -/
def MapView.occLayers (m : MapView) : List Nat := (List.range 16).filter (fun l => m.typeOf l == 1)
/-- R99: the stored slice that stands for a slice of a layer. -/
def MapView.sliceOf (m : MapView) (l slice : Nat) : Nat := if (m.sliced[l]?).getD false then slice else 32

/-- A tile of the version; none where it cannot be read (R194). -/
def MapView.tile (m : MapView) (l grid slice tile : Nat) : Option Tile :=
  match m.tiles.find? (fun t => t.key == ⟨l, grid, m.sliceOf l slice, tile⟩) with
  | some t => if t.lost then none else some t
  | none => none

/-- R98: the tile index of a cell and its position within the tile. -/
def cellTile (i j : Nat) : Nat := 16 * (j / 64) + i / 64
def cellPos (i j : Nat) : Nat := 64 * (j % 64) + i % 64

/-- R192: the tile group of a tile. -/
def tileGroup (grid tile : Nat) : Nat := (if grid == 0 then 0 else 128) + 8 * (tile / 16) + (tile % 16) / 2

/-- The value of a cell of a layer in a slice. -/
def MapView.cell (m : MapView) (l grid slice i j : Nat) : Option Nat :=
  match m.tile l grid slice (cellTile i j) with
  | some t => t.values[cellPos i j]?
  | none => none

/-- R176: the lower surrounding cell of a coordinate: floor((p − min) / c − 0.5), exactly. -/
def surround (grid : Nat) (p min : Int) : Int := (2 * gridScale grid * (p - min) - fix32One) / (2 * fix32One)
/-- R184: the cell that contains a coordinate: floor((p − min) / c). -/
def containing (grid : Nat) (p min : Int) : Int := (gridScale grid * (p - min)) / fix32One

/-- Where a point lies: grid, i0 and j0. -/
structure Place where
  grid : Nat
  i : Nat
  j : Nat
  deriving DecidableEq, Repr

/-- The grid whose cells, chosen by `f`, exist with `span` cells beyond them, the near one first. -/
def MapView.placeBy (m : MapView) (f : Nat → Int → Int → Int) (span : Int) (x y : F32) : Option Place :=
  let at' (grid : Nat) : Option Place :=
    let i := f grid (f32Fix x) (m.xMin grid)
    let j := f grid (f32Fix y) (gridYMin grid)
    if 0 ≤ i ∧ i + span ≤ 1023 ∧ 0 ≤ j ∧ j + span ≤ 1023 then some ⟨grid, i.toNat, j.toNat⟩ else none
  match at' 0 with
  | some p => some p
  | none => at' 1

/-- R176: the four surrounding cells of a point. -/
def MapView.locate (m : MapView) (x y : F32) : Option Place := m.placeBy surround 1 x y
/-- R184: the cell that holds a point. -/
def MapView.locateCell (m : MapView) (x y : F32) : Option Place := m.placeBy containing 0 x y

/-- R192: the groups of the tiles that hold the four surrounding cells, as a bit mask. -/
def Place.groups4 (p : Place) : Nat :=
  let g (i j : Nat) : Nat := 2 ^ tileGroup p.grid (cellTile i j)
  g p.i p.j ||| g (p.i + 1) p.j ||| g p.i (p.j + 1) ||| g (p.i + 1) (p.j + 1)
def Place.group1 (p : Place) : Nat := 2 ^ tileGroup p.grid (cellTile p.i p.j)

/-- The four surrounding cells' values: (i0, j0), (i0 + 1, j0), (i0, j0 + 1), (i0 + 1, j0 + 1). -/
def MapView.cells4 (m : MapView) (l slice : Nat) (p : Place) : Option (Nat × Nat × Nat × Nat) :=
  match m.cell l p.grid slice p.i p.j, m.cell l p.grid slice (p.i + 1) p.j, m.cell l p.grid slice p.i (p.j + 1), m.cell l p.grid slice (p.i + 1) (p.j + 1) with
  | some a, some b, some c, some d => some (a, b, c, d)
  | _, _, _, _ => none

/-- R174: the cover of a window [ta, tb] in ns. -/
def sliceCover (ta tb : Nat) : List Nat :=
  let first := min 31 (ta / 250000000)
  let last := min 31 (max first ((tb + 249999999) / 250000000 - 1))
  ((List.range (last - first + 1)).map (· + first)) ++ (if tb > 8000000000 then [32] else [])

/-- R177: the half-diagonal of a cell. -/
def cellHalf (grid : Nat) : Int := if grid == 0 then 12 else 46

/-- R177: D(l, s) at a place. -/
def MapView.dist1 (m : MapView) (l slice : Nat) (p : Place) : Option Int :=
  (m.cells4 l slice p).map (fun (a, b, c, d) => ((min (min a b) (min c d) : Nat) : Int) - cellHalf p.grid)

/-- R177: D(l, W), the least over a cover; none where a tile cannot be read. -/
def MapView.dist (m : MapView) (l : Nat) (p : Place) : List Nat → Option Int
  | [] => none
  | [c] => m.dist1 l c p
  | c :: cs =>
    match m.dist1 l c p, m.dist l p cs with
    | some a, some b => some (min a b)
    | _, _ => none

/-- The exact comparison of an integer with a binary32 threshold (R180). -/
def exceeds (d : Int) (t : F32) : Bool := f32Finite t && decide (d * fix32One > f32Fix t)

/-- R180: the pointwise and the swept thresholds. -/
def pointThreshold (r m : F32) : F32 := f32MulUp 0x43000000#32 (f32AddUp r m)
def sweptThreshold (r m delta len : F32) : F32 :=
  f32MulUp 0x43000000#32 (f32AddUp (f32AddUp (f32AddUp r m) delta) (f32MulUp len 0x3F000000#32))

/-- R181: the length of a chord, computed upwards. -/
def chordUp (p q : F32 × F32) : F32 :=
  let gap (a b : F32) : F32 := if f32Le a b then f32Op2 (fpSub fmt32 .rup) b a else f32Op2 (fpSub fmt32 .rup) a b
  let dx := gap p.1 q.1
  let dy := gap p.2 q.2
  f32SqrtUp (f32AddUp (f32MulUp dx dx) (f32MulUp dy dy))

/-- The configuration of the certified tests: margins by layer, the allowance δ, and the cell tests of R184. -/
structure CheckCfg where
  margins : List F32
  delta : F32
  drivable : Nat
  hardCost : Nat
  hardThreshold : Nat
  deriving Repr

def State.checkCfg (s : State) : CheckCfg :=
  { margins := (List.range 16).map (fun l => s.cfgF 0x5010 (l + 1)), delta := s.cfgF 0x5010 0x11, drivable := s.cfg 0x5010 0x13,
    hardCost := s.cfg 0x5010 0x14, hardThreshold := s.cfg 0x5010 0x15 }

def CheckCfg.margin (c : CheckCfg) (l : Nat) : F32 := (c.margins[l]?).getD 0#32

/-- What a check has read and counted. -/
structure Probe where
  groups : Nat
  queries : Nat
  bisected : Nat
  bisectRejects : Nat
  /-- A tile could not be read. -/
  unreadable : Bool
  deriving DecidableEq, Repr

def Probe.zero : Probe := ⟨0, 0, 0, 0, false⟩
def Probe.touch (p : Probe) (g : Nat) : Probe := { p with groups := p.groups ||| g }

/-- R190: the code of a collision in a layer. -/
def MapView.collision (m : MapView) (l : Nat) : Nat := if (m.sliced[l]?).getD false then 2 else 1

/-- Tests the layers in ascending order at the places given, each against its threshold: 0, the code of the first that fails, or 8 where a tile cannot be read. -/
def MapView.clear (m : MapView) (cover : List Nat) (places : List Place) (threshold : Nat → F32) : List Nat → Nat
  | [] => 0
  | l :: ls =>
    let ds := places.map (fun p => m.dist l p cover)
    if ds.any (·.isNone) then 8
    else if ds.all (fun d => match d with | some d => exceeds d (threshold l) | none => false) then m.clear cover places threshold ls
    else m.collision l

/-- R176, R179: one query at a sphere centre and the pointwise test. -/
def pointTest (m : MapView) (c : CheckCfg) (cover : List Nat) (r : F32) (p : F32 × F32) (st : Probe) : Nat × Probe :=
  if !(f32Finite p.1 && f32Finite p.2) then (7, st)
  else
  let st := { st with queries := st.queries + 1 }
  match m.locate p.1 p.2 with
  | none => (5, st)
  | some pl =>
    let code := m.clear cover [pl] (fun l => pointThreshold r (c.margin l)) m.occLayers
    (code, { st.touch pl.groups4 with unreadable := st.unreadable || code == 8 })

/-- R181: the swept test of one chord over one window; no new query of an end is counted, since the end's own query serves it (R195). -/
def chordTest (m : MapView) (c : CheckCfg) (r : F32) (p q : F32 × F32) (ta tb : Nat) (st : Probe) : Nat × Probe :=
  let len := chordUp p q
  if !(f32Finite p.1 && f32Finite p.2 && f32Finite q.1 && f32Finite q.2 && f32Finite len) then (7, st)
  else
  match m.locate p.1 p.2, m.locate q.1 q.2 with
  | some a, some b =>
    let code := m.clear (sliceCover ta tb) [a, b] (fun l => sweptThreshold r (c.margin l) c.delta len) m.occLayers
    (code, { (st.touch a.groups4).touch b.groups4 with unreadable := st.unreadable || code == 8 })
  | _, _ => (5, st)

def midpoint (p q : F32 × F32) : F32 × F32 := (f32Mul (f32Add p.1 q.1) 0x3F000000#32, f32Mul (f32Add p.2 q.2) 0x3F000000#32)

/-- R182: a failing chord is bisected, the earlier half first, to `levels` further levels; a half that still fails gives its code. -/
def bisect (m : MapView) (c : CheckCfg) (r : F32) : Nat → F32 × F32 → F32 × F32 → Nat → Nat → Probe → Nat × Probe
  | 0, _, _, _, _, st => (0, st)
  | levels + 1, p, q, ta, tb, st =>
    let mid := midpoint p q
    let tm := (ta + tb) / 2
    let st := { st with queries := st.queries + 1 }
    if !(f32Finite mid.1 && f32Finite mid.2) then (7, st)
    else
    let half (p q : F32 × F32) (ta tb : Nat) (st : Probe) : Nat × Probe :=
      match chordTest m c r p q ta tb st with
      | (code, st) =>
        if code == 1 || code == 2 then
          (if levels == 0 then (code, { st with bisectRejects := st.bisectRejects + 1 }) else bisect m c r levels p q ta tb st)
        else (code, st)
    match half p mid ta tm st with
    | (0, st) => half mid q tm tb st
    | (code, st) => (code, st)

/-- R181, R182: the swept test of a sphere over a segment. -/
def sweptTest (m : MapView) (c : CheckCfg) (r : F32) (p q : F32 × F32) (ta tb : Nat) (st : Probe) : Nat × Probe :=
  match chordTest m c r p q ta tb st with
  | (code, st) =>
    if code == 1 || code == 2 then
      match bisect m c r 3 p q ta tb st with
      | (0, st) => (0, { st with bisected := st.bisected + 1 })
      | (code, st) => (code, st)
    else (code, st)

/-- R184: one of the two tests of the cell that holds a sphere centre, in every slice of a cover. -/
def cellTest (m : MapView) (l : Nat) (p : Place) (bad : Nat → Bool) (code : Nat) : List Nat → Nat
  | [] => 0
  | s :: ss =>
    match m.cell l p.grid s p.i p.j with
    | none => 8
    | some v => if bad v then code else cellTest m l p bad code ss

/-- R184: drivable area, then hard cost. -/
def areaTest (m : MapView) (c : CheckCfg) (cover : List Nat) (p : F32 × F32) (st : Probe) : Nat × Probe :=
  if c.drivable == 0xFF && c.hardCost == 0xFF then (0, st)
  else
  match m.locateCell p.1 p.2 with
  | none => (5, st)
  | some pl =>
    let a := if c.drivable == 0xFF then 0 else cellTest m c.drivable pl (· == 0) 5 cover
    let code := if a != 0 then a else if c.hardCost == 0xFF then 0 else cellTest m c.hardCost pl (fun v => decide (c.hardThreshold ≤ v)) 6 cover
    (code, { st.touch pl.group1 with unreadable := st.unreadable || code == 8 })

/-! Spheres (R157, R173) -/

structure Sphere where
  unit : Nat
  cx : F32
  cy : F32
  radius : F32
  deriving DecidableEq, Repr

def sphereAt (table : List Byte) (k : Nat) : Sphere :=
  { unit := fieldAt table (16 * k) 1, cx := BitVec.ofNat 32 (fieldAt table (16 * k + 4) 4), cy := BitVec.ofNat 32 (fieldAt table (16 * k + 8) 4),
    radius := BitVec.ofNat 32 (fieldAt table (16 * k + 12) 4) }

def State.spheres (s : State) : List Sphere := (List.range (s.cfg 0x4010 1)).map (sphereAt (s.cfgBytes 0x4010 2))

/-- The trailers of the vehicle (R166). -/
structure Body where
  trailers : Nat
  m1 : F32
  l1 : F32
  m2 : F32
  l2 : F32
  deriving DecidableEq, Repr

def State.body (s : State) : Body := ⟨s.cfg 0x4000 2, s.cfgF 0x4000 3, s.cfgF 0x4000 4, s.cfgF 0x4000 5, s.cfgF 0x4000 6⟩

/-- Heading and axle centre of a unit at a pose (R173). -/
structure Axle where
  x : F32
  y : F32
  cos : F32
  sin : F32
  deriving DecidableEq, Repr

/-- R173: the axle centres A0, A1 and A2. -/
def axles (b : Body) (p : Pose) : List Axle :=
  let th1 := f32Sub p.heading p.art1
  let th2 := f32Sub th1 p.art2
  let c0 := f32Cos p.heading; let s0 := f32Sin p.heading
  let c1 := f32Cos th1; let s1 := f32Sin th1
  let c2 := f32Cos th2; let s2 := f32Sin th2
  let h1x := f32Sub p.x (f32Mul b.m1 c0); let h1y := f32Sub p.y (f32Mul b.m1 s0)
  let a1x := f32Sub h1x (f32Mul b.l1 c1); let a1y := f32Sub h1y (f32Mul b.l1 s1)
  let h2x := f32Sub a1x (f32Mul b.m2 c1); let h2y := f32Sub a1y (f32Mul b.m2 s1)
  let a2x := f32Sub h2x (f32Mul b.l2 c2); let a2y := f32Sub h2y (f32Mul b.l2 s2)
  ([⟨p.x, p.y, c0, s0⟩, ⟨a1x, a1y, c1, s1⟩, ⟨a2x, a2y, c2, s2⟩]).take (b.trailers + 1)

/-- R173: a sphere's centre. -/
def placeSphere (ax : List Axle) (sp : Sphere) : Option (F32 × F32) :=
  (ax[sp.unit]?).map (fun a => (f32Sub (f32Add a.x (f32Mul sp.cx a.cos)) (f32Mul sp.cy a.sin), f32Add (f32Add a.y (f32Mul sp.cx a.sin)) (f32Mul sp.cy a.cos)))

/-- The spheres of present units with their radii and centres at a pose. -/
def placeSpheres (b : Body) (spheres : List Sphere) (p : Pose) : List (F32 × (F32 × F32)) :=
  let ax := axles b p
  spheres.filterMap (fun sp => (placeSphere ax sp).map (fun c => (sp.radius, c)))

/-- Tests the spheres in ascending order, stopping at the first that fails. -/
def sphereLoop {α : Type} (f : α → Probe → Nat × Probe) : List α → Probe → Nat × Probe
  | [], st => (0, st)
  | x :: xs, st =>
    match f x st with
    | (0, st) => sphereLoop f xs st
    | (code, st) => (code, st)

/-- R172, R189: the tests of pose i before its tread step: every present sphere is placed, a centre that is no finite number rejecting with code 7, and then come the pointwise, area and
(after pose 0) swept tests of every sphere. -/
def poseTests (m : MapView) (c : CheckCfg) (b : Body) (spheres : List Sphere) (before : Option (Pose × Nat)) (p : Pose) (t : Nat) (st : Probe) : Nat × Probe :=
  let here := placeSpheres b spheres p
  let cover := sliceCover t t
  let one (x : F32 × (F32 × F32)) (st : Probe) : Nat × Probe :=
    match pointTest m c cover x.1 x.2 st with
    | (0, st) => areaTest m c cover x.2 st
    | (code, st) => (code, st)
  if here.any (fun x => !(f32Finite x.2.1 && f32Finite x.2.2)) then (7, st)
  else match sphereLoop one here st with
  | (0, st) =>
    match before with
    | some (q, tq) =>
      sphereLoop (fun (x : (F32 × (F32 × F32)) × (F32 × (F32 × F32))) st => sweptTest m c x.1.1 x.1.2 x.2.2 tq t st) ((placeSpheres b spheres q).zip here) st
    | none => (0, st)
  | (code, st) => (code, st)

/-- R187: the bilinear value of a COST layer at a place in the slice given; none where a tile cannot be read. -/
def MapView.bilinear (m : MapView) (l slice : Nat) (x y : F32) (p : Place) : Option F32 :=
  match m.cells4 l slice p with
  | none => none
  | some (c00, c10, c01, c11) =>
    let frac (v min : Int) (i : Nat) : F32 :=
      BitVec.ofNat 32 (fpOfScaled fmt32 .rne (2 * gridScale p.grid * (v - min) - fix32One - 2 * fix32One * (i : Int)) (-150))
    let fx := frac (f32Fix x) (m.xMin p.grid) p.i
    let fy := frac (f32Fix y) (gridYMin p.grid) p.j
    let v (c : Nat) : F32 := f32OfInt c
    let gx := f32Sub f32One fx
    let gy := f32Sub f32One fy
    some (f32Add (f32Mul gy (f32Add (f32Mul gx (v c00)) (f32Mul fx (v c10)))) (f32Mul fy (f32Add (f32Mul gx (v c01)) (f32Mul fx (v c11)))))

end Sys2Proof.Machine
end

