-- ==== Sys2Proof/Machine/Operands.lean ====
section
/-!
DEFINITION. Operands of engine programs: registers (R301), predication (R308), loops (R320), the local, tile, constant and tally spaces (R303 to R306, R313).
-/
namespace Sys2Proof.Machine
open Sys2Proof

/-! Registers (R301) -/

/-- A general register; g0 reads as 0. -/
def Invocation.getG (v : Invocation) (r : Nat) : Word := if r == 0 then 0#32 else (v.g[r]?).getD 0#32
/-- Writes a general register; a write to g0 is discarded. -/
def Invocation.setG (v : Invocation) (r : Nat) (x : Word) : Invocation := if r == 0 then v else { v with g := setAt v.g r x }
/-- A vector register: 8 lanes. -/
def Invocation.getV (v : Invocation) (r : Nat) : List Word := (v.v[r]?).getD (List.replicate 8 0#32)
def Invocation.setV (v : Invocation) (r : Nat) (x : List Word) : Invocation := { v with v := setAt v.v r x }
/-- A predicate; p0 reads as 1. -/
def Invocation.getP (v : Invocation) (r : Nat) : Bool := r == 0 || (v.p[r]?).getD false

/-- Lane `i` of a vector. -/
def lane (x : List Word) (i : Nat) : Word := (x[i]?).getD 0#32

/-! Ends and sequencing -/

/-- R316: the invocation faults. -/
def Invocation.fault (v : Invocation) : Invocation := { v with status := .faulted }
/-- The candidate ends with a code (R314); in a filter the packet is malformed (R315). -/
def Invocation.endWith (v : Invocation) (code : Nat) : Invocation := { v with status := .ended code }

/-- R320: at the end of a loop body, the next iteration or the instruction after it. -/
def loopEnd : List LoopFrame → Nat → List LoopFrame × Nat
  | [], pc => ([], pc)
  | f :: fs, pc =>
    if pc == f.stop then (if f.left == 0 then loopEnd fs pc else ({ f with left := f.left - 1 } :: fs, f.start))
    else (f :: fs, pc)

/-- Goes on at an instruction index. -/
def Invocation.goto (v : Invocation) (pc : Nat) : Invocation :=
  let x := loopEnd v.loops pc
  { v with pc := x.2, loops := x.1 }

/-- Goes on at the next instruction. -/
def Invocation.next (v : Invocation) : Invocation := v.goto (v.pc + 1)

/-- R308: an instruction whose predicate fails has no effect. -/
def Invocation.when (v : Invocation) (pred : BitVec 3) (f : Invocation → Invocation) : Invocation := if v.getP pred.toNat then f v else v.next

/-- The effective address of an I-format access: g[RA] + sext(IMM), in 32 bits (R306, R313). -/
def Invocation.address (v : Invocation) (ra : BitVec 6) (imm : BitVec 14) : Nat := (v.getG ra.toNat + imm.signExtend 32).toNat

/-! Local space (R155, R156, R304, R305) -/

/-- The 32 bytes of a pose record (R156). -/
def poseBytes (p : Pose) : List Byte :=
  [p.x, p.y, p.heading, p.art1, p.art2, p.speed, p.accel, p.curvature].flatMap (fun w => leBytes 4 w.toNat)

/-- The 16 bytes of a candidate record (R156). -/
def recordBytes (e : Expansion) : List Byte :=
  leBytes 4 e.cid ++ [BitVec.ofNat 8 ((if e.clampCount > 0 then 1 else 0) + (if e.stopped then 2 else 0)), BitVec.ofNat 8 e.limitCode]
    ++ leBytes 2 e.limitStep ++ leBytes 2 e.clampCount ++ List.replicate 6 0#8

/-- R155: the window that holds the pose the invocation is at. -/
def Invocation.window (v : Invocation) : Nat := (v.pose - 1) / 64

/-- R302, R155: the scratchpad address of a pose's record. -/
def poseAddress (slot pose : Nat) : Nat := if pose == 0 then 0x20000 + 32 * slot else 2048 * slot + 32 * ((pose - 1) % 64)

/-- The bytes of a pose, or zeros where the expansion has none. -/
def Invocation.poseAt (v : Invocation) (i : Nat) : List Byte := match v.exp.poses[i]? with | some p => poseBytes p | none => List.replicate 32 0#8

/-- R304: a byte of the pose windows, carry slots and records; only the candidate's own slots show their content. -/
def Invocation.scratchByte (v : Invocation) (a : Nat) : Byte :=
  if a < 0x20000 then
    (if a / 2048 == v.slot then ((v.poseAt (64 * v.window + 1 + (a % 2048) / 32))[a % 32]?).getD 0#8 else 0#8)
  else if a < 0x20800 then
    (if (a - 0x20000) / 32 == v.slot then ((v.poseAt (64 * v.window))[a % 32]?).getD 0#8 else 0#8)
  else
    (if (a - 0x20800) / 16 == v.slot then ((recordBytes v.exp)[a % 16]?).getD 0#8 else 0#8)

/-- R304: the candidate's own state area. -/
def Invocation.ownState (v : Invocation) (a n : Nat) : Bool := decide (0x21000 + 1024 * v.slot ≤ a) && decide (a + n ≤ 0x21400 + 1024 * v.slot)

/-- R303 to R305: reads `n` bytes of the local space; none for a fault. -/
def Invocation.loadLocal (v : Invocation) (a n : Nat) : Option (List Byte) :=
  if a % n != 0 then none
  else
  match v.kind with
  | .tread =>
    if a + n ≤ 0x20C00 then some ((List.range n).map (fun k => v.scratchByte (a + k)))
    else if v.ownState a n then some (memReadBytes v.mem a n)
    else none
  | .filter =>
    if a < 0x8000 then (if a + n ≤ v.packet.length then some (slice v.packet a n) else none)
    else if a < 0x10000 then some (memReadBytes v.mem a n)
    else none

/-- R303 to R305: stores bytes to the local space; a store to the output port appends its words. -/
def Invocation.storeLocal (v : Invocation) (a : Nat) (bytes : List Byte) : Invocation :=
  let n := bytes.length
  if a % n != 0 then v.fault
  else
  match v.kind with
  | .tread => if v.ownState a n then ({ v with mem := memWriteBytes v.mem a bytes }).next else v.fault
  | .filter =>
    if 0x8000 ≤ a ∧ a < 0x10000 then ({ v with mem := memWriteBytes v.mem a bytes }).next
    else if 0x10000 ≤ a ∧ a < 0x20000 then
      ({ v with output := v.output ++ (List.range (n / 4)).map (fun k => fieldAt bytes (4 * k) 4) }).next
    else v.fault

/-- A word of bytes. -/
def bytesWord (b : List Byte) : Word := BitVec.ofNat 32 (leNat b)

/-! Tile space (R306, R116) -/

/-- R116: the bytes of a tile by its layer's type. -/
def tileSize (type : Nat) : Nat := match type with | 1 => 8192 | 2 => 4096 | 3 => 512 | _ => 0

/-- The word of a tile at a byte offset. -/
def tileWord (type : Nat) (values : List Nat) (o : Nat) : Nat :=
  let v (k : Nat) : Nat := (values[k]?).getD 0
  match type with
  | 1 => v (o / 2) + 65536 * v (o / 2 + 1)
  | 2 => v o + 256 * v (o + 1) + 65536 * v (o + 2) + 16777216 * v (o + 3)
  | _ => (List.range 32).foldl (fun a k => a + v (8 * o + k) * 2 ^ k) 0

/-! Tally space (R313) -/

/-- R303: an atomic access of `n` bytes is aligned and within the tally area. -/
def Invocation.tallyOk (v : Invocation) (a n : Nat) : Bool := a % n == 0 && decide (a + n ≤ v.tallyLength)

/-- R329: the atomic operations of a Hall bank. -/
inductive AtomicOp where
  | addI32 | addI64 | addU16q7s | addF32 | swap32 | swap64
  deriving DecidableEq, Repr

/-- R329: the bytes an operation acts on. -/
def AtomicOp.size : AtomicOp → Nat
  | .addI32 | .addF32 | .swap32 => 4
  | .addI64 | .swap64 => 8
  | .addU16q7s => 2

/-- R329: what the operation leaves of an old value and an operand. -/
def AtomicOp.result (op : AtomicOp) (old operand : Nat) : Nat :=
  match op with
  | .addI32 => (old + operand) % 2 ^ 32
  | .addI64 => (old + operand) % 2 ^ 64
  | .addU16q7s => min 0xFFFF (old + operand % 65536)
  | .addF32 => (f32Add (BitVec.ofNat 32 old) (BitVec.ofNat 32 operand)).toNat
  | .swap32 => operand % 2 ^ 32
  | .swap64 => operand % 2 ^ 64

/-- R329: what the operation returns: a swap the old value, the additions nothing. -/
def AtomicOp.returns (op : AtomicOp) (old : Nat) : Option Nat :=
  match op with
  | .swap32 | .swap64 => some old
  | _ => none

/-- R329: an operation at a bank: one read-modify-write of the value at an address. -/
def AtomicOp.atBank (op : AtomicOp) (mem : List Host.Cell) (a operand : Nat) : List Host.Cell × Option Nat :=
  let old := memReadNat mem a op.size
  (memWriteNat mem a op.size (op.result old operand), op.returns old)

/-- R313: an atomic operation on the tally. -/
def Invocation.atomic (v : Invocation) (op : AtomicOp) (a operand : Nat) : Invocation :=
  if v.tallyOk a op.size then ({ v with tally := (op.atBank v.tally a operand).1 }).next else v.fault

/-! The environment of an invocation -/

/-- What a program sees beyond its registers: the map version, the spheres and the vehicle body, the step length in ns, and the key of the SCG. -/
structure EngEnv where
  map : MapView
  spheres : List Sphere
  body : Body
  stepNs : Nat
  frame : Nat
  key : List Byte
  deriving Repr

/-- R164: K_N. -/
def scgKey (root : List Byte) (frame : Nat) : List Byte := (sm3 (root ++ leBytes 8 frame)).take 16

/-- R164: the four words of the SCG. -/
def scgWords (key : List Byte) (frame round cid draw : Nat) : List Word :=
  let counter := frame % 2 ^ 64 * 2 ^ 64 + round % 256 * 2 ^ 56 + cid % 2 ^ 32 * 2 ^ 24 + draw % 2 ^ 24
  wordsBE (sm4Encrypt key (beBytes 16 counter))

end Sys2Proof.Machine
end

