-- ==== Sys2Proof/Machine/Flags.lean ====
section
/-!
DEFINITION. The predicates of engine programs, their only flags: writes of p1 to p7 and the comparisons that set them (R301, R310, R311).
-/
namespace Sys2Proof.Machine
open Sys2Proof

/-- Writes a predicate; p0 reads as 1 whatever is written. -/
def Invocation.setP (v : Invocation) (r : Nat) (x : Bool) : Invocation := if r == 0 then v else { v with p := setAt v.p r x }

/-- R310: ICMP, by function. -/
def icmpFn (fn : Nat) (a b : Word) : Bool :=
  match fn with
  | 0 => a == b
  | 1 => a != b
  | 2 => BitVec.slt a b
  | 3 => BitVec.sle a b
  | 4 => BitVec.ult a b
  | _ => BitVec.ule a b

/-- R311: FCMP, by function: equal, less, less or equal, unordered. -/
def fcmpFn (fn : Nat) (a b : F32) : Bool :=
  match fn with
  | 0 => f32Eq a b
  | 1 => f32Lt a b
  | 2 => f32Le a b
  | _ => f32IsNaN a || f32IsNaN b

/-- R310: PLOG, by function. -/
def plogFn (fn : Nat) (a b : Bool) : Bool :=
  match fn with
  | 0 => a && b
  | 1 => a || b
  | 2 => a != b
  | _ => !a

end Sys2Proof.Machine
end

