-- ==== Sys2Proof/Machine/Engine.lean ====
section
/-!
DEFINITION. The instructions of engine programs (10_engine_programs.md R308 to R320) as functions of an invocation, and the run of a whole program.
-/
namespace Sys2Proof.Machine
open Sys2Proof

/-! Integer and immediate operations (R310) -/

/-- R310: IALU, by function. -/
def ialuFn (fn : Nat) (a b : Word) : Word :=
  let sh := b.toNat % 32
  match fn with
  | 0x00 => a + b
  | 0x01 => a - b
  | 0x02 => a * b
  | 0x03 => BitVec.ofNat 32 (a.toNat * b.toNat / 2 ^ 32)
  | 0x04 => a &&& b
  | 0x05 => a ||| b
  | 0x06 => a ^^^ b
  | 0x07 => a <<< sh
  | 0x08 => a >>> sh
  | 0x09 => a.sshiftRight sh
  | 0x0A => if BitVec.sle a b then a else b
  | 0x0B => if BitVec.sle a b then b else a
  | 0x0C => if BitVec.ule a b then a else b
  | _ => if BitVec.ule a b then b else a

def engIalu (rd ra rb : BitVec 6) (pred : BitVec 3) (fn : BitVec 5) (v : Invocation) : Invocation :=
  v.when pred (fun v => (v.setG rd.toNat (ialuFn fn.toNat (v.getG ra.toNat) (v.getG rb.toNat))).next)

def engIcmp (rd ra rb : BitVec 6) (pred : BitVec 3) (fn : BitVec 5) (v : Invocation) : Invocation :=
  v.when pred (fun v => (v.setP rd.toNat (icmpFn fn.toNat (v.getG ra.toNat) (v.getG rb.toNat))).next)

def engPlog (rd ra rb : BitVec 6) (pred : BitVec 3) (fn : BitVec 5) (v : Invocation) : Invocation :=
  v.when pred (fun v => (v.setP rd.toNat (plogFn fn.toNat (v.getP ra.toNat) (v.getP rb.toNat))).next)

def engAddi (rd ra : BitVec 6) (imm : BitVec 14) (v : Invocation) : Invocation := (v.setG rd.toNat (v.getG ra.toNat + imm.signExtend 32)).next
def engOri (rd ra : BitVec 6) (imm : BitVec 14) (v : Invocation) : Invocation := (v.setG rd.toNat (v.getG ra.toNat ||| imm.zeroExtend 32)).next
def engAndi (rd ra : BitVec 6) (imm : BitVec 14) (v : Invocation) : Invocation := (v.setG rd.toNat (v.getG ra.toNat &&& imm.zeroExtend 32)).next
def engLui (rd : BitVec 6) (imm : BitVec 20) (v : Invocation) : Invocation := (v.setG rd.toNat (imm.zeroExtend 32 <<< 12)).next

/-! Floating point (R311) -/

/-- R311: FALU, by function. -/
def faluFn (fn : Nat) (a b : Word) : Word :=
  match fn with
  | 0x00 => f32Add a b
  | 0x01 => f32Sub a b
  | 0x02 => f32Mul a b
  | 0x03 => f32Div a b
  | 0x04 => f32Sqrt a
  | 0x05 => f32Min a b
  | 0x06 => f32Max a b
  | 0x07 => if f32IsNaN a then 0x7FC00000#32 else f32Abs a
  | 0x08 => if f32IsNaN a then 0x7FC00000#32 else f32Neg a
  | 0x09 => f32OfInt a.toInt
  | 0x0A => BitVec.ofNat 32 (fpToI32 fmt32 a.toNat)
  | 0x0B => f32AddUp a b
  | 0x0C => f32MulUp a b
  | 0x0D => f32Sin a
  | 0x0E => f32Cos a
  | 0x0F => BitVec.ofNat 32 (fpConvert fmt16 fmt32 .rne (a.toNat % 65536))
  | _ => BitVec.ofNat 32 (fpConvert fmt32 fmt16 .rne a.toNat)

def engFalu (rd ra rb : BitVec 6) (pred : BitVec 3) (fn : BitVec 5) (v : Invocation) : Invocation :=
  v.when pred (fun v => (v.setG rd.toNat (faluFn fn.toNat (v.getG ra.toNat) (v.getG rb.toNat))).next)

def engFcmp (rd ra rb : BitVec 6) (pred : BitVec 3) (fn : BitVec 5) (v : Invocation) : Invocation :=
  v.when pred (fun v => (v.setP rd.toNat (fcmpFn fn.toNat (v.getG ra.toNat) (v.getG rb.toNat))).next)

/-! Vectors (R312) -/

/-- R312: one lane of the lane-by-lane functions 0x00 to 0x09. -/
def valuLane (fn : Nat) (a b : Word) : Word :=
  match fn with
  | 0x00 => f32Add a b
  | 0x01 => f32Sub a b
  | 0x02 => f32Mul a b
  | 0x03 => f32Min a b
  | 0x04 => f32Max a b
  | 0x05 => a + b
  | 0x06 => a - b
  | 0x07 => a * b
  | 0x08 => BitVec.ofNat 32 (fpAdd fmt16 .rne (a.toNat % 65536) (b.toNat % 65536))
  | _ => BitVec.ofNat 32 (fpMul fmt16 .rne (a.toNat % 65536) (b.toNat % 65536))

/-- R312: the fixed tree of VRSUM. -/
def vrSum (x : List Word) : Word :=
  f32Add (f32Add (f32Add (lane x 0) (lane x 1)) (f32Add (lane x 2) (lane x 3))) (f32Add (f32Add (lane x 4) (lane x 5)) (f32Add (lane x 6) (lane x 7)))

/-- R312: the least lane, signed. -/
def vrMin (x : List Word) : Word := x.foldl (fun a b => if BitVec.sle a b then a else b) (lane x 0)

def engValu (rd ra rb : BitVec 6) (pred : BitVec 3) (fn : BitVec 5) (v : Invocation) : Invocation :=
  v.when pred fun v =>
    let d := rd.toNat; let a := ra.toNat; let b := rb.toNat
    (match fn.toNat with
    | 0x0A => v.setV d (List.replicate 8 (v.getG a))
    | 0x0B => v.setG d (lane (v.getV a) ((v.getG b).toNat % 8))
    | 0x0C => v.setV d (setAt (v.getV d) ((v.getG b).toNat % 8) (v.getG a))
    | 0x0D => v.setG d (vrSum (v.getV a))
    | 0x0E => v.setG d (vrMin (v.getV a))
    | fn => v.setV d (List.zipWith (valuLane fn) (v.getV a) (v.getV b))).next

/-! Bits (R315) -/

def byteSwap32 (a : Word) : Word := BitVec.ofNat 32 (beNat (leBytes 4 a.toNat))
def byteSwap16 (a : Word) : Word := BitVec.ofNat 32 (beNat (leBytes 2 a.toNat) + 65536 * beNat (leBytes 2 (a.toNat / 65536)))

def engBswap32 (rd ra : BitVec 6) (pred : BitVec 3) (v : Invocation) : Invocation :=
  v.when pred (fun v => (v.setG rd.toNat (byteSwap32 (v.getG ra.toNat))).next)
def engBswap16 (rd ra : BitVec 6) (pred : BitVec 3) (v : Invocation) : Invocation :=
  v.when pred (fun v => (v.setG rd.toNat (byteSwap16 (v.getG ra.toNat))).next)

/-- R315: FN 0x02 to 0x04 take the low 1, 2 or 4 bytes of g[RB]. -/
def crcBytes (fn : Nat) : Nat := match fn with | 2 => 1 | 3 => 2 | _ => 4

def engCrc32c (rd ra rb : BitVec 6) (pred : BitVec 3) (fn : BitVec 5) (v : Invocation) : Invocation :=
  v.when pred (fun v => (v.setG rd.toNat (crcRun (v.getG ra.toNat) (leBytes (crcBytes fn.toNat) (v.getG rb.toNat).toNat))).next)

def engBfx (rd ra : BitVec 6) (pos widthLess1 : BitVec 5) (v : Invocation) : Invocation :=
  (v.setG rd.toNat (BitVec.ofNat 32 (bitsAt (v.getG ra.toNat).toNat pos.toNat (widthLess1.toNat + 1)))).next

/-! Memory (R313) -/

def engLdwS (rd ra : BitVec 6) (imm : BitVec 14) (v : Invocation) : Invocation :=
  match v.loadLocal (v.address ra imm) 4 with
  | some b => (v.setG rd.toNat (bytesWord b)).next
  | none => v.fault

def engStwS (rd ra : BitVec 6) (imm : BitVec 14) (v : Invocation) : Invocation :=
  v.storeLocal (v.address ra imm) (leBytes 4 (v.getG rd.toNat).toNat)

def engVldS (rd ra : BitVec 6) (imm : BitVec 14) (v : Invocation) : Invocation :=
  match v.loadLocal (v.address ra imm) 32 with
  | some b => (v.setV rd.toNat (wordsLE 8 b)).next
  | none => v.fault

def engVstS (rd ra : BitVec 6) (imm : BitVec 14) (v : Invocation) : Invocation :=
  v.storeLocal (v.address ra imm) ((v.getV rd.toNat).flatMap (fun w => leBytes 4 w.toNat))

/-- R306, R313: LDW.T; a tile that cannot be read ends the candidate with code 8 (R194). -/
def engLdwT (env : EngEnv) (rd ra : BitVec 6) (imm : BitVec 14) (v : Invocation) : Invocation :=
  let ref := v.address ra imm
  let layer := bitsAt ref 28 4
  let grid := bitsAt ref 27 1
  let slice := bitsAt ref 21 6
  let tile := bitsAt ref 13 8
  let offset := bitsAt ref 0 13
  let type := env.map.typeOf layer
  if v.kind == .filter || type == 0 || decide (32 < slice) || decide (tileSize type < offset + 4) || offset % 4 != 0 then v.fault
  else
    let v := { v with groups := v.groups ||| 2 ^ tileGroup grid tile }
    match env.map.tile layer grid slice tile with
    | some t => (v.setG rd.toNat (BitVec.ofNat 32 (tileWord type t.values offset))).next
    | none => v.endWith 8

def engLdwH (rd ra : BitVec 6) (imm : BitVec 14) (v : Invocation) : Invocation :=
  let a := v.address ra imm
  if a % 4 == 0 && decide (a + 4 ≤ v.consts.length) then (v.setG rd.toNat (bytesWord (slice v.consts a 4))).next else v.fault

def engAtomAddI32 (ra rb : BitVec 6) (pred : BitVec 3) (v : Invocation) : Invocation :=
  v.when pred (fun v => v.atomic .addI32 (v.getG ra.toNat).toNat (v.getG rb.toNat).toNat)

def engAtomAddI64 (ra rb : BitVec 6) (pred : BitVec 3) (v : Invocation) : Invocation :=
  v.when pred (fun v => v.atomic .addI64 (v.getG ra.toNat).toNat ((v.getG rb.toNat).toNat + 2 ^ 32 * (v.getG (rb.toNat + 1)).toNat))

def engAtomAddU16q7s (ra rb : BitVec 6) (pred : BitVec 3) (v : Invocation) : Invocation :=
  v.when pred (fun v => v.atomic .addU16q7s (v.getG ra.toNat).toNat (v.getG rb.toNat).toNat)

/-- R313, R318: ATOM ADD.F32 takes effect. -/
def engAtomAddF32 (ra rb : BitVec 6) (pred : BitVec 3) (v : Invocation) : Invocation :=
  v.when pred fun v =>
    let w := v.atomic .addF32 (v.getG ra.toNat).toNat (v.getG rb.toNat).toNat
    if w.status == .faulted then w else { w with fpAtomic := true }

/-! Special instructions (R314) -/

/-- Writes a pair of registers. -/
def Invocation.setPair (v : Invocation) (rd : BitVec 6) (p : F32 × F32) : Invocation := ((v.setG rd.toNat p.1).setG (rd.toNat + 1) p.2).next

/-- The pose the invocation is at. -/
def Invocation.here (v : Invocation) : Pose := (v.exp.poses[v.pose]?).getD Pose.zero

def engPoseSphere (env : EngEnv) (rd ra : BitVec 6) (pred : BitVec 3) (v : Invocation) : Invocation :=
  v.when pred fun v =>
    match env.spheres[(v.getG ra.toNat).toNat]? with
    | none => v.fault
    | some sp => v.setPair rd ((placeSphere (axles env.body v.here) sp).getD (0#32, 0#32))

def engPoseAxle (env : EngEnv) (rd ra : BitVec 6) (pred : BitVec 3) (v : Invocation) : Invocation :=
  v.when pred fun v =>
    match (axles env.body v.here)[(v.getG ra.toNat).toNat]? with
    | none => v.fault
    | some a => v.setPair rd (a.x, a.y)

/-- The instant of the pose, in ns (R174). -/
def Invocation.timeNs (env : EngEnv) (v : Invocation) : Nat := v.pose * env.stepNs

/-- R314: QUERY; each counts in ClearanceQueries, one of a non-finite coordinate too. -/
def engQuery (env : EngEnv) (rd ra rb : BitVec 6) (pred : BitVec 3) (v : Invocation) : Invocation :=
  v.when pred fun v =>
    let l := (v.getG rb.toNat).toNat
    let x := v.getG ra.toNat
    let y := v.getG (ra.toNat + 1)
    if env.map.typeOf l != 1 then v.fault
    else
      let v := { v with queries := v.queries + 1 }
      if !(f32Finite x && f32Finite y) then v.endWith 7
      else
      match env.map.locate x y with
      | none => (v.setG rd.toNat 0x80000000#32).next
      | some p =>
        let v := { v with groups := v.groups ||| p.groups4 }
        let t := v.timeNs env
        match env.map.dist l p (sliceCover t t) with
        | some d => (v.setG rd.toNat (BitVec.ofInt 32 d)).next
        | none => v.endWith 8

/-- R314, R187: LOOKUP. -/
def engLookup (env : EngEnv) (rd ra rb : BitVec 6) (pred : BitVec 3) (v : Invocation) : Invocation :=
  v.when pred fun v =>
    let l := (v.getG rb.toNat).toNat
    let x := v.getG ra.toNat
    let y := v.getG (ra.toNat + 1)
    if env.map.typeOf l != 2 then v.fault
    else if !(f32Finite x && f32Finite y) then v.endWith 7
    else
      match env.map.locate x y with
      | none => (v.setG rd.toNat 0x437F0000#32).next
      | some p =>
        let v := { v with groups := v.groups ||| p.groups4 }
        let t := v.timeNs env
        match env.map.bilinear l ((sliceCover t t).headD 0) x y p with
        | some c => (v.setG rd.toNat c).next
        | none => v.endWith 8

/-- R314, R189: ACC; a non-finite result ends the candidate with code 7. -/
def engAcc (ra : BitVec 6) (pred : BitVec 3) (fn : BitVec 5) (v : Invocation) : Invocation :=
  v.when pred fun v =>
    let x := f32Add ((v.acc[fn.toNat]?).getD 0#32) (v.getG ra.toNat)
    let v := { v with acc := setAt v.acc fn.toNat x }
    if f32Finite x then v.next else v.endWith 7

def engMerit (ra : BitVec 6) (pred : BitVec 3) (v : Invocation) : Invocation :=
  v.when pred (fun v => if v.pose == v.horizon then ({ v with merit := some (v.getG ra.toNat) }).next else v.fault)

def engScg (env : EngEnv) (rd rb : BitVec 6) (pred : BitVec 3) (v : Invocation) : Invocation :=
  v.when pred fun v =>
    let w := scgWords env.key env.frame (bitsAt v.exp.cid 28 2) v.exp.cid (0x800000 + 256 * v.pose + (v.getG rb.toNat).toNat % 256)
    ((((v.setG rd.toNat (lane w 0)).setG (rd.toNat + 1) (lane w 1)).setG (rd.toNat + 2) (lane w 2)).setG (rd.toNat + 3) (lane w 3)).next

/-! Control (R308, R314, R319, R320) -/

def engBr (pred : BitVec 3) (inv : Bool) (offset : BitVec 12) (v : Invocation) : Invocation :=
  if v.getP pred.toNat != inv then v.goto (v.pc + offset.toNat) else v.next

def engLoop (rs : BitVec 6) (body bound : BitVec 10) (v : Invocation) : Invocation :=
  let t := (v.getG rs.toNat).toNat
  if bound.toNat < t then v.fault
  else if t == 0 then v.goto (v.pc + body.toNat + 1)
  else { v with pc := v.pc + 1, loops := ⟨v.pc + 1, v.pc + body.toNat + 1, t - 1⟩ :: v.loops }

def engYield (pred : BitVec 3) (v : Invocation) : Invocation := v.when pred (fun v => { v with status := .yielded })

/-- R314, R315: REJECT. -/
def engReject (ra : BitVec 6) (pred : BitVec 3) (code : BitVec 8) (v : Invocation) : Invocation :=
  v.when pred fun v =>
    let c := if code == 0#8 then (v.getG ra.toNat).toNat % 256 else code.toNat
    if v.kind == .filter || c == 6 || decide (16 ≤ c) then v.endWith c else v.fault

/-! A whole program -/

/-- The effect of an instruction on an invocation; commands that are no engine instruction have none. -/
def engOp (env : EngEnv) (i : Instr) (v : Invocation) : Invocation :=
  match i with
  | .ialu rd ra rb p fn => engIalu rd ra rb p fn v
  | .icmp rd ra rb p fn => engIcmp rd ra rb p fn v
  | .falu rd ra rb p fn => engFalu rd ra rb p fn v
  | .fcmp rd ra rb p fn => engFcmp rd ra rb p fn v
  | .valu rd ra rb p fn => engValu rd ra rb p fn v
  | .plog rd ra rb p fn => engPlog rd ra rb p fn v
  | .bswap32 rd ra p => engBswap32 rd ra p v
  | .bswap16 rd ra p => engBswap16 rd ra p v
  | .crc32c rd ra rb p fn => engCrc32c rd ra rb p fn v
  | .addi rd ra imm => engAddi rd ra imm v
  | .ori rd ra imm => engOri rd ra imm v
  | .andi rd ra imm => engAndi rd ra imm v
  | .lui rd imm => engLui rd imm v
  | .bfx rd ra pos w => engBfx rd ra pos w v
  | .ldwS rd ra imm => engLdwS rd ra imm v
  | .stwS rd ra imm => engStwS rd ra imm v
  | .vldS rd ra imm => engVldS rd ra imm v
  | .vstS rd ra imm => engVstS rd ra imm v
  | .ldwT rd ra imm => engLdwT env rd ra imm v
  | .ldwH rd ra imm => engLdwH rd ra imm v
  | .atomAddI32 ra rb p => engAtomAddI32 ra rb p v
  | .atomAddI64 ra rb p => engAtomAddI64 ra rb p v
  | .atomAddU16q7s ra rb p => engAtomAddU16q7s ra rb p v
  | .atomAddF32 ra rb p => engAtomAddF32 ra rb p v
  | .poseSphere rd ra p => engPoseSphere env rd ra p v
  | .poseAxle rd ra p => engPoseAxle env rd ra p v
  | .query rd ra rb p => engQuery env rd ra rb p v
  | .lookup rd ra rb p => engLookup env rd ra rb p v
  | .acc ra p fn => engAcc ra p fn v
  | .merit ra p => engMerit ra p v
  | .scg rd rb p => engScg env rd rb p v
  | .br p inv offset => engBr p inv offset v
  | .loop rs body bound => engLoop rs body bound v
  | .yield p => engYield p v
  | .reject ra p code => engReject ra p code v
  | _ => v

/-- Runs a program from its pc until it ends. A pc past the last instruction, or a word that decodes to nothing, faults (log entry 21); `fuel` is the verified bound
of R323, whose cycles no run exceeds. -/
def engRun (env : EngEnv) : Nat → Invocation → Invocation
  | 0, v => v.fault
  | fuel + 1, v =>
    if v.status != .running then v
    else
    match v.code[v.pc]? with
    | none => v.fault
    | some w =>
      match engDecode w with
      | none => v.fault
      | some i => engRun env fuel (engOp env i v)

/-- R302: the registers of a tread invocation at pose i. -/
def treadRegs (v : Invocation) (env : EngEnv) : List Word :=
  let w (n : Nat) : Word := BitVec.ofNat 32 n
  [0#32, w v.pose, w v.horizon, w v.exp.cid, w (poseAddress v.slot v.pose), w (0x20800 + 16 * v.slot), w (v.pose * env.stepNs / 1000), w (0x21000 + 1024 * v.slot)]
    ++ List.replicate 56 0#32

/-- R302: begins an invocation with the first registers given. -/
def Invocation.begin (v : Invocation) (regs : List Word) : Invocation :=
  { v with g := regs, first := regs.take 8, v := List.replicate 16 (List.replicate 8 0#32), p := List.replicate 8 false, pc := 0, loops := [], status := .running }

/-- R302, R186: begins the tread invocation of a pose. -/
def Invocation.treadAt (v : Invocation) (env : EngEnv) (pose : Nat) : Invocation :=
  let v := { v with pose := pose }
  v.begin (treadRegs v env)

/-- The cycles a program can take (R323): fuel for its run. -/
def runFuel (code : List Word) : Nat := (progBound code).cycles + 1

/-- An instruction that comes after an invocation has ended begins the next one (R302): the next pose of the candidate after a YIELD, pose 0 again
after any other end, and a filter's next packet. -/
def Invocation.resume (v : Invocation) (env : EngEnv) : Invocation :=
  match v.status, v.kind with
  | .running, _ => v
  | .yielded, .tread => if v.pose < v.horizon then v.treadAt env (v.pose + 1) else ({ v with acc := List.replicate 32 0#32, merit := none, mem := [] }).treadAt env 0
  | _, .tread => ({ v with acc := List.replicate 32 0#32, merit := none, mem := [] }).treadAt env 0
  | _, .filter => ({ v with output := [] }).begin (v.first ++ List.replicate 56 0#32)

end Sys2Proof.Machine
end

