-- ==== Sys2Proof/Machine/Expand.lean ====
section
/-!
DEFINITION. The vehicle model of the primitive expander (05_proposal.md R151 to R156, R161): one substep in FP32, its limits, and the expansion of a control sequence.
-/
namespace Sys2Proof.Machine
open Sys2Proof

/-- The limits and dimensions of the vehicle (R166) and the step (R152). -/
structure Vehicle where
  trailers : Nat
  m1 : F32
  l1 : F32
  m2 : F32
  l2 : F32
  art1Max : F32
  art2Max : F32
  speedMax : F32
  accelMax : F32
  accelMin : F32
  jerkMax : F32
  kappaMax : F32
  sigmaMax : F32
  latMax : F32
  latSlope : F32
  /-- The rollover term of each unit (R154). -/
  rollover : List F32
  substeps : Nat
  maxClamped : Nat
  /-- Δt and h (R152). -/
  dt : F32
  h : F32
  /-- D of R161. -/
  decel : F32
  steps : Nat
  deriving DecidableEq, Repr

/-- R161: the class default of D. -/
def classDecel (cls : Nat) : F32 := match cls with | 0 => 0x40600000#32 | 1 | 2 => 0x40400000#32 | _ => 0x40200000#32

def vehicleFrom (cfg : Nat → Nat → Nat) : Vehicle :=
  let f (idx sub : Nat) : F32 := BitVec.ofNat 32 (cfg idx sub)
  let us := cfg 0x4001 2
  let n := cfg 0x4000 0x18
  { trailers := cfg 0x4000 2, m1 := f 0x4000 3, l1 := f 0x4000 4, m2 := f 0x4000 5, l2 := f 0x4000 6, art1Max := f 0x4000 7, art2Max := f 0x4000 8,
    speedMax := f 0x4000 9, accelMax := f 0x4000 0x0A, accelMin := f 0x4000 0x0B, jerkMax := f 0x4000 0x0C, kappaMax := f 0x4000 0x0D,
    sigmaMax := f 0x4000 0x0E, latMax := f 0x4000 0x0F, latSlope := f 0x4000 0x10,
    rollover := (List.range 3).map (fun i => f32Mul (f32Div (f32Mul 0x411CE80A#32 (f 0x4000 (0x12 + i))) (f 0x4000 (0x15 + i))) (f 0x4000 0x11)),
    substeps := n, maxClamped := cfg 0x4000 0x19, dt := f32OfRatio us 1000000, h := f32OfRatio us (1000000 * n),
    decel := if f32Eq (f 0x4000 0x1A) f32Zero then classDecel (cfg 0x4000 1) else f 0x4000 0x1A, steps := cfg 0x4001 1 }

def State.vehicle (s : State) : Vehicle := vehicleFrom s.cfg

/-- The result of one substep: the new state, whether it was clamped, and the distance d. -/
structure Substep where
  pose : Pose
  clamped : Bool
  dist : F32
  deriving DecidableEq, Repr

/-- R152, R154: the yaw of trailer 1 per metre, and the speed of trailer 1 per tractor speed, at an articulation and a curvature. -/
def trailerTurn (v : Vehicle) (art1 k : F32) : F32 :=
  f32Div (f32Sub (f32Sin art1) (f32Mul (f32Mul v.m1 k) (f32Cos art1))) v.l1
def trailerSpeed (v : Vehicle) (art1 k : F32) : F32 := f32Add (f32Cos art1) (f32Mul (f32Mul v.m1 k) (f32Sin art1))
/-- R152: the yaw of trailer 2 per metre. -/
def trailer2Turn (v : Vehicle) (r1 g1 art2 : F32) : F32 :=
  f32Div (f32Sub (f32Mul r1 (f32Sin art2)) (f32Mul (f32Mul v.m2 g1) (f32Cos art2))) v.l2

/-- R152: the procedure substep. -/
def substep (v : Vehicle) (s : Pose) (sigma jerk : F32) : Substep :=
  let sc := f32Clamp (f32Neg v.sigmaMax) v.sigmaMax sigma
  let jc := f32Clamp (f32Neg v.jerkMax) v.jerkMax jerk
  let c0 := !f32Eq sc sigma || !f32Eq jc jerk
  let a0 := f32Add s.accel (f32Mul jc v.h)
  let aOut := f32Lt a0 v.accelMin || f32Lt v.accelMax a0
  let a1 := if aOut then f32Clamp v.accelMin v.accelMax a0 else a0
  let am := f32Mul (f32Add s.accel a1) 0x3F000000#32
  let k0 := f32Add s.curvature (f32Mul sc v.h)
  let kOut := f32Lt v.kappaMax (f32Abs k0)
  let k1 := if kOut then f32Clamp (f32Neg v.kappaMax) v.kappaMax k0 else k0
  let km := f32Mul (f32Add s.curvature k1) 0x3F000000#32
  let v0 := f32Add s.speed (f32Mul am v.h)
  let fast := f32Lt v.speedMax v0
  let v1 := if fast then v.speedMax else v0
  let a2 := if fast then f32Min a1 f32Zero else a1
  let stops := f32Lt v1 f32Zero
  let d := if stops then f32Div (f32Mul s.speed s.speed) (f32Mul 0xC0000000#32 am) else f32Mul (f32Mul (f32Add s.speed v1) 0x3F000000#32) v.h
  let v2 := if stops then f32Zero else v1
  let a3 := if stops then f32Zero else a2
  let dth := f32Mul km d
  let mid := f32Add s.heading (f32Mul dth 0x3F000000#32)
  let g1 := trailerTurn v s.art1 km
  let p1 := if v.trailers ≥ 1 then f32Add s.art1 (f32Mul d (f32Sub km g1)) else f32Zero
  let g2 := trailer2Turn v (trailerSpeed v s.art1 km) g1 s.art2
  let p2 := if v.trailers = 2 then f32Add s.art2 (f32Mul d (f32Sub g1 g2)) else f32Zero
  { pose := { x := f32Add s.x (f32Mul d (f32Cos mid)), y := f32Add s.y (f32Mul d (f32Sin mid)), heading := f32Add s.heading dth, art1 := p1, art2 := p2,
              speed := v2, accel := a3, curvature := k1 },
    clamped := c0 || aOut || kOut || fast, dist := d }

/-- R154: every unit's lateral acceleration is within its limit, at the state after a substep. -/
def lateralOk (v : Vehicle) (s : Pose) : Bool :=
  let term := f32Sub v.latMax (f32Mul v.latSlope s.speed)
  let vv := f32Mul s.speed s.speed
  let limit (i : Nat) : F32 := f32Min ((v.rollover[i]?).getD 0#32) term
  let g1 := trailerTurn v s.art1 s.curvature
  let r1 := trailerSpeed v s.art1 s.curvature
  let g2 := trailer2Turn v r1 g1 s.art2
  let r2 := f32Add (f32Cos s.art2) (f32Mul (f32Mul v.m2 g1) (f32Sin s.art2))
  f32Le (f32Mul vv (f32Abs s.curvature)) (limit 0)
    && (v.trailers < 1 || f32Le (f32Mul vv (f32Abs (f32Mul r1 g1))) (limit 1))
    && (v.trailers < 2 || f32Le (f32Mul vv (f32Abs (f32Mul (f32Mul r1 r2) g2))) (limit 2))

def Pose.finite (p : Pose) : Bool :=
  f32Finite p.x && f32Finite p.y && f32Finite p.heading && f32Finite p.art1 && f32Finite p.art2 && f32Finite p.speed && f32Finite p.accel && f32Finite p.curvature

/-- R153: the tests after a substep, in order; 0 where all pass. -/
def limitCode (v : Vehicle) (s : Pose) (sigma jerk : F32) (clampedSteps : Nat) : Nat :=
  if !(s.finite && f32Finite sigma && f32Finite jerk) then 7
  else if v.trailers ≥ 1 && !f32Le (f32Abs s.art1) v.art1Max then 3
  else if v.trailers = 2 && !f32Le (f32Abs s.art2) v.art2Max then 3
  else if !lateralOk v s then 4
  else if v.maxClamped < clampedSteps then 3
  else 0

/-- An expansion in progress. `nodes` is held newest first. -/
structure ExpState where
  pose : Pose
  nodes : List (Pose × F32)
  clampCount : Nat
  stepClamped : Bool
  stopped : Bool
  code : Nat
  deriving DecidableEq, Repr

/-- The substeps of one step. -/
def runSubsteps (v : Vehicle) (sigma jerk : F32) : Nat → ExpState → ExpState
  | 0, e => e
  | n + 1, e =>
    if e.code != 0 then e
    else
      let r := substep v e.pose sigma jerk
      let count := if r.clamped && !e.stepClamped then e.clampCount + 1 else e.clampCount
      let code := limitCode v r.pose sigma jerk count
      let e := { e with clampCount := count, stepClamped := e.stepClamped || r.clamped, stopped := e.stopped || f32Eq r.pose.speed f32Zero, code := code }
      if code != 0 then e
      else runSubsteps v sigma jerk n { e with pose := r.pose, nodes := (e.pose, r.dist) :: e.nodes }

/-- The steps k to n − 1: poses so far, applied controls and the controls used (all newest first), and the step of rejection counted from 1. -/
def runSteps (v : Vehicle) (ctl : Nat → Pose → Control) : Nat → Nat → ExpState → List Pose → List Control → List Control → ExpState × List Pose × List Control × List Control × Nat
  | 0, _, e, ps, us, raw => (e, ps, us, raw, 0)
  | n + 1, k, e, ps, us, raw =>
    let c := ctl k e.pose
    let u : Control := ⟨f32Clamp (f32Neg v.sigmaMax) v.sigmaMax c.sigma, f32Clamp (f32Neg v.jerkMax) v.jerkMax c.jerk⟩
    let e := runSubsteps v c.sigma c.jerk v.substeps { e with stepClamped := false }
    if e.code != 0 then (e, ps, u :: us, c :: raw, k + 1)
    else runSteps v ctl n (k + 1) e (e.pose :: ps) (u :: us) (c :: raw)

/-- The start of an expansion in the plan frame: at the origin with heading 0 (R151). -/
def StartState.pose (s : StartState) : Pose := ⟨0#32, 0#32, 0#32, s.art1, s.art2, s.speed, s.accel, s.curvature⟩

/-- R151 to R156: expands a candidate, with the controls that a rule gives step by step; the answer holds the controls used as well. -/
def expandWith (v : Vehicle) (cid : Nat) (start : Pose) (ctl : Nat → Pose → Control) : Expansion × List Control :=
  let (e, ps, us, raw, step) := runSteps v ctl v.steps 0 ⟨start, [], 0, false, false, 0⟩ [start] [] []
  ({ cid := cid, poses := ps.reverse, applied := us.reverse, nodes := e.nodes.reverse ++ [(e.pose, 0#32)], clampCount := e.clampCount, stopped := e.stopped,
     limitCode := e.code, limitStep := step }, raw.reverse)

/-- Expands a control sequence; steps past its end take σ = 0 and jerk 0. -/
def expandControls (v : Vehicle) (cid : Nat) (start : Pose) (controls : List Control) : Expansion :=
  (expandWith v cid start (fun k _ => (controls[k]?).getD ⟨0#32, 0#32⟩)).1

/-- R161: the minimum-risk manoeuvre's controls and expansion: the curvature rates given, with the jerk that brings the acceleration to −D. -/
def minRiskControls (v : Vehicle) (start : Pose) (sigmas : List F32) : List Control :=
  let sig (k : Nat) : F32 := (sigmas[k]?).getD 0#32
  let used := (expandWith v 0 start (fun k p => ⟨sig k, f32Clamp (f32Neg v.jerkMax) v.jerkMax (f32Div (f32Sub (f32Neg v.decel) p.accel) v.dt)⟩)).2
  used ++ ((List.range (v.steps - used.length)).map (fun i => ⟨sig (used.length + i), 0#32⟩))

end Sys2Proof.Machine
end

