-- ==== Sys2Proof/Machine/Items.lean ====
section
/-!
DEFINITION. Work items: creation, lanes, ready and delay lists, flows, cancellation (09_galleries_dispatch.md R263 to R290). Dispatchers 0 to 15 are the
Galleries', 16 the map builder's, 17 the QP solvers', 18 the ingress processors', 19 the management processor's, 20 the proposal array's.
-/
namespace Sys2Proof.Machine
open Sys2Proof

/-- R265: the code of an item kind. -/
def ItemKind.code : ItemKind → Nat
  | .candidateBlock => 1 | .candidateSingle => 2 | .reference => 3 | .recheck => 4 | .tileJob => 5 | .qpInstance => 6
  | .streamPacket => 7 | .hostCommand => 8 | .selfTest => 9 | .policyRun => 10

/-- How an abandoned item is kept in mind (R193): a block by its FIRST_ID, a single candidate by its ID past every candidate ID's 32 bits. -/
def Item.mark (i : Item) : Nat := if i.kind == .candidateSingle then u32Mod + i.arg else i.arg

/-- R265: stealable between Gallery dispatchers. -/
def Item.stealable (i : Item) : Bool :=
  match i.kind with
  | .candidateBlock | .candidateSingle | .reference | .recheck | .hostCommand => !i.pinned
  | _ => false

/-- The dispatcher whose lists hold the item, where it is in a list. -/
def ItemLoc.dispatcher? : ItemLoc → Option Nat
  | .ready d | .waiting d _ | .delay d _ | .held d _ | .chain d => some d
  | _ => none

/-- In flight: assigned to a unit, queued there or in service (R274). -/
def ItemLoc.inFlight : ItemLoc → Bool
  | .queued _ | .service _ | .unit _ => true
  | _ => false

/-- The engine an item is assigned to. -/
def ItemLoc.engine? : ItemLoc → Option Nat
  | .queued e | .service e => some e
  | _ => none

/-- Engine e is in service, its Gallery with it. -/
def Dispatch.engineIn (d : Dispatch) (e : Nat) : Bool :=
  (match d.engines[e]? with | some u => u.st == .inService | none => false)
    && (match d.galleries[e / 32]? with | some u => u.st == .inService | none => false)

/-- The engines in service, in ascending global number. -/
def Dispatch.enginesIn (d : Dispatch) : List Nat := (List.range 512).filter d.engineIn

/-- Gives the orphan lanes, in ascending order, to the engines in service in turn (R268). -/
def assignLanes (d : Dispatch) (ins : List Nat) : List Nat → Nat → List Nat
  | [], _ => []
  | v :: vs, j =>
    if d.engineIn v then v :: assignLanes d ins vs j
    else (ins[j % max 1 ins.length]?).getD v :: assignLanes d ins vs (j + 1)

/-- R268: the engine that serves each lane. -/
def Dispatch.laneMap (d : Dispatch) : List Nat := assignLanes d d.enginesIn (List.range 512) 0

/-- R268: the mapping is recomputed. -/
def State.remapLanes (s : State) : State := { s with disp := { s.disp with laneEngine := s.disp.laneMap } }

/-- The engine of a lane under the mapping in force. -/
def State.laneEngine (s : State) (v : Nat) : Nat := (s.disp.laneEngine[v]?).getD v

/-- R268: the home Gallery of a lane. -/
def State.homeOf (s : State) (v : Nat) : Nat := s.laneEngine v / 32

/-- R269: the level of a class. -/
def State.classLevel (s : State) (cls : Nat) : Nat := s.cfg 0x7100 (cls + 1)

/-- R266: the 32-byte descriptor of an item. -/
def Item.descriptor (i : Item) : List Byte :=
  let bit (b : Bool) (n : Nat) : Nat := if b then 2 ^ n else 0
  leBytes 1 i.kind.code ++ leBytes 1 (i.level + 16 * i.cls) ++ leBytes 2 (i.flow.getD 0)
    ++ leBytes 2 (bit i.flow.isSome 0 + bit i.spec 1 + bit i.replay 2 + bit i.pinned 3 + bit i.late 4) ++ leBytes 2 i.lane
    ++ leBytes 8 i.frame ++ leBytes 4 i.field ++ leBytes 4 i.version ++ leBytes 8 i.enqueue

/-- R270: the order of a ready list: level, ENQUEUE_TIME, KIND, ARG; tile jobs with equal times come in the order in which the map builder has produced them, which is that of R120
(DEDUCED, log entry 69: an ARG alone would mix the slices). -/
def Item.before (a b : Item) : Bool :=
  if a.level != b.level then decide (a.level < b.level)
  else if a.enqueue != b.enqueue then decide (a.enqueue < b.enqueue)
  else if a.kind != b.kind then decide (a.kind.code < b.kind.code)
  else if a.kind == .tileJob then decide (a.serial < b.serial)
  else decide (a.field < b.field)

/-- The first item of a list under R270. -/
def firstItem : List Item → Option Item
  | [] => none
  | i :: rest => match firstItem rest with | some j => if j.before i then some j else some i | none => some i

/-- R272: the number of items in a dispatcher's delay list. -/
def State.delayCount (s : State) (d : Nat) : Nat :=
  (s.disp.items.filter (fun i => match i.loc with | .delay e _ => e == d | _ => false)).length

/-- R272: where an item goes that waits for a release time: the delay list, or held by central dispatch while the list is full (DelayListFull counts the refusal). -/
def State.delayLoc (s : State) (d release : Nat) : ItemLoc × State :=
  if s.delayCount d < 1024 then (.delay d release, s) else (.held d release, s.count 0x7101 6 1)

/-- R281: descriptors of the external part of the pool in use: host commands and stream packets, those admitted whose acceptance still waits for the mirror among them (R407). -/
def State.externalItems (s : State) : Nat :=
  (s.disp.items.filter (fun i => i.kind == .streamPacket || i.kind == .hostCommand)).length + (s.host.journal.filter (·.waitsMirror)).length

/-- R281: the external part of the pool has a free descriptor. -/
def State.poolFree (s : State) : Bool := decide (s.externalItems < s.cfg 0x7100 0x0D)

/-- R282, R376, R416: work accepted before, or a packet of a replayed frame, waits for a descriptor, and comes before anything new. -/
def State.backlog (s : State) : Bool :=
  (!s.host.recovery && s.host.journal.any (·.unqueued)) || (match s.det.run with | some r => !r.packets.isEmpty | none => false)

/-- R282: the external part of the pool has a free descriptor for new work. -/
def State.poolRoom (s : State) : Bool := s.poolFree && !s.backlog

/-! Inputs (R22) -/

/-- The sealed scene tensor of a frame has been emitted, so that the fate of its run-ahead policy blocks is known (R82). -/
def State.sceneKnown (s : State) (frame : Nat) : Bool := match s.world.scene with | some x => x.frame == frame | none => false

/-- The version of a frame is ready for its blocks (R22). -/
def State.versionReady (s : State) (w : FrameWork) : Bool := s.world.versions.any (fun v => v.number == w.version && v.spec == w.speculative && v.ready)

/-- The policy output held belongs to the frame as it stands: a run-ahead round's is judged once the sealed scene tensor is known (R82). -/
def State.policyStands (s : State) (w : FrameWork) : Bool := w.speculative || s.sceneKnown w.frame

/-- Kinds that belong to no frame's work (R90). -/
def ItemKind.frameless : ItemKind → Bool
  | .streamPacket | .hostCommand | .selfTest => true
  | _ => false

/-- Kinds that read the map. -/
def ItemKind.readsMap : ItemKind → Bool
  | .candidateBlock | .candidateSingle | .reference | .recheck => true
  | _ => false

/-- R22, R88, R90: the inputs of an item of a frame exist: the run-ahead map until its comparison ends, or the frame's version; and a recheck waits for the newest urgent version. -/
def State.inputsExist (s : State) (kind : ItemKind) (frame : Nat) (spec : Bool) : Bool :=
  if kind.frameless then true
  else match s.work? frame with
    | none => true
    | some w =>
      if spec then !kind.readsMap || ((w.speculative || s.world.comparing) && s.world.versions.any (fun v => v.spec && v.frame == frame && v.ready))
      else !w.landed && (!kind.readsMap || (s.versionReady w && (kind != .recheck || w.due == some w.version)))

/-- Items whose inputs have come to exist become ready, and ready items whose inputs have ceased to exist wait for them (R22, R88, R266). -/
def State.settleItems (s : State) : State :=
  let settle (i : Item) : Item :=
    match i.loc with
    | .waiting d fresh => if s.inputsExist i.kind i.frame i.spec then { i with loc := .ready d, enqueue := if fresh then s.time else i.enqueue } else i
    | .ready d => if s.inputsExist i.kind i.frame i.spec then i else { i with loc := .waiting d false }
    | _ => i
  { s with disp := { s.disp with items := s.disp.items.map settle } }

/-- What a new item is made of; `field` is its ARG where that is not `arg`. -/
structure NewItem where
  kind : ItemKind
  cls : Nat
  flow : Option Nat
  spec : Bool
  replay : Bool
  pinned : Bool
  lane : Nat
  frame : Nat
  arg : Nat
  version : Nat
  dispatcher : Nat
  release : Option Nat
  field : Option Nat := none
  deriving DecidableEq, Repr

/-- Creates an item (R265 to R274): behind the items of its flow, at their dispatcher, in a delay list until its release time, waiting for its inputs, or ready. -/
def State.addItem (s : State) (n : NewItem) : State :=
  let behind : Option Item := match n.flow with
    | some f => s.disp.items.find? (fun i => i.flow == some f)
    | none => none
  let home := (behind.map (·.home)).getD n.dispatcher
  let (loc, s) := match behind, n.release with
    | some _, _ => (ItemLoc.chain home, s)
    | none, some r => s.delayLoc home r
    | none, none => (if s.inputsExist n.kind n.frame n.spec then .ready home else .waiting home true, s)
  let item : Item :=
    { serial := s.disp.nextSerial, kind := n.kind, level := s.classLevel n.cls, cls := n.cls, flow := n.flow, spec := n.spec, replay := n.replay,
      pinned := n.pinned, late := false, lane := n.lane, frame := n.frame, arg := n.arg, field := n.field.getD n.arg, version := n.version, enqueue := (n.release).getD s.time, home := home, loc := loc,
      committed := false, dropped := false }
  { s with disp := { s.disp with items := s.disp.items ++ [item], nextSerial := s.disp.nextSerial + 1 } }

/-- The item with a serial number. -/
def State.item? (s : State) (serial : Nat) : Option Item := s.disp.items.find? (fun i => i.serial == serial)

/-- Changes the item with a serial number. -/
def State.modItem (s : State) (serial : Nat) (f : Item → Item) : State :=
  { s with disp := { s.disp with items := modFirst (fun i => i.serial == serial) f s.disp.items } }

/-- The release time of a host command whose target frame lies ahead (R404): the target frame's tick. -/
def State.hostRelease (s : State) (record : Nat) : Option Nat :=
  match s.host.journal.find? (fun j => j.id == record) with
  | some j =>
    match j.desc with
    | some d =>
      let ahead := (d.targetFrame + u32Mod - s.tb.curFrame % u32Mod) % u32Mod
      if d.targeted && decide (ahead < 2147483648) && decide (0 < ahead) then some (s.tb.curTick + ahead * s.tb.period) else none
    | none => none
  | none => none

/-- R265, R274: the dispatcher a chain's new head goes to: the chain's own, but for a host command of the kind that the other dispatcher serves. -/
def State.headHome (s : State) (i : Item) : Nat :=
  if i.kind != .hostCommand then i.home
  else if i.cls == 5 then 19
  else if i.home < 16 then i.home else s.homeOf i.lane

/-- R274: a flow's chain lies at one dispatcher. -/
def State.chainTo (s : State) (flow d : Nat) : State :=
  { s with disp := { s.disp with items := s.disp.items.map (fun i => match i.loc with | .chain _ => if i.flow == some flow then { i with loc := .chain d, home := d } else i | _ => i) } }

/-- R274: the next item of a flow becomes its head, ready unless a release time lies ahead or its inputs do not exist. -/
def State.advanceFlow (s : State) (flow : Nat) : State :=
  match s.disp.items.find? (fun i => i.flow == some flow) with
  | none => s
  | some i =>
    match i.loc with
    | .chain _ =>
      let d := s.headHome i
      let s := s.chainTo flow d
      match (if i.kind == .hostCommand then s.hostRelease i.arg else none) with
      | some r => let (loc, s) := s.delayLoc d r; s.modItem i.serial (fun i => { i with loc := loc, enqueue := r })
      | none =>
        let loc : ItemLoc := if s.inputsExist i.kind i.frame i.spec then .ready d else .waiting d true
        s.modItem i.serial (fun i => { i with loc := loc, enqueue := s.time })
    | _ => s

/-- Takes an item out of every list: it is retired or cancelled, and its flow goes on (R274, R283). -/
def State.dropItem (s : State) (serial : Nat) : State :=
  match s.item? serial with
  | none => s
  | some i =>
    let s := { s with disp := { s.disp with items := s.disp.items.filter (fun j => j.serial != serial) } }
    match i.flow with
    | some f => s.advanceFlow f
    | none => s

/-- R283: cancels the items a test picks out: those in service run to completion and their results are dropped; the others leave their lists. -/
def State.cancelItems (s : State) (p : Item → Bool) : State :=
  let inService (i : Item) : Bool := match i.loc with | .service _ | .unit _ => true | _ => false
  let s := { s with disp := { s.disp with items := s.disp.items.map (fun i => if p i && inService i then { i with dropped := true } else i) } }
  (s.disp.items.filter (fun i => p i && !inService i)).foldl (fun s i => s.dropItem i.serial) s

/-- The item an engine has in service. -/
def State.serving (s : State) (engine : Nat) : Option Item := s.disp.items.find? (fun i => i.loc == .service engine)

/-- The item of a kind that an engine has in service and has not committed; none once its Gallery's domain has stopped (R534). -/
def State.servingKind (s : State) (engine : Nat) (k : ItemKind) : Option Item :=
  match s.serving engine with
  | some i => if i.kind == k && !i.committed && s.throttledRun then some i else none
  | none => none

/-- The item of a kind in service at a unit other than an engine, by a test on the item; none where the unit has stopped (R534). -/
def State.atUnit (s : State) (d : Nat) (k : ItemKind) (p : Item → Bool) : Option Item :=
  if s.unitRuns d then s.disp.items.find? (fun i => i.loc == .unit d && i.kind == k && !i.committed && p i) else none

/-- R264: the item has made its commit write. -/
def State.commitItem (s : State) (serial : Nat) : State := s.modItem serial (fun i => { i with committed := true })

/-- R24: a frame-N item is ready at a dispatcher, so that no run-ahead item enters service there. -/
def State.frameReady (s : State) (d : Nat) : Bool := s.disp.items.any (fun i => i.loc == .ready d && !i.spec && !i.kind.frameless)

/-- An item is in service. -/
def Item.inService (i : Item) : Bool := !i.committed && (match i.loc with | .service _ | .unit _ => true | _ => false)

/-- R330: the Hall regions an item of a kind uses, of those a commit can move. -/
def ItemKind.regions : ItemKind → List Nat
  | .candidateBlock | .candidateSingle => [4, 7, 8]
  | .recheck => [4, 8]
  | .tileJob => [4, 8]
  | .policyRun => [5, 6]
  | .streamPacket => [7]
  | _ => []

/-- R332: an item of the frame before the last commit, in service at its tick, still uses banks that a moved region held. -/
def State.oldBanksUsed (s : State) : Bool := s.disp.items.any (fun i => s.mem.users.contains i.serial && i.inService)

/-- R332: a moved region is not to be written yet. -/
def State.regionBusy (s : State) (r : Nat) : Bool := s.mem.moved.contains r && s.oldBanksUsed

/-- R313, R332: the item an engine serves was in service when its banks of region 7 moved, so that what it adds to a tally goes to the banks left. -/
def State.onOldTally (s : State) (engine : Nat) : Bool :=
  s.mem.moved.contains 7 && s.disp.items.any (fun i => i.loc == .service engine && s.mem.users.contains i.serial)

/-- R330, R332: the Hall regions an item of a kind writes, of those a commit can move: versions, policy outputs, tallies, and the hot tiles that its reads of the map fetch. -/
def ItemKind.writes : ItemKind → List Nat
  | .candidateBlock | .candidateSingle => [7, 8]
  | .recheck => [8]
  | .tileJob => [4, 8]
  | .policyRun => [6]
  | .streamPacket => [7]
  | _ => []

/-- R24, R90, R332: an item may enter service: a run-ahead item only while no frame-N item is ready at its dispatcher, an item of a frame only before that frame's Landing, and
one that writes a moved region only once its old banks are left. -/
def State.mayServe (s : State) (d : Nat) (i : Item) : Bool :=
  (if i.spec then !s.frameReady d else i.kind.frameless || (match s.work? i.frame with | some w => !w.landed | none => true))
    && !i.kind.writes.any s.regionBusy

/-- R24, R264, R275: when an engine's item ends, the first under R270 of the items queued there that may enter service does so. -/
def State.nextAtEngine (s : State) (engine : Nat) : State :=
  match s.serving engine with
  | some _ => s
  | none =>
    match firstItem (s.disp.items.filter (fun i => i.loc == .queued engine && s.mayServe (engine / 32) i)) with
    | some i => s.modItem i.serial (fun i => { i with loc := .service engine })
    | none => s

/-- Changes what an engine holds. -/
def State.modUnit (s : State) (engine : Nat) (f : EngineUnit → EngineUnit) : State :=
  { s with disp := { s.disp with units := modAt s.disp.units engine f } }

end Sys2Proof.Machine
end

