-- ==== Sys2Proof/Machine/GroupOps.lean ====
section
/-!
DEFINITION. Chip-group operations the other families use: the group's chips, messages sent (R433, R434), queue pairs and ports (R427 to R430), and the group digest (R436).
-/
namespace Sys2Proof.Machine
open Sys2Proof

/-- R452: GroupMode (0 SOLO, 1 PAIR_MIRROR, 2 SPLIT) and this chip's number. -/
def State.groupMode (s : State) : Nat := s.cfg 0x8600 1
def State.chip (s : State) : Nat := s.cfg 0x8600 2

def State.peer (s : State) (c : Nat) : Peer := (s.group.peers[c]?).getD Peer.initial
def State.modPeer (s : State) (c : Nat) (f : Peer → Peer) : State := { s with group := { s.group with peers := modAt s.group.peers c f } }

/-- R431, R448: what this chip's role does: builds maps, checks candidates, closes lists and refines. -/
def State.buildsMaps (s : State) : Bool := [0, 1, 4, 5].contains s.group.role || s.group.alsoWorld

/-- This chip builds maps, and its map builder runs (R534). -/
def State.mapRuns (s : State) : Bool := s.buildsMaps && s.throttledRun
def State.checks (s : State) : Bool := [0, 2, 4, 5].contains s.group.role
def State.closes (s : State) : Bool := [0, 3, 4, 5].contains s.group.role

/-- Chip c is of the group, is not this chip, and is PRESENT. -/
def State.peerPresent (s : State) (c : Nat) : Bool := (s.peer c).st == .present

/-- The chips of ChipsPresentMask other than this one. -/
def State.otherChips (s : State) : List Nat := (List.range 4).filter (fun c => c != s.chip && (s.cfg 0x8600 4).testBit c)

/-- R428: the priority of a group message of a kind. -/
def State.groupPriority (s : State) (kind : Nat) : Nat :=
  if (2 ≤ kind ∧ kind ≤ 6) ∨ kind = 9 ∨ kind = 0x0C then s.cfg 0x8600 0x0D else s.cfg 0x8600 0x0E

/-- The bytes of a group message (R433). -/
def groupBytes (kind sender receiver : Nat) (last : Bool) (segment frame sequence version digest : Nat) (payload : List Byte) : List Byte :=
  leBytes 1 kind ++ leBytes 1 (sender + 4 * receiver + (if last then 16 else 0)) ++ leBytes 2 segment ++ leBytes 4 payload.length ++ leBytes 8 frame
    ++ leBytes 8 sequence ++ leBytes 4 version ++ leBytes 4 0 ++ leBytes 8 digest ++ List.replicate 24 0#8 ++ payload

/-- R433, R436: this chip's group digest for a frame; for one it has not reached, that of the current frame (log entry 48). -/
def State.digestFor (s : State) (frame : Nat) : Nat := (alGet frame s.group.digests).getD s.group.digest

/-- R433, R453: PeerAddress of chip d on port p. -/
def State.peerAddress (s : State) (p d : Nat) : Nat := s.cfg 0x8603 (4 * p + d + 1)

/-- R433: sends one group message to chip `d` on port `p`, with the next SEQUENCE and an immediate value of its KIND and that SEQUENCE. -/
def State.sendOn (s : State) (p d kind : Nat) (last : Bool) (segment frame version : Nat) (payload : List Byte) : State :=
  let seq := (s.peer d).txSeq + 1
  let bytes := groupBytes kind s.chip d last segment frame seq version (s.digestFor frame) payload
  let s := s.modPeer d (fun x => { x with txSeq := seq })
  (s.sendQp (groupQp p d) (s.groupPriority kind) (.group d p (s.peerAddress p d) (kind * 2 ^ 24 + seq % 2 ^ 24) bytes)).count 0x8605 1 1

/-- R445: the instant at which the current frame period of the peer budget began: a period that is over gives way to one that begins now. -/
def State.budgetStart (s : State) : Nat := if s.group.budgetSince + s.tb.period ≤ s.now then s.now else s.group.budgetSince

/-- R445: the bytes that the mirror and the map chain have sent in the current frame period. -/
def State.budgetUsed (s : State) : Nat := if s.group.budgetSince + s.tb.period ≤ s.now then 0 else s.group.budgetSpent

/-- R439, R445: payload of the mirror (MIRROR) and of the map chain (MAP_SEGMENT, VERSION) is charged to the peer budget. -/
def State.chargePeer (s : State) (kind bytes : Nat) : State :=
  if kind == 2 || kind == 3 || kind == 9 then { s with group := { s.group with budgetSince := s.budgetStart, budgetSpent := s.budgetUsed + bytes } } else s

/-- Sends one group message on the active port (R430). -/
def State.sendGroup (s : State) (d kind : Nat) (last : Bool) (segment frame version : Nat) (payload : List Byte) : State :=
  (s.sendOn s.group.activePort d kind last segment frame version payload).chargePeer kind payload.length

/-- A payload in parts of at most `n` bytes; an empty payload is one empty part. -/
def chunks (n : Nat) : Nat → List Byte → List (List Byte)
  | 0, _ => []
  | fuel + 1, bs => if bs.length ≤ n then [bs] else bs.take n :: chunks n fuel (bs.drop n)

/-- Sends a payload in as many segments as it needs (R433: at most 65,536 bytes each), the last one marked LAST. -/
def State.sendSegments (s : State) (d kind frame version : Nat) (payload : List Byte) : State :=
  let parts := chunks 65536 (payload.length / 65536 + 1) payload
  let rec go : List (List Byte) → Nat → State → State
    | [], _, s => s
    | [b], n, s => s.sendGroup d kind true n frame version b
    | b :: bs, n, s => go bs (n + 1) (s.sendGroup d kind false n frame version b)
  go parts 0 s

/-- R444: the chip that mirrors this chip's journal: the other chip of a pair (from the PRIMARY), the REFINER of a split group, or chip 0 for the REFINER itself. -/
def State.mirrorTarget (s : State) : Option Nat :=
  match s.groupMode with
  | 1 => if s.group.role == 4 then s.otherChips.head? else none
  | 2 => if s.group.role == 3 then (if s.chip == 0 then none else some 0)
         else (s.otherChips.find? (fun c => (s.peer c).role == 3)).orElse (fun _ => if s.chip == 3 then none else some 3)
  | _ => none

/-- R445: the peer budget of a mirrored chip, 12.0 GB/s (R439), 12 bytes a nanosecond, over a frame period, is spent (log entry 63). -/
def State.peerBudgetSpent (s : State) : Bool :=
  match s.mirrorTarget with
  | some d => s.peerPresent d && decide (12 * s.tb.period ≤ s.budgetUsed)
  | none => false

/-- The bytes of an RWS object's value in its dictionary encoding, a DOM by its SM3 digest (R436). -/
def digestEncoding (r : ObjRow) (v : Value) : List Byte :=
  match v with
  | .blob b => if r.ty == .dom then sm3 b else b
  | .num n =>
    match r.ty with
    | .bool | .u8 => leBytes 1 n
    | .u16 => leBytes 2 n
    | .u32 | .i32 | .f32 => leBytes 4 n
    | _ => leBytes 8 n

/-- The RWS objects of the indexes from lo to hi, in ascending index and subindex. -/
def rwsObjects (rows : List ObjRow) (lo hi : Nat) : List (ObjRow × Nat × Nat) :=
  let rows := rows.filter (fun r => r.access == .rws)
  (List.range (hi + 1 - lo)).flatMap fun k =>
    let idx := lo + k
    let here := rows.filter (fun r => decide (r.idx ≤ idx) && decide (idx < r.idx + r.idxCount))
    if here.isEmpty then [] else
    (List.range 256).filterMap fun sub => (here.find? (fun r => decide (r.sub ≤ sub) && decide (sub < r.sub + r.subCount))).map (fun r => (r, idx, sub))

end Sys2Proof.Machine
end

