-- ==== Sys2Proof/Machine/Stair.lean ====
section
/-!
DEFINITION. The Stair (07_selection.md R202 to R217): the total order, sorted lists with their TIE_CUT, the resolution of duplicates, and the rebuild from the block
table. Lists are held without their padding entries, which R210 adds where a list is written out.
-/
namespace Sys2Proof.Machine
open Sys2Proof

/-- R202, R203: the comparison key of a merit. -/
def stairKey (compatible : Bool) (m : F32) : Nat :=
  if f32IsNaN m then 0xFFFFFFFF
  else if compatible && m == 0x80000000#32 then 0x80000000
  else if m.getLsbD 31 then (~~~m).toNat else (m ^^^ 0x80000000#32).toNat

/-- R202: entry a precedes entry b. -/
def Entry.ahead (compatible : Bool) (a b : Entry) : Bool :=
  let ka := stairKey compatible a.merit
  let kb := stairKey compatible b.merit
  decide (kb < ka) || (ka == kb && decide (a.cid < b.cid))

/-- R204: an offered entry is kept only with REJECT_CODE 0. -/
def Entry.kept (e : Entry) : Bool := e.code == 0
/-- R204: a kept entry is valid if its merit is finite, else corrupt. -/
def Entry.valid (e : Entry) : Bool := f32Finite e.merit && !e.empty

/-- Puts an entry in its place in a list in order. -/
def insertEntry (compatible : Bool) (e : Entry) : List Entry → List Entry
  | [] => [e]
  | x :: xs => if e.ahead compatible x then e :: x :: xs else x :: insertEntry compatible e xs

def sortEntries (compatible : Bool) (es : List Entry) : List Entry := es.foldl (fun acc e => insertEntry compatible e acc) []

/-- The key of a list's last entry. -/
def lastKey (compatible : Bool) (es : List Entry) : Option Nat := (es.getLast?).map (fun e => stairKey compatible e.merit)

/-- The first k of some entries, with the number cut that tie with the k-th (R209). -/
def bestOf (compatible : Bool) (k : Nat) (es : List Entry) : SortedList :=
  let all := sortEntries compatible es
  let out := all.take k
  { entries := out,
    tieCut := if out.length < k then 0 else ((all.drop k).filter (fun e => lastKey compatible out == some (stairKey compatible e.merit))).length }

/-- R209: the TIE_CUT an input carries over to an output. -/
def carriedTie (compatible : Bool) (k : Nat) (out : List Entry) (inp : SortedList) : Nat :=
  if out.length < k then 0 else if lastKey compatible inp.entries == lastKey compatible out && !inp.entries.isEmpty then inp.tieCut else 0

/-- A union with its duplicates resolved (R211): the entries, how many equal copies were merged, and the IDs whose copies differ. -/
structure Union where
  entries : List Entry
  equalCopies : Nat
  conflicts : List Nat
  deriving DecidableEq, Repr

/-- R211: one more entry. -/
def Union.add (u : Union) (e : Entry) : Union :=
  match u.entries.find? (fun x => x.cid == e.cid) with
  | none => if u.conflicts.contains e.cid then u else { u with entries := u.entries ++ [e] }
  | some x =>
    if x = e then { u with equalCopies := u.equalCopies + 1 }
    else { u with entries := u.entries.filter (fun x => x.cid != e.cid), conflicts := u.conflicts ++ [e.cid] }

def unite (base more : List Entry) : Union := more.foldl Union.add ⟨base, 0, []⟩

/-- The ordering settings in force (R220). -/
def State.stairK (s : State) : Nat := s.cfg 0x6000 1
def State.compatible (s : State) : Bool := s.cfg 0x6000 2 == 1

/-- R208: the entries a block record contributes. -/
def BlockRec.live (r : BlockRec) (excluded : List Nat) : List Entry :=
  if r.withdrawn || r.speculative then [] else r.entries.filter (fun e => !e.withdrawn && !excluded.contains e.cid)

/-- The fields of a candidate ID (scope, R138). -/
def cidChip (c : Nat) : Nat := bitsAt c 30 2
def cidRound (c : Nat) : Nat := bitsAt c 28 2
def cidSource (c : Nat) : Nat := bitsAt c 26 2
def cidOrdinal (c : Nat) : Nat := bitsAt c 0 18
def mkCid (chip round source ordinal : Nat) : Nat := chip * 2 ^ 30 + round * 2 ^ 28 + source * 2 ^ 26 + ordinal

/-- The bytes of an entry (R205). -/
def Entry.bytes (e : Entry) : List Byte :=
  let b (x : Bool) (n : Nat) : Nat := if x then 2 ^ n else 0
  let flags := b e.empty 0 + b e.clamped 1 + b e.bisected 2 + b e.beyond 3 + b e.stale 4 + b e.stopped 5 + b e.withdrawn 6
  leBytes 4 e.merit.toNat ++ leBytes 4 e.cid
    ++ [BitVec.ofNat 8 (if e.empty then 0 else cidRound e.cid + 4 * cidSource e.cid), BitVec.ofNat 8 flags, BitVec.ofNat 8 e.code]
    ++ List.replicate 5 0#8

/-- R210: a list filled out to k places. -/
def padded (k : Nat) (es : List Entry) : List Entry := es ++ List.replicate (k - es.length) Entry.padding

/-- Starts the re-evaluations that wait for a descriptor, at most 256 at a time (R211, R281). -/
def State.startReevals (s : State) (frame : Nat) (laneOf : Nat → Nat) : State :=
  match s.work? frame with
  | none => s
  | some w =>
    (w.reevals.filter (fun x => !x.started)).foldl (fun s x =>
      if (s.disp.items.filter (fun i => i.kind == .candidateSingle)).length < 256 then
        let lane := laneOf x.cid
        let s := s.modWork frame (fun w => { w with reevals := modFirst (fun y => y.cid == x.cid && !y.started) (fun y => { y with started := true }) w.reevals })
        s.addItem { kind := .candidateSingle, cls := 0, flow := none, spec := false, replay := true, pinned := false, lane := lane, frame := frame,
                    arg := x.cid, version := 0, dispatcher := s.homeOf lane, release := none }
      else s) s

/-- Marks an ID's entries withdrawn in every block record that holds it, and starts a rebuild (R211, R214). -/
def State.withdrawEntry (s : State) (frame cid : Nat) : State :=
  (s.modWork frame (fun w => { w with
    blocks := w.blocks.map (fun r => { r with entries := r.entries.map (fun e => if e.cid == cid then { e with withdrawn := true } else e) }),
    rebuildDue := true })).count 0x6002 9 1

/-- The lane of the block that holds a candidate: that of its record in the table (R267). -/
def FrameWork.laneOf (w : FrameWork) (cid : Nat) : Nat :=
  match w.blocks.find? (fun r => decide (r.beta < 4112) && decide (r.firstId ≤ cid) && decide (cid < r.firstId + 64)) with
  | some r => r.beta % 512
  | none => 0

/-- R465: one more event 0x0603 of the span, and one more 0x0606, towards cause INTEGRITY. -/
def State.corruptEvent (s : State) : State :=
  let n := s.newel.corruptEvents + 1
  let s := { s with newel := { s.newel with corruptEvents := n } }
  if s.cfg 0x9000 3 < n then s.setCause 4 else s
def State.excludedEvent (s : State) : State :=
  let s := { s with newel := { s.newel with excludedEvents := s.newel.excludedEvents + 1 } }
  s.setCause 4

/-- R211, R212: one ID met with differing entries. -/
def State.integrityFault (s : State) (frame cid : Nat) : State :=
  match s.work? frame with
  | none => s
  | some w =>
    let s := s.withdrawEntry frame cid
    let s := ((s.count 0x6002 5 1).raiseOpen frame 0x0603).frameStatus frame 3
    let s := s.corruptEvent
    if w.faulted.contains cid then
      let s := s.modWork frame (fun w => { w with excluded := cid :: w.excluded, reevals := w.reevals.filter (fun x => x.cid != cid || x.started) })
      let s := (((s.count 0x6002 6 1).raiseOpen frame 0x0606).frameStatus frame 6).disturb frame
      s.excludedEvent
    else
      let s := s.modWork frame (fun w => { w with faulted := cid :: w.faulted, reevals := w.reevals ++ [⟨cid, false, false⟩] })
      s.startReevals frame w.laneOf

/-- The frame a stair unit works on: the older of the frames in flight that a test accepts (R24). -/
def State.stairFrame (s : State) (p : FrameWork → Bool) : Option FrameWork := s.frames.find? p

/-- R207: merges a committed block record into its Gallery's list. -/
def State.mergeGallery (s : State) (w : FrameWork) (g : Nat) (r : BlockRec) : State :=
  let k := s.stairK
  let gl := (w.galleryLists[g]?).getD ⟨[], 0⟩
  let u := unite gl.entries (r.live w.excluded)
  let out := bestOf s.compatible k u.entries
  let out := { out with tieCut := out.tieCut + carriedTie s.compatible k out.entries gl + carriedTie s.compatible k out.entries ⟨r.entries, r.tieCut⟩ }
  let fresh := out.entries.filter (fun e => !gl.entries.contains e)
  let s := s.modWork w.frame (fun w => { w with
    galleryLists := setAt w.galleryLists g out,
    forwarded := w.forwarded ++ fresh,
    blocks := modFirst (fun x => x.beta == r.beta) (fun x => { x with inGallery := true }) w.blocks })
  let s := if u.equalCopies == 0 then s else s.count 0x6002 4 u.equalCopies
  u.conflicts.foldl (fun s c => s.integrityFault w.frame c) s

/-- R209: the TIE_CUT of a list merged from the Gallery lists. -/
def galleryTie (compatible : Bool) (k : Nat) (lists : List SortedList) (out : List Entry) : Nat :=
  if out.length < k then 0
  else
    let cut := ((lists.flatMap (·.entries)).filter (fun e => lastKey compatible out == some (stairKey compatible e.merit) && !out.any (fun x => x.cid == e.cid))).map (·.cid)
    (cut.eraseDups).length + (lists.map (carriedTie compatible k out)).foldl (· + ·) 0

/-- R207: the top stair merges the entries forwarded to it. -/
def State.mergeTop (s : State) (w : FrameWork) : State :=
  let k := s.stairK
  let u := unite w.topList.entries (w.forwarded.filter (fun e => !w.excluded.contains e.cid))
  let out := (bestOf s.compatible k u.entries).entries
  let s := s.modWork w.frame (fun w => { w with
    topList := ⟨out, galleryTie s.compatible k w.galleryLists out⟩,
    forwarded := [],
    blocks := w.blocks.map (fun r => if r.inGallery then { r with inTop := true } else r) })
  let s := if u.equalCopies == 0 then s else s.count 0x6002 4 u.equalCopies
  u.conflicts.foldl (fun s c => s.integrityFault w.frame c) s

/-- R208, R211: the list of some records of the block table, duplicates resolved, and the IDs whose copies differ. -/
def tableList (compatible : Bool) (k : Nat) (excluded : List Nat) (rs : List BlockRec) : SortedList × List Nat :=
  let u := unite [] (rs.flatMap (fun r => r.live excluded))
  let out := bestOf compatible k u.entries
  ({ out with tieCut := out.tieCut + ((rs.map (fun r => carriedTie compatible k out.entries ⟨r.entries, r.tieCut⟩)).foldl (· + ·) 0) }, u.conflicts)

/-- R208, R214: a Gallery's list rebuilt from the block table. -/
def rebuiltGallery (compatible : Bool) (k : Nat) (w : FrameWork) (g : Nat) : SortedList × List Nat :=
  tableList compatible k w.excluded (w.blocks.filter (fun r => r.inGallery && r.gallery == g && !r.withdrawn && !r.speculative))

/-- R211, R214: the lists rebuilt from the block table; copies that differ are integrity faults, which start another rebuild. -/
def State.rebuildLists (s : State) (frame : Nat) : State :=
  match s.work? frame with
  | none => s
  | some w =>
    let k := s.stairK
    let built := (List.range 16).map (rebuiltGallery s.compatible k w)
    let lists := built.map (·.1)
    let u := unite [] (lists.flatMap (·.entries))
    let out := (bestOf s.compatible k u.entries).entries
    let s := s.modWork frame (fun w => { w with
      galleryLists := lists, topList := ⟨out, galleryTie s.compatible k lists out⟩, forwarded := [], rebuildDue := false,
      blocks := w.blocks.map (fun r => if r.inGallery then { r with inTop := true } else r) })
    ((built.flatMap (·.2) ++ u.conflicts).eraseDups).foldl (fun s c => s.integrityFault frame c) s

end Sys2Proof.Machine
end

