-- ==== Sys2Proof/Machine/Blocks.lean ====
section
/-!
DEFINITION. Candidates and their blocks (05_proposal.md R137 to R165, 09_galleries_dispatch.md R267): model headers, the lattice library, the runs of frame block
indexes, the control sequences of every source, block items, and the course of the rounds (R162, R213).
-/
namespace Sys2Proof.Machine
open Sys2Proof

/-! Roles in a group (R446): which sources a chip runs -/

def State.runsPolicy (s : State) : Bool := s.cfgB 0x4100 1 && (s.groupMode != 2 || s.chip == 1)
def State.runsLattice (s : State) : Bool := s.cfgB 0x4200 1 && (s.groupMode != 2 || s.chip == 2)
def State.runsSpecial (s : State) : Bool := s.groupMode != 2 || s.chip == 1
/-- The chip field of the IDs this chip generates (R138). -/
def State.cidChipField (s : State) : Nat := if s.groupMode == 0 then 0 else s.chip

/-! Model images (R144) -/

structure ModelHeader where
  magic : Nat
  version : Nat
  inputFormat : Nat
  weightFormat : Nat
  parameters : Nat
  inputScale : F32
  proposals : Nat
  steps : Nat
  channels : Nat
  agentTokens : Nat
  routeTokens : Nat
  worstCycles : Nat
  lixis : Nat
  signer : Nat
  bodyLength : Nat
  bodyDigest : List Byte
  deriving DecidableEq, Repr

def modelHeader (b : List Byte) : ModelHeader :=
  { magic := fieldAt b 0 4, version := fieldAt b 4 2, inputFormat := fieldAt b 6 1, weightFormat := fieldAt b 7 1, parameters := fieldAt b 8 8,
    inputScale := BitVec.ofNat 32 (fieldAt b 16 4), proposals := fieldAt b 20 2, steps := fieldAt b 22 1, channels := fieldAt b 23 1, agentTokens := fieldAt b 24 2,
    routeTokens := fieldAt b 26 2, worstCycles := fieldAt b 28 8, lixis := fieldAt b 36 4, signer := fieldAt b 40 4, bodyLength := fieldAt b 48 8, bodyDigest := slice b 56 32 }

def State.model (s : State) (slot : Nat) : ModelSlot := (s.boot.models[slot]?).getD ⟨.empty, [], []⟩
/-- The bound model image. -/
def State.boundModel (s : State) : ModelSlot := s.model (s.cfg 0x4100 2)

/-- Blocks of the policy's run of β (R267). -/
def State.policyRunLength (s : State) : Nat := if s.runsPolicy then (modelHeader s.boundModel.image).proposals / 64 else 0

/-! The lattice library (R158) -/

structure LibEntry where
  enabled : Bool
  minSpeed : F32
  maxSpeed : F32
  /-- (σ, jerk, steps). -/
  segments : List (F32 × F32 × Nat)
  deriving DecidableEq, Repr

def libCount (lib : List Byte) : Nat := if lib.isEmpty then 0 else fieldAt lib 0 4
def libEntry (lib : List Byte) (k : Nat) : LibEntry :=
  let b := slice lib (64 + 112 * k) 112
  { enabled := (fieldAt b 0 4).testBit 0, minSpeed := BitVec.ofNat 32 (fieldAt b 4 4), maxSpeed := BitVec.ofNat 32 (fieldAt b 8 4),
    segments := (List.range 8).map (fun i => (BitVec.ofNat 32 (fieldAt b (16 + 12 * i) 4), BitVec.ofNat 32 (fieldAt b (20 + 12 * i) 4), fieldAt b (24 + 12 * i) 2)) }

/-- R158: the indexes of the entries applicable at a start speed. -/
def applicableEntries (lib : List Byte) (v : F32) : List Nat :=
  (List.range (libCount lib)).filter (fun k => let e := libEntry lib k; e.enabled && f32Le e.minSpeed v && f32Le v e.maxSpeed)

/-- A control sequence cut or filled out with σ = 0 and jerk 0 to n steps. -/
def fitControls (n : Nat) (us : List Control) : List Control := us.take n ++ List.replicate (n - us.length) ⟨0#32, 0#32⟩

def LibEntry.controls (e : LibEntry) : List Control := e.segments.flatMap (fun (σ, j, k) => List.replicate k ⟨σ, j⟩)

/-! Candidates (R137, R138, R267) -/

/-- ResampleCount of a round, 1 to 3. -/
def State.resampleCount (s : State) (round : Nat) : Nat := if 1 ≤ round ∧ round ≤ 3 then s.cfg 0x4300 (round + 2) else 0

/-- R267: the β of a block named by its FIRST_ID. -/
def State.betaOf (s : State) (w : FrameWork) (firstId : Nat) : Nat :=
  let b := cidOrdinal firstId / 64
  let lattice := (w.applicable.length + 63) / 64
  match cidSource firstId with
  | 3 => 0
  | 0 => 1 + b
  | 1 => 1 + w.policyBlocks + b
  | _ =>
    let r := cidRound firstId
    1 + w.policyBlocks + lattice + ((List.range r).map (fun q => s.resampleCount q / 64)).foldl (· + ·) 0 + b

/-- The number of candidates of a source and round. -/
def State.sourceCount (s : State) (w : FrameWork) (round source : Nat) : Nat :=
  match source with
  | 0 => 64 * w.policyBlocks
  | 1 => w.applicable.length
  | 2 => s.resampleCount round
  | _ => 2

/-- The IDs of the candidates of a block, in ascending ordinal order (R139); without a continuation the special block holds ordinal 1 only (R160). -/
def State.blockIds (s : State) (w : FrameWork) (firstId : Nat) : List Nat :=
  if cidSource firstId == 3 then (if w.special.continuation.isSome then [firstId, firstId + 1] else [firstId + 1])
  else
    let n := s.sourceCount w (cidRound firstId) (cidSource firstId)
    (List.range (min 64 (n - cidOrdinal firstId))).map (firstId + ·)

/-- R162, R213: the elites drawn from a snapshot. -/
def State.elitesOf (s : State) (snapshot : List Entry) : List Entry :=
  (snapshot.filter Entry.valid).take (min (s.cfg 0x4300 2) s.stairK)

/-- R163: u of a word. -/
def scgUnit (w : Word) : F32 := f32Sub (BitVec.ofNat 32 (fpOfScaled fmt32 .rne ((w.toNat / 256 : Nat) : Int) (-24))) 0x3F000000#32

/-- R163: a parent's sequence perturbed. -/
def State.perturb (s : State) (frame cid : Nat) (parent : List Control) : List Control :=
  let key := scgKey (s.cfgBytes 0x7201 0) frame
  let r := cidRound cid
  let sig := s.cfgF 0x4300 (5 + r)
  let jer := s.cfgF 0x4300 (8 + r)
  parent.zipIdx.map fun (u, k) =>
    let w := scgWords key frame r cid k
    let x (i : Nat) : F32 := scgUnit ((w[i]?).getD 0#32)
    ⟨f32Add u.sigma (f32Mul sig (f32Add (x 0) (x 1))), f32Add u.jerk (f32Mul jer (f32Add (x 2) (x 3)))⟩

/-- The control sequence of a candidate before clamping, with n steps; a resampled one follows its parents back to round 0 (R163). -/
def State.candidateControls (s : State) (w : FrameWork) : Nat → Nat → List Control
  | 0, _ => []
  | fuel + 1, cid =>
    let n := s.cfg 0x4001 1
    let o := cidOrdinal cid
    match cidSource cid with
    | 0 => fitControls n ((w.policy.output[o]?).getD [])
    | 1 => fitControls n ((w.applicable[o]?).map (fun k => (libEntry (s.cfgBytes 0x4200 2) k).controls) |>.getD [])
    | 2 =>
      let elites := match w.rounds[cidRound cid - 1]? with
        | some r => s.elitesOf (r.snapshot.getD [])
        | none => []
      match elites[o % max 1 elites.length]? with
      | some p => s.perturb w.frame cid (s.candidateControls w fuel p.cid)
      | none => fitControls n []
    | _ => if o == 0 then fitControls n (w.special.continuation.getD []) else fitControls n w.special.minRisk

/-- The control sequence of a candidate before clamping. -/
def State.controlsOf (s : State) (w : FrameWork) (cid : Nat) : List Control := s.candidateControls w 5 cid

/-- A candidate's expansion from the frame's start state (R151). -/
def State.expandCandidate (s : State) (w : FrameWork) (cid : Nat) : Expansion :=
  expandControls s.vehicle cid w.start.pose (s.controlsOf w cid)

/-! Block items -/

/-- Creates the item of a candidate block (R265 to R269). -/
def State.addBlock (s : State) (w : FrameWork) (firstId cls : Nat) (spec replay : Bool) : State :=
  let lane := s.betaOf w firstId % 512
  s.addItem { kind := .candidateBlock, cls := cls, flow := none, spec := spec, replay := replay, pinned := false, lane := lane, frame := w.frame, arg := firstId,
              version := 0, dispatcher := s.homeOf lane, release := if spec then w.release else none }

/-- The item of a block that is not yet retired. -/
def State.blockItem? (s : State) (frame firstId : Nat) : Option Item :=
  s.disp.items.find? (fun i => i.kind == .candidateBlock && i.frame == frame && i.arg == firstId)

/-- Issues a block of a frame: its item, and its place among the round's blocks where it has none yet. A run-ahead frame's blocks are speculative (R79). -/
def State.issueBlock (s : State) (frame firstId : Nat) : State :=
  match s.work? frame with
  | none => s
  | some w =>
    let s := s.modWork frame (fun w => { w with rounds := modAt w.rounds (cidRound firstId) (fun r => { r with issued := if r.issued.contains (s.betaOf w firstId) then r.issued else r.issued ++ [s.betaOf w firstId] }) })
    s.addBlock w firstId (if w.speculative then 6 else 4) w.speculative false

def State.issueBlocks (s : State) (frame : Nat) (ids : List Nat) : State := ids.foldl (fun s i => s.issueBlock frame i) s

/-- The FIRST_IDs of n candidates of a source and round. -/
def State.firstIds (s : State) (round source n : Nat) : List Nat :=
  (List.range ((n + 63) / 64)).map (fun b => mkCid s.cidChipField round source (64 * b))

/-- R83, R87: requeues a block whose record was withdrawn, once its earlier item has retired (R281). Policy blocks wait until the fate of their round is known and, where it reruns, until
the rerun has emitted them (R82); those of a failed policy are not run again (R149), nor is an abandoned block (R193). -/
def State.replayBlock (s : State) (frame firstId : Nat) : State :=
  match s.work? frame, s.blockItem? frame firstId with
  | some w, none =>
    if w.closed.isSome || w.landed || w.abandoned.contains firstId then s
    else if cidSource firstId == 1 && decide (w.applicable.length ≤ cidOrdinal firstId) then s
    else if cidSource firstId == 0 && (w.policy.failed || !s.policyStands w || decide (w.policy.emitted ≤ cidOrdinal firstId / 64)) then s
    else s.addBlock w firstId 3 false true
  | _, _ => s

/-! Rounds (R162, R213) -/

/-- R213: round r of a frame is merged in full. -/
def State.roundFull (s : State) (w : FrameWork) (r : Nat) : Bool :=
  match w.rounds[r]? with
  | none => false
  | some x =>
    x.complete
      && !(s.disp.items.any (fun i => i.kind == .candidateBlock && i.frame == w.frame && cidRound i.arg == r && !i.committed))
      && w.blocks.all (fun b => cidRound b.firstId != r || (if b.withdrawn then (s.blockItem? w.frame b.firstId).isNone else b.inTop && !b.speculative))
      && w.reevals.all (fun x => cidRound x.cid != r || (x.done && w.blocks.all (fun b => b.beta < 4112 || b.firstId != x.cid || b.inTop || b.withdrawn)))
      && !w.rebuildDue

/-- Takes the snapshots of the rounds now merged in full, and issues the blocks of the rounds that follow. -/
def State.advanceRounds : Nat → Nat → State → State
  | 0, _, s => s
  | fuel + 1, frame, s =>
    match s.work? frame with
    | none => s
    | some w =>
      if w.closed.isSome || w.speculative then s else
      match (List.range w.rounds.length).find? (fun r => ((w.rounds[r]?).map (fun x => x.snapshot.isNone)).getD false) with
      | none => s
      | some r =>
        if !s.roundFull w r then s
        else
          let s := s.modWork frame (fun w => { w with rounds := modAt w.rounds r (fun x => { x with snapshot := some w.topList.entries }) })
          if r + 1 < w.rounds.length then
            let none? := (s.elitesOf w.topList.entries).isEmpty
            let s := if none? then (s.count 0x4400 8 1).raiseOpen frame 0x0406 else s.issueBlocks frame (s.firstIds (r + 1) 2 (s.resampleCount (r + 1)))
            let s := s.modWork frame (fun w => { w with rounds := modAt w.rounds (r + 1) (fun x => { x with complete := true }) })
            advanceRounds fuel frame s
          else s

/-- The rounds of a frame go on as far as they can. -/
def State.goRounds (s : State) (frame : Nat) : State := State.advanceRounds 5 frame s

/-- Every configured round has merged in full. -/
def FrameWork.allMerged (w : FrameWork) : Bool := !w.rounds.isEmpty && w.rounds.all (fun r => r.snapshot.isSome)

/-- The rounds of a frame before any block is issued (R137). -/
def State.emptyRounds (s : State) : List Round := List.replicate (s.cfg 0x4300 1) ⟨[], false, none⟩

/-! Squashes and withdrawals (R82, R83, R87, R214) -/

/-- Marks the records of the blocks a test picks out WITHDRAWN, with the re-evaluations of their candidates, whose entries the blocks' replays give anew, and starts one rebuild (R214). -/
def State.withdrawBlocks (s : State) (frame : Nat) (p : BlockRec → Bool) : State :=
  match s.work? frame with
  | none => s
  | some w =>
    let out (r : BlockRec) : Bool := !r.withdrawn && decide (r.beta < 4112) && p r
    let hit := w.blocks.filter out
    if hit.isEmpty then s
    else
      let holds (cid : Nat) : Bool := hit.any (fun r => decide (r.firstId ≤ cid) && decide (cid < r.firstId + 64))
      let s := s.cancelItems (fun i => i.kind == .candidateSingle && i.frame == frame && holds i.arg)
      let s := s.modWork frame (fun w => { w with
        blocks := w.blocks.map (fun r => if out r || (decide (4112 ≤ r.beta) && holds r.firstId) then { r with withdrawn := true } else r),
        reevals := w.reevals.map (fun x => if holds x.cid then { x with started := true, done := true } else x),
        rebuildDue := true })
      (s.count 0x6002 8 hit.length).count 0x6002 9 1

/-- Puts a block record in its slot, replacing the one held there (R206). -/
def FrameWork.putRecord (w : FrameWork) (r : BlockRec) : FrameWork :=
  { w with blocks := if w.blocks.any (fun x => x.beta == r.beta) then w.blocks.map (fun x => if x.beta == r.beta then r else x) else w.blocks ++ [r] }

end Sys2Proof.Machine
end

