-- ==== Sys2Proof/WellFormed.lean ====
section
/-!
DEFINITION. Which commands are well formed: each operand fits the field, or names a unit, that the spec gives it. The machine gives every term of the syntax a meaning;
these are the terms the outside can send.
-/
namespace Sys2Proof
open Machine

/-- An instant is a TIME (R27). -/
def timeOk (t : Nat) : Bool := decide (t < 2 ^ 64)

/-- R39: the fields of an ODP message fit their bits, a message is at most 1,472 bytes, and a tag has 32 bytes or none. -/
def odpMsgOk (m : OdpMsg) : Bool :=
  decide (m.version < 2 ^ 8) && decide (m.flags < 2 ^ 3) && decide (m.session < 2 ^ 32) && decide (m.xid < 2 ^ 32) && decide (m.counter < 2 ^ 64)
    && decide (m.status < 2 ^ 16) && decide (m.length < 2 ^ 16) && decide (m.payload.length ≤ 1408) && decide (m.reserved < 2 ^ 69) && (m.tag.length == 32 || m.tag.length == 0)

/-- R433: the fields of a group message fit their bits, and its payload is at most 65,536 bytes. -/
def groupMsgOk (m : GroupMsg) : Bool :=
  decide (m.port < 2) && decide (m.sender < 4) && decide (m.receiver < 4) && decide (m.segment < 2 ^ 16) && decide (m.length < 2 ^ 32)
    && decide (m.frame < 2 ^ 64) && decide (m.sequence < 2 ^ 64) && decide (m.version < 2 ^ 32) && decide (m.digest < 2 ^ 64)
    && decide (m.payload.length ≤ 65536)

/-- R421: the fields of a client datagram. -/
def datagramOk (d : UdpDatagram) : Bool :=
  decide (d.port < 3) && decide (64 ≤ d.bytes.length) && decide (d.bytes.length ≤ 1472)

/-- R393: a BAR4 access lies in the BAR's 1 GiB. -/
def bar4Ok : Bar4Access → Bool
  | .read o n => decide (o + n ≤ 2 ^ 30)
  | .write o b => decide (o + b.length ≤ 2 ^ 30)

/-- R64, R65: the port a gPTP message came by is a source code. -/
def gptpSourceOk (source domain : Nat) : Bool := decide (source < 3) && decide (domain < 2 ^ 8)

/-- R502, R528: the fields of a manufacturing area. -/
def partOk (p : Part) : Bool :=
  p.rootKey.length == 64 && decide (p.serial < 2 ^ 64) && p.macs.length == 2 && p.macs.all (fun m => decide (m < 2 ^ 48)) && decide (p.subsystemVendor < 2 ^ 16)
    && decide (p.subsystemId < 2 ^ 16) && p.helper.length == 4096 && p.identityKey.length == 64 && p.endorsement.length == 64 && p.record.length == 288 && p.voltages.length == 17
    && p.voltages.all (fun v => decide (v < 2 ^ 16)) && p.signature.length == 64

/-- R493, R500 to R503: what start-up finds. -/
def bootFactsOk (f : BootFacts) : Bool :=
  f.romDigest.length == 32 && partOk f.areaA && partOk f.areaB && decide (f.secret < 2 ^ 256) && f.badHeaders.all (fun c => decide (c < 2)) && f.untrained.all (fun c => decide (c < 32)) && f.failedEngines.all (fun e => decide (e < 512))
    && f.failedGalleries.all (fun g => decide (g < 16))

/-- R307: vector registers are 0 to 15 and predicates 0 to 7. -/
def vectorOk (r : BitVec 6) : Bool := decide (r.toNat < 16)
def predicateOk (r : BitVec 6) : Bool := decide (r.toNat < 8)
/-- R298 check 4: no instruction writes p0. -/
def predicateDest (r : BitVec 6) : Bool := decide (1 ≤ r.toNat) && decide (r.toNat < 8)

/-- R312: the registers of a vector instruction, by function. -/
def valuOk (rd ra rb : BitVec 6) (fn : BitVec 5) : Bool :=
  let f := fn.toNat
  decide (f ≤ 0x0E) && (decide (f ≥ 0x0B) || vectorOk rd && vectorOk rb || f == 0x0A && vectorOk rd) && (f != 0x0C || vectorOk rd)
    && (f == 0x0A || f == 0x0C || vectorOk ra)

def Instr.wf : Instr → Bool
  | .read t m | .write t m | .blockRead t m | .blockWrite t m | .stage t m | .check t m | .commit t m | .abort t m | .subscribe t m
  | .setupRequest t m | .close t m | .keepAlive t m => timeOk t && odpMsgOk m
  | .subscriptionNotice _ idx sub => decide (idx < 2 ^ 16) && decide (sub < 2 ^ 8)
  | .counterClear idx mask => decide (idx < 2 ^ 16) && decide (mask < 2 ^ 64)
  | .sync t m => timeOk t && gptpSourceOk m.source m.domain && decide (m.grandmaster < 2 ^ 64)
  | .announce t m | .pdelayReq t m => timeOk t && gptpSourceOk m.source m.domain && decide (m.value < 2 ^ 64)
  | .pdelayReqIssue t | .syncTimeout t | .ppsIn t => timeOk t
  | .programReload ingress n => if ingress then decide (n < 128) else decide (n < 512)
  | .tileJob lane => decide (lane < 4)
  | .streamPacketArrivalUdp t n b => timeOk t && decide (n < 2 ^ 16) && decide (1 ≤ b.length) && decide (b.length ≤ 32768)
  | .streamPacketArrivalRoce t r b => timeOk t && decide (r.qp < 2 ^ 24) && decide (1 ≤ b.length) && decide (b.length ≤ 32768)
  | .filterInvocation n | .streamReadStart n | .flush n | .urgentDelta n => decide (n < 128)
  | .packetApply n flips => decide (n < 128) && flips.all (fun f => decide (f.2 < 272))
  | .streamBankReturn n b => decide (n < 128) && decide (b < 2)
  | .expanderWindowFill e | .candidateBlock e | .candidateSingle e | .reference e | .recheck e => decide (e < 512)
  | .sliceAbandon x => decide (x.unit < 512) || decide (1024 ≤ x.unit) && decide (x.unit < 2048) || decide (4096 ≤ x.unit) && decide (x.unit < 4352)
  | .ialu _ _ _ _ fn => decide (fn.toNat ≤ 0x0D)
  | .icmp rd _ _ _ fn => decide (fn.toNat ≤ 5) && predicateDest rd
  | .falu _ _ _ _ fn => decide (fn.toNat ≤ 0x10)
  | .fcmp rd _ _ _ fn => decide (fn.toNat ≤ 3) && predicateDest rd
  | .valu rd ra rb _ fn => valuOk rd ra rb fn
  | .plog rd ra rb _ fn => decide (fn.toNat ≤ 3) && predicateDest rd && predicateOk ra && (fn.toNat == 3 || predicateOk rb)
  | .crc32c _ _ _ _ fn => decide (2 ≤ fn.toNat) && decide (fn.toNat ≤ 4)
  | .bfx _ _ pos w => decide (pos.toNat + w.toNat + 1 ≤ 32)
  | .vldS rd _ _ | .vstS rd _ _ => vectorOk rd
  | .atomAddI64 _ rb _ => decide (rb.toNat % 2 = 0)
  | .poseSphere rd _ _ | .poseAxle rd _ _ => decide (rd.toNat % 2 = 0)
  | .query _ ra _ _ | .lookup _ ra _ _ => decide (ra.toNat % 2 = 0)
  | .scg rd _ _ => decide (rd.toNat % 4 = 0)
  | .br _ _ offset => decide (1 ≤ offset.toNat)
  | .loop _ body bound => decide (1 ≤ body.toNat) && decide (1 ≤ bound.toNat)
  | .galleryMerge g beta => decide (g < 16) && decide (beta < 8192)
  | .qpInstance p | .qpIteration p => decide (p < 64)
  | .timeScaling q => decide (q < 66)
  | .sentryCheck q => decide (q < 66)
  | .release t slot g => timeOk t && decide (slot < 16) && decide (g < 2 ^ 64)
  | .dispatcherTick t k => timeOk t && decide (k < 2 ^ 64)
  | .itemAssign t d => timeOk t && decide (d < 21)
  | .steal g => decide (g < 16)
  | .itemRetire t _ | .itemCutOff t _ => timeOk t
  | .engineLeavesService e c => decide (e < 512) && decide (c.cause < 16)
  | .galleryLeavesService g c => decide (g < 16) && decide (c.cause < 16)
  | .adminOutWrite engines i mask => if engines then decide (i < 16) && decide (mask < 2 ^ 32) else i == 0 && decide (mask < 2 ^ 16)
  | .drainComplete engine n | .rejoinRegister engine n _ => if engine then decide (n < 512) else decide (n < 16)
  | .selfTestSlice t e _ => timeOk t && (decide (e < 528) || decide (1024 ≤ e) && decide (e < 2048) || decide (4096 ≤ e) && decide (e < 4352))
  | .coverageOverdue t u => timeOk t && decide (u < 8192)
  | .clockMonitorWindow t x => timeOk t && x.measured.all (fun m => decide (m.1 < 100))
  | .newelLockstepMismatch t | .newelClkFailure t | .newelSramEccError t | .vddNewelLoss t | .vddAonLoss t | .pwrGoodFall t | .warmRstNAssert t
  | .storedDomLoad t | .attestationReportBuild t | .descriptorAccept t | .journalRereplicationDone t | .helloTimer t | .portFailover t
  | .coreVoltageSettled t => timeOk t
  | .busMasterEnableWrite t w => timeOk t && w.bars.all (fun p => decide (p.1 < 3) && decide (p.2 < 2 ^ 64)) && w.msix.all (fun p => decide (p.1 + p.2.length ≤ 32768))
  | .uncorrectedHallError t address => timeOk t && decide (address < 2 ^ 27)
  | .correctedErrorEvent t _ => timeOk t
  | .channelLoss t c => timeOk t && decide (c < 32)
  | .doorbell t r v => timeOk t && decide (r < 16384) && decide (v < 2 ^ 32)
  | .descriptorFetch t r b _ _ => timeOk t && decide (r < 16384) && b.length == 64
  | .dictionary t _ | .loadProgram t _ => timeOk t
  | .interruptModerationTimer t r => timeOk t && decide (r < 16384)
  | .apertureBaseWrite w => decide (w.value < 2 ^ 64) && w.before.all bar4Ok
  | .recoveryControl t v => timeOk t && decide (v < 2 ^ 32)
  | .reqLen t ch n b v => timeOk t && decide (ch < 8) && (match n with | some k => decide (k < 2 ^ 32) | none => v.isSome) && decide (b.length ≤ 1472) && (match v with | some k => decide (k < 2048) | none => true)
  | .roceDoorbell t qp r v => timeOk t && decide (qp < 2 ^ 24) && decide (r < 16384) && decide (v < 2 ^ 32)
  | .roceConsumerSend t qp r b => timeOk t && decide (qp < 2 ^ 24) && decide (r < 16384) && decide (b.value < 2 ^ 32) && decide (b.reserved < 2 ^ 64)
  | .udpDescriptorDatagram t d | .udpAcknowledgement t d => timeOk t && datagramOk d
  | .udpRecordResend t c => timeOk t && decide (c < 4096)
  | .linkTrained t speed width => timeOk t && decide (1 ≤ speed) && decide (speed ≤ 4) && decide (1 ≤ width) && decide (width ≤ 8)
  | .hello t m | .mapSegment t m | .version t m | .scene t m | .list t m | .plan t m | .digest t m | .bisect t m | .mirror t m | .mirrorAck t m
  | .takeover t m | .checkpoint t m => timeOk t && groupMsgOk m
  | .digestFinal _ phase round | .digestMissing _ phase round => decide (phase < 7) && decide (round < 4)
  | .peerLoss t c => timeOk t && decide (c < 4)
  | .cnp t qp | .ecnCePacket t qp | .rateRecoveryTimer t qp | .roceAckTimeout t qp | .roceConnectionReestablished t qp => timeOk t && decide (qp < 2 ^ 24)
  | .roceAck t qp _ => timeOk t && decide (qp < 2 ^ 24)
  | .powerOnReset t _ f | .warmRstNRelease t f => timeOk t && bootFactsOk f
  | .firmwareActivate slot => decide (slot < 2)
  | .throttleEvaluation t _ | .stepChange t _ | .coldResetAssert t _ => timeOk t
  | .temperatureSample t temps => timeOk t && temps.length == 32
  | .railExcursion t rail _ => timeOk t && decide (1 ≤ rail) && decide (rail ≤ 6)
  | .patrolScrub t _ _ _ => timeOk t
  | .portLinkDown t p | .portLinkUp t p => timeOk t && decide (p < 2)
  | .pfcPause t p prio _ => timeOk t && decide (p < 2) && decide (prio < 8)
  | .sessionIdleTimeout _ | .keepAliveTimer _ | .ruleEnd | .pushi _ | .pushq _ | .ld _ _ | .ldact _ _
  | .ruleAdd | .ruleSub | .ruleMul | .ruleDiv | .ruleAnd | .ruleOr | .ruleXor | .ruleShl | .ruleShr | .ruleNeg
  | .ruleEq | .ruleNe | .ruleLt | .ruleLe | .ruleNot | .ruleDup | .ruleDrop | .ruleSwap | .ruleAssert _ | .ruleJz _
  | .holdoverLimit | .ppsOut | .frameTick | .settingsSave | .seal | .runaheadTileCompare | .runaheadCommitPoint | .mapReady
  | .sceneTensorEmit | .buildEndPromotion | .urgentVersionSeal | .policyRun _
  | .bswap32 _ _ _ | .bswap16 _ _ _ | .addi _ _ _ | .ori _ _ _ | .andi _ _ _ | .lui _ _ | .ldwS _ _ _ | .stwS _ _ _ | .ldwT _ _ _ | .ldwH _ _ _
  | .atomAddI32 _ _ _ | .atomAddU16q7s _ _ _ | .atomAddF32 _ _ _ | .acc _ _ _ | .merit _ _ | .yield _
  | .topStairMerge | .listRebuild | .selectionClose | .solverStop | .sentryPacket | .landing | .publicationFailure | .slackStart
  | .loadRanking | .itemAdmission | .nop _ | .streamData _ | .loadModel _ _ | .replay _ _ | .regenerate _ | .dump _
  | .substituteVersion | .replayEnableWrite _ | .firmwareConfirm => true
  | .reject _ _ code => code.toNat == 0 || code.toNat == 6 || decide (16 ≤ code.toNat)

end Sys2Proof
end

