-- ==== Sys2Proof/Machine/EngineCmd.lean ====
section
/-!
DEFINITION. Engine instructions as commands: each acts on the registers of the processor in hand (R301, R302), that of the last EXPANDER_WINDOW_FILL or FILTER_INVOCATION
(log entry 54); an ill-formed word, which the verifier of R298 never lets run, acts on nothing. Tally additions act at the bank at once (R313). A fault has the consequences
of R316.
-/
namespace Sys2Proof.Machine
open Sys2Proof

/-- The tiles of a version; none where there is no such version. -/
def State.versionTiles (s : State) (number : Nat) (spec : Bool) : List Tile :=
  match s.world.versions.find? (fun v => v.number == number && v.spec == spec) with
  | some v => v.tiles
  | none => []

/-- The environment of a program that reads a version for a frame. -/
def State.engEnv (s : State) (frame version : Nat) (spec : Bool) : EngEnv :=
  { map := s.mapView (s.versionTiles version spec), spheres := s.spheres, body := s.body, stepNs := s.cfg 0x4001 2 * 1000, frame := frame,
    key := scgKey (s.cfgBytes 0x7201 0) frame }

/-- R313: the tally of a program slot after a run. -/
def State.setTally (s : State) (slot : Option Nat) (tally : List Host.Cell) : State :=
  match slot with
  | some k => { s with boot := { s.boot with tallies := alSet k tally s.boot.tallies } }
  | none => s

/-- R318, R367: an ATOM ADD.F32 that takes effect counts once per frame in RELAXED mode. -/
def State.fpAtomicChoice (s : State) (frame : Nat) (took : Bool) : State :=
  if took && s.cfg 0x7200 1 == 1 then s.choice frame 7 true else s

/-- The candidate block or single candidate an engine serves. -/
def State.servingCandidates (s : State) (engine : Nat) : Option Item :=
  match s.servingKind engine .candidateBlock with
  | some i => some i
  | none => s.servingKind engine .candidateSingle

/-- R193: a block, or the one candidate of a single item, is abandoned: its candidates enter no list and are not replayed. -/
def State.abandonBlock (s : State) (frame code : Nat) (mark : Nat) : State :=
  ((s.modWork frame (fun w => { w with abandoned := mark :: w.abandoned })).raiseOpen frame code).count 0x5020 6 1

/-- R193, R316: the block or candidate that an engine serves is abandoned, and the engine's scratchpad with it. -/
def State.abandonItem (s : State) (engine : Nat) (i : Item) (code : Nat) : State :=
  ((((s.modUnit engine (fun u => { u with windows := 0, exps := [] })).commitItem i.serial).abandonBlock i.frame code i.mark).goRounds i.frame)

/-- R316: what a filter has not yet written of its packet gives way to a truncated-packet marker of a cause, and the sentry's copy stays open (R471). -/
def FilterRun.cut (r : FilterRun) (cause : Nat) : FilterRun :=
  { r with rest := [([], true, cause)], output := r.output.take (r.output.length - natSum (r.rest.map (fun x => x.1.length))), closed := false }

/-- R316: the packet that stream n's ingress processor still writes, the newest it has run, closes with a truncated-packet marker. -/
def State.breakPacket (s : State) (n : Nat) : State :=
  { s with world := { s.world with streams := modAt s.world.streams n (fun x => { x with running := modLast (fun r => r.cut 0x0305) x.running }) } }

/-- R316: the consequence of a fault of the invocation in hand. -/
def State.faultInHand (s : State) : State :=
  if s.engUnit < 512 then
    match s.servingCandidates s.engUnit with
    | some i => s.abandonItem s.engUnit i 0x0501
    | none => s
  else s.breakPacket (s.engUnit - 512)

/-- The invocation in hand has become v. -/
def State.engSet (s : State) (v : Invocation) : State := if v.status == .faulted then ({ s with eng := v }).faultInHand else { s with eng := v }

/-- The environment and the invocation that the next engine instruction acts on: the one in hand, or the next where that has ended. -/
def State.engEnvHere (s : State) : EngEnv := s.engEnv s.eng.frame s.eng.version s.eng.specMap
def State.engHere (s : State) : Invocation := s.eng.resume s.engEnvHere

/-- Applies a well-formed engine instruction to the invocation in hand, beginning the next one where the last has ended. -/
def State.engApply (s : State) (i : Instr) (f : EngEnv → Invocation → Invocation) : State := if i.wf then s.engSet (f s.engEnvHere s.engHere) else s

/-- The tally of a program slot as its bank holds it (R313). -/
def State.tallyOf (s : State) (slot : Option Nat) : List Host.Cell := match slot with | some k => (alGet k s.boot.tallies).getD [] | none => []

/-- Applies a well-formed tally addition: it acts at the bank when it executes (R313). -/
def State.engTally (s : State) (i : Instr) (f : Invocation → Invocation) : State :=
  if i.wf then
    let v := f { s.engHere with fpAtomic := false, tally := s.tallyOf s.engHere.progSlot }
    let s := if s.onOldTally s.engUnit then s else s.setTally v.progSlot v.tally
    (s.fpAtomicChoice v.frame v.fpAtomic).engSet v
  else s

/-- R310: an integer operation. -/
def execIalu (rd ra rb : BitVec 6) (pred : BitVec 3) (fn : BitVec 5) (s : State) : Host.Outcome State Fault Refusal :=
  .next (s.engApply (.ialu rd ra rb pred fn) (fun _ v => engIalu rd ra rb pred fn v))

/-- R310: an integer comparison. -/
def execIcmp (rd ra rb : BitVec 6) (pred : BitVec 3) (fn : BitVec 5) (s : State) : Host.Outcome State Fault Refusal :=
  .next (s.engApply (.icmp rd ra rb pred fn) (fun _ v => engIcmp rd ra rb pred fn v))

/-- R311: a floating-point operation. -/
def execFalu (rd ra rb : BitVec 6) (pred : BitVec 3) (fn : BitVec 5) (s : State) : Host.Outcome State Fault Refusal :=
  .next (s.engApply (.falu rd ra rb pred fn) (fun _ v => engFalu rd ra rb pred fn v))

/-- R311: a floating-point comparison. -/
def execFcmp (rd ra rb : BitVec 6) (pred : BitVec 3) (fn : BitVec 5) (s : State) : Host.Outcome State Fault Refusal :=
  .next (s.engApply (.fcmp rd ra rb pred fn) (fun _ v => engFcmp rd ra rb pred fn v))

/-- R312: a vector operation. -/
def execValu (rd ra rb : BitVec 6) (pred : BitVec 3) (fn : BitVec 5) (s : State) : Host.Outcome State Fault Refusal :=
  .next (s.engApply (.valu rd ra rb pred fn) (fun _ v => engValu rd ra rb pred fn v))

/-- R310: a predicate operation. -/
def execPlog (rd ra rb : BitVec 6) (pred : BitVec 3) (fn : BitVec 5) (s : State) : Host.Outcome State Fault Refusal :=
  .next (s.engApply (.plog rd ra rb pred fn) (fun _ v => engPlog rd ra rb pred fn v))

/-- R315: the bytes reversed. -/
def execBswap32 (rd ra : BitVec 6) (pred : BitVec 3) (s : State) : Host.Outcome State Fault Refusal :=
  .next (s.engApply (.bswap32 rd ra pred) (fun _ v => engBswap32 rd ra pred v))

/-- R315: the bytes of each half exchanged. -/
def execBswap16 (rd ra : BitVec 6) (pred : BitVec 3) (s : State) : Host.Outcome State Fault Refusal :=
  .next (s.engApply (.bswap16 rd ra pred) (fun _ v => engBswap16 rd ra pred v))

/-- R315: the CRC-32C register advanced. -/
def execCrc32c (rd ra rb : BitVec 6) (pred : BitVec 3) (fn : BitVec 5) (s : State) : Host.Outcome State Fault Refusal :=
  .next (s.engApply (.crc32c rd ra rb pred fn) (fun _ v => engCrc32c rd ra rb pred fn v))

/-- R310: add a sign-extended immediate. -/
def execAddi (rd ra : BitVec 6) (imm : BitVec 14) (s : State) : Host.Outcome State Fault Refusal :=
  .next (s.engApply (.addi rd ra imm) (fun _ v => engAddi rd ra imm v))

/-- R310: OR with a zero-extended immediate. -/
def execOri (rd ra : BitVec 6) (imm : BitVec 14) (s : State) : Host.Outcome State Fault Refusal :=
  .next (s.engApply (.ori rd ra imm) (fun _ v => engOri rd ra imm v))

/-- R310: AND with a zero-extended immediate. -/
def execAndi (rd ra : BitVec 6) (imm : BitVec 14) (s : State) : Host.Outcome State Fault Refusal :=
  .next (s.engApply (.andi rd ra imm) (fun _ v => engAndi rd ra imm v))

/-- R310: load an upper immediate. -/
def execLui (rd : BitVec 6) (imm : BitVec 20) (s : State) : Host.Outcome State Fault Refusal :=
  .next (s.engApply (.lui rd imm) (fun _ v => engLui rd imm v))

/-- R315: extract a bit field. -/
def execBfx (rd ra : BitVec 6) (pos widthLess1 : BitVec 5) (s : State) : Host.Outcome State Fault Refusal :=
  .next (s.engApply (.bfx rd ra pos widthLess1) (fun _ v => engBfx rd ra pos widthLess1 v))

/-- R313: load a word of the local space. -/
def execLdwS (rd ra : BitVec 6) (imm : BitVec 14) (s : State) : Host.Outcome State Fault Refusal :=
  .next (s.engApply (.ldwS rd ra imm) (fun _ v => engLdwS rd ra imm v))

/-- R313: store a word to the local space. -/
def execStwS (rd ra : BitVec 6) (imm : BitVec 14) (s : State) : Host.Outcome State Fault Refusal :=
  .next (s.engApply (.stwS rd ra imm) (fun _ v => engStwS rd ra imm v))

/-- R313: load a vector of the local space. -/
def execVldS (rd ra : BitVec 6) (imm : BitVec 14) (s : State) : Host.Outcome State Fault Refusal :=
  .next (s.engApply (.vldS rd ra imm) (fun _ v => engVldS rd ra imm v))

/-- R313: store a vector to the local space. -/
def execVstS (rd ra : BitVec 6) (imm : BitVec 14) (s : State) : Host.Outcome State Fault Refusal :=
  .next (s.engApply (.vstS rd ra imm) (fun _ v => engVstS rd ra imm v))

/-- R306, R313: load a word of a tile. -/
def execLdwT (rd ra : BitVec 6) (imm : BitVec 14) (s : State) : Host.Outcome State Fault Refusal :=
  .next (s.engApply (.ldwT rd ra imm) (fun env v => engLdwT env rd ra imm v))

/-- R313: load a word of the constants. -/
def execLdwH (rd ra : BitVec 6) (imm : BitVec 14) (s : State) : Host.Outcome State Fault Refusal :=
  .next (s.engApply (.ldwH rd ra imm) (fun _ v => engLdwH rd ra imm v))

/-- R313: add to a 32-bit tally word. -/
def execAtomAddI32 (ra rb : BitVec 6) (pred : BitVec 3) (s : State) : Host.Outcome State Fault Refusal :=
  .next (s.engTally (.atomAddI32 ra rb pred) (engAtomAddI32 ra rb pred))

/-- R313: add to a 64-bit tally word. -/
def execAtomAddI64 (ra rb : BitVec 6) (pred : BitVec 3) (s : State) : Host.Outcome State Fault Refusal :=
  .next (s.engTally (.atomAddI64 ra rb pred) (engAtomAddI64 ra rb pred))

/-- R313: add to a u16q7 tally value, saturating. -/
def execAtomAddU16q7s (ra rb : BitVec 6) (pred : BitVec 3) (s : State) : Host.Outcome State Fault Refusal :=
  .next (s.engTally (.atomAddU16q7s ra rb pred) (engAtomAddU16q7s ra rb pred))

/-- R313, R318: add to an FP32 tally value. -/
def execAtomAddF32 (ra rb : BitVec 6) (pred : BitVec 3) (s : State) : Host.Outcome State Fault Refusal :=
  .next (s.engTally (.atomAddF32 ra rb pred) (engAtomAddF32 ra rb pred))

/-- R314: a sphere's centre at the pose. -/
def execPoseSphere (rd ra : BitVec 6) (pred : BitVec 3) (s : State) : Host.Outcome State Fault Refusal :=
  .next (s.engApply (.poseSphere rd ra pred) (fun env v => engPoseSphere env rd ra pred v))

/-- R314: a unit's axle centre at the pose. -/
def execPoseAxle (rd ra : BitVec 6) (pred : BitVec 3) (s : State) : Host.Outcome State Fault Refusal :=
  .next (s.engApply (.poseAxle rd ra pred) (fun env v => engPoseAxle env rd ra pred v))

/-- R314: a clearance query. -/
def execQuery (rd ra rb : BitVec 6) (pred : BitVec 3) (s : State) : Host.Outcome State Fault Refusal :=
  let s' := s.engApply (.query rd ra rb pred) (fun env v => engQuery env rd ra rb pred v)
  .next (if s'.eng.queries == s.eng.queries then s' else s'.count 0x5020 3 (s'.eng.queries - s.eng.queries))

/-- R314, R187: a bilinear cost lookup. -/
def execLookup (rd ra rb : BitVec 6) (pred : BitVec 3) (s : State) : Host.Outcome State Fault Refusal :=
  .next (s.engApply (.lookup rd ra rb pred) (fun env v => engLookup env rd ra rb pred v))

/-- R314: add to a cost accumulator. -/
def execAcc (ra : BitVec 6) (pred : BitVec 3) (fn : BitVec 5) (s : State) : Host.Outcome State Fault Refusal :=
  .next (s.engApply (.acc ra pred fn) (fun _ v => engAcc ra pred fn v))

/-- R314: emit the merit. -/
def execMerit (ra : BitVec 6) (pred : BitVec 3) (s : State) : Host.Outcome State Fault Refusal :=
  .next (s.engApply (.merit ra pred) (fun _ v => engMerit ra pred v))

/-- R314, R164: four words of the SCG. -/
def execScg (rd rb : BitVec 6) (pred : BitVec 3) (s : State) : Host.Outcome State Fault Refusal :=
  .next (s.engApply (.scg rd rb pred) (fun env v => engScg env rd rb pred v))

/-- R319: a forward branch. -/
def execBr (pred : BitVec 3) (inv : Bool) (offset : BitVec 12) (s : State) : Host.Outcome State Fault Refusal :=
  .next (s.engApply (.br pred inv offset) (fun _ v => engBr pred inv offset v))

/-- R320: a bounded loop. -/
def execLoop (rs : BitVec 6) (body bound : BitVec 10) (s : State) : Host.Outcome State Fault Refusal :=
  .next (s.engApply (.loop rs body bound) (fun _ v => engLoop rs body bound v))

/-- R314: end the invocation. -/
def execYield (pred : BitVec 3) (s : State) : Host.Outcome State Fault Refusal :=
  .next (s.engApply (.yield pred) (fun _ v => engYield pred v))

/-- R314: end the candidate with a code. -/
def execReject (ra : BitVec 6) (pred : BitVec 3) (code : BitVec 8) (s : State) : Host.Outcome State Fault Refusal :=
  .next (s.engApply (.reject ra pred code) (fun _ v => engReject ra pred code v))

end Sys2Proof.Machine
end

