-- ==== Sys2Proof/Machine/Checker.lean ====
section
/-!
DEFINITION. The check of one candidate and of one block (06_checking.md R171, R172, R184 to R194), over the certified tests of Certify and the engine programs.
-/
namespace Sys2Proof.Machine
open Sys2Proof

/-- What every check of a block shares. -/
structure CheckEnv where
  env : EngEnv
  cfg : CheckCfg
  /-- The tread program (R186), when TreadEnable is 1: code, constants, tally length and slot. -/
  tread : Option (List Word × List Byte × Nat × Nat)
  weights : List F32
  horizon : Nat
  version : Nat
  spec : Bool
  /-- R185: a stale layer is set in StaleRejectMask. -/
  stale : Bool
  deriving Repr

/-- The environment of a check by an engine whose program store holds `program`. -/
def State.checkEnv (s : State) (program : List Byte) (frame version : Nat) (spec : Bool) : CheckEnv :=
  let staleLayers := match s.world.versions.find? (fun v => v.number == version && v.spec == spec) with | some v => v.staleLayers | none => 0
  { env := s.engEnv frame version spec, cfg := s.checkCfg,
    tread := if s.cfgB 0x5001 1 then some (progCode program, progConsts program, (progHeader program).tallyLength, s.cfg 0x5001 2) else none,
    weights := (List.range (s.cfg 0x5001 3)).map (fun t => s.cfgF 0x5000 (t + 1)), horizon := s.cfg 0x4001 1, version := version, spec := spec,
    stale := (staleLayers &&& s.cfg 0x5010 0x12) != 0 }

/-- The program slot whose tally the tread program adds to. -/
def CheckEnv.tallySlot (c : CheckEnv) : Option Nat := match c.tread with | some (_, _, _, slot) => some slot | none => none

/-- R188: S. -/
def termSum (weights acc : List F32) : F32 := (weights.zip acc).foldl (fun a (w, x) => f32Add a (f32Mul w x)) f32Zero

/-- How the poses of a candidate came out: its code, a program fault, what was read, and the invocation as the last pose left it. -/
structure PoseRun where
  code : Nat
  faulted : Bool
  probe : Probe
  inv : Invocation
  deriving Repr

/-- R186: the tread step of a pose; the status tells how it ended. -/
def treadStep (c : CheckEnv) (inv : Invocation) (i : Nat) : Invocation :=
  match c.tread with
  | none => { inv with status := .yielded }
  | some (code, _, _, _) => engRun c.env (runFuel code) (inv.treadAt c.env i)

/-- R172: the poses from i on. -/
def checkPoses (c : CheckEnv) : List Pose → Nat → Option (Pose × Nat) → Invocation → Probe → PoseRun
  | [], _, _, inv, st => ⟨0, false, st, inv⟩
  | p :: ps, i, before, inv, st =>
    let t := i * c.env.stepNs
    match poseTests c.env.map c.cfg c.env.body c.env.spheres before p t st with
    | (0, st) =>
      let inv := treadStep c inv i
      match inv.status with
      | .yielded => checkPoses c ps (i + 1) (some (p, t)) inv st
      | .ended code => ⟨code, false, { st with unreadable := st.unreadable || code == 8 }, inv⟩
      | _ => ⟨0, true, st, inv⟩
    | (code, st) => ⟨code, false, st, inv⟩

/-- The outcome of a candidate's check. -/
structure CandRun where
  entry : Entry
  faulted : Bool
  probe : Probe
  tally : List Host.Cell
  fpAtomic : Bool
  /-- The registers as the last invocation left them; none where none began. -/
  inv : Option Invocation
  deriving Repr

/-- R175: some pose lies after 8 s. -/
def Expansion.beyond (e : Expansion) (stepNs : Nat) : Bool := decide (8000000000 < (e.poses.length - 1) * stepNs)

/-- The entry a candidate offers (R171, R205). -/
def offered (e : Expansion) (code : Nat) (merit : F32) (bisected beyond stale : Bool) : Entry :=
  { merit := if code == 0 then merit else 0xFF800000#32, cid := e.cid, empty := false, clamped := decide (0 < e.clampCount) && e.limitCode == 0,
    bisected := bisected, beyond := beyond, stale := stale, stopped := e.stopped, withdrawn := false, code := code }

/-- The minimum-risk candidate (R137). -/
def isMinRisk (cid : Nat) : Bool := cidSource cid == 3 && cidOrdinal cid == 1

/-- The invocation of a candidate before its first pose (R302). -/
def CheckEnv.invocation (c : CheckEnv) (e : Expansion) (tally : List Host.Cell) : Invocation :=
  match c.tread with
  | none => { Invocation.initial with exp := e, tally := tally }
  | some (code, consts, tallyLength, slot) =>
    { Invocation.initial with
      code := code, consts := consts, tallyLength := tallyLength, tally := tally, exp := e, slot := cidOrdinal e.cid % 64
      horizon := c.horizon, version := c.version, specMap := c.spec, progSlot := some slot, frame := c.env.frame }

/-- R171, R172: one candidate. -/
def checkCandidate (c : CheckEnv) (e : Expansion) (tally : List Host.Cell) : CandRun :=
  let beyond := e.beyond c.env.stepNs
  if e.limitCode != 0 then ⟨offered e e.limitCode 0#32 false beyond false, false, Probe.zero, tally, false, none⟩
  else if c.stale && !isMinRisk e.cid then ⟨offered e 8 0#32 false beyond false, false, Probe.zero, tally, false, none⟩
  else
    let r := checkPoses c e.poses 0 none (c.invocation e tally) Probe.zero
    let st : Probe := { r.probe with groups := r.probe.groups ||| r.inv.groups, queries := r.probe.queries + r.inv.queries }
    let merit := match r.inv.merit with | some m => m | none => f32Neg (termSum c.weights r.inv.acc)
    let code := if r.code != 0 then r.code else if f32Finite merit then 0 else 7
    ⟨offered e code merit (decide (0 < st.bisected)) beyond (c.stale && isMinRisk e.cid), r.faulted, st, r.inv.tally, r.inv.fpAtomic, some r.inv⟩

/-- The candidates of a block in ascending ordinal, up to the first program fault (R193). -/
def checkAll (c : CheckEnv) : List Expansion → List Host.Cell → List CandRun
  | [], _ => []
  | e :: es, tally =>
    let r := checkCandidate c e tally
    if r.faulted then [r] else r :: checkAll c es r.tally

/-- Counts what candidates' checks did (R200); `first` tells which are first evaluations. DESIGN CHOICE (log entry 38): BeyondHorizonCandidates counts first evaluations only, and a candidate
with a LIMIT_CODE, which R171 does not check, counts in CandidatesChecked; those checked before a fault ends their block count. -/
def State.countChecks (s : State) (runs : List CandRun) (first : Nat → Bool) : State :=
  let done := runs.filter (fun r => !r.faulted)
  let fresh := done.filter (fun r => first r.entry.cid)
  let sum (f : Probe → Nat) : Nat := (runs.map (fun r => f r.probe)).foldl (· + ·) 0
  let tally (s : State) (idx sub n : Nat) : State := if n == 0 then s else s.count idx sub n
  let s := tally s 0x5020 1 fresh.length
  let s := tally s 0x5020 2 (done.length - fresh.length)
  let s := tally s 0x5020 3 (sum (·.queries))
  let s := tally s 0x5020 4 (sum (·.bisected))
  let s := tally s 0x5020 5 (sum (·.bisectRejects))
  let s := tally s 0x5020 7 (fresh.filter (fun r => r.entry.beyond)).length
  let s := (List.range 8).foldl (fun s k => tally s 0x5021 (k + 1) (fresh.filter (fun r => r.entry.code == k + 1)).length) s
  tally s 0x5021 9 (fresh.filter (fun r => decide (16 ≤ r.entry.code))).length

end Sys2Proof.Machine
end

