-- ==== Sys2Proof/Machine/Digest.lean ====
section
/-!
DEFINITION. Steps and their digests (12_determinism.md R361 to R363): the tree of a phase, the steps retired and their content.
-/
namespace Sys2Proof.Machine
open Sys2Proof

/-- STRICT mode (R365). -/
def State.strict (s : State) : Bool := s.cfg 0x7200 1 == 0

/-- R362: the height of a phase's tree. -/
def phaseHeight (phase : Nat) : Nat := match phase with | 1 | 2 => 8 | 3 => 13 | 4 => 6 | 5 => 7 | _ => 0

/-- R362: an inner node. -/
def digestInner (l r : Nat) : Nat := sm3First64 (leBytes 8 l ++ leBytes 8 r)

/-- The root of a tree of a height whose leaves are all absent. -/
def zeroNode : Nat → Nat
  | 0 => 0
  | n + 1 => digestInner (zeroNode n) (zeroNode n)

/-- R362: the node of a height over the leaves from `o` on. -/
def digestNode (leaves : List (Nat × Nat)) : Nat → Nat → Nat
  | 0, o => (alGet o leaves).getD 0
  | n + 1, o =>
    if leaves.any (fun p => decide (o ≤ p.1) && decide (p.1 < o + 2 ^ (n + 1))) then digestInner (digestNode leaves n o) (digestNode leaves n (o + 2 ^ n))
    else zeroNode (n + 1)

/-- A phase of a frame with its round. -/
def PhaseDigest.is (p : PhaseDigest) (frame phase round : Nat) : Bool := p.frame == frame && p.phase == phase && p.round == round

def State.phase? (s : State) (frame phase round : Nat) : Option PhaseDigest := s.det.own.find? (fun p => p.is frame phase round)

/-- Changes what is kept of a phase, beginning it where nothing is. -/
def State.modPhase (s : State) (frame phase round : Nat) (f : PhaseDigest → PhaseDigest) : State :=
  let own := s.det.own
  let own := if own.any (fun p => p.is frame phase round) then modFirst (fun p => p.is frame phase round) f own
             else own ++ [f ⟨frame, phase, round, [], 0, false, false, false⟩]
  { s with det := { s.det with own := own } }

/-- R363: `n` more steps have retired. -/
def State.retireSteps (s : State) (n : Nat) : State := { s with det := { s.det with stepCounter := s.det.stepCounter + n } }

/-- R362, R363: a step retires with its deterministic content. -/
def State.recordStep (s : State) (frame phase round index : Nat) (content : List Byte) : State :=
  (s.modPhase frame phase round (fun p => { p with leaves := alSet index (sm3First64 content) p.leaves })).retireSteps 1

/-- A step that may already have retired retires once. -/
def State.recordOnce (s : State) (frame phase round index : Nat) (content : List Byte) : State :=
  if ((s.phase? frame phase round).bind (fun p => alGet index p.leaves)).isSome then s else s.recordStep frame phase round index content

/-- Every step of a phase has retired or is absent. -/
def State.phaseReady (s : State) (frame phase round : Nat) : State := s.modPhase frame phase round (fun p => { p with ready := true })

/-- R372 What 0: a step's digest, zero if absent. -/
def State.stepDigest (s : State) (frame phase round index : Nat) : Nat :=
  match s.phase? frame phase round with
  | some p => (alGet index p.leaves).getD 0
  | none => 0

end Sys2Proof.Machine
end

