-- ==== Sys2Proof/Machine/Proposal.lean ====
section
/-!
DEFINITION. The primitive expander and the policy as commands: EXPANDER_WINDOW_FILL (R151 to R156) and POLICY_RUN (R146 to R150).
-/
namespace Sys2Proof.Machine
open Sys2Proof

/-- R155: the pose windows of a horizon. -/
def State.windowCount (s : State) : Nat := max 1 ((s.cfg 0x4001 1 + 63) / 64)

/-- The IDs of the candidates of an item. -/
def State.itemIds (s : State) (w : FrameWork) (i : Item) : List Nat := if i.kind == .candidateBlock then s.blockIds w i.arg else [i.arg]

/-- What the engine's scratchpad holds for the first eligible candidate, as the invocation at pose 0 (R302). -/
def State.firstInvocation (s : State) (engine : Nat) (i : Item) (exps : List Expansion) : Invocation :=
  let c := s.checkEnv (((s.disp.units[engine]?).getD EngineUnit.initial).program) i.frame i.version i.spec
  match exps.find? (fun e => e.limitCode == 0) with
  | some e =>
    (c.invocation e (s.tallyOf c.tallySlot)).treadAt c.env 0
  | none => s.processor engine

/-- R150, R153, R169: the counters of one filled window of candidates expanded for the first time in the frame, or in the rerun of its policy (R82); a candidate is counted once, at the
window that rejects it or at the last. -/
def State.countExpansions (s : State) (w : FrameWork) (window last : Nat) (exps : List Expansion) : State :=
  let here (e : Expansion) : Bool := decide (64 * window < e.limitStep) && decide (e.limitStep ≤ 64 * window + 64)
  let fresh := exps.filter (fun e => !w.counted.contains e.cid)
  let s := s.modWork w.frame (fun w => { w with counted := w.counted ++ (fresh.filter (fun e => window + 1 == last || here e)).map (·.cid) })
  let bad (e : Expansion) : Bool :=
    cidSource e.cid == 0 && e.limitCode == 7 && here e
      && (match (s.controlsOf w e.cid)[e.limitStep - 1]? with | some u => !(f32Finite u.sigma && f32Finite u.jerk) | none => false)
  let add (s : State) (sub : Nat) (n : Nat) : State := if n == 0 then s else s.count 0x4400 sub n
  let s := if window + 1 == last then add s 4 (fresh.filter (fun e => e.limitCode == 0 && decide (0 < e.clampCount))).length else s
  let s := add s 5 (fresh.filter (fun e => e.limitCode == 3 && here e)).length
  let s := add s 6 (fresh.filter (fun e => e.limitCode == 4 && here e)).length
  let n := (fresh.filter bad).length
  if n == 0 then s else (add s 7 n).raiseOnce w.frame 0x0408

/-- R155: the next pose window of the candidates of an item that an engine serves, if one is to come. -/
def State.fillWindow (s : State) (engine : Nat) (w : FrameWork) (i : Item) : State :=
  let unit := (s.disp.units[engine]?).getD EngineUnit.initial
  let last := s.windowCount
  if last ≤ unit.windows then s
  else
    let exps := if unit.windows == 0 then (s.itemIds w i).map (s.expandCandidate w) else unit.exps
    let s := s.modUnit engine (fun u => { u with windows := u.windows + 1, exps := exps })
    let s := if unit.windows == 0 then (s.takeInHand engine (s.firstInvocation engine i exps)).count 0x4400 3 exps.length else s
    s.countExpansions w unit.windows last exps

/-- EXPANDER_WINDOW_FILL: the expander fills the next pose window of the block that the engine serves. -/
def execExpanderWindowFill (engine : Nat) (s : State) : Host.Outcome State Fault Refusal :=
  .next (
    match s.servingCandidates engine with
    | none => s
    | some i => (match s.work? i.frame with | some w => s.fillWindow engine w i | none => s))

/-! The policy -/

/-- R360: Q, the proposal quadrants in service: available (R503) and not marked FAULT (R19). -/
def State.quadrantsIn (s : State) : Nat :=
  ((List.range 8).filter (fun q => s.boot.available.quadrants.testBit q && !(((s.clocks[48 + q]?).getD ClockDomain.initial).fault))).length

/-- R146: the control sequence of a proposal. -/
def State.policySequence (s : State) (scene : List Byte) (p : Nat) : List Control :=
  let m := s.boundModel
  let q := if s.cfg 0x7200 2 == 1 then s.quadrantsIn else 8
  (List.range (modelHeader m.image).steps).map (fun k => let u := Config.policyControl scene m.measurement q p k; ⟨u.1, u.2⟩)

/-- R361 to R363: the PROPOSE steps of a sealed frame retire once its policy output is final; a failed policy leaves them absent (R149). -/
def State.retireProposals (s : State) (frame : Nat) : State :=
  match s.work? frame with
  | none => s
  | some w =>
    let ended := w.policyBlocks == 0 || w.policy.failed || (s.policyStands w && w.policy.emitted == w.policyBlocks)
    let done := match s.phase? frame 2 0 with | some p => p.ready | none => false
    if w.speculative || !ended || done then s
    else
      let one (s : State) (b : Nat) : State :=
        s.recordStep frame 2 0 b (((w.policy.output.drop (64 * b)).take 64).flatMap (fun us => us.flatMap (fun u => leBytes 4 u.sigma.toNat ++ leBytes 4 u.jerk.toNat)))
      let s := if w.policy.failed then s else (List.range w.policyBlocks).foldl one s
      s.phaseReady frame 2 0

/-- R213: round 0 has issued every block once the map is ready and the policy has emitted its last block, or has failed. -/
def State.completeRound0 (s : State) (frame : Nat) : State :=
  let s := s.retireProposals frame
  match s.work? frame with
  | none => s
  | some w =>
    if !w.speculative && s.versionReady w && (w.policyBlocks == 0 || w.policy.failed || (s.policyStands w && w.policy.emitted == w.policyBlocks)) then
      s.modWork frame (fun w => { w with rounds := modAt w.rounds 0 (fun r => { r with complete := true }) })
    else s

/-- R149: the policy of a frame has failed: its blocks are withdrawn, and no policy candidate remains. -/
def State.policyFailed (s : State) (frame : Nat) : State :=
  let s := s.cancelItems (fun i => i.kind == .candidateBlock && i.frame == frame && cidSource i.arg == 0)
  let s := s.withdrawBlocks frame (fun r => cidSource r.firstId == 0)
  let s := s.modWork frame (fun w => { w with policy := { w.policy with failed := true } })
  ((((s.count 0x4400 2 1).raiseOpen frame 0x0404).disturb frame).completeRound0 frame).goRounds frame

/-- R147: policy block b is emitted: its 64 sequences are written, and its block is ready once the map is (R22). -/
def State.emitPolicyBlock (s : State) (frame : Nat) (scene : List Byte) (b : Nat) : State :=
  let seqs := (List.range 64).map (fun k => s.policySequence scene (64 * b + k))
  let s := s.modWork frame (fun w => { w with policy := { w.policy with output := w.policy.output.take (64 * b) ++ seqs ++ w.policy.output.drop (64 * b + 64), emitted := b + 1 } })
  match s.work? frame with
  | none => s
  | some w =>
    let first := mkCid s.cidChipField 0 0 (64 * b)
    if !(s.policyStands w && s.versionReady w) || w.abandoned.contains first then s
    else if (w.blocks.any (fun r => r.firstId == first && r.withdrawn)) then s.replayBlock frame first
    else if (s.blockItem? frame first).isSome || w.blocks.any (fun r => r.firstId == first) then s
    else s.issueBlock frame first

/-- R141: the conversions of a NaN to 0 inside a model run. -/
def State.policyEvents (s : State) (scene : List Byte) : Nat :=
  Config.policyNumeric scene s.boundModel.measurement (if s.cfg 0x7200 2 == 1 then s.quadrantsIn else 8)

/-- POLICY_RUN: the policy round on the proposal array; `failAfter` is the number of blocks emitted before a fault of R149. A run-ahead round still in service when the sealed scene tensor
turns out equal to its own runs on (R82). -/
def execPolicyRun (failAfter : Option Nat) (s : State) : Host.Outcome State Fault Refusal :=
  .next (
    match s.atUnit 20 .policyRun (fun _ => true) with
    | none => s
    | some i =>
      let s := s.commitItem i.serial
      match s.work? i.frame with
      | none => s
      | some w =>
        if i.dropped then s
        else
          let x := if i.spec then s.world.specScene.orElse (fun _ => s.world.scene) else s.world.scene
          let scene := match x with | some x => x.bytes | none => []
          let emitted := min w.policyBlocks (failAfter.getD w.policyBlocks)
          let events := (match x with | some x => x.numeric | none => 0) + s.policyEvents scene
          let s := s.modWork w.frame (fun w => { w with policy := { w.policy with started := true, total := w.policyBlocks, steps := s.cfg 0x4001 1, numericEvents := events } })
          let s := s.count 0x4400 1 1
          let s := (List.range emitted).foldl (fun s b => s.emitPolicyBlock w.frame scene b) s
          match failAfter with
          | some _ => s.policyFailed w.frame
          | none => (s.completeRound0 w.frame).goRounds w.frame)

end Sys2Proof.Machine
end

