-- ==== Sys2Proof/Machine/Checking.lean ====
section
/-!
DEFINITION. The checking commands: CANDIDATE_BLOCK (R171 to R194, R206) and CANDIDATE_SINGLE (R211).
-/
namespace Sys2Proof.Machine
open Sys2Proof

/-- R192: the tile groups of some tiles, as a signature. -/
def groupMask (keys : List TileKey) : Nat := keys.foldl (fun m k => m ||| 2 ^ tileGroup k.grid k.tile) 0

/-- R37: sequence number b comes after a. -/
def seqAfter (a b : Nat) : Bool := let d := (b + u32Mod - a % u32Mod) % u32Mod; decide (0 < d) && decide (d < 2147483648)

/-- The groups of the tiles written since a version (R87). -/
def State.groupsSince (s : State) (older newer : Nat) : Nat :=
  let due := match s.world.versions.find? (fun v => v.number == newer && !v.spec) with
    | some v => v.jobs.map (fun j => (⟨0, j.1, j.2.1, j.2.2⟩ : TileKey))
    | none => []
  groupMask (((s.versionTiles newer false).filter (fun t => !t.spec && seqAfter older t.origin)).map (·.key) ++ due)

/-- What an engine's run of an item leaves besides its result: tallies, registers (R301), counters, events (R193, R194, R185), the candidates evaluated, and an empty scratchpad. DESIGN
CHOICE (log entry 38): event 0x0504 is raised once for an item's run that meets an unreadable tile. -/
def State.afterRuns (s : State) (engine : Nat) (w : FrameWork) (c : CheckEnv) (runs : List CandRun) : State :=
  let s := match runs.getLast? with | some r => if s.onOldTally engine then s else s.setTally c.tallySlot r.tally | none => s
  let s := match (runs.filterMap (·.inv)).getLast? with | some v => s.setProcessor engine v | none => s
  let s := s.fpAtomicChoice w.frame (runs.any (·.fpAtomic))
  let s := s.countChecks runs (fun cid => !w.evaluated.contains cid)
  let s := s.modWork w.frame (fun w => { w with evaluated := w.evaluated ++ ((runs.filter (fun r => !r.faulted)).map (fun r => r.entry.cid)).filter (fun c => !w.evaluated.contains c) })
  let s := if c.stale && runs.any (fun r => r.entry.code == 8 || r.entry.stale) then s.raiseOnce w.frame 0x0503 else s
  let s := if runs.any (fun r => r.probe.unreadable) then (s.raiseOpen w.frame 0x0504).disturb w.frame else s
  s.modUnit engine (fun u => { u with windows := 0, exps := [] })

/-- R206: the record of a block. -/
def State.blockRecord (s : State) (engine : Nat) (w : FrameWork) (i : Item) (runs : List CandRun) : BlockRec :=
  let kept := (runs.map (·.entry)).filter Entry.kept
  let list := bestOf s.compatible s.stairK kept
  { beta := s.betaOf w i.arg, frame := w.frame, version := i.version, firstId := i.arg, entries := list.entries, speculative := i.spec, withdrawn := false,
    replay := i.replay, tieCut := list.tieCut, count := runs.length, rejected := runs.length - kept.length,
    signature := runs.foldl (fun m r => m ||| r.probe.groups) 0, gallery := engine / 32,
    offered := (runs.map (·.entry)).filter (fun e => cidSource e.cid == 3), inGallery := false, inTop := false }

/-- R82: the fate of a run-ahead record is not known yet: a policy block's waits for the sealed scene tensor. -/
def State.undecided (s : State) (w : FrameWork) (r : BlockRec) : Bool := !w.squashAll && cidSource r.firstId == 0 && !s.sceneKnown w.frame

/-- R82: a run-ahead record is squashed. -/
def State.squashes (s : State) (w : FrameWork) (r : BlockRec) : Bool :=
  w.squashAll || (w.squashPolicy && cidSource r.firstId == 0) || (r.signature &&& groupMask s.world.reversioned) != 0

/-- R82, R83, R87: the completed run-ahead records that a test picks out are squashed, as one squash, or merged; a merged record that meets an urgent delta's tiles is then withdrawn. -/
def State.dispose (s : State) (frame : Nat) (p : BlockRec → Bool) : State :=
  match s.work? frame with
  | none => s
  | some w =>
    let due := w.blocks.filter (fun r => r.speculative && !r.withdrawn && p r && !s.undecided w r)
    let squashed := (due.filter (s.squashes w)).map (·.beta)
    let merged := (due.filter (fun r => !s.squashes w r)).map (·.beta)
    let delta := if w.version == w.base then 0 else s.groupsSince w.base w.version
    let s := if squashed.isEmpty then s else (s.withdrawBlocks frame (fun x => squashed.contains x.beta)).count 0x2021 6 squashed.length
    let s := if merged.isEmpty then s else
      (s.modWork frame (fun w => { w with blocks := w.blocks.map (fun x => if merged.contains x.beta then { x with speculative := false } else x) })).count 0x2021 5 merged.length
    s.withdrawBlocks frame (fun x => merged.contains x.beta && (x.signature &&& delta) != 0)

/-- The run-ahead record in slot β, met after the commit point, is disposed of (R82). -/
def State.disposeBlock (s : State) (frame beta : Nat) : State := s.dispose frame (fun r => r.beta == beta)

/-- The completed run-ahead blocks are disposed of (R82). -/
def State.disposeAll (s : State) (frame : Nat) : State := s.dispose frame (fun _ => true)

/-- R87: an item's record meets the tiles of a version newer than the one it was checked against. -/
def State.overtaken (s : State) (w : FrameWork) (i : Item) (r : BlockRec) : Bool := i.version != w.version && (r.signature &&& s.groupsSince i.version w.version) != 0

/-- R206: commits a block's record and disposes of it under R82 or R87. -/
def State.commitRecord (s : State) (engine : Nat) (w : FrameWork) (i : Item) (runs : List CandRun) : State :=
  let r := s.blockRecord engine w i runs
  let s := s.modWork w.frame (fun w => w.putRecord r)
  if i.spec then (if w.speculative || s.world.comparing then s else s.disposeBlock w.frame r.beta)
  else if s.overtaken w i r then s.withdrawBlocks w.frame (fun x => x.beta == r.beta)
  else s

/-- What an engine holds of the item it serves. -/
def State.unitAt (s : State) (engine : Nat) : EngineUnit := (s.disp.units[engine]?).getD EngineUnit.initial

/-- The environment of an engine's checks of an item, and its runs of the item's candidates. -/
def State.itemEnv (s : State) (engine : Nat) (w : FrameWork) (i : Item) : CheckEnv := s.checkEnv (s.unitAt engine).program w.frame i.version i.spec
def State.itemRuns (s : State) (engine : Nat) (w : FrameWork) (i : Item) : List CandRun :=
  let c := s.itemEnv engine w i
  checkAll c (s.unitAt engine).exps (s.tallyOf c.tallySlot)

/-- R172, R206: an engine runs the checks of the block it serves, and commits its record; a block that is to be dropped leaves none (R90). -/
def State.runBlock (s : State) (engine : Nat) (w : FrameWork) (i : Item) : State :=
  let runs := s.itemRuns engine w i
  let s := (s.afterRuns engine w (s.itemEnv engine w i) runs).commitItem i.serial
  if runs.any (·.faulted) then (s.abandonBlock w.frame 0x0501 i.mark).goRounds w.frame
  else if i.dropped then s.goRounds w.frame
  else (s.commitRecord engine w i runs).goRounds w.frame

/-- CANDIDATE_BLOCK: the engine checks the block it serves, every window filled, and commits its record. -/
def execCandidateBlock (engine : Nat) (s : State) : Host.Outcome State Fault Refusal :=
  .next (
    match s.servingKind engine .candidateBlock with
    | none => s
    | some i =>
      match s.work? i.frame with
      | none => s.commitItem i.serial
      | some w => if (s.unitAt engine).windows < s.windowCount then s else s.runBlock engine w i)

/-- The re-evaluation slot of an ID among a frame's re-evaluations. -/
def FrameWork.reevalSlot (w : FrameWork) (cid : Nat) : Nat := 4112 + (w.reevals.findIdx (fun x => x.cid == cid))

/-- R211: an engine evaluates a single candidate again. -/
def State.runSingle (s : State) (engine : Nat) (w : FrameWork) (i : Item) : State :=
  let runs := s.itemRuns engine w i
  let s := (s.afterRuns engine w (s.itemEnv engine w i) runs).commitItem i.serial
  let faulted := runs.any (·.faulted)
  let again := !faulted && s.overtaken w i (s.blockRecord engine w i runs)
  let s := s.modWork w.frame (fun w => { w with reevals := modFirst (fun x => x.cid == i.arg) (fun x => { x with started := !again, done := !again }) w.reevals })
  if faulted then (s.abandonBlock w.frame 0x0501 i.mark).goRounds w.frame
  else if i.dropped || again || w.excluded.contains i.arg then s.goRounds w.frame
  else
    let r := { s.blockRecord engine w i runs with beta := w.reevalSlot i.arg, replay := true }
    (s.modWork w.frame (fun w => w.putRecord r)).goRounds w.frame

/-- CANDIDATE_SINGLE: the engine evaluates one candidate again and commits its single entry to its re-evaluation slot; one that met an urgent delta's tiles is evaluated once more (R87). -/
def execCandidateSingle (engine : Nat) (s : State) : Host.Outcome State Fault Refusal :=
  .next (
    match s.servingKind engine .candidateSingle with
    | none => s
    | some i =>
      match s.work? i.frame with
      | none => s.commitItem i.serial
      | some w => if (s.unitAt engine).windows < s.windowCount then s else s.runSingle engine w i)

/-- R90, R299: the candidates that an engine serves are run to their end. -/
def State.finishServing (s : State) (engine : Nat) : State :=
  match s.servingCandidates engine with
  | none => s
  | some i =>
    match s.work? i.frame with
    | none => s
    | some w =>
      let s := (List.range s.windowCount).foldl (fun s _ => s.fillWindow engine w i) s
      if i.kind == .candidateBlock then s.runBlock engine w i else s.runSingle engine w i

/-- R90, R299: candidates of the frames before n still in service at its tick run to their end, under the set and the programs of their frame; their results are dropped. DESIGN CHOICE
(log entry 67): they end at that tick. -/
def State.finishOld (s : State) (n : Nat) : State :=
  let old (i : Item) : Bool := (i.kind == .candidateBlock || i.kind == .candidateSingle) && !i.spec && i.frame != n
  let s := s.cancelItems old
  ((s.disp.items.filter (fun i => old i && !i.committed)).filterMap (fun i => match i.loc with | .service e => some e | _ => none)).foldl (fun s e => s.finishServing e) s

end Sys2Proof.Machine
end

