-- ==== Sys2Proof/Machine/Compose.lean ====
section
/-!
DEFINITION. What the map builder writes into a tile (04_world_model.md R96 to R99, R108 to R116): the compositor, the agent dilator, the route cost and the distance
transform, as functions of the frozen inputs. Geometry is FP64 in the order written here, which the spec leaves open (log entry 22); sine and cosine of the plan
frame's heading are Config's.
-/
namespace Sys2Proof.Machine
open Sys2Proof

/-! FP64 shorthands -/

def f64Zero : F64 := 0#64
def f64Half : F64 := 0x3FE0000000000000#64
def f64Max (a b : F64) : F64 := if f64Lt a b then b else a
def f64Min (a b : F64) : F64 := if f64Lt b a then b else a
/-- A count of nanoseconds, in seconds. -/
def f64Seconds (ns : Int) : F64 := f64Div (f64OfInt ns) (f64OfInt 1000000000)
/-- √2 / 2. -/
def f64HalfRoot2 : F64 := f64Mul (f64Sqrt (f64OfInt 2)) f64Half

abbrev Pt := F64 × F64

def ptSub (a b : Pt) : Pt := (f64Sub a.1 b.1, f64Sub a.2 b.2)
def ptDot (a b : Pt) : F64 := f64Add (f64Mul a.1 b.1) (f64Mul a.2 b.2)
def ptCross (a b : Pt) : F64 := f64Sub (f64Mul a.1 b.2) (f64Mul a.2 b.1)
def ptNorm2 (a : Pt) : F64 := ptDot a a
def ptDist (a b : Pt) : F64 := f64Sqrt (ptNorm2 (ptSub a b))

/-- The distance from p to the segment from a to b. -/
def segDist (p a b : Pt) : F64 :=
  let d := ptSub b a
  let w := ptSub p a
  let dd := ptNorm2 d
  let t := if f64Le dd f64Zero then f64Zero else f64Max f64Zero (f64Min (f64OfInt 1) (f64Div (ptDot w d) dd))
  f64Sqrt (ptNorm2 (f64Sub w.1 (f64Mul t d.1), f64Sub w.2 (f64Mul t d.2)))

/-- The point lies in the triangle a b c, its edges included. -/
def inTriangle (p a b c : Pt) : Bool :=
  let x := ptCross (ptSub b a) (ptSub p a)
  let y := ptCross (ptSub c b) (ptSub p b)
  let z := ptCross (ptSub a c) (ptSub p c)
  (f64Le f64Zero x && f64Le f64Zero y && f64Le f64Zero z) || (f64Le x f64Zero && f64Le y f64Zero && f64Le z f64Zero)

/-- All pairs of a list, each once. -/
def allPairs {α : Type} : List α → List (α × α)
  | [] => []
  | x :: xs => (xs.map (fun y => (x, y))) ++ allPairs xs

/-- The least of a list of distances. -/
def f64Least : List F64 → F64
  | [] => 0x7FF0000000000000#64
  | [d] => d
  | d :: ds => f64Min d (f64Least ds)

/-- The distance from a point to the convex hull of some points (R111): zero inside a triangle of them, else the least distance to a segment between two of them. -/
def hullDist (p : Pt) (pts : List Pt) : F64 :=
  if (allPairs pts).any (fun (a, b) => pts.any (fun c => !f64Le (f64Abs (ptCross (ptSub b a) (ptSub c a))) f64Zero && inTriangle p a b c)) then f64Zero
  else f64Least ((allPairs pts).map (fun (a, b) => segDist p a b))

/-! Frames of reference (R97) -/

/-- A placement with the sine and cosine of its heading. -/
structure Placement where
  x : F64
  y : F64
  heading : F64
  deriving DecidableEq, Repr

def StartState.placement (s : StartState) : Placement := ⟨s.x, s.y, s.heading⟩

/-- Map frame to plan frame. -/
def Placement.toPlan (p : Placement) (q : Pt) : Pt :=
  let d := ptSub q (p.x, p.y)
  let c := f64Cos p.heading; let s := f64Sin p.heading
  (f64Add (f64Mul d.1 c) (f64Mul d.2 s), f64Add (f64Neg (f64Mul d.1 s)) (f64Mul d.2 c))

/-- Plan frame to map frame. -/
def Placement.toMap (p : Placement) (q : Pt) : Pt :=
  let c := f64Cos p.heading; let s := f64Sin p.heading
  (f64Add p.x (f64Sub (f64Mul q.1 c) (f64Mul q.2 s)), f64Add p.y (f64Add (f64Mul q.1 s) (f64Mul q.2 c)))

/-! Configuration of the builder -/

structure StreamCfg where
  number : Nat
  kind : Nat
  layer : Nat
  cell : F64
  base : F64
  growth : F64
  reach : F64
  floor : F32
  deriving DecidableEq, Repr

structure LayerCfg where
  type : Nat
  sliced : Bool
  classes : Nat
  extra : F64
  limit : F32
  unknownOcc : Bool
  occTol : Nat
  costTol : Nat
  deriving DecidableEq, Repr

structure BuildCfg where
  nearRear : F32
  farRear : F32
  routeStep : F64
  layers : List LayerCfg
  streams : List StreamCfg
  deriving DecidableEq, Repr

def State.buildCfg (s : State) : BuildCfg :=
  let f (idx sub : Nat) : F64 := f64OfF32 (s.cfgF idx sub)
  { nearRear := s.cfgF 0x3200 7, farRear := s.cfgF 0x3200 8, routeStep := f 0x3200 0x0A,
    layers := (List.range 16).map (fun l =>
      { type := s.cfg (0x3210 + l) 1, sliced := s.cfgB (0x3210 + l) 2, classes := s.cfg (0x3210 + l) 3, extra := f (0x3210 + l) 4, limit := s.cfgF (0x3210 + l) 5,
        unknownOcc := s.cfgB (0x3210 + l) 6, occTol := s.cfg (0x3210 + l) 7, costTol := s.cfg (0x3210 + l) 8 }),
    streams := (List.range 128).filterMap (fun n =>
      if s.cfg (0x3100 + n) 1 == 0 then none else
      some { number := n, kind := s.cfg (0x3100 + n) 1, layer := s.cfg (0x3100 + n) 5, cell := f (0x3100 + n) 0x0A, base := f (0x3100 + n) 0x0B,
             growth := f (0x3100 + n) 0x0C, reach := f (0x3100 + n) 0x0D, floor := s.cfgF (0x3100 + n) 0x0F }) }

def BuildCfg.layer (b : BuildCfg) (l : Nat) : LayerCfg := (b.layers[l]?).getD ⟨0, false, 0, 0#64, 0#32, true, 0, 0⟩
def BuildCfg.stream? (b : BuildCfg) (n : Nat) : Option StreamCfg := b.streams.find? (fun c => c.number == n)
/-- R108: the layers in use. -/
def BuildCfg.inUse (b : BuildCfg) : List Nat := (List.range 16).filter (fun l => (b.layer l).type != 0)
/-- The layers that have content in a slice (R120). -/
def BuildCfg.layersIn (b : BuildCfg) (slice : Nat) : List Nat := b.inUse.filter (fun l => slice == 32 || (b.layer l).sliced)

/-- R98: the cell size of a grid and its centres. -/
def gridCell (grid : Nat) : F64 := if grid == 0 then 0x3FC0000000000000#64 else f64Half
def BuildCfg.xMin (b : BuildCfg) (grid : Nat) : F64 := f64Neg (f64OfF32 (if grid == 0 then b.nearRear else b.farRear))
def gridY (grid : Nat) : F64 := f64OfInt (if grid == 0 then -64 else -256)
def BuildCfg.centre (b : BuildCfg) (grid : Nat) (i j : Int) : Pt :=
  let at' (min : F64) (k : Int) : F64 := f64Add min (f64Mul (f64Add (f64OfInt k) f64Half) (gridCell grid))
  (at' (b.xMin grid) i, at' (gridY grid) j)

/-- R110: the first near cell under a far cell, in x: 8 × (NearRearExtent − FarRearExtent) + 4i. -/
def BuildCfg.nearX (b : BuildCfg) (i : Int) : Int := 4 * i + 8 * (f32Fix b.nearRear - f32Fix b.farRear) / fix32One
def nearY (j : Int) : Int := 4 * j - 1536
def inGrid (i j : Int) : Bool := decide (0 ≤ i) && decide (i ≤ 1023) && decide (0 ≤ j) && decide (j ≤ 1023)
/-- R110: the far cell lies inside the near square. -/
def BuildCfg.farInside (b : BuildCfg) (i j : Int) : Bool := inGrid (b.nearX i) (nearY j) && inGrid (b.nearX i + 3) (nearY j + 3)
/-- R115: the far cell that covers a near cell's place. -/
def BuildCfg.farOf (b : BuildCfg) (i j : Int) : Int × Int :=
  ((i - 8 * (f32Fix b.nearRear - f32Fix b.farRear) / fix32One) / 4, (j + 1536) / 4)

/-! Raster sources (R108, R109) -/

/-- The floor of a finite FP64 quotient. -/
def f64Floor (a : F64) : Int := f64Fix a / ((2 ^ 1074 : Nat) : Int)

/-- R105, R109: the cells of a source whose centres lie within (c + SourceCellSize) × √2 / 2 of a grid cell's centre: none for a cell with no tile. The window holds
every such cell, since that radius is less than 7 source cells. -/
def sourceCells (st : StreamCfg) (tiles : List SrcTile) (pl : Placement) (grid : Nat) (p : Pt) : List (Option Nat) :=
  let r := f64Mul (f64Add (gridCell grid) st.cell) f64HalfRoot2
  let m := pl.toMap p
  let u0 := f64Floor (f64Div m.1 st.cell) - 9
  let v0 := f64Floor (f64Div m.2 st.cell) - 9
  (List.range 361).filterMap fun k =>
    let u := u0 + (k % 19 : Nat)
    let v := v0 + (k / 19 : Nat)
    let c := pl.toPlan (f64Mul (f64Add (f64OfInt u) f64Half) st.cell, f64Mul (f64Add (f64OfInt v) f64Half) st.cell)
    if f64Le (ptDist c p) r then
      some (match tiles.find? (fun t => t.tx == u / 64 && t.ty == v / 64) with
        | some t => t.cells[(64 * (v % 64) + u % 64).toNat]?
        | none => none)
    else none

/-- The raster streams that feed a layer, with their tiles among the frozen inputs (R100). -/
def BuildCfg.rasters (b : BuildCfg) (inp : Inputs) (l : Nat) : List (StreamCfg × List SrcTile) :=
  b.streams.filterMap (fun st => if (st.kind == 1 || st.kind == 4 || st.kind == 6) && st.layer == l then some (st, (alGet st.number inp.tiles).getD []) else none)

/-- R109: the worst occupancy of some cells: occupied (1) before unknown (2) before free (0). -/
def worstOcc (vs : List Nat) : Nat := if vs.contains 1 then 1 else if vs.contains 2 then 2 else 0

/-- R108: occupancy from the raster sources: occupied, else free, else unknown. -/
def rasterOcc (b : BuildCfg) (inp : Inputs) (l grid : Nat) (p : Pt) : Nat :=
  let found := (b.rasters inp l).filterMap (fun (st, ts) =>
    let vs := (sourceCells st ts inp.start.placement grid p).filterMap id
    if vs.isEmpty then none else some (worstOcc vs))
  if found.contains 1 then 1 else if found.contains 0 then 0 else 2

/-! Agents (R111, R112) -/

/-- The corners of a footprint centred on a point of the plan frame. -/
def footprint (c : Pt) (heading length width : F64) : List Pt :=
  let co := f64Cos heading; let si := f64Sin heading
  let hl := f64Mul length f64Half; let hw := f64Mul width f64Half
  [(hl, hw), (hl, f64Neg hw), (f64Neg hl, hw), (f64Neg hl, f64Neg hw)].map fun (u, w) =>
    (f64Add c.1 (f64Sub (f64Mul u co) (f64Mul w si)), f64Add c.2 (f64Add (f64Mul u si) (f64Mul w co)))

/-- The samples of a mode, the record's own pose first (R105): offset and heading. -/
def modeSamples (a : Agent) (m : AgentMode) : List (F64 × F64 × F64) :=
  (a.x, a.y, f64OfF32 a.heading) :: m.samples.map (fun (dx, dy, h) => (f64Add a.x (f64OfF32 dx), f64Add a.y (f64OfF32 dy), f64OfF32 h))

/-- One shape the dilator tests: hull points and margin. -/
structure Shape where
  pts : List Pt
  margin : F64
  deriving Repr

/-- R111: the shapes of one mode of an agent in the window [t0, t1] of seconds after the Landing; `whole` takes every segment (R112). -/
def modeShapes (pl : Placement) (st : StreamCfg) (extra : F64) (landing : Nat) (whole : Bool) (a : Agent) (m : AgentMode) (t0 t1 : F64) : List Shape :=
  let step := f64OfF32 a.step
  let tau (k : Nat) : F64 := f64Add (f64Seconds ((a.time : Int) - (landing : Int))) (f64Mul (f64OfInt k) step)
  let ss := modeSamples a m
  let len := f64OfF32 a.length; let wid := f64OfF32 a.width
  let foot (q : F64 × F64 × F64) : List Pt := footprint (pl.toPlan (q.1, q.2.1)) (f64Sub q.2.2 pl.heading) len wid
  let half := f64Mul (f64Sqrt (f64Add (f64Mul len len) (f64Mul wid wid))) f64Half
  let margin (k : Nat) (turn : F64) : F64 :=
    f64Add (f64Add (f64Add st.base (f64Mul (f64Mul st.growth (f64OfInt (k + 1))) step)) (f64Mul half (f64Abs turn))) extra
  let segs := (ss.zip (ss.drop 1)).zipIdx.filterMap fun ((p, q), k) =>
    if whole || (f64Le (tau k) t1 && f64Le t0 (tau (k + 1))) then some { pts := foot p ++ foot q, margin := margin k (f64Sub q.2.2 p.2.2) : Shape } else none
  let last := ss.length - 1
  let reach := match ss.getLast? with
    | some q =>
      if f64Lt (tau last) t1 then
        [{ pts := foot q, margin := f64Add (margin last f64Zero) (f64Mul (f64Add (f64OfF32 a.speed) st.reach) (f64Sub t1 (f64Max (tau last) t0))) : Shape }]
      else []
    | none => []
  segs ++ reach

/-- The window of a dynamic slice (R99). -/
def sliceWindow (slice : Nat) : F64 × F64 := (f64Seconds (250000000 * (slice : Int)), f64Seconds (250000000 * ((slice : Int) + 1)))

/-- R112: the agents of the inputs, nearest first: squared distance to the start, stream, AGENT_ID. -/
def liveAgents (inp : Inputs) : List (Nat × Agent) :=
  let all := inp.agents.flatMap (fun (n, as) => as.map (fun a => (n, a)))
  let key (x : Nat × Agent) : F64 := ptNorm2 (ptSub (x.2.x, x.2.y) (inp.start.x, inp.start.y))
  all.mergeSort (fun x y => f64Lt (key x) (key y) || (f64Le (key x) (key y) && (decide (x.1 < y.1) || (x.1 == y.1 && decide (x.2.id ≤ y.2.id)))))

/-- R111, R112: an agent marks a cell of a dynamic slice. -/
def agentMarks (b : BuildCfg) (inp : Inputs) (l grid slice : Nat) (p : Pt) (past : Bool) (n : Nat) (a : Agent) : Bool :=
  match b.stream? n with
  | none => false
  | some st =>
    let ly := b.layer l
    let (t0, t1) := if past then (f64Zero, f64OfInt 8) else sliceWindow slice
    ly.classes.testBit a.cls
      && (a.modes.filter (fun m => past || f32Le st.floor m.prob)).any (fun m =>
        (modeShapes inp.start.placement st ly.extra inp.landing past a m t0 t1).any (fun sh =>
          f64Le (hullDist p sh.pts) (f64Add sh.margin (f64Mul (gridCell grid) f64HalfRoot2))))

/-- R111: some agent marks the cell in a dynamic slice; those beyond the limit of 4,096 mark it for the whole horizon. -/
def marked (b : BuildCfg) (inp : Inputs) (l grid slice : Nat) (p : Pt) : Bool :=
  (liveAgents inp).zipIdx.any (fun ((n, a), k) => agentMarks b inp l grid slice p (decide (4096 ≤ k)) n a)

/-! Cells (R99, R108, R110) -/

/-- The raster state of an OCCUPANCY layer that agents add to: free where no raster stream feeds a time-sliced layer with an AgentClassMask (log entry 23). -/
def baseOcc (b : BuildCfg) (inp : Inputs) (l grid : Nat) (p : Pt) : Nat :=
  let ly := b.layer l
  if ly.sliced && ly.classes != 0 && (b.rasters inp l).isEmpty then 0 else rasterOcc b inp l grid p

/-- The occupancy of a cell that is composed directly: 0 free, 1 occupied, 2 unknown. The static slice of a time-sliced layer is the union of its dynamic slices. -/
def directOcc (b : BuildCfg) (inp : Inputs) (l grid slice : Nat) (i j : Int) : Nat :=
  let p := b.centre grid i j
  let ly := b.layer l
  let hit := ly.sliced && ly.classes != 0
    && (if slice == 32 then (List.range 32).any (fun s => marked b inp l grid s p) else marked b inp l grid slice p)
  if hit then 1 else baseOcc b inp l grid p

/-- The 16 near cells under a far cell. -/
def BuildCfg.under (b : BuildCfg) (i j : Int) : List (Int × Int) := (List.range 16).map (fun k => (b.nearX i + (k % 4 : Nat), nearY j + (k / 4 : Nat)))

/-- R108 to R111: the occupancy of a cell. -/
def cellOcc (b : BuildCfg) (inp : Inputs) (l grid slice : Nat) (i j : Int) : Nat :=
  if grid == 1 && b.farInside i j then worstOcc ((b.under i j).map (fun (x, y) => directOcc b inp l 0 slice x y))
  else directOcc b inp l grid slice i j

/-- R113: the cost of the route at a point. -/
def routeCost (b : BuildCfg) (inp : Inputs) (p : Pt) : Nat :=
  let lines := (inp.segments.filter (·.onRoute)).map (fun r =>
    r.points.map (fun (dx, dy) => inp.start.placement.toPlan (f64Add r.x (f64OfF32 dx), f64Add r.y (f64OfF32 dy))))
  if lines.isEmpty then 255
  else
    let d := f64Least (lines.map (fun ps => f64Least ((ps.zip (ps.drop 1)).map (fun (a, c) => segDist p a c))))
    min 255 (f64Floor (f64Div d b.routeStep)).toNat

def directCost (b : BuildCfg) (inp : Inputs) (l grid : Nat) (i j : Int) : Nat :=
  let p := b.centre grid i j
  let raster := (b.rasters inp l).foldl (fun a (st, ts) => ((sourceCells st ts inp.start.placement grid p).filterMap id).foldl max a) 0
  if b.streams.any (fun st => st.kind == 3 && st.layer == l) then max raster (routeCost b inp p) else raster

/-- R108 to R110, R113: the cost of a cell. -/
def cellCost (b : BuildCfg) (inp : Inputs) (l grid : Nat) (i j : Int) : Nat :=
  if grid == 1 && b.farInside i j then ((b.under i j).map (fun (x, y) => directCost b inp l 0 x y)).foldl max 0 else directCost b inp l grid i j

def directMask (b : BuildCfg) (inp : Inputs) (l grid : Nat) (i j : Int) : Bool :=
  let p := b.centre grid i j
  let found := (b.rasters inp l).filterMap (fun (st, ts) =>
    let vs := sourceCells st ts inp.start.placement grid p
    if vs.all (·.isNone) then none else some (vs.all (· == some 1)))
  !found.isEmpty && found.all id

/-- R108 to R110: whether a cell is drivable. -/
def cellMask (b : BuildCfg) (inp : Inputs) (l grid : Nat) (i j : Int) : Bool :=
  if grid == 1 && b.farInside i j then (b.under i j).all (fun (x, y) => directMask b inp l 0 x y) else directMask b inp l grid i j

/-! Distance fields (R114, R115) -/

/-- R115: the occupancy read for the influence region: beyond the near square the far grid's, beyond the far square unknown. -/
def regionOcc (b : BuildCfg) (inp : Inputs) (l grid slice : Nat) (i j : Int) : Nat :=
  if inGrid i j then cellOcc b inp l grid slice i j
  else if grid == 0 then
    let (fi, fj) := b.farOf i j
    if inGrid fi fj then cellOcc b inp l 1 slice fi fj else 2
  else 2

/-- R114: a state that counts as occupied. -/
def countsOcc (ly : LayerCfg) (v : Nat) : Bool := v == 1 || (v == 2 && ly.unknownOcc)

/-- R114: the candidate code of an occupied cell at an offset in cells. -/
def codeOf (grid : Nat) (di dj : Int) : Nat :=
  let a := 2 * di.natAbs - 1
  let c := 2 * dj.natAbs - 1
  isqrt ((if grid == 0 then 64 else 1024) * (a * a + c * c))

/-- R114: floor(128 × DistanceLimit). -/
def codeCap (ly : LayerCfg) : Nat := (128 * f32Fix ly.limit / fix32One).toNat

/-- The cells beyond which no code falls below the cap: 8 or 2 cells per metre. -/
def codeReach (ly : LayerCfg) (grid : Nat) : Nat := (gridScale grid * f32Fix ly.limit / fix32One).toNat + 1

/-- The offsets within a reach. -/
def offsets (r : Nat) : List Int := (List.range (2 * r + 1)).map (fun (k : Nat) => ((k : Nat) : Int) - (r : Int))

/-- R114: the code of a cell. -/
def cellCode (b : BuildCfg) (inp : Inputs) (l grid slice : Nat) (i j : Int) : Nat :=
  let ly := b.layer l
  let r := codeReach ly grid
  (offsets r).foldl (fun best dj => (offsets r).foldl (fun best di =>
    let c := codeOf grid di dj
    if c < best && countsOcc ly (regionOcc b inp l grid slice (i + di) (j + dj)) then c else best) best) (codeCap ly)

/-- R115: a cell lies within DistanceLimit of a tile: its square's least distance, in cells. -/
def inInfluence (ly : LayerCfg) (grid tile : Nat) (i j : Int) : Bool :=
  let gap (x : Int) (lo : Nat) : Nat := if x < lo then (lo - x - 1).toNat else (x - (lo + 63) - 1).toNat
  let a := gap i (64 * (tile % 16))
  let c := gap j (64 * (tile / 16))
  decide (((a * a + c * c : Nat) : Int) * fix32One * fix32One ≤ (gridScale grid * f32Fix ly.limit) * (gridScale grid * f32Fix ly.limit))

/-- R115: the cells of a tile's influence region, the tile's own among them. -/
def influence (ly : LayerCfg) (grid tile : Nat) : List (Int × Int) :=
  let r := codeReach ly grid
  let span : List Nat := List.range (64 + 2 * r)
  span.flatMap fun (y : Nat) => span.filterMap fun (x : Nat) =>
    let i : Int := ((64 * (tile % 16) : Nat) : Int) + ((x : Nat) : Int) - (r : Int)
    let j : Int := ((64 * (tile / 16) : Nat) : Int) + ((y : Nat) : Int) - (r : Int)
    if inInfluence ly grid tile i j then some (i, j) else none

/-! Tiles (R98, R116, R117) -/

/-- The cells of a tile in stored order (R98). -/
def tileCells (tile : Nat) : List (Int × Int) :=
  (List.range 4096).map (fun k => (((64 * (tile % 16) + k % 64 : Nat) : Int), ((64 * (tile / 16) + k / 64 : Nat) : Int)))

/-- R116: the stored values of a tile: codes, costs or mask bits. -/
def tileValues (b : BuildCfg) (inp : Inputs) (k : TileKey) : List Nat :=
  (tileCells k.tile).map fun (i, j) =>
    match (b.layer k.layer).type with
    | 1 => cellCode b inp k.layer k.grid k.slice i j
    | 2 => cellCost b inp k.layer k.grid i j
    | _ => if cellMask b inp k.layer k.grid i j then 1 else 0

/-- R117: UNKNOWN of a tile. -/
def tileUnknown (b : BuildCfg) (inp : Inputs) (k : TileKey) : Bool :=
  let ly := b.layer k.layer
  ly.type == 1 && (influence ly k.grid k.tile).any (fun (i, j) => regionOcc b inp k.layer k.grid k.slice i j == 2)

/-- R122: the run-ahead tile may be kept: the test of its layer's type, between the content of the sealed inputs and of the run-ahead inputs. -/
def keepsTile (b : BuildCfg) (sealedInp run : Inputs) (k : TileKey) : Bool :=
  let ly := b.layer k.layer
  match ly.type with
  | 1 =>
    let occ (inp : Inputs) (c : Int × Int) : Bool := countsOcc ly (regionOcc b inp k.layer k.grid k.slice c.1 c.2)
    (influence ly k.grid k.tile).all (fun c => !occ sealedInp c || occ run c)
      && decide (((tileCells k.tile).filter (fun c => occ run c && !occ sealedInp c)).length ≤ ly.occTol)
  | 2 =>
    (tileCells k.tile).all (fun (i, j) =>
      let x := cellCost b sealedInp k.layer k.grid i j
      let y := cellCost b run k.layer k.grid i j
      decide (x ≤ y + ly.costTol) && decide (y ≤ x + ly.costTol))
  | _ => (tileCells k.tile).all (fun (i, j) => cellMask b sealedInp k.layer k.grid i j == cellMask b run k.layer k.grid i j)

/-- R123: a tile's influence region holds a cell whose content the delta changes. -/
def changedTile (b : BuildCfg) (before after : Inputs) (k : TileKey) : Bool :=
  let ly := b.layer k.layer
  match ly.type with
  | 1 => (influence ly k.grid k.tile).any (fun (i, j) => regionOcc b before k.layer k.grid k.slice i j != regionOcc b after k.layer k.grid k.slice i j)
  | 2 => (tileCells k.tile).any (fun (i, j) => cellCost b before k.layer k.grid i j != cellCost b after k.layer k.grid i j)
  | _ => (tileCells k.tile).any (fun (i, j) => cellMask b before k.layer k.grid i j != cellMask b after k.layer k.grid i j)

/-! Tile jobs (R120) -/

/-- R120: the tiles of a grid by the distance of their centres from the start position, the origin of the plan frame; ties to the lower index. -/
def tileOrder (b : BuildCfg) (grid : Nat) : List Nat :=
  let width : Int := if grid == 0 then 8 else 32
  let dist2 (t : Nat) : Int :=
    let x := (2 * ((t % 16 : Nat) : Int) + 1) * width * fix32One - 2 * (if grid == 0 then f32Fix b.nearRear else f32Fix b.farRear)
    let y := ((2 * ((t / 16 : Nat) : Int) + 1) * width - (if grid == 0 then 128 else 512)) * fix32One
    x * x + y * y
  (List.range 256).mergeSort (fun s t => decide (dist2 s < dist2 t) || (decide (dist2 s ≤ dist2 t) && decide (s ≤ t)))

/-- The slices of a version that hold content, static first. -/
def BuildCfg.slices (b : BuildCfg) : List Nat := 32 :: (if b.inUse.any (fun l => (b.layer l).sliced) then List.range 32 else [])

/-- R120: every tile job of a version built whole, in order: (grid, slice, tile). -/
def BuildCfg.allJobs (b : BuildCfg) : List (Nat × Nat × Nat) :=
  [0, 1].flatMap (fun g => b.slices.flatMap (fun s => (tileOrder b g).map (fun t => (g, s, t))))

/-- The order of R120 among jobs. -/
def BuildCfg.sortJobs (b : BuildCfg) (jobs : List (Nat × Nat × Nat)) : List (Nat × Nat × Nat) := b.allJobs.filter (fun j => jobs.contains j)

end Sys2Proof.Machine
end

