-- ==== Sys2Proof/Machine/Qp.lean ====
section
/-!
DEFINITION. The quadratic program of a place (08_refinement.md R227 to R232, R235; 12_determinism.md R360): its linearised dynamics, its cost and its rows, and one iteration of the
interior-point solver. The spec fixes the steps of an iteration, the order of every sum and the pivots; where it leaves the order of the other operations open, log entry 62 names it.
-/
namespace Sys2Proof.Machine
open Sys2Proof

abbrev Vec := List F32
/-- A matrix by its rows. -/
abbrev Mat := List Vec

/-! Sums (R231, R360) -/

/-- R231: a sum in ascending order. -/
def sumAsc : Vec → F32
  | [] => f32Zero
  | a :: rest => rest.foldl f32Add a

/-- R360: `k` contiguous parts of length `n`, and a last part with the rest. -/
def laneParts : Nat → Nat → Vec → List Vec
  | 0, _, xs => [xs]
  | k + 1, n, xs => xs.take n :: laneParts k n (xs.drop n)

/-- R360: at most four parts as a balanced tree, in ascending order. -/
def treeSum : Vec → F32
  | a :: b :: rest => if rest.isEmpty then f32Add a b else f32Add (f32Add a b) (sumAsc rest)
  | xs => sumAsc xs

/-- R231, R360: the sum of the products of an inner product, on `w` lanes. -/
def laneSum (w : Nat) (xs : Vec) : F32 := treeSum (((laneParts (w - 1) (xs.length / w) xs).filter (fun p => !p.isEmpty)).map sumAsc)

/-- An inner product on `w` lanes. -/
def inner (w : Nat) (a b : Vec) : F32 := laneSum w (List.zipWith f32Mul a b)

def vecAdd (a b : Vec) : Vec := List.zipWith f32Add a b
def vecScale (k : F32) (a : Vec) : Vec := a.map (f32Mul k)
def matAdd (a b : Mat) : Mat := List.zipWith vecAdd a b
/-- Column c of a matrix. -/
def Mat.col (m : Mat) (c : Nat) : Vec := m.map (fun r => (r[c]?).getD f32Zero)
/-- The transpose of a matrix of n columns. -/
def Mat.transpose (n : Nat) (m : Mat) : Mat := (List.range n).map m.col
def matVec (w : Nat) (m : Mat) (v : Vec) : Vec := m.map (fun r => inner w r v)
/-- a · b, where b is given by its n columns' transpose. -/
def matMul (w n : Nat) (a b : Mat) : Mat := let bt := Mat.transpose n b; a.map (fun r => bt.map (inner w r))
def diagonal (d : Vec) : Mat := d.zipIdx.map (fun x => (List.range d.length).map (fun c => if c == x.2 then x.1 else f32Zero))

/-! The step map and its derivative (R227) -/

/-- A value with its derivatives along the state slots in use and the two inputs. -/
structure Dual where
  v : F32
  d : Vec
  deriving DecidableEq, Repr

def Dual.const (n : Nat) (v : F32) : Dual := ⟨v, List.replicate n f32Zero⟩
/-- The k-th of n independent values. -/
def Dual.seed (n k : Nat) (v : F32) : Dual := ⟨v, (List.range n).map (fun i => if i == k then f32One else f32Zero)⟩
def Dual.add (a b : Dual) : Dual := ⟨f32Add a.v b.v, vecAdd a.d b.d⟩
def Dual.sub (a b : Dual) : Dual := ⟨f32Sub a.v b.v, List.zipWith f32Sub a.d b.d⟩
def Dual.mul (a b : Dual) : Dual := ⟨f32Mul a.v b.v, List.zipWith (fun x y => f32Add (f32Mul x b.v) (f32Mul a.v y)) a.d b.d⟩
def Dual.div (a b : Dual) : Dual := let q := f32Div a.v b.v; ⟨q, List.zipWith (fun x y => f32Div (f32Sub x (f32Mul q y)) b.v) a.d b.d⟩
def Dual.sin (a : Dual) : Dual := ⟨f32Sin a.v, vecScale (f32Cos a.v) a.d⟩
def Dual.cos (a : Dual) : Dual := ⟨f32Cos a.v, vecScale (f32Neg (f32Sin a.v)) a.d⟩
/-- Multiplication by a constant. -/
def Dual.by (a : Dual) (k : F32) : Dual := ⟨f32Mul a.v k, a.d.map (fun x => f32Mul x k)⟩
/-- R227: a clamp that acted has derivative zero. -/
def Dual.clamped (acted : Bool) (v : F32) (a : Dual) : Dual := if acted then Dual.const a.d.length v else a

/-- The state of the vehicle with its derivatives. -/
structure DualPose where
  x : Dual
  y : Dual
  heading : Dual
  art1 : Dual
  art2 : Dual
  speed : Dual
  accel : Dual
  curvature : Dual
  deriving DecidableEq, Repr

/-- R227: the procedure substep of R152 differentiated operation by operation, each branch taken as the reference took it. -/
def substepDual (v : Vehicle) (s : DualPose) (sigma jerk : Dual) : DualPose :=
  let n := sigma.d.length
  let half : F32 := 0x3F000000#32
  let limit (lo hi : F32) (a : Dual) : Dual := Dual.clamped (f32Lt a.v lo || f32Lt hi a.v) (f32Clamp lo hi a.v) a
  let sc := limit (f32Neg v.sigmaMax) v.sigmaMax sigma
  let jc := limit (f32Neg v.jerkMax) v.jerkMax jerk
  let a1 := limit v.accelMin v.accelMax (s.accel.add (jc.by v.h))
  let am := (s.accel.add a1).by half
  let k1 := limit (f32Neg v.kappaMax) v.kappaMax (s.curvature.add (sc.by v.h))
  let km := (s.curvature.add k1).by half
  let v0 := s.speed.add (am.by v.h)
  let fast := f32Lt v.speedMax v0.v
  let v1 := Dual.clamped fast v.speedMax v0
  let a2 := Dual.clamped (fast && f32Lt f32Zero a1.v) f32Zero a1
  let stops := f32Lt v1.v f32Zero
  let d := if stops then (s.speed.mul s.speed).div (am.by 0xC0000000#32) else ((s.speed.add v1).by half).by v.h
  let dth := km.mul d
  let mid := s.heading.add (dth.by half)
  let m1k := km.by v.m1
  let g1 := (s.art1.sin.sub (m1k.mul s.art1.cos)).div (Dual.const n v.l1)
  let r1 := s.art1.cos.add (m1k.mul s.art1.sin)
  let g2 := ((r1.mul s.art2.sin).sub ((g1.by v.m2).mul s.art2.cos)).div (Dual.const n v.l2)
  { x := s.x.add (d.mul mid.cos), y := s.y.add (d.mul mid.sin), heading := s.heading.add dth,
    art1 := if v.trailers ≥ 1 then s.art1.add (d.mul (km.sub g1)) else Dual.const n f32Zero,
    art2 := if v.trailers = 2 then s.art2.add (d.mul (g1.sub g2)) else Dual.const n f32Zero,
    speed := Dual.clamped stops f32Zero v1, accel := Dual.clamped stops f32Zero a2, curvature := k1 }

def runDual (v : Vehicle) (sigma jerk : Dual) : Nat → DualPose → DualPose
  | 0, s => s
  | n + 1, s => runDual v sigma jerk n (substepDual v s sigma jerk)

/-- R227: the state slots in use, numbered from 0: x, y, θ, v, a, κ, φ1, φ2. -/
def DualPose.slots (trailers : Nat) (s : DualPose) : List Dual :=
  [s.x, s.y, s.heading, s.speed, s.accel, s.curvature] ++ (if trailers ≥ 1 then [s.art1] else []) ++ (if trailers = 2 then [s.art2] else [])

/-- R227: A_i and B_i at a reference state and applied control. -/
def stepJacobians (v : Vehicle) (p : Pose) (u : Control) : Mat × Mat :=
  let nx := 6 + v.trailers
  let n := nx + 2
  let e (k : Nat) (x : F32) : Dual := Dual.seed n k x
  let s : DualPose :=
    { x := e 0 p.x, y := e 1 p.y, heading := e 2 p.heading, speed := e 3 p.speed, accel := e 4 p.accel, curvature := e 5 p.curvature,
      art1 := if v.trailers ≥ 1 then e 6 p.art1 else Dual.const n p.art1, art2 := if v.trailers = 2 then e 7 p.art2 else Dual.const n p.art2 }
  let rows := ((runDual v (e nx u.sigma) (e (nx + 1) u.jerk) v.substeps s).slots v.trailers).map (·.d)
  (rows.map (fun r => r.take nx), rows.map (fun r => r.drop nx))

/-! The problem (R228, R229) -/

/-- A row c · z ≤ b of a step, by its coefficients over Δu_i or Δx_i and its margin b − c · z̄ at the reference. -/
structure QpRow where
  coefs : Vec
  margin : F32
  deriving DecidableEq, Repr

/-- What the QP holds of step i: A_i, B_i and ū_i (none at i = n), the diagonals of Wx_i (zero at i = 0, where no cost stands) and Wu, and the rows on u_i and on x_i. -/
structure QpStep where
  a : Mat
  b : Mat
  u : Vec
  wx : Vec
  wu : Vec
  uRows : List QpRow
  xRows : List QpRow
  deriving DecidableEq, Repr

/-- The two rows of |z_k| ≤ m at a reference value. -/
def boxRows (n k : Nat) (lo hi ref : F32) : List QpRow :=
  let unit (x : F32) : Vec := (List.range n).map (fun i => if i == k then x else f32Zero)
  [⟨unit f32One, f32Sub hi ref⟩, ⟨unit (f32Neg f32One), f32Sub ref lo⟩]

/-- R229: the input box at an applied control. -/
def inputRows (v : Vehicle) (u : Control) : List QpRow :=
  boxRows 2 0 (f32Neg v.sigmaMax) v.sigmaMax u.sigma ++ boxRows 2 1 (f32Neg v.jerkMax) v.jerkMax u.jerk

/-- R154: the tractor's limit at a speed. -/
def tractorLimit (v : Vehicle) (speed : F32) : F32 := f32Min ((v.rollover[0]?).getD 0#32) (f32Sub v.latMax (f32Mul v.latSlope speed))

/-- R229: the state box, the lateral acceleration and, with its bounds on position and heading, the corridor at a reference state. -/
def stateRows (v : Vehicle) (p : Pose) (corridor : Option (F32 × F32)) : List QpRow :=
  let nx := 6 + v.trailers
  let v2 := f32Mul p.speed p.speed
  let lat := f32Mul v2 p.curvature
  let dv := f32Mul (f32Mul 0x40000000#32 p.speed) p.curvature
  let latRow (dv dk : F32) : Vec := (List.range nx).map (fun i => if i == 3 then dv else if i == 5 then dk else f32Zero)
  let limit := tractorLimit v p.speed
  boxRows nx 3 f32Zero v.speedMax p.speed ++ boxRows nx 4 v.accelMin v.accelMax p.accel ++ boxRows nx 5 (f32Neg v.kappaMax) v.kappaMax p.curvature
    ++ (if v.trailers ≥ 1 then boxRows nx 6 (f32Neg v.art1Max) v.art1Max p.art1 else [])
    ++ (if v.trailers = 2 then boxRows nx 7 (f32Neg v.art2Max) v.art2Max p.art2 else [])
    ++ [⟨latRow dv v2, f32Sub limit lat⟩, ⟨latRow (f32Neg dv) (f32Neg v2), f32Add limit lat⟩]
    ++ (match corridor with
        | some (c, h) => boxRows nx 0 (f32Neg c) c f32Zero ++ boxRows nx 1 (f32Neg c) c f32Zero ++ boxRows nx 2 (f32Neg h) h f32Zero
        | none => [])

/-- R228, R229: the steps of the QP, from reference states, applied controls, weights, the terminal factor and the corridor's bounds of the states from one on. -/
def qpSteps (v : Vehicle) (wx wu : Vec) (terminal : F32) (poses : List Pose) (us : List Control) (corridor : List (Option (F32 × F32))) : List QpStep :=
  let nx := 6 + v.trailers
  poses.zipIdx.map (fun (p, i) =>
    let (a, b) := match us[i]? with | some u => stepJacobians v p u | none => ([], [])
    { a := a, b := b, u := match us[i]? with | some u => [u.sigma, u.jerk] | none => [],
      wx := if i == 0 then List.replicate nx f32Zero else if i + 1 == poses.length then vecScale terminal wx else wx, wu := wu,
      uRows := match us[i]? with | some u => inputRows v u | none => [],
      xRows := if i == 0 then [] else stateRows v p ((corridor[i - 1]?).getD none) })

/-! Iterates (R230, R235) -/

/-- R235: a cold start. -/
def coldPart (st : QpStep) : QpPart :=
  let row (r : QpRow) : F32 × F32 := (f32Max f32One r.margin, f32One)
  { du := st.u.map (fun _ => f32Zero), uRows := st.uRows.map row, xRows := st.xRows.map row }

/-- R235: a warm start from a kept iterate, each slack and dual raised to the floor. -/
def warmPart (floor : F32) (part : QpPart) : QpPart :=
  let row (r : F32 × F32) : F32 × F32 := (f32Max r.1 floor, f32Max r.2 floor)
  { du := part.du.map (fun _ => f32Zero), uRows := part.uRows.map row, xRows := part.xRows.map row }

/-- Every number of an iterate is finite. -/
def QpPart.finite (p : QpPart) : Bool := p.du.all f32Finite && (p.uRows ++ p.xRows).all (fun r => f32Finite r.1 && f32Finite r.2)

/-- The deviations Δx_0 to Δx_n that the dynamics give for Δu. -/
def rollout (w : Nat) : Vec → List (QpStep × QpPart) → List Vec
  | _, [] => []
  | x, (st, part) :: rest => x :: rollout w (vecAdd (matVec w st.a x) (matVec w st.b part.du)) rest

/-- The slack residual of a row: c · z + s − margin. -/
def rowResidual (w : Nat) (z : Vec) (r : QpRow) (s : F32) : F32 := f32Sub (f32Add (inner w r.coefs z) s) r.margin

/-- Cᵀ y over the rows of a step, for m slots. -/
def rowsGradient (w m : Nat) (rows : List QpRow) (y : Vec) : Vec := (List.range m).map (fun k => inner w (rows.map (fun r => (r.coefs[k]?).getD f32Zero)) y)

/-- The gradients of the Lagrangian by x_i and by u_i at a step, with multipliers given for its rows. -/
def stepGradient (w : Nat) (st : QpStep) (part : QpPart) (x yu yx : Vec) : Vec × Vec :=
  (vecAdd (List.zipWith f32Mul st.wx x) (rowsGradient w st.wx.length st.xRows yx),
   vecAdd (List.zipWith f32Mul st.wu (vecAdd st.u part.du)) (rowsGradient w st.u.length st.uRows yu))

/-- The costates p_i = q_i + A_iᵀ p_{i+1}, and with them the reduced gradients r_i + B_iᵀ p_{i+1}. -/
def costates (w : Nat) : List (QpStep × Vec × Vec) → Vec × List Vec
  | [] => ([], [])
  | (st, q, r) :: rest =>
    let (p, gs) := costates w rest
    if rest.isEmpty then (q, [])
    else (vecAdd q (matVec w (st.a.transpose q.length) p), vecAdd r (matVec w (st.b.transpose r.length) p) :: gs)

def maxAbs (xs : Vec) : F32 := xs.foldl (fun m x => f32Max m (f32Abs x)) f32Zero

/-- What an iterate's residuals are read from: each step with its part and Δx. -/
def qpPoints (w : Nat) (steps : List QpStep) (it : List QpPart) : List (QpStep × QpPart × Vec) :=
  let pairs := steps.zip it
  let nx := match steps with | st :: _ => st.wx.length | [] => 0
  (pairs.zip (rollout w (List.replicate nx f32Zero) pairs)).map (fun x => (x.1.1, x.1.2, x.2))

/-- The residuals of a step's rows, on u_i and on x_i. -/
def stepResiduals (w : Nat) (pt : QpStep × QpPart × Vec) : Vec × Vec :=
  (List.zipWith (fun r s => rowResidual w pt.2.1.du r s.1) pt.1.uRows pt.2.1.uRows, List.zipWith (fun r s => rowResidual w pt.2.2 r s.1) pt.1.xRows pt.2.1.xRows)

/-- Slacks and duals of an iterate, step by step. -/
def iterateRows (it : List QpPart) : List (F32 × F32) := it.flatMap (fun p => p.uRows ++ p.xRows)

/-- μ: the mean of slack times dual. -/
def meanGap (w : Nat) (rows : List (F32 × F32)) : F32 := f32Div (laneSum w (rows.map (fun r => f32Mul r.1 r.2))) (f32OfInt rows.length)

/-- ‖r_p‖∞, ‖r_d‖∞ and μ of an iterate. -/
def qpResiduals (w : Nat) (steps : List QpStep) (it : List QpPart) : F32 × F32 × F32 :=
  let pts := qpPoints w steps it
  let rp := pts.flatMap (fun pt => let r := stepResiduals w pt; r.1 ++ r.2)
  let grads := pts.map (fun pt => (pt.1, stepGradient w pt.1 pt.2.1 pt.2.2 (pt.2.1.uRows.map (·.2)) (pt.2.1.xRows.map (·.2))))
  (maxAbs rp, maxAbs (costates w grads).2.flatten, meanGap w (iterateRows it))

/-! The factorisation (R231, R232) -/

/-- R232: a pivot's square root, or none where the pivot ends the QP, and whether it was regularised. The scale and τ are FP64 values here. -/
def pivot (tau scale d : F64) : Option F32 × Bool :=
  let limit := f64Mul tau scale
  if f64Lt (f64Abs d) limit then (some (f32OfF64 (f64Sqrt (f64Add d limit))), true)
  else if f64Le d (f64Neg limit) then (none, false)
  else (some (f32OfF64 (f64Sqrt d)), false)

/-- The Cholesky factor of an input Hessian, and how many of its pivots were regularised; none where a pivot fails. -/
def cholesky (tau : F32) (h : Mat) : Option (F32 × F32 × F32) × Nat :=
  let at' (r c : Nat) : F32 := (((h[r]?).getD [])[c]?).getD f32Zero
  let t := f64OfF32 tau
  let scale := f64OfF32 (f32Max (at' 0 0) (at' 1 1))
  match pivot t scale (f64OfF32 (at' 0 0)) with
  | (none, _) => (none, 0)
  | (some l00, r0) =>
    let l10 := f32Div (at' 1 0) l00
    let sq := f64Mul (f64OfF32 l10) (f64OfF32 l10)
    match pivot t scale (f64Sub (f64OfF32 (at' 1 1)) sq) with
    | (none, _) => (none, if r0 then 1 else 0)
    | (some l11, r1) => (some (l00, l10, l11), (if r0 then 1 else 0) + (if r1 then 1 else 0))

/-- H⁻¹ b by substitution, forwards and backwards. -/
def cholSolve (l : F32 × F32 × F32) (b : Vec) : Vec :=
  let (l00, l10, l11) := l
  let y0 := f32Div ((b[0]?).getD f32Zero) l00
  let y1 := f32Div (f32Sub ((b[1]?).getD f32Zero) (f32Mul l10 y0)) l11
  let x1 := f32Div y1 l11
  [f32Div (f32Sub y0 (f32Mul l10 x1)) l00, x1]

/-- The barrier terms Σ (λ / s) c cᵀ of a step's rows, for m slots. -/
def barrier (w m : Nat) (rows : List QpRow) (sd : List (F32 × F32)) : Mat :=
  let ws := sd.map (fun x => f32Div x.2 x.1)
  (List.range m).map (fun r => (List.range m).map (fun c =>
    inner w (List.zipWith (fun k (q : QpRow) => f32Mul k ((q.coefs[r]?).getD f32Zero)) ws rows) (rows.map (fun q => (q.coefs[c]?).getD f32Zero))))

/-- A factorisation: P of its first step, the Cholesky factor and the gain of every step but the last, its regularised pivots, and whether a pivot failed. -/
structure QpFactor where
  p : Mat
  gains : List ((F32 × F32 × F32) × Mat)
  regularised : Nat
  failed : Bool
  deriving DecidableEq, Repr

/-- R231: the Riccati recursion, from step n − 1 down. -/
def qpFactor (w : Nat) (tau : F32) : List (QpStep × QpPart) → QpFactor
  | [] => ⟨[], [], 0, false⟩
  | (st, part) :: rest =>
    let nx := st.wx.length
    let q := matAdd (diagonal st.wx) (barrier w nx st.xRows part.xRows)
    if rest.isEmpty then ⟨q, [], 0, false⟩
    else
      let f := qpFactor w tau rest
      if f.failed then f
      else
        let at' := st.a.transpose nx
        let bt := st.b.transpose 2
        let pa := matMul w nx f.p st.a
        let h := matAdd (matAdd (diagonal st.wu) (barrier w 2 st.uRows part.uRows)) (matMul w 2 bt (matMul w 2 f.p st.b))
        let g := matMul w nx bt pa
        match cholesky tau h with
        | (none, r) => ⟨f.p, f.gains, f.regularised + r, true⟩
        | (some l, r) =>
          let k := Mat.transpose 2 ((List.range nx).map (fun c => (cholSolve l (g.col c)).map f32Neg))
          ⟨matAdd (matAdd q (matMul w nx at' pa)) (matMul w nx (g.transpose nx) k), (l, k) :: f.gains, f.regularised + r, false⟩

/-- The linear part of the recursion: p_i, and the offset −H⁻¹ (r_i + B_iᵀ p_{i+1}) of every step but the last. -/
def qpOffsets (w : Nat) : List (QpStep × Vec × Vec) → List ((F32 × F32 × F32) × Mat) → Vec × List Vec
  | (st, q, r) :: rest, (l, k) :: gains =>
    let (p, ks) := qpOffsets w rest gains
    let h := vecAdd r (matVec w (st.b.transpose 2) p)
    (vecAdd (vecAdd q (matVec w (st.a.transpose q.length) p)) (matVec w (k.transpose q.length) h), (cholSolve l h).map f32Neg :: ks)
  | (_, q, _) :: _, [] => (q, [])
  | [], _ => ([], [])

/-- The directions δx_i and δu_i, forwards. -/
def qpForward (w : Nat) : Vec → List QpStep → List ((F32 × F32 × F32) × Mat) → List Vec → List (Vec × Vec)
  | x, st :: steps, (_, k) :: gains, o :: offsets =>
    let du := vecAdd o (matVec w k x)
    (x, du) :: qpForward w (vecAdd (matVec w st.a x) (matVec w st.b du)) steps gains offsets
  | x, _ :: _, _, _ => [(x, [])]
  | _, [], _, _ => []

/-! One iteration (R230) -/

/-- The directions of one step: δu, and (δs, δλ) of its rows. -/
structure QpDir where
  du : Vec
  uRows : List (F32 × F32)
  xRows : List (F32 × F32)
  deriving DecidableEq, Repr

/-- A solve with a factorisation, where every row has the complementarity residual r_c that `comp` gives from its slack and dual and from the affine directions. -/
def qpSolve (w : Nat) (f : QpFactor) (pts : List (QpStep × QpPart × Vec)) (comps : List (Vec × Vec)) : List QpDir :=
  let mult (sd : F32 × F32) (rp rc : F32) : F32 := f32Add sd.2 (f32Div (f32Sub (f32Mul sd.2 rp) rc) sd.1)
  let mults (rows : List (F32 × F32)) (rp rc : Vec) : Vec := List.zipWith (fun sd (r : F32 × F32) => mult sd r.1 r.2) rows (rp.zip rc)
  let grads := (pts.zip comps).map (fun (pt, c) =>
    let rp := stepResiduals w pt
    (pt.1, stepGradient w pt.1 pt.2.1 pt.2.2 (mults pt.2.1.uRows rp.1 c.1) (mults pt.2.1.xRows rp.2 c.2)))
  let offsets := (qpOffsets w grads f.gains).2
  let nx := match pts with | pt :: _ => pt.1.wx.length | [] => 0
  let dirs := qpForward w (List.replicate nx f32Zero) (pts.map (·.1)) f.gains offsets
  let rowDir (z : Vec) (r : QpRow) (sd : F32 × F32) (rp rc : F32) : F32 × F32 :=
    let ds := f32Sub (f32Neg rp) (inner w r.coefs z)
    (ds, f32Div (f32Sub (f32Neg rc) (f32Mul sd.2 ds)) sd.1)
  let rowDirs (z : Vec) (rows : List QpRow) (sd : List (F32 × F32)) (rp rc : Vec) : List (F32 × F32) :=
    List.zipWith (fun (x : QpRow × (F32 × F32)) (y : F32 × F32) => rowDir z x.1 x.2 y.1 y.2) (rows.zip sd) (rp.zip rc)
  ((pts.zip comps).zip dirs).map (fun ((pt, c), (dx, du)) =>
    let rp := stepResiduals w pt
    { du := du, uRows := rowDirs du pt.1.uRows pt.2.1.uRows rp.1 c.1, xRows := rowDirs dx pt.1.xRows pt.2.1.xRows rp.2 c.2 })

/-- The largest step that keeps every slack and dual from falling below zero; none where no slack or dual falls, so that every step does. -/
def largestStep (rows dirs : List (F32 × F32)) : Option F32 :=
  let cap (a : Option F32) (x d : F32) : Option F32 :=
    if f32Lt d f32Zero then (match a with | some b => some (f32Min b (f32Div (f32Neg x) d)) | none => some (f32Div (f32Neg x) d)) else a
  (rows.zip dirs).foldl (fun a x => cap (cap a x.1.1 x.2.1) x.1.2 x.2.2) none

/-- The affine step, whose μ_aff the centring factor takes: the largest, but no more than the whole Newton step. DESIGN CHOICE (log entry 62): R230 gives no step of its own to the affine
solve. -/
def affineStep (rows dirs : List (F32 × F32)) : F32 := match largestStep rows dirs with | some a => f32Min f32One a | none => f32One

/-- R230: the step of an iteration: 0.99 times the largest. DESIGN CHOICE (log entry 62): where no slack or dual falls there is no largest step, and 1 stands for it. -/
def newtonStep (rows dirs : List (F32 × F32)) : F32 := f32Mul 0x3F7D70A4#32 ((largestStep rows dirs).getD f32One)

/-- Slacks and duals after a step of length alpha. -/
def stepRows (alpha : F32) (rows dirs : List (F32 × F32)) : List (F32 × F32) :=
  List.zipWith (fun r d => (f32Add r.1 (f32Mul alpha d.1), f32Add r.2 (f32Mul alpha d.2))) rows dirs

/-- The outcome of an iteration: the pivots regularised, and the next iterate, or none where a pivot failed (R232). -/
structure QpStepOutcome where
  regularised : Nat
  next : Option (List QpPart)
  deriving DecidableEq, Repr

/-- R230: one iteration: a factorisation, an affine solve and a corrector solve, and a step of 0.99 times the largest. -/
def qpIterate (w : Nat) (tau : F32) (steps : List QpStep) (it : List QpPart) : QpStepOutcome :=
  let f := qpFactor w tau (steps.zip it)
  if f.failed then ⟨f.regularised, none⟩
  else
    let pts := qpPoints w steps it
    let prods (rows : List (F32 × F32)) : Vec := rows.map (fun r => f32Mul r.1 r.2)
    let affine := qpSolve w f pts (it.map (fun p => (prods p.uRows, prods p.xRows)))
    let dirRows (ds : List QpDir) : List (F32 × F32) := ds.flatMap (fun d => d.uRows ++ d.xRows)
    let rows := iterateRows it
    let mu := meanGap w rows
    let ratio := f32Div (meanGap w (stepRows (affineStep rows (dirRows affine)) rows (dirRows affine))) mu
    let centre := f32Mul (f32Mul (f32Mul ratio ratio) ratio) mu
    let comp (rows dirs : List (F32 × F32)) : Vec := List.zipWith (fun r d => f32Sub (f32Add (f32Mul r.1 r.2) (f32Mul d.1 d.2)) centre) rows dirs
    let dirs := qpSolve w f pts (List.zipWith (fun (p : QpPart) (d : QpDir) => (comp p.uRows d.uRows, comp p.xRows d.xRows)) it affine)
    let alpha := newtonStep rows (dirRows dirs)
    ⟨f.regularised, some (List.zipWith (fun (p : QpPart) (d : QpDir) =>
      { du := vecAdd p.du (vecScale alpha d.du), uRows := stepRows alpha p.uRows d.uRows, xRows := stepRows alpha p.xRows d.xRows }) it dirs)⟩

end Sys2Proof.Machine
end

