-- ==== Sys2Proof/Machine/Selection.lean ====
section
/-!
DEFINITION. The Stair's commands: GALLERY_MERGE, TOP_STAIR_MERGE (R207), LIST_REBUILD (R214) and SELECTION_CLOSE (R23, R215 to R219), with the closed list record.
-/
namespace Sys2Proof.Machine
open Sys2Proof

/-- GALLERY_MERGE: a Gallery's stair unit merges the record in slot β. -/
def execGalleryMerge (gallery beta : Nat) (s : State) : Host.Outcome State Fault Refusal :=
  .next (
    let due (r : BlockRec) : Bool := r.beta == beta && r.gallery == gallery && !r.inGallery && !r.withdrawn && !r.speculative
    match s.stairFrame (fun w => w.closed.isNone && !w.rebuildDue && w.blocks.any due) with
    | none => s
    | some w =>
      match w.blocks.find? due with
      | some r => s.mergeGallery w gallery r
      | none => s)

/-- TOP_STAIR_MERGE: the top stair merges what the Galleries have forwarded, and rounds merged in full move on (R213, R162). -/
def execTopStairMerge (s : State) : Host.Outcome State Fault Refusal :=
  .next (
    match s.stairFrame (fun w => w.closed.isNone && !w.rebuildDue && (!w.forwarded.isEmpty || w.blocks.any (fun r => r.inGallery && !r.inTop))) with
    | none => s
    | some w => (s.mergeTop w).goRounds w.frame)

/-- LIST_REBUILD: the lists of a frame are rebuilt from the block table. -/
def execListRebuild (s : State) : Host.Outcome State Fault Refusal :=
  .next (
    match s.stairFrame (fun w => w.closed.isNone && w.rebuildDue) with
    | none => s
    | some w => (s.rebuildLists w.frame).goRounds w.frame)

/-! The closed list (R215) -/

def bitIf (b : Bool) (n : Nat) : Nat := if b then 2 ^ n else 0

/-- SHORT, TIE_OVERFLOW, INTEGRITY, CORRUPT, COLLECTIVE_INCOMPLETE, ROUND_DROPPED as bits 0 to 5. -/
def ClosedList.statusBits (l : ClosedList) : Nat :=
  bitIf (decide (l.validCount < l.k)) 0 + bitIf (decide (0 < l.tieCut)) 1 + bitIf l.integrity 2 + bitIf (decide (0 < l.corruptCount)) 3
    + bitIf l.collective 4 + bitIf l.roundDropped 5

/-- R215: the closed list record. -/
def ClosedList.bytes (l : ClosedList) : List Byte :=
  leBytes 8 l.frame ++ leBytes 1 l.k ++ leBytes 1 l.validCount ++ leBytes 1 l.corruptCount ++ leBytes 1 (l.roundsMerged + 8 * l.orderMode + 16 * l.chips)
    ++ leBytes 4 l.statusBits ++ leBytes 4 l.tieCut ++ List.replicate 44 0#8 ++ l.continuation.bytes ++ l.minRisk.bytes ++ (padded l.k l.places).flatMap Entry.bytes

/-- A closed list record read back from its bytes (R441). -/
def entryOf (b : List Byte) : Entry :=
  let f := fieldAt b 9 1
  { merit := BitVec.ofNat 32 (fieldAt b 0 4), cid := fieldAt b 4 4, empty := f.testBit 0, clamped := f.testBit 1, bisected := f.testBit 2, beyond := f.testBit 3,
    stale := f.testBit 4, stopped := f.testBit 5, withdrawn := f.testBit 6, code := fieldAt b 10 1 }

def closedOf (b : List Byte) : ClosedList :=
  let k := fieldAt b 8 1
  let st := fieldAt b 12 4
  { frame := fieldAt b 0 8, k := k, validCount := fieldAt b 9 1, corruptCount := fieldAt b 10 1, roundsMerged := bitsAt (fieldAt b 11 1) 0 3,
    orderMode := bitsAt (fieldAt b 11 1) 3 1, chips := bitsAt (fieldAt b 11 1) 4 4, integrity := st.testBit 2, collective := st.testBit 4, roundDropped := st.testBit 5,
    tieCut := fieldAt b 16 4, continuation := entryOf (slice b 64 16), minRisk := entryOf (slice b 80 16),
    places := ((List.range k).map (fun p => entryOf (slice b (96 + 16 * p) 16))).filter (fun e => !e.empty) }

/-- The rounds merged in full: a prefix of the rounds. -/
def FrameWork.mergedRounds (w : FrameWork) : Nat := (w.rounds.takeWhile (fun r => r.snapshot.isSome)).length

/-- R23: a list of the rounds merged in full only, with the IDs whose copies differ. -/
def roundsOnly (compatible : Bool) (k : Nat) (w : FrameWork) (n : Nat) : SortedList × List Nat :=
  tableList compatible k w.excluded (w.blocks.filter (fun r => r.inTop && decide (cidRound r.firstId < n)))

/-- R215: the entry of the continuation (0) or minimum-risk (1) candidate as offered: that of its re-evaluation where one has committed, else that of the special block's record; padding
where there is none, and where its copies differed (R211). -/
def FrameWork.offeredEntry (w : FrameWork) (o : Nat) : Entry :=
  let entry (r : BlockRec) : Option Entry := if r.withdrawn || r.speculative then none else r.offered.find? (fun e => cidOrdinal e.cid == o)
  let again := (w.blocks.filter (fun r => decide (4112 ≤ r.beta))).findSome? entry
  let first := (w.blocks.filter (fun r => decide (r.beta < 4112))).findSome? (fun r =>
    match entry r with
    | some e => if r.entries.any (fun x => x.cid == e.cid && x.withdrawn) then none else some e
    | none => none)
  match again.orElse (fun _ => first) with
  | some e => if w.excluded.contains e.cid then Entry.padding else e
  | none => Entry.padding

/-- Whether a list closing now is formed from the block table (R23, R214). -/
def FrameWork.closesFromTable (w : FrameWork) : Bool := !w.allMerged || w.rebuildDue

/-- The list this chip closes for a frame (R215, R216). DESIGN CHOICE (log entry 39): CHIPS_MERGED is this chip's own bit. -/
def State.ownList (s : State) (w : FrameWork) : ClosedList :=
  let n := w.mergedRounds
  let dropped := !w.allMerged
  let list := if w.closesFromTable then (roundsOnly s.compatible s.stairK w n).1 else w.topList
  { frame := w.frame, k := s.stairK, validCount := (list.entries.filter Entry.valid).length, corruptCount := (list.entries.filter (fun e => !e.valid)).length,
    roundsMerged := n, orderMode := s.cfg 0x6000 2, chips := 2 ^ s.cidChipField, integrity := !w.faulted.isEmpty, collective := false, roundDropped := dropped,
    tieCut := list.tieCut, continuation := w.offeredEntry 0, minRisk := w.offeredEntry 1, places := list.entries }

/-- R218, R219: the refiner's merge of the lists of several chips. DESIGN CHOICE (log entry 39): ROUNDS_MERGED is the least of the lists', ROUND_DROPPED and INTEGRITY any list's. -/
def mergeLists (compatible : Bool) (k expected : Nat) (ls : List ClosedList) (own : ClosedList) : ClosedList :=
  let u := unite [] (ls.flatMap (·.places))
  let out := bestOf compatible k u.entries
  let tie := out.tieCut + natSum (ls.map (fun l => carriedTie compatible k out.entries ⟨l.places, l.tieCut⟩))
  let pick (f : ClosedList → Entry) : Entry := ((ls.map f).find? (fun e => !e.empty)).getD Entry.padding
  { own with
    validCount := (out.entries.filter Entry.valid).length, corruptCount := (out.entries.filter (fun e => !e.valid)).length
    roundsMerged := match ls.map (·.roundsMerged) with | [] => 0 | x :: xs => xs.foldl min x
    chips := ls.foldl (fun m l => m ||| l.chips) 0, integrity := ls.any (·.integrity), collective := decide (ls.length < expected)
    roundDropped := ls.any (·.roundDropped), tieCut := tie, continuation := pick (·.continuation), minRisk := pick (·.minRisk), places := out.entries }

end Sys2Proof.Machine
end

