-- ==== Sys2Proof/Machine/Refine.lean ====
section
/-!
DEFINITION. Prepared plans (08_refinement.md R224 to R247): references, quadratic programs, time scaling, rechecks and the choice.
-/
namespace Sys2Proof.Machine
open Sys2Proof

/-- A setting in µs, in ns. -/
def State.us (s : State) (idx sub : Nat) : Nat := 1000 * s.cfg idx sub

def Plan.fresh (pos : Nat) (e : Entry) : Plan :=
  { pos := pos, entry := e, source := [], applied := [], controls := [], reference := [], slack := [], referenced := false, qp := ⟨.waiting, 0, 0, [], false, []⟩,
    truncated := false, regularised := false, unrefined := false, speedLimited := false, iterLimit := false, failed := false, ready := false, points := none,
    verdict := none, staleUsed := false, sentry := none, sentryPoint := 0, presented := false }

/-- Changes a prepared plan of a frame. -/
def State.modPlan (s : State) (frame pos : Nat) (f : Plan → Plan) : State :=
  s.modWork frame (fun w => { w with plans := modFirst (fun p => p.pos == pos) f w.plans })

def FrameWork.plan? (w : FrameWork) (pos : Nat) : Option Plan := w.plans.find? (fun p => p.pos == pos)

/-- R226, R441: a candidate's sequence before clamping; on a split group's refiner it comes with the LIST message of the chip that generated it. -/
def State.sourceOf (s : State) (w : FrameWork) (cid : Nat) : List Control :=
  if s.groupMode == 2 && cidSource cid != 3 then
    match s.group.lists.find? (fun l => l.list.frame == w.frame && l.list.places.any (fun e => e.cid == cid)) with
    | some l => (l.controls[l.list.places.findIdx (fun e => e.cid == cid)]?).getD []
    | none => []
  else s.controlsOf w cid

/-- R226, R238: forms a plan's ū from its candidate, as its control sequence; a sequence that expansion rejects fails (R224). -/
def State.formUnrefined (s : State) (w : FrameWork) (p : Plan) : Plan :=
  let src := s.sourceOf w p.entry.cid
  let e := expandControls s.vehicle p.entry.cid w.start.pose src
  { p with source := src, applied := e.applied, controls := e.applied, reference := e.poses, failed := e.limitCode != 0, ready := e.limitCode == 0 }

/-- QP solver q is in service (R503, R19). -/
def State.solverIn (s : State) (q : Nat) : Bool := decide (q < 4) && s.boot.available.solvers.testBit q && !(((s.clocks[56 + q]?).getD ClockDomain.initial).fault)

/-- QP solvers in service. -/
def State.solversIn (s : State) : Nat := ((List.range 4).filter s.solverIn).length

/-- R224, R225: sets up a frame's prepared plans from its closed list. -/
def State.setUpPlans (s : State) (frame : Nat) (list : ClosedList) : State :=
  let places := (list.places.take (min 64 (s.cfg 0x6100 2))).zipIdx
  let corrupt := places.filter (fun x => !x.1.valid)
  let good := places.filter (fun x => x.1.valid)
  let s := if corrupt.isEmpty then s else ((s.raiseOnce frame 0x0616).count 0x6301 8 corrupt.length).frameStatus frame 0x16
  let refine := s.cfgB 0x6100 1
  match s.work? frame with
  | none => s
  | some w =>
    let ps := good.map (fun x => if refine then Plan.fresh x.2 x.1 else { s.formUnrefined w (Plan.fresh x.2 x.1) with unrefined := true })
    let special (pos : Nat) (e : Entry) : List Plan := if e.empty then [] else [s.formUnrefined w (Plan.fresh pos e)]
    let solvers := s.solversIn
    let s := s.modWork frame (fun w => { w with plans := ps ++ special 64 list.continuation ++ special 65 list.minRisk, qpSolvers := solvers })
    if refine then
      good.foldl (fun s x =>
        let lane := 16 * x.2 % 512
        s.addItem { kind := .reference, cls := 0, flow := none, spec := false, replay := false, pinned := false, lane := lane, frame := frame, arg := x.2,
                    version := 0, dispatcher := s.homeOf lane, release := none }) s
    else s

/-! SELECTION_CLOSE -/

/-- R206: the bytes of a block record's header. -/
def BlockRec.header (r : BlockRec) : List Byte :=
  leBytes 8 r.frame ++ leBytes 4 r.version ++ leBytes 4 r.firstId ++ leBytes 1 r.entries.length
    ++ leBytes 3 (bitIf r.speculative 0 + bitIf r.withdrawn 1 + bitIf r.replay 2) ++ leBytes 2 r.tieCut ++ leBytes 1 r.count ++ leBytes 1 r.rejected
    ++ List.replicate 8 0#8 ++ leBytes 32 r.signature

/-- R362: the deterministic content of a CHECK step. -/
def BlockRec.content (w : FrameWork) (r : BlockRec) : List Byte :=
  let h := r.header
  let entries := r.entries.filterMap (fun e =>
    if e.withdrawn then
      (if w.excluded.contains e.cid then none else (w.blocks.find? (fun x => decide (4112 ≤ x.beta) && x.firstId == e.cid)).bind (fun x => x.entries.head?))
    else some e)
  h.take 8 ++ slice h 12 5 ++ slice h 18 46 ++ entries.flatMap (fun e => ({ e with withdrawn := false } : Entry).bytes)

/-- R362, R363: the CHECK steps retire as the list closes; a round that was not issued is absent, which compares like any other phase (R380). -/
def State.retireChecks (s : State) (w : FrameWork) : State :=
  let rs := w.blocks.filter (fun r => decide (r.beta < 4112) && r.inTop && !r.withdrawn && decide (cidRound r.firstId < w.mergedRounds))
  let s := rs.foldl (fun s r => s.recordStep w.frame 3 (cidRound r.firstId) r.beta (r.content w)) s
  (List.range 4).foldl (fun s r => s.phaseReady w.frame 3 r) s

/-- R215, R216, R222: a closed list is written: the counters, statuses and event that follow from it. -/
def State.writeClosed (s : State) (frame : Nat) (l : ClosedList) : State :=
  let s := s.modWork frame (fun w => { w with closed := some l })
  let flag (s : State) (on : Bool) (n : Nat) : State := if on then s.frameStatus frame n else s
  let tally (s : State) (sub n : Nat) : State := if n == 0 then s else s.count 0x6002 sub n
  let short := decide (l.validCount < l.k)
  let s := flag (tally s 1 (if short then 1 else 0)) short 1
  let s := flag (tally (tally s 2 (if 0 < l.tieCut then 1 else 0)) 3 l.tieCut) (decide (0 < l.tieCut)) 2
  let s := tally s 7 l.corruptCount
  let s := if 0 < l.corruptCount then (s.raiseOnce frame 0x0604).frameStatus frame 4 else s
  flag (flag s l.collective 5) l.roundDropped 0x15

/-- The chip of the REFINER in a split group (R446). -/
def State.refinerChip (s : State) : Option Nat := s.otherChips.find? (fun c => (s.peer c).role == 3)

/-- R431: chips 1 and 2 of a split group propose; a chip heard without that role does not. -/
def State.proposer (s : State) (c : Nat) : Bool := (c == 1 || c == 2) && ((s.peer c).role == 2 || (s.peer c).role == 0)

/-- R218, R219: the chips whose lists the refiner expects: the proposers that are not LOST. -/
def State.expectedProposers (s : State) : List Nat := s.otherChips.filter (fun c => s.proposer c && (s.peer c).st != .lost)

/-- R431: this chip closes a list: it checks candidates, or merges the lists of those that do. -/
def State.closesList (s : State) : Bool := s.closes || s.group.role == 2

def Control.bytes (u : Control) : List Byte := leBytes 4 u.sigma.toNat ++ leBytes 4 u.jerk.toNat

/-- R441: a proposer's LIST message. -/
def State.sendList (s : State) (w : FrameWork) (l : ClosedList) : State :=
  let n := s.cfg 0x4001 1
  let seqs := (List.range l.k).flatMap (fun p => match l.places[p]? with
    | some e => (s.controlsOf w e.cid).flatMap Control.bytes
    | none => List.replicate (8 * n) 0#8)
  match s.refinerChip with
  | some d => s.sendSegments d 5 w.frame w.version (l.bytes ++ seqs)
  | none => s

/-- R211: IDs whose copies differ as a list closes from the block table are integrity faults. -/
def State.closingFaults (s : State) (w : FrameWork) : State :=
  if w.closesFromTable then (roundsOnly s.compatible s.stairK w w.mergedRounds).2.foldl (fun s c => s.integrityFault w.frame c) s else s

/-- R23, R218: closes a frame's list on this chip. -/
def State.closeFrame (s : State) (w : FrameWork) : State :=
  let s := if w.allMerged || (s.groupMode == 2 && s.group.role == 3) then s else s.choice w.frame 3 true
  let s := s.closingFaults w
  let w := (s.work? w.frame).getD w
  let s := s.cancelItems (fun i => i.frame == w.frame && (i.kind == .candidateBlock || i.kind == .candidateSingle))
  let s := s.retireChecks w
  let own := s.ownList w
  if s.groupMode == 2 then
    (if s.group.role == 3 then
      let lists := s.group.lists.filter (fun l => l.list.frame == w.frame)
      let expected := s.expectedProposers
      let ls := lists.map (·.list)
      let merged := mergeLists s.compatible s.stairK (natSum (expected.map (fun c => if lists.any (fun l => l.chip == c) then 0 else 1)) + ls.length) ls { own with chips := 0, roundDropped := false }
      let s := if merged.collective then (s.count 0x6002 0x0A 1).choice w.frame 8 true else s
      let s := s.writeClosed w.frame merged
      if w.sealed then s.setUpPlans w.frame merged else s
    else (s.writeClosed w.frame own).sendList w own)
  else (s.writeClosed w.frame own).setUpPlans w.frame own

/-- R439: the plans of a list that the REFINER merged before it held a version of the frame are set up once it does. -/
def State.plansWaiting (s : State) (frame : Nat) : State :=
  match s.work? frame with
  | some w => (match w.closed with | some l => if s.closes && w.plans.isEmpty then s.setUpPlans frame l else s | none => s)
  | none => s

/-- R441, R448: in a split group a list closes at its instant although no version of the frame has come: a proposer's is empty, and the REFINER's merges what has arrived. -/
def State.closesUnsealed (s : State) (w : FrameWork) : Bool := s.groupMode == 2 && !s.buildsMaps && w.frame == s.tb.curFrame

/-- When a frame's list must close (R23, R441). -/
def State.closeInstant (s : State) (w : FrameWork) : Nat :=
  w.tick + s.us 0x2014 1 - (if s.groupMode == 2 && s.group.role == 2 then s.us 0x8600 8 else 0)

/-- SELECTION_CLOSE: the list closes as the last round merges, or else at the REFINE offset; a refiner merges at its RefineStart. In replay there is no such instant: a refiner's inputs are
the lists it expects (R22, R376). -/
def execSelectionClose (s : State) : Host.Outcome State Fault Refusal :=
  .next (
    match s.frames.find? (fun w => (w.sealed || s.closesUnsealed w) && !w.speculative && w.closed.isNone && !w.landed) with
    | none => s
    | some w =>
      let collects := s.groupMode == 2 && s.group.role == 3
      if !s.closesList then s else
      if w.sealed && w.allMerged && !w.rebuildDue && !collects then s.closeFrame w
      else if s.det.unpaced then
        (if collects && s.expectedProposers.all (fun c => s.group.lists.any (fun l => l.chip == c && l.list.frame == w.frame)) then s.closeFrame w else s)
      else (s.atTick (s.closeInstant w)).closeFrame w)

/-! Steps of prepared plans (R362, R363) -/

/-- R249: the bytes of a plan point. -/
def PlanPoint.bytes (p : PlanPoint) : List Byte :=
  let q := p.pose
  leBytes 4 p.time ++ ([q.x, q.y, q.heading, q.speed, q.accel, q.curvature, q.art1, q.art2].flatMap (fun w => leBytes 4 w.toNat))
    ++ leBytes 4 (bitIf p.stopped 0 + bitIf p.limited 1 + bitIf p.beyond 2) ++ List.replicate 8 0#8

/-- R251: the flag byte of a plan; `substituted` is SENTRY_SUBSTITUTED. -/
def Plan.flags (p : Plan) (substituted : Bool) : Nat :=
  bitIf p.truncated 0 + bitIf p.regularised 1 + bitIf p.unrefined 2 + bitIf p.speedLimited 3 + bitIf substituted 4 + bitIf p.staleUsed 5
    + bitIf ((p.points.getD []).any (·.beyond)) 6 + bitIf p.iterLimit 7

/-- The REFINE step of a place retires, once, when its plan's content is final: when it has been scaled in time, or at the Landing. -/
def State.retireRefine (s : State) (frame pos : Nat) : State :=
  match (s.work? frame).bind (fun w => w.plan? pos) with
  | some p =>
    if p.pos < 64 && p.ready then s.recordOnce frame 4 0 pos (p.controls.flatMap Control.bytes ++ (p.points.getD []).flatMap PlanPoint.bytes ++ leBytes 1 (p.flags false)) else s
  | none => s

/-- The RECHECK step of a plan retires, once, when its verdict is final: in STRICT mode, where no later version of the frame comes (R86), when the recheck ends; else at the Landing. -/
def State.retireRecheck (s : State) (frame pos : Nat) : State :=
  match s.work? frame with
  | none => s
  | some w =>
    match (w.plan? pos).bind (·.verdict) with
    | some (v, code) => if w.due == some v then s.recordOnce frame 5 0 pos (leBytes 1 code) else s
    | none => s

/-! The choice (R245) -/

/-- How a plan stands against the version R88 names, if it is built: passed, failed, or neither yet (R244). -/
def Plan.verdictAt (p : Plan) (version : Option Nat) : Option Bool :=
  if p.failed then some false
  else match p.verdict with
    | some (v, code) => if version == some v then some (code == 0) else none
    | none => none

/-- R245: the chosen plan of a ladder. -/
def choose (version : Option Nat) : List Plan → Option Nat
  | [] => none
  | p :: ps =>
    match p.verdictAt version with
    | some true => some p.pos
    | some false => choose version ps
    | none => none

/-- R245: the choice is made anew, and a choice is presented to the Newel with the prepared fall-back plans. -/
def State.present (s : State) (frame : Nat) : State :=
  s.modWork frame (fun w =>
    match choose w.due w.plans with
    | none => { w with chosen := none }
    | some c =>
      { w with chosen := some c,
               plans := w.plans.map (fun p => if p.pos == c || ((p.pos == 64 || p.pos == 65) && p.points.isSome) then { p with presented := true } else p) })

/-! References (R226) -/

/-- R226: (D − T) / 128 of one sphere and layer, exactly, times 2^156; none where the map cannot be read. -/
def slackAt (m : MapView) (c : CheckCfg) (cover : List Nat) (l : Nat) (r : F32) (p : F32 × F32) : Option Int :=
  match m.locate p.1 p.2 with
  | none => none
  | some pl => (m.dist l pl cover).map (fun d => d * fix32One - f32Fix (pointThreshold r (c.margin l)))

/-- R226: the corridor slack of a pose; none where the spec gives no value (no present sphere, no OCCUPANCY layer, or a tile that cannot be read). -/
def poseSlack (m : MapView) (c : CheckCfg) (b : Body) (spheres : List Sphere) (p : Pose) (t : Nat) : Option F32 :=
  let all := (placeSpheres b spheres p).flatMap (fun x => m.occLayers.map (fun l => slackAt m c (sliceCover t t) l x.1 x.2))
  match all with
  | [] => none
  | a :: rest =>
    (rest.foldl (fun (acc : Option Int) y => match acc, y with | some u, some v => some (min u v) | _, _ => none) a).map
      (fun v => if v < 0 then f32Zero else BitVec.ofNat 32 (fpOfScaled fmt32 .rdn v (-156)))

/-- Answers the unstated slacks of a reference from Config (site 1), by frame, place and pose, which two clean runs hold equal (R364). -/
def fillSlack (frame pos : Nat) (xs : List (Option F32)) : List F32 :=
  xs.zipIdx.map (fun x => x.1.getD ((Config.openValue 1 (65536 * frame + 256 * pos + x.2)).truncate 32))

/-- R237: a QP that never starts: its entry proceeds unrefined. -/
def State.neverStarted (s : State) (frame pos : Nat) : State :=
  let s := s.modPlan frame pos (fun p => { p with qp := { p.qp with outcome := .notStarted }, truncated := true, unrefined := true, controls := p.applied, ready := true })
  (((s.count 0x6110 6 1).frameStatus frame 0x14)).choice frame 4 true

/-- REFERENCE: a Gallery engine forms a place's reference. -/
def execReference (engine : Nat) (s : State) : Host.Outcome State Fault Refusal :=
  .next (
    match s.servingKind engine .reference with
    | none => s
    | some i =>
      let s := s.commitItem i.serial
      match s.work? i.frame with
      | none => s
      | some w =>
        match (if i.dropped then none else w.plan? i.arg) with
        | none => s
        | some p =>
          let m := s.mapView (s.versionTiles i.version false)
          let q := s.formUnrefined w p
          let step := 1000 * s.cfg 0x4001 2
          let slack := fillSlack w.frame p.pos ((q.reference.zipIdx.drop 1).map (fun x => poseSlack m s.checkCfg s.body s.spheres x.1 (x.2 * step)))
          let s := s.modPlan w.frame p.pos (fun _ => { q with referenced := true, slack := slack, ready := false })
          if q.failed then s.present w.frame
          else if w.solverStopped then s.neverStarted w.frame p.pos
          else s.addItem { kind := .qpInstance, cls := 0, flow := none, spec := false, replay := false, pinned := false, lane := p.pos, frame := w.frame,
                           arg := p.pos, version := 0, dispatcher := 17, release := none })

/-! The quadratic program (R227 to R238) -/

/-- R229: the corridor bounds c_i. -/
def State.corridor (s : State) (p : Plan) : List F32 := p.slack.map (fun r => f32Min (s.cfgF 0x6100 0x0C) (f32Mul (s.cfgF 0x6100 0x0B) r))

def Pose.words (p : Pose) : List Word := [p.x, p.y, p.heading, p.art1, p.art2, p.speed, p.accel, p.curvature]

/-- R227 to R229: the QP of a place, step by step. -/
def State.qpProblem (s : State) (p : Plan) : List QpStep :=
  let wx := (List.range (6 + s.cfg 0x4000 2)).map (fun k => s.cfgF 0x6101 (k + 1))
  let wu := [s.cfgF 0x6102 1, s.cfgF 0x6102 2]
  let bounds : List (Option (F32 × F32)) := (s.corridor p).map (fun c => if s.cfgB 0x6100 0x0A then some (c, s.cfgF 0x6100 0x0D) else none)
  qpSteps s.vehicle wx wu (s.cfgF 0x6100 0x0E) p.reference p.applied bounds

/-- R436: the dictionary encoding of a run of numeric objects. -/
def State.encodeRun (s : State) (idx lo hi : Nat) : List Byte :=
  (List.range (hi + 1 - lo)).flatMap (fun k => match objFind idx (lo + k) with
    | some r => digestEncoding r (s.dict.activeVal idx (lo + k))
    | none => [])

/-- R234: the structure signature. -/
def State.qpSignature (s : State) : Nat :=
  let t := s.cfg 0x4000 2
  sm3First64 (leBytes 1 (6 + t) ++ leBytes 1 2 ++ leBytes 2 (s.cfg 0x4001 1) ++ leBytes 2 2 ++ leBytes 2 (7 + bitIf (s.cfgB 0x6100 0x0A) 3) ++ leBytes 4 (s.cfg 0x4001 2)
    ++ leBytes 1 t ++ leBytes 1 1 ++ leBytes 2 0 ++ leBytes 8 (sm3First64 (s.encodeRun 0x4000 1 0x1A)) ++ leBytes 8 0)

/-- R236: the cache entry of a place after its QP ends: the iterate kept, or none. The cache is kept in the order of places, whatever the order in which QPs end (R366). -/
def State.cacheIterate (s : State) (place : Nat) (kept : Option (List QpPart)) : State :=
  let entry : List WarmEntry := match kept with | some it => [⟨place, s.qpSignature, it⟩] | none => []
  { s with pub := { s.pub with warm := s.pub.warm.filter (fun e => decide (e.place < place)) ++ entry ++ s.pub.warm.filter (fun e => decide (place < e.place)) } }

/-- R238: the refined sequence of an iterate: ū + Δu, which is ū before the first iteration. -/
def refined (p : Plan) : List Control :=
  if p.qp.iterations == 0 then p.applied
  else List.zipWith (fun (u : Control) (q : QpPart) => ⟨f32Add u.sigma ((q.du[0]?).getD f32Zero), f32Add u.jerk ((q.du[1]?).getD f32Zero)⟩) p.applied p.qp.iterate

/-- R237, R238: a QP that started has ended. -/
def State.endQp (s : State) (frame pos : Nat) (outcome : QpOutcome) : State :=
  match s.work? frame with
  | none => s
  | some w =>
    match w.plan? pos with
    | none => s
    | some p =>
      let s := s.cacheIterate pos (if outcome == .numeric then none else some p.qp.iterate)
      let none' := outcome == .infeasible || outcome == .numeric
      let us := if none' then p.applied else refined p
      let rejected := !none' && (expandControls s.vehicle p.entry.cid w.start.pose us).limitCode != 0
      let s := s.modPlan frame pos (fun p => { p with
        qp := { p.qp with outcome := outcome }, ready := true, controls := if none' || rejected then p.applied else us, unrefined := none' || rejected,
        truncated := outcome == .deadline, iterLimit := outcome == .iterationLimit })
      let s := if none' then (s.count 0x6110 7 1).frameStatus frame 0x17 else s
      let s := if outcome == .iterationLimit then (s.count 0x6110 5 1).frameStatus frame 0x13 else s
      let s := if outcome == .deadline then ((s.count 0x6110 6 1).frameStatus frame 0x14).choice frame 4 true else s
      if rejected then (s.count 0x6110 8 1).frameStatus frame 0x18 else s

/-- QP_INSTANCE: the QP of a place starts from iterate 0, warm or cold (R235). -/
def execQpInstance (place : Nat) (s : State) : Host.Outcome State Fault Refusal :=
  .next (
    match s.atUnit 17 .qpInstance (fun i => i.arg == place && !i.dropped) with
    | none => s
    | some i =>
      match (s.work? i.frame).bind (fun w => w.plan? place) with
      | none => s
      | some p =>
        if p.qp.outcome != .waiting then s
        else
          let sig := s.qpSignature
          let entry := if s.cfgB 0x6100 8 then s.pub.warm.find? (fun e => e.place == place) else none
          let (iterate, s) : List QpPart × State := match entry with
            | none => ((s.qpProblem p).map coldPart, s)
            | some e =>
              if e.signature == sig then (e.iterate.map (warmPart (s.cfgF 0x6100 9)), s)
              else ((s.qpProblem p).map coldPart, ((s.cacheIterate place none).count 0x6110 4 1).frameStatus i.frame 0x12)
          let s := s.modPlan i.frame place (fun p => { p with qp := { p.qp with outcome := .running, started := true, iterations := 0, pivots := 0, iterate := iterate } })
          if p.qp.started then s else s.count 0x6110 1 1)

/-- R230, R237: how a QP stands after its k-th iteration, at an iterate. -/
def State.qpTest (s : State) (w k : Nat) (problem : List QpStep) (it : List QpPart) : QpOutcome :=
  let (rp, rd, mu) := qpResiduals w problem it
  if !it.all QpPart.finite then .numeric
  else if f32Le rp (s.cfgF 0x6100 5) && f32Le rd (s.cfgF 0x6100 6) && f32Le mu (s.cfgF 0x6100 7) then .converged
  else if 10 < k ∧ f32Le mu (s.cfgF 0x6100 7) ∧ f32Lt (f32Mul 0x447A0000#32 (s.cfgF 0x6100 5)) rp then .infeasible
  else if s.cfg 0x6100 3 ≤ k then .iterationLimit
  else .running

/-- QP_ITERATION: one iteration of a running QP. -/
def execQpIteration (place : Nat) (s : State) : Host.Outcome State Fault Refusal :=
  .next (
    match s.atUnit 17 .qpInstance (fun i => i.arg == place && !i.dropped) with
    | none => s
    | some i =>
      match s.work? i.frame with
      | none => s
      | some w =>
        match w.plan? place with
        | none => s
        | some p =>
          if p.qp.outcome != .running then s
          else
            let problem := s.qpProblem p
            let k := p.qp.iterations + 1
            let r := qpIterate w.qpLanes (s.cfgF 0x6100 4) problem p.qp.iterate
            let s := if r.regularised == 0 then s else (s.count 0x6110 3 r.regularised).frameStatus w.frame 0x11
            let s := s.modPlan w.frame place (fun p => { p with regularised := p.regularised || decide (0 < r.regularised), qp := { p.qp with pivots := p.qp.pivots + r.regularised } })
            match r.next with
            | none => (s.endQp w.frame place .numeric).commitItem i.serial
            | some it =>
              let s := (s.modPlan w.frame place (fun p => { p with qp := { p.qp with iterations := k, iterate := it } })).count 0x6110 2 1
              match s.qpTest w.qpLanes k problem it with
              | .running => s
              | outcome => (s.endQp w.frame place outcome).commitItem i.serial)

/-- SOLVER_STOP: every QP running or waiting stops (R237); there is none in replay (R376). -/
def execSolverStop (s : State) : Host.Outcome State Fault Refusal :=
  .next (
    match s.frames.find? (fun w => w.closed.isSome && !w.landed && !w.solverStopped) with
    | none => s
    | some w =>
      if s.det.unpaced then s
      else
        let s := s.atTick (w.tick + s.us 0x2016 1 - s.us 0x6100 0x0F)
        let s := s.modWork w.frame (fun w => { w with solverStopped := true })
        let s := w.plans.foldl (fun s p =>
          if p.qp.outcome == .running then s.endQp w.frame p.pos .deadline
          else if p.referenced && p.qp.outcome == .waiting && !p.failed then s.neverStarted w.frame p.pos
          else s) s
        s.cancelItems (fun i => i.kind == .qpInstance && i.frame == w.frame))

/-! Time scaling (R239 to R242) -/

def f64Eq (a b : F64) : Bool := fpEq fmt64 a.toNat b.toNat

/-- R240: the cap of a node. -/
def speedCap (comfort : F64) (p : Pose) : F64 :=
  let v := f64OfF32 p.speed
  if f32Eq p.curvature f32Zero then v else f64Min v (f64Sqrt (f64Div comfort (f64Abs (f64OfF32 p.curvature))))

/-- R240: the backward loop, over (cap_j, d_j). -/
def backPass (decel : F64) : List (F64 × F64) → List F64
  | [] => []
  | (c, d) :: rest =>
    match backPass decel rest with
    | [] => [c]
    | w :: ws => f64Min c (f64Sqrt (f64Add (f64Mul w w) (f64Mul (f64Mul (f64OfInt 2) decel) d))) :: w :: ws

/-- R240: the forward loop, from w_{j−1} and d_{j−1} over (w_j, d_j). -/
def forwardPass (accel : F64) : F64 → F64 → List (F64 × F64) → List F64
  | _, _, [] => []
  | w, d, (x, e) :: rest =>
    let y := f64Min x (f64Sqrt (f64Add (f64Mul w w) (f64Mul (f64Mul (f64OfInt 2) accel) d)))
    y :: forwardPass accel y e rest

/-- R240: the velocity pass over the nodes. -/
def velocityPass (comfort accel decel : F64) (nodes : List (Pose × F32)) : List F64 :=
  let ds := nodes.map (fun x => f64OfF32 x.2)
  match backPass decel ((nodes.map (fun x => speedCap comfort x.1)).zip ds), nodes, ds with
  | _ :: ws, n0 :: _, d0 :: ds => let v0 := f64OfF32 n0.1.speed; v0 :: forwardPass accel v0 d0 (ws.zip ds)
  | _, _, _ => []

/-- R241 step 1: the scaled times, over (w_j, d_j). -/
def scaledTimes (h : F64) : F64 → List (F64 × F64) → List F64
  | _, [] => []
  | t, [_] => [t]
  | t, (w, d) :: (x, e) :: rest =>
    let dt := if f64Eq d f64Zero then h else f64Div (f64Mul (f64OfInt 2) d) (f64Add w x)
    t :: scaledTimes h (f64Add t dt) ((x, e) :: rest)

/-- a + f (b − a) in FP64. -/
def lerp64 (a b f : F64) : F64 := f64Add a (f64Mul f (f64Sub b a))

/-- R241 step 2: target speed and curvature at a scaled time, over (t′, w, κ). -/
def targetAt (tau : F64) : List (F64 × F64 × F64) → F64 × F64
  | [] => (f64Zero, f64Zero)
  | [(_, w, k)] => (w, k)
  | (t, w, k) :: (u, x, l) :: rest =>
    if f64Lt tau u then let f := f64Div (f64Sub tau t) (f64Sub u t); (lerp64 w x f, lerp64 k l f)
    else targetAt tau ((u, x, l) :: rest)

def f64OfRatio (n : Int) (d : Nat) : F64 := BitVec.ofNat 64 (fpOfRatio fmt64 .rne n d)

/-- R241: the derived sequence's controls, step by step. -/
def derivedControl (us : Nat) (targets : List (F64 × F64 × F64)) (k : Nat) (p : Pose) : Control :=
  let dt := f64OfRatio us 1000000
  let (w, kap) := targetAt (f64OfRatio ((k + 1) * us : Nat) 1000000) targets
  let a := f64OfF32 p.accel
  { sigma := f32OfF64 (f64Div (f64Sub kap (f64OfF32 p.curvature)) dt),
    jerk := f32OfF64 (f64Div (f64Mul (f64OfInt 2) (f64Sub (f64Sub w (f64OfF32 p.speed)) (f64Mul a dt))) (f64Mul dt dt)) }

/-- R242: plan point p, `limited` by the index of the earlier node. -/
def pointAt (us substeps interval : Nat) (nodes : List (Pose × F32)) (limited : Nat → Bool) (p : Nat) : PlanPoint :=
  let t := p * interval
  let j := t * substeps / us
  let last := nodes.length - 1
  let j := min j last
  let a := ((nodes[j]?).getD (Pose.zero, 0#32)).1
  let pose : Pose :=
    if j == last then a
    else
      let b := ((nodes[j + 1]?).getD (Pose.zero, 0#32)).1
      let f := f64OfRatio (t * substeps % us : Nat) us
      let x (g : Pose → F32) : F32 := f32OfF64 (lerp64 (f64OfF32 (g a)) (f64OfF32 (g b)) f)
      { x := x (·.x), y := x (·.y), heading := x (·.heading), art1 := x (·.art1), art2 := x (·.art2), speed := x (·.speed), accel := a.accel, curvature := x (·.curvature) }
  { time := t, pose := pose, stopped := f32Eq pose.speed f32Zero, limited := limited j, beyond := decide (8000000 < t) }

/-- The result of time scaling: controls, points, whether it was slowed, and whether its expansion was rejected. -/
structure Scaled where
  controls : List Control
  points : List PlanPoint
  slowed : Bool
  failed : Bool
  deriving DecidableEq, Repr

/-- R239 to R242. -/
def State.timeScale (s : State) (w : FrameWork) (p : Plan) : Scaled :=
  let v := s.vehicle
  let us := s.cfg 0x4001 2
  let first := expandControls v p.entry.cid w.start.pose p.controls
  let speeds := first.nodes.map (fun x => f64OfF32 x.1.speed)
  let ws := velocityPass (f64OfF32 (s.cfgF 0x6200 3)) (f64OfF32 (s.cfgF 0x6200 4)) (f64OfF32 (s.cfgF 0x6200 5)) first.nodes
  let lowered := (ws.zip speeds).map (fun x => f64Lt x.1 x.2)
  let slowed := (ws.zip speeds).any (fun x => !f64Eq x.1 x.2)
  let points (e : Expansion) (lim : Nat → Bool) : List PlanPoint := (List.range (s.cfg 0x6200 1)).map (pointAt us v.substeps (s.cfg 0x6200 2) e.nodes lim)
  if first.limitCode != 0 then ⟨p.controls, [], false, true⟩
  else if !slowed then ⟨p.controls, points first (fun _ => false), false, false⟩
  else
    let ts := scaledTimes (f64OfF32 v.h) f64Zero (ws.zip (first.nodes.map (fun x => f64OfF32 x.2)))
    let targets := ts.zip (ws.zip (first.nodes.map (fun x => f64OfF32 x.1.curvature)))
    let (e, controls) := expandWith v p.entry.cid w.start.pose (derivedControl us targets)
    if e.limitCode != 0 then ⟨controls, [], true, true⟩
    else ⟨controls, points e (fun j => (lowered[j]?).getD false), true, false⟩

/-- R267, R269: the recheck item of a plan. -/
def State.addRecheck (s : State) (frame pos : Nat) : State :=
  let lane := (16 * pos + 8) % 512
  s.addItem { kind := .recheck, cls := 0, flow := some (0x1080 + pos), spec := false, replay := false, pinned := false, lane := lane, frame := frame, arg := pos,
              version := 0, dispatcher := s.homeOf lane, release := none }

/-- R244: a recheck of a plan is still to give its verdict. -/
def State.recheckDue (s : State) (frame pos : Nat) : Bool := s.disp.items.any (fun i => i.kind == .recheck && i.frame == frame && i.arg == pos && !i.committed)

/-- TIME_SCALING: a time-scaling unit brings a prepared plan to the output rate and dispatches its recheck. -/
def execTimeScaling (place : Nat) (s : State) : Host.Outcome State Fault Refusal :=
  .next (
    match s.frames.find? (fun w => w.closed.isSome && !w.landed && w.plans.any (fun p => p.pos == place && p.ready && p.points.isNone && !p.failed)) with
    | none => s
    | some w =>
      match w.plan? place with
      | none => s
      | some p =>
        let r := s.timeScale w p
        let s := if r.slowed then (s.count 0x6110 9 1).frameStatus w.frame 0x1E else s
        let s := s.modPlan w.frame place (fun p => { p with controls := r.controls, points := if r.failed then none else some r.points, speedLimited := r.slowed, failed := r.failed })
        let s := s.retireRefine w.frame place
        if r.failed then s.present w.frame else s.addRecheck w.frame place)

/-! The recheck (R243, R244) -/

/-- R243: the tests of a plan point: every present sphere is placed, and comes under the pointwise test, then, after point 0, under the swept and bisection tests of the segment that ends
there, and then under the tests of R184. -/
def recheckTests (m : MapView) (c : CheckCfg) (b : Body) (spheres : List Sphere) (before : Option (Pose × Nat)) (p : Pose) (t : Nat) (st : Probe) : Nat × Probe :=
  let here := placeSpheres b spheres p
  let cover := sliceCover t t
  if here.any (fun x => !(f32Finite x.2.1 && f32Finite x.2.2)) then (7, st)
  else match sphereLoop (fun (x : F32 × (F32 × F32)) st => pointTest m c cover x.1 x.2 st) here st with
  | (0, st) =>
    let (code, st) := match before with
      | some (q, tq) =>
        sphereLoop (fun (x : (F32 × (F32 × F32)) × (F32 × (F32 × F32))) st => sweptTest m c x.1.1 x.1.2 x.2.2 tq t st) ((placeSpheres b spheres q).zip here) st
      | none => (0, st)
    if code != 0 then (code, st) else sphereLoop (fun (x : F32 × (F32 × F32)) st => areaTest m c cover x.2 st) here st
  | (code, st) => (code, st)

/-- R243: the points of a plan, from one on. -/
def recheckPoints (m : MapView) (c : CheckCfg) (b : Body) (spheres : List Sphere) : List PlanPoint → Option (Pose × Nat) → Probe → Nat × Probe
  | [], _, st => (0, st)
  | q :: qs, before, st =>
    let t := 1000 * q.time
    match recheckTests m c b spheres before q.pose t st with
    | (0, st) => recheckPoints m c b spheres qs (some (q.pose, t)) st
    | (code, st) => (code, st)

/-- RECHECK: a Gallery engine rechecks a prepared plan. -/
def execRecheck (engine : Nat) (s : State) : Host.Outcome State Fault Refusal :=
  .next (
    match s.servingKind engine .recheck with
    | none => s
    | some i =>
      let s := s.commitItem i.serial
      match s.work? i.frame with
      | none => s
      | some w =>
        match (if i.dropped then none else w.plan? i.arg) with
        | none => s
        | some p =>
          match p.points with
          | none => s
          | some points =>
            let staleLayers := match s.world.versions.find? (fun v => v.number == i.version && !v.spec) with | some v => v.staleLayers | none => 0
            let stale := (staleLayers &&& s.cfg 0x5010 0x12) != 0
            let (code, st) := if stale && p.pos != 65 then (8, Probe.zero)
              else recheckPoints (s.mapView (s.versionTiles i.version false)) s.checkCfg s.body s.spheres points none Probe.zero
            let s := if stale then s.raiseOnce w.frame 0x0503 else s
            let s := if st.unreadable then (s.raiseOpen w.frame 0x0504).disturb w.frame else s
            let s := s.modPlan w.frame p.pos (fun p => { p with verdict := some (i.version, code), staleUsed := stale && p.pos == 65 })
            let s := if code != 0 then (s.count 0x6301 5 1).frameStatus w.frame 0x19 else s
            let s := if s.strict then s.retireRecheck w.frame p.pos else s
            let s := if i.version != w.version && !s.recheckDue w.frame p.pos then (s.addRecheck w.frame p.pos).count 0x6301 6 1 else s
            s.present w.frame)

end Sys2Proof.Machine
end

