-- ==== Sys2Proof/Machine/Sentry.lean ====
section
/-!
DEFINITION. The sentry's raster and its check of a presented plan (15_safety.md R472 to R474).
-/
namespace Sys2Proof.Machine
open Sys2Proof

/-- What the sentry's arithmetic takes from the configuration. -/
structure SentryCfg where
  near : F32
  streams : List StreamCfg
  agentMargin : F64
  reach : F64
  margin : F64
  horizon : F32
  front : List F64
  rear : List F64
  half : List F64
  body : Body
  deriving Repr

def State.sentryCfg (s : State) : SentryCfg :=
  let f (idx sub : Nat) : F64 := f64OfF32 (s.cfgF idx sub)
  let three (sub : Nat) : List F64 := (List.range 3).map (fun u => f 0x9200 (sub + u))
  { near := s.cfgF 0x3200 7, streams := s.buildCfg.streams, agentMargin := f 0x9200 6, reach := f 0x9200 7, margin := f 0x9200 5, horizon := s.cfgF 0x9200 4,
    front := three 0x0A, rear := three 0x0D, half := three 0x10, body := s.body }

/-- R472: 0.354 m. -/
def sentryHalfCell : F64 := f64OfRatio 354 1000

/-- R472: the centre of a raster cell. -/
def SentryCfg.centre (c : SentryCfg) (i j : Nat) : Pt :=
  (f64Add (f64Neg (f64OfF32 c.near)) (f64Mul (f64Add (f64OfInt i) f64Half) f64Half), f64Add (f64OfInt (-64)) (f64Mul (f64Add (f64OfInt j) f64Half) f64Half))

/-- R472: the shapes of one mode of an agent in the window [t0, t1]. -/
def SentryCfg.shapes (c : SentryCfg) (pl : Placement) (landing : Nat) (whole : Bool) (a : Agent) (m : AgentMode) (t0 t1 : F64) : List Shape :=
  let step := f64OfF32 a.step
  let tau (k : Nat) : F64 := f64Add (f64Seconds ((a.time : Int) - (landing : Int))) (f64Mul (f64OfInt k) step)
  let ss := modeSamples a m
  let foot (q : F64 × F64 × F64) : List Pt := footprint (pl.toPlan (q.1, q.2.1)) (f64Sub q.2.2 pl.heading) (f64OfF32 a.length) (f64OfF32 a.width)
  let segs := (ss.zip (ss.drop 1)).zipIdx.filterMap fun ((p, q), k) =>
    if whole || (f64Le (tau k) t1 && f64Le t0 (tau (k + 1))) then some { pts := foot p ++ foot q, margin := f64Add c.agentMargin sentryHalfCell : Shape } else none
  let last := ss.length - 1
  let reach := match ss.getLast? with
    | some q =>
      if f64Lt (tau last) t1 then
        [{ pts := foot q
           margin := f64Add (f64Add c.agentMargin (f64Mul (f64Add (f64OfF32 a.speed) c.reach) (f64Sub t1 (f64Max (tau last) t0)))) sentryHalfCell : Shape }]
      else []
    | none => []
  segs ++ reach

/-- The agents of a scene in the order of R112. -/
def SentryScene.agents (sc : SentryScene) : List (Nat × Agent) :=
  liveAgents { frame := sc.frame, landing := sc.landing, start := sc.start, tiles := [], agents := sc.sources.map (fun x => (x.stream, x.agents)), segments := [] }

/-- R472: a raster cell is occupied in a slice. -/
def SentryCfg.occupied (c : SentryCfg) (sc : SentryScene) (slice i j : Nat) : Bool :=
  let p := c.centre i j
  let pl := sc.start.placement
  let raster := sc.sources.any (fun src => match c.streams.find? (fun st => st.number == src.stream) with
    | some st => (sourceCells st src.tiles pl 1 p).any (fun v => v == some 1)
    | none => false)
  raster || sc.agents.zipIdx.any (fun ((_, a), k) =>
    let past := decide (4096 ≤ k)
    let (t0, t1) := if past then (f64Zero, f64OfInt 8) else (f64OfInt (2 * (slice : Int)), f64OfInt (2 * (slice : Int) + 2))
    a.modes.any (fun m => (c.shapes pl sc.landing past a m t0 t1).any (fun sh => f64Le (hullDist p sh.pts) sh.margin)))

/-- A placed rectangle of a unit: axle centre and heading. -/
structure UnitRect where
  unit : Nat
  x : F64
  y : F64
  heading : F64
  deriving Repr

/-- R473: the rectangles of the present units at a point: their axle centres and headings as R173 computes them. -/
def SentryCfg.rects (c : SentryCfg) (p : Pose) : List UnitRect :=
  let th1 := f32Sub p.heading p.art1
  let th2 := f32Sub th1 p.art2
  ((axles c.body p).zip [p.heading, th1, th2]).zipIdx.map (fun x => ⟨x.2, f64OfF32 x.1.1.x, f64OfF32 x.1.1.y, f64OfF32 x.1.2⟩)

def SentryCfg.dims (c : SentryCfg) (u : Nat) : F64 × F64 × F64 := ((c.front[u]?).getD f64Zero, (c.rear[u]?).getD f64Zero, (c.half[u]?).getD f64Zero)

/-- The corners of a rectangle. -/
def SentryCfg.corners (c : SentryCfg) (r : UnitRect) : List Pt :=
  let (f, b, h) := c.dims r.unit
  let co := f64Cos r.heading; let si := f64Sin r.heading
  [(f, h), (f, f64Neg h), (f64Neg b, h), (f64Neg b, f64Neg h)].map fun (u, w) =>
    (f64Add r.x (f64Sub (f64Mul u co) (f64Mul w si)), f64Add r.y (f64Add (f64Mul u si) (f64Mul w co)))

/-- The distance from a point to a rectangle. -/
def SentryCfg.rectDist (c : SentryCfg) (r : UnitRect) (p : Pt) : F64 :=
  let (f, b, h) := c.dims r.unit
  let co := f64Cos r.heading; let si := f64Sin r.heading
  let d := ptSub p (r.x, r.y)
  let u := f64Add (f64Mul d.1 co) (f64Mul d.2 si)
  let w := f64Sub (f64Mul d.2 co) (f64Mul d.1 si)
  let du := f64Max f64Zero (f64Max (f64Sub (f64Neg b) u) (f64Sub u f))
  let dw := f64Max f64Zero (f64Sub (f64Abs w) h)
  f64Sqrt (f64Add (f64Mul du du) (f64Mul dw dw))

/-- R473: a rectangle grown by e reaches outside the raster. -/
def SentryCfg.outside (c : SentryCfg) (r : UnitRect) (e : F64) : Bool :=
  let xMin := f64Neg (f64OfF32 c.near)
  (c.corners r).any (fun p =>
    f64Lt (f64Sub p.1 e) xMin || f64Le (f64Add xMin (f64OfInt 128)) (f64Add p.1 e) || f64Lt (f64Sub p.2 e) (f64OfInt (-64)) || f64Le (f64OfInt 64) (f64Add p.2 e))

/-- R473: the cover of a segment, in µs. -/
def sentryCover (ta tb : Nat) : List Nat :=
  let first := min 3 (ta / 2000000)
  let last := min 3 (max (ta / 2000000) ((tb + 1999999) / 2000000 - 1))
  (List.range (last - first + 1)).map (· + first)

/-- R473: a rectangle grown by e meets an occupied cell of a cover. -/
def SentryCfg.hit (c : SentryCfg) (sc : SentryScene) (cover : List Nat) (r : UnitRect) (e : F64) : Bool :=
  (List.range 65536).any (fun k =>
    f64Le (c.rectDist r (c.centre (k % 256) (k / 256))) (f64Add e sentryHalfCell) && cover.any (fun sl => c.occupied sc sl (k % 256) (k / 256)))

/-- R473: the test of one segment: whether it disagrees, and whether for reaching outside the raster. -/
def SentryCfg.segment (c : SentryCfg) (sc : SentryScene) (p q : PlanPoint) (alone : Bool) : Bool × Bool :=
  let cover := sentryCover p.time q.time
  let one (x : UnitRect × UnitRect) : Bool × Bool :=
    let d := ((c.corners x.1).zip (c.corners x.2)).foldl (fun a y => f64Max a (ptDist y.1 y.2)) f64Zero
    let e := f64Add c.margin (f64Mul d f64Half)
    let rs := if alone then [x.1] else [x.1, x.2]
    let out := rs.any (fun r => c.outside r e)
    (out || rs.any (fun r => c.hit sc cover r e), out)
  let units := ((c.rects p.pose).zip (c.rects q.pose)).map one
  (units.any (·.1), units.any (·.2))

/-- R473: the points of a plan in order, from point k: the first that disagrees, with whether it reached outside the raster. -/
def SentryCfg.check (c : SentryCfg) (sc : SentryScene) : List PlanPoint → Nat → Option (Nat × Bool)
  | [], _ => none
  | p :: ps, k =>
    if decide ((p.time : Int) * fix32One ≤ 1000000 * f32Fix c.horizon) then
      let r := c.segment sc p (ps.headD p) ps.isEmpty
      if r.1 then some (k, r.2) else c.check sc ps (k + 1)
    else none

/-- SENTRY_CHECK: the Newel checks a presented plan against its raster. -/
def execSentryCheck (place : Nat) (s : State) : Host.Outcome State Fault Refusal :=
  .next (
    match s.newel.scene with
    | none => s
    | some sc =>
      match s.work? sc.frame with
      | none => s
      | some w =>
        match w.plan? place with
        | none => s
        | some p =>
          if w.landed || !p.presented || p.sentry.isSome || !s.cfgB 0x9200 1 then s
          else
            let s := s.count 0x9202 1 1
            match s.sentryCfg.check sc (p.points.getD []) 0 with
            | none => s.modPlan w.frame place (fun p => { p with sentry := some true, sentryPoint := 0 })
            | some (k, out) =>
              let s := s.modPlan w.frame place (fun p => { p with sentry := some false, sentryPoint := k })
              if out then s.count 0x9202 5 1 else s)

end Sys2Proof.Machine
end

