-- ==== Sys2Proof/Machine/Budget.lean ====
section
/-!
DEFINITION. Budget fit (02_dictionary.md R55, 15_safety.md R466): the worst-case charges of R120, R148, R196 and R469 against the frame plan of a view, with the units in service.
-/
namespace Sys2Proof.Machine
open Sys2Proof

/-- R53: a view of the configuration: what each object holds in it. -/
structure View where
  num : Nat → Nat → Nat
  blob : Nat → Nat → List Byte

/-- The active set. -/
def State.activeView (s : State) : View := ⟨s.cfg, s.cfgBytes⟩
/-- The post-commit view. -/
def State.stagedView (s : State) : View := ⟨fun i j => (s.dict.val true i j).toNum, fun i j => (s.dict.val true i j).toBytes⟩

def View.f (v : View) (idx sub : Nat) : F32 := BitVec.ofNat 32 (v.num idx sub)
def View.on (v : View) (idx sub : Nat) : Bool := v.num idx sub != 0
/-- The layers in use of a view, and those of OCCUPANCY type. -/
def View.layers (v : View) : List Nat := (List.range 16).filter (fun l => v.num (0x3210 + l) 1 != 0)
def View.sliced (v : View) (l : Nat) : Bool := v.on (0x3210 + l) 2

/-- R469: a cost of the fixed-unit table. -/
def fixedCost (sub : Nat) : Nat := (objDefault 0x9100 sub).toNum

/-- R120: the charge of a version built whole, in half-nanoseconds. -/
def View.buildCharge (v : View) : Nat :=
  let all := v.layers
  let dyn := all.filter v.sliced
  let job (n : Nat) : Nat := fixedCost 4 * n
  512 * (job all.length + (if dyn.isEmpty then 0 else 32 * job dyn.length)) + 4 * job all.length

/-- R195: the clocks of a query that needs the union of some covers: each OCCUPANCY layer is one field, or where it is time-sliced one for each slice; eight fields a clock. -/
def View.coverClocks (v : View) (covers : List (List Nat)) : Nat :=
  let occ := v.layers.filter (fun l => v.num (0x3210 + l) 1 == 1)
  let slices := (covers.flatten.eraseDups).length
  (natSum (occ.map (fun l => if v.sliced l then slices else 1)) + 7) / 8

/-- R195: the clocks of the query at pose i of a run: the covers of its own instant, of the segment that ends there and of the one that starts there, where there is one. -/
def View.poseClocks (v : View) (stepNs poses i : Nat) : Nat :=
  let t := i * stepNs
  v.coverClocks ([sliceCover t t] ++ (if i == 0 then [] else [sliceCover (t - stepNs) t]) ++ (if i + 1 < poses then [sliceCover t (t + stepNs)] else []))

/-- R182, R195: the clocks of the midpoint queries of a window bisected to some further levels: each midpoint is queried over the covers of its two half-windows. -/
def View.bisectClocks (v : View) : Nat → Nat → Nat → Nat
  | 0, _, _ => 0
  | levels + 1, ta, tb =>
    let tm := (ta + tb) / 2
    v.coverClocks [sliceCover ta tm, sliceCover tm tb] + v.bisectClocks levels ta tm + v.bisectClocks levels tm tb

/-- R195, R196: the clocks of every query of a run of `poses` poses, all segments bisected to level 3. -/
def View.queryClocks (v : View) (stepNs poses : Nat) : Nat :=
  v.num 0x4010 1 * (natSum ((List.range poses).map (v.poseClocks stepNs poses))
    + natSum ((List.range (poses - 1)).map (fun i => v.bisectClocks 3 (i * stepNs) ((i + 1) * stepNs))))

/-- R323: the count of one invocation of the bound tread program. -/
def View.treadCount (v : View) : Nat :=
  if v.on 0x5001 1 then
    let b := progBound (progCode (v.blob (v.num 0x5001 2) 1))
    b.cycles + b.tile * fixedCost 1 + b.hall * fixedCost 2
  else 0

/-- R196: the worst case of a block of some candidates, in clocks. -/
def View.blockClocks (v : View) (candidates : Nat) : Nat :=
  let n := v.num 0x4001 1
  candidates * (v.queryClocks (1000 * v.num 0x4001 2) (n + 1) + (n + 1) * v.treadCount)

/-- The points a sentry check checks (R473). -/
def View.sentryPoints (v : View) : Nat :=
  min (v.num 0x6200 1) ((1000000 * f32Fix (v.f 0x9200 4) / ((v.num 0x6200 2 : Int) * fix32One)).toNat + 1)

/-- R474: a sentry check, in half-nanoseconds. -/
def View.sentryCharge (v : View) : Nat := if v.on 0x9200 1 then 5 * (fixedCost 9 + fixedCost 0x0A * v.sentryPoints) else 0

/-- The units that budget fit counts. -/
structure UnitsIn where
  engines : Nat
  quadrants : Nat
  scalers : Nat
  worstCycles : Nat
  deriving DecidableEq, Repr

/-- Time-scaling units in service. -/
def State.scalersIn (s : State) : Nat :=
  ((List.range 2).filter (fun q => s.boot.available.timeScalers.testBit q && !(((s.clocks[60 + q]?).getD ClockDomain.initial).fault))).length

def State.unitsIn (s : State) (v : View) : UnitsIn :=
  ⟨s.disp.enginesIn.length, s.quadrantsIn, s.scalersIn, (modelHeader (s.model (v.num 0x4100 2)).image).worstCycles⟩

/-- A charge over units; none where no unit is in service. -/
def shared (n units : Nat) : Option Nat := if units == 0 then none else some ((n + units - 1) / units)

/-- R207, R469: the merges of the block list of some candidates into its Gallery list, at throttle step 8, and into the top stair's list. -/
def stairCharge (entries : Nat) : Nat := entries * fixedCost 5 * (4 + 2)

/-- R148: the policy's charge; none where no quadrant is in service. -/
def View.policyCharge (v : View) (u : UnitsIn) : Option Nat :=
  if v.on 0x4100 1 then (if u.quadrants == 0 then none else some ((u.worstCycles * 32 + u.quadrants - 1) / u.quadrants)) else some 0

/-- R439: the hops of the map chain in a split group, in half-nanoseconds: MapShipLimit bytes at 12.0 GB/s on each, the three overlapping but for the segment that each relays once it has
arrived whole. DESIGN CHOICE (log entry 62): charged to the whole path. -/
def View.hopCharge (v : View) : Nat := if v.num 0x8600 1 == 2 then (v.num 0x8600 9 + 2 * 65536 + 5) / 6 else 0

/-- R55: the charges and the spans that hold them, in half-nanoseconds; a charge is none where a unit it needs is missing. `extra` is what a commit adds to its frame
(R299, R332). -/
def View.charges (v : View) (u : UnitsIn) (extra : Nat) : List (Nat × Option Nat) :=
  let us (idx sub : Nat) : Nat := 2000 * v.num idx sub
  let span (a b : Nat × Nat) : Nat := us b.1 b.2 - us a.1 a.2
  let build := v.buildCharge
  let policy := v.policyCharge u
  let block := if u.engines == 0 then none else some (4 * v.blockClocks 2 + stairCharge 2)
  let scale := (shared 2 u.scalers).map (fun k => 4 * k * (fixedCost 7 * (v.num 0x4001 1 * v.num 0x4000 0x18 + v.num 0x6200 1)))
  let recheck := (shared 2 u.engines).map (fun k => 4 * k * v.queryClocks (1000 * v.num 0x6200 2) (v.num 0x6200 1))
  let sentry := v.sentryCharge
  let fallback : Option Nat := match scale, recheck with | some a, some b => some (a + b + 2 * sentry) | _, _ => none
  let tail := sentry + 2 * fixedCost 8
  let qp := min (4 * v.num 0x6100 3 * fixedCost 6 * v.num 0x4001 1) (us 0x2016 1 - us 0x6100 0x0F - us 0x2014 1)
  let path : Option Nat := match policy, block, fallback with
    | some p, some b, some f => some (max (us 0x2014 1) (us 0x2010 2 + extra + build + v.hopCharge + p + b) + f + tail)
    | _, _, _ => none
  [(span (0x2011, 1) (0x2011, 2), some build), (span (0x2012, 1) (0x2012, 2), policy), (span (0x2013, 1) (0x2013, 2), block),
   (span (0x2014, 1) (0x2015, 2), fallback), (span (0x2014, 1) (0x2016, 1), some qp), (span (0x2015, 2) (0x2016, 1), some tail), (us 0x2016 1, path)]

/-- The least of a list of margins. -/
def leastInt : List Int → Int
  | [] => 0
  | [x] => x
  | x :: xs => min x (leastInt xs)

/-- R55: the smallest margin, in µs. -/
def View.margin (v : View) (u : UnitsIn) (extra : Nat) : Int :=
  leastInt ((v.charges u extra).map (fun (b, c) => match c with | some c => ((b : Int) - (c : Int)) / 2000 | none => -2147483648))

/-- R466: budget fit is recomputed: LandingMarginNow, and cause BUDGET while it is negative. -/
def State.recomputeBudget (s : State) : State :=
  let m := clampInt (-2147483648) 2147483647 (s.activeView.margin (s.unitsIn s.activeView) 0)
  let s := { s with newel := { s.newel with marginNow := m } }
  if m < 0 then s.setCause 1 else s.clearCause 1

end Sys2Proof.Machine
end

