-- ==== Sys2Proof/Machine/Units.lean ====
section
/-!
DEFINITION. Engines and Galleries leaving and rejoining service (09_galleries_dispatch.md R284 to R291), and the placing of self-test slices (15_safety.md R477, R478).
-/
namespace Sys2Proof.Machine
open Sys2Proof

def State.engine (s : State) (e : Nat) : ServiceUnit := (s.disp.engines[e]?).getD ServiceUnit.initial
def State.gallery (s : State) (g : Nat) : ServiceUnit := (s.disp.galleries[g]?).getD ServiceUnit.initial
def State.modEngine (s : State) (e : Nat) (f : ServiceUnit → ServiceUnit) : State := { s with disp := { s.disp with engines := modAt s.disp.engines e f } }
def State.modGallery (s : State) (g : Nat) (f : ServiceUnit → ServiceUnit) : State := { s with disp := { s.disp with galleries := modAt s.disp.galleries g f } }

/-- The engines of a Gallery. -/
def galleryEngines (g : Nat) : List Nat := (List.range 32).map (32 * g + ·)

/-- A departure for a fault (R291). -/
def ServiceUnit.out (u : ServiceUnit) (cause : Nat) : ServiceUnit := { u with st := .outFault, cause := cause, faults := min 255 (u.faults + 1), registered := none }

/-- R288: a unit that has left for a fault and is not to rejoin. -/
def State.staysOut (s : State) (u : ServiceUnit) : Bool := u.cause == 1 || u.cause == 3 || decide (s.cfg 0x7002 2 < u.faults)

/-- R288: RejoinsRefused and event 0x0704 for a unit that stays out. -/
def State.refuseRejoin (s : State) (unit : Nat) (u : ServiceUnit) : State := if s.staysOut u then (s.count 0x7101 0x0C 1).raise 0x0704 unit else s

/-- R356: the corrected and uncorrected counters of a store. -/
def correctedCounter (store : Nat) : Nat × Nat := if store == 5 then (0x8102, 1) else if store == 6 then (0x8002, 3) else (0x8002, store + 1)
def uncorrectedCounter (store : Nat) : Nat × Nat := if store == 5 then (0x8102, 2) else if store == 6 then (0x8002, 8) else (0x8002, store + 6)

/-- R326, R356: an uncorrected error in a unit's store is counted and reported. -/
def State.uncorrected (s : State) (store unit : Nat) : State := (s.count (uncorrectedCounter store).1 (uncorrectedCounter store).2 1).raise 0x0802 unit

/-- R193: the block or the single candidate of an item has been abandoned. -/
def State.itemAbandoned (s : State) (i : Item) : Bool :=
  (i.kind == .candidateBlock || i.kind == .candidateSingle) && (match s.work? i.frame with | some w => w.abandoned.contains i.mark | none => false)

/-- R285 steps 2 and 3: the items of a lost engine go to a dispatcher: the one in service to run again, unless its block has been abandoned (R193), the others as they were. Slices are
abandoned (R479). -/
def State.returnItems (s : State) (e : Nat) (home : Item → Nat) : State :=
  let mine := s.disp.items.filter (fun i => i.loc == .queued e || i.loc == .service e || (i.kind == .selfTest && i.lane == e))
  let one (s : State) (i : Item) : State :=
    if i.kind == .selfTest then
      (let s := s.dropItem i.serial
       if i.loc == .service e then (s.count 0x9301 2 1).raise 0x0A09 e else s)
    else if i.loc == .service e then
      (if i.dropped || s.itemAbandoned i then s.dropItem i.serial
       else
        let cls := if i.kind == .candidateBlock && i.cls == 4 then 3 else i.cls
        (s.modItem i.serial (fun i => { i with loc := .ready (home i), home := home i, replay := true, committed := false, cls := cls, level := s.classLevel cls, version := 0 })).count 0x7101 2 1)
    else s.modItem i.serial (fun i => { i with loc := .ready (home i), home := home i, version := 0 })
  let s := mine.foldl one s
  let s := mine.foldl (fun s i => match i.flow with | some f => s.chainTo f (home i) | none => s) s
  (s.modUnit e (fun u => { u with windows := 0, exps := [] })).settleItems

/-- R285 step 4: the lists of a lost Gallery move to the homes of their lanes under the mapping in force. -/
def State.moveLists (s : State) (g : Nat) : State :=
  let mine := s.disp.items.filter (fun i => (i.loc.dispatcher? == some g || (i.loc.inFlight && i.home == g)) && !i.pinned)
  let headHome (i : Item) : Nat := match i.flow with
    | some f => match s.disp.items.find? (fun j => j.flow == some f) with | some j => s.homeOf j.lane | none => s.homeOf i.lane
    | none => s.homeOf i.lane
  let s := mine.foldl (fun s i =>
    match i.loc with
    | .delay _ r | .held _ r => let (loc, s) := s.delayLoc (headHome i) r; s.modItem i.serial (fun i => { i with loc := loc, home := headHome i })
    | .chain _ => s.modItem i.serial (fun i => { i with loc := .chain (headHome i), home := headHome i })
    | .ready _ => s.modItem i.serial (fun i => { i with loc := .ready (headHome i), home := headHome i })
    | .waiting _ b => s.modItem i.serial (fun i => { i with loc := .waiting (headHome i) b, home := headHome i })
    | _ => s.modItem i.serial (fun i => { i with home := headHome i })) s
  { s with frames := s.frames.map (fun w => { w with blocks := w.blocks.map (fun r => if r.gallery == g && !r.inGallery then { r with gallery := s.homeOf (r.beta % 512) } else r) }) }

/-- The self-test course of a unit that enters service begins; that of one that leaves ends, with its part in cause SELF_TEST (R465, R481). -/
def State.beginCourse (s : State) (unit : Nat) : State := { s with newel := { s.newel with courses := alSet unit ⟨0, s.time, 0⟩ s.newel.courses } }
def State.clearSelfTest (s : State) : State := if s.newel.courses.any (fun c => c.2.overdue == 2) then s else s.clearCause 6
def State.endCourse (s : State) (unit : Nat) : State := ({ s with newel := { s.newel with courses := alErase unit s.newel.courses } }).clearSelfTest

/-- R285: a Gallery leaves service for a fault, its engines with it. -/
def State.galleryOut (s : State) (g cause : Nat) : State :=
  let s := s.modGallery g (fun u => u.out cause)
  let here := (galleryEngines g).filter (fun e => (s.engine e).st == .inService || (s.engine e).st == .draining)
  let s := here.foldl (fun s e => s.modEngine e (fun u => { u with st := .outFault, cause := 7, registered := none })) s
  let s := s.remapLanes
  let s := here.foldl (fun s e => (s.returnItems e (fun i => s.homeOf i.lane)).endCourse e) s
  let s := (s.moveLists g).count 0x7101 0x0A 1
  (s.raise 0x0702 g).refuseRejoin g (s.gallery g)

/-- R285: an engine leaves service for a fault; its Gallery follows its last engine (R284). -/
def State.engineOut (s : State) (e cause : Nat) : State :=
  if (s.engine e).st != .inService && (s.engine e).st != .draining then s
  else
    let g := e / 32
    let s := (s.modEngine e (fun u => u.out cause)).remapLanes
    let last := !((galleryEngines g).any (fun x => (s.engine x).st == .inService || (s.engine x).st == .draining))
    let s := (s.returnItems e (fun i => if last then s.homeOf i.lane else g)).endCourse e
    let s := ((s.count 0x7101 9 1).raise 0x0701 e).refuseRejoin e (s.engine e)
    let s := if last && (s.gallery g).st == .inService then s.galleryOut g 4 else s
    s.recomputeBudget

/-- R287: what a write of an administrative mask leaves in service must not be nothing. -/
def State.adminLeaves (s : State) (engines : Bool) (index mask : Nat) : Bool :=
  let out (e : Nat) : Bool := if engines then e / 32 == index && mask.testBit (e % 32) else mask.testBit (e / 32)
  s.disp.enginesIn.any (fun e => !out e)

/-- The administrative bit of an engine, and of a Gallery (R292). -/
def State.adminBit (s : State) (e : Nat) : Bool := (s.cfg 0x7004 (e / 32 + 1)).testBit (e % 32)
def State.adminGallery (s : State) (g : Nat) : Bool := (s.cfg 0x7003 0).testBit g

/-- R287, R288: the effect of a write of AdminOutGalleries, or of AdminOutEngines at one Gallery; none where it is refused with 0x0708. -/
def State.adminOut (s : State) (engines : Bool) (index mask : Nat) : Option State :=
  if !s.adminLeaves engines index mask then none
  else if engines then
    let s := s.setObj 0x7004 (index + 1) mask
    let s := (List.range 32).foldl (fun s k =>
      let e := 32 * index + k
      let u := s.engine e
      if mask.testBit k && u.st == .inService then s.modEngine e (fun u => { u with st := .draining, cause := 5 })
      else if !mask.testBit k && u.st == .outAdmin && u.cause == 5 then s.modEngine e (fun u => { u with st := .rejoinPending, registered := none })
      else s) s
    some s.remapLanes.recomputeBudget
  else
    let s := s.setObj 0x7003 0 mask
    let drains := (List.range 16).filter (fun g => mask.testBit g && (s.gallery g).st == .inService)
    let s := drains.foldl (fun s g => s.modGallery g (fun u => { u with st := .draining, cause := 5 })) s
    let s := (List.range 16).foldl (fun s g =>
      if !mask.testBit g && (s.gallery g).st == .outAdmin && (s.gallery g).cause == 5 then s.modGallery g (fun u => { u with st := .rejoinPending, registered := none }) else s) s
    let s := s.remapLanes
    some (drains.foldl (fun s g => s.moveLists g) s).recomputeBudget

/-- R288: units that left for an uncorrected error await their rejoin from the Landing on; a Gallery that followed its last engine awaits it with that engine. One whose FAULT_COUNT exceeds
RejoinLimit stays out. -/
def State.pendRejoins (s : State) : State :=
  if !s.cfgB 0x7002 1 then s
  else
    let may (u : ServiceUnit) : Bool := u.st == .outFault && u.cause == 2 && !s.staysOut u
    let pend (u : ServiceUnit) : ServiceUnit := if may u then { u with st := .rejoinPending, registered := none } else u
    let engines := s.disp.engines.map pend
    let back (g : Nat) : Bool := !s.staysOut (s.gallery g) && (galleryEngines g).any (fun e => match engines[e]? with | some u => u.st == .rejoinPending | none => false)
    let galleries := (s.disp.galleries.map pend).zipIdx.map (fun x => if x.1.st == .outFault && x.1.cause == 4 && back x.2 then { x.1 with st := .rejoinPending, registered := none } else x.1)
    { s with disp := { s.disp with engines := engines, galleries := galleries } }

/-- R289: at a tick without a commit, the units registered early enough enter service. -/
def State.enterService (s : State) (tick : Nat) : State :=
  let due (u : ServiceUnit) : Bool := u.st == .rejoinPending && (match u.registered with | some r => decide (r + s.us 0x7002 3 ≤ tick) | none => false)
  let gs := (List.range 16).filter (fun g => due (s.gallery g))
  let es := (List.range 512).filter (fun e => due (s.engine e) || (gs.contains (e / 32) && (s.engine e).cause == 7))
  let es := es.filter (fun e => (s.gallery (e / 32)).st == .inService || gs.contains (e / 32))
  if gs.isEmpty && es.isEmpty then s
  else
    let into (u : ServiceUnit) : ServiceUnit := { u with st := .inService, cause := 0, registered := none }
    let s := gs.foldl (fun s g => ((s.modGallery g into).count 0x7101 0x0B 1).raise 0x0703 g) s
    let s := es.foldl (fun s e => (((s.modEngine e into).beginCourse e).count 0x7101 0x0B 1).raise 0x0703 e) s
    s.remapLanes.recomputeBudget

end Sys2Proof.Machine
end

