-- ==== Sys2Proof/Machine/Timebase.lean ====
section
/-!
DEFINITION. The timebase and the tick schedule (03_frame_cycle.md R64 to R70): SYNC, ANNOUNCE, PDELAY_REQ, PDELAY_REQ_ISSUE, SYNC_TIMEOUT, HOLDOVER_LIMIT, PPS_IN and PPS_OUT,
with the first lock, the slew and the step, and the cancelling of a pending commit (R58).
-/
namespace Sys2Proof.Machine
open Sys2Proof

def State.modTb (s : State) (f : Timebase → Timebase) : State := { s with tb := f s.tb }

/-- R69: T(N) on the tick clock. -/
def State.tickOf (s : State) (n : Nat) : Int := s.tb.anchorTick + ((n : Int) - (s.tb.anchorFrame : Int)) * (s.tb.period : Int)

/-- The smallest frame number from `lo` on whose tick is at or after an instant. -/
def State.frameFrom (s : State) (lo : Nat) (bound : Int) : Nat :=
  let p := (s.tb.period : Int)
  max lo ((s.tb.anchorFrame : Int) + (bound - s.tb.anchorTick + p - 1) / p).toNat

/-- R68: e, the tick clock minus the timebase. -/
def Timebase.phaseError (b : Timebase) : Int := b.tickOffset - b.tbOffset

/-- The selected source (R64), and whether gPTP is followed at all: not by INTERNAL, nor while a reset is held, nor on a management port that is down (R464). -/
def State.source (s : State) : Nat := s.cfg 0x2002 1
def State.followsGptp (s : State) (source domain : Nat) : Bool :=
  !s.boot.coldHeld && !s.boot.warmHeld && s.source != 3 && source == s.source && domain == s.cfg 0x2002 2 && !(source == 0 && s.mgmtDown)

/-- R58: a pending commit is cancelled. -/
def State.cancelCommit (s : State) : State :=
  if s.ctl.st == .pending then ({ s with ctl := { s.ctl with st := .checked, target := 0 }, mem := { s.mem with waking := [] } }).raiseOpen s.tb.curFrame 0x0111 else s

/-! States (R66) -/

/-- R69: the first lock after a reset: the anchor and the first frame. -/
def State.firstLock (s : State) : State :=
  let epoch := s.cfg 0x2001 0
  let s := s.modTb (fun b => { b with everLocked := true, epochUsed := some epoch, anchorFrame := 0, anchorTick := (epoch : Int), tickOffset := b.tbOffset })
  s.modTb (fun b => { b with nextFrame := some (s.frameFrom 0 ((s.time : Int) + 1000000)) })

/-- Enters LOCKED. -/
def State.enterLocked (s : State) : State :=
  if s.tb.st == .locked then s
  else
    let s := (s.modTb (fun b => { b with st := .locked })).raiseOpen s.tb.curFrame 0x0380
    let s := s.clearCause 2
    (if s.tb.everLocked then s else s.firstLock).signalStatus

/-- Enters HOLDOVER from LOCKED. -/
def State.enterHoldover (s : State) : State :=
  if s.tb.st == .locked then
    ((s.modTb (fun b => { b with st := .holdover, holdoverSince := s.now, goodSyncs := 0 })).raiseOpen s.tb.curFrame 0x0381).setCause 2
  else s

/-- R66: a change of source by commit. A plan published before it is none since lock (R78, R160; DEDUCED, log entry 17). -/
def State.sourceChanged (s : State) : State :=
  let s := { s.modTb (fun b => { b with goodSyncs := 0, gmId := none, renumber := b.everLocked }) with pub := { s.pub with history := none } }
  if s.source == 3 then (s.modTb (fun b => { b with renumber := b.everLocked && b.st != .locked })).enterLocked
  else (s.modTb (fun b => { b with st := .acquiring })).signalStatus

/-- R64: the timebase from the release of the reset on: INTERNAL reads 0 then, and is LOCKED from that instant. DEDUCED: the end of reset is the release. -/
def State.startTimebase (s : State) : State :=
  let s := { s with tb := { Timebase.initial with period := 1000 * s.cfg 0x2000 0 } }
  if s.source == 3 then
    (s.modTb (fun b => { b with tbOffset := -(s.now : Int), tickOffset := -(s.now : Int) })).enterLocked
  else s

/-- Ticks that fall before READY do not occur (log entry 16). -/
def State.skipTicks (s : State) : State := s.modTb (fun b => { b with nextFrame := b.nextFrame.map (fun n => s.frameFrom n (s.time : Int)) })

/-! The tick (R68, R69) -/

/-- R68: the next tick: its frame number, with the schedule stepped or slewed first. DESIGN CHOICE (log entry 17): a stepped tick is not before the present instant, and
after a change of source by commit (R66) the ticks resume, renumbered, at least 1 ms after it, with event 0x0383 and the frames passed over counted. -/
def State.schedule (s : State) : Option (Nat × State) :=
  match s.tb.nextFrame with
  | none => none
  | some n =>
    if s.tb.st == .acquiring then none
    else
      let e := s.tb.phaseError
      if s.tb.renumber || decide ((s.us 0x2002 7 : Int) < e.natAbs) then
        let ahead : Int := (s.time : Int) + (if s.tb.renumber then 1000000 else 0)
        let bound := if s.tb.ticked then max ahead ((s.tb.curTick : Int) - e + ((s.tb.period / 2 : Nat) : Int)) else ahead
        let m := s.frameFrom n bound
        let t := s.tickOf m
        let s := s.modTb (fun b => { b with tickOffset := b.tbOffset, anchorFrame := m, anchorTick := t, renumber := false })
        let s := if m == n then s else s.count 0x2021 1 (m - n)
        some (m, s.raise 0x0383 (m - n))
      else
        let limit : Int := (s.us 0x2002 6 : Int)
        some (n, s.modTb (fun b => { b with tickOffset := b.tickOffset - max (-limit) (min limit e) }))

/-! Inputs whose frame the next tick numbers (R74) -/

/-- The number a frame has once the tick of frame n has come. -/
def frameNumbered (n frame : Nat) : Nat := if frame == pendingFrame then n else frame

/-- What a stream holds, its packets numbered. -/
def Stream.numberInputs (x : Stream) (n : Nat) : Stream :=
  { x with
    waiting := x.waiting.map (fun p => { p with frame := frameNumbered n p.frame })
    running := x.running.map (fun r => { r with packet := { r.packet with frame := frameNumbered n r.packet.frame } })
    buf := { x.buf with packets := x.buf.packets.map (fun p => { p with frame := frameNumbered n p.frame }) }
    held := x.held.map (fun p => { p with frame := frameNumbered n p.frame }) }

/-- R74: the packets accepted since the last seal are those of frame n, as its tick comes. -/
def State.numberInputs (s : State) (n : Nat) : State :=
  let delta (d : Nat × HeldPacket) : Nat × HeldPacket := (d.1, { d.2 with frame := frameNumbered n d.2.frame })
  { s with
    world := { s.world with streams := s.world.streams.map (fun x => x.numberInputs n), deltaDue := s.world.deltaDue.map delta, deltaOpen := s.world.deltaOpen.map delta }
    newel := { s.newel with buffer := s.newel.buffer.map (fun p => { p with frame := frameNumbered n p.frame }), held := s.newel.held.map (fun p => { p with frame := frameNumbered n p.frame }) }
    disp := { s.disp with items := s.disp.items.map (fun i => { i with frame := frameNumbered n i.frame }) } }

/-- The number that the next live frame has as things stand: the one its tick would give it now (R68), or else the one after the last live frame's. -/
def State.nextNumber (s : State) : Nat :=
  match s.schedule with
  | some (n, _) => n
  | none => s.tb.nextFrame.getD (s.tb.liveFrame + 1)

/-- A frame's number, as things stand for one whose tick is still to come. -/
def State.numberOf (s : State) (frame : Nat) : Nat := frameNumbered s.nextNumber frame

/-- The instant of frame n's tick: FRAME_TICK is pulsed, and n is the current frame (R67, R92). -/
def State.tickAt (s : State) (n : Nat) : State :=
  let t := (s.tickOf n).toNat
  let s := (s.atTick t).modTb (fun b => { b with curFrame := n, curTick := t, ticked := true, liveFrame := n, nextFrame := some (n + 1) })
  (s.numberInputs n).setPads (fun p => { p with ticks := p.ticks + 1 })

/-- R69: a commit at frame K changes FramePeriod. -/
def State.setPeriod (s : State) (k : Nat) : State :=
  let t := s.tickOf k
  s.modTb (fun b => { b with anchorFrame := k, anchorTick := t, period := 1000 * s.cfg 0x2000 0 })

/-! The commands -/

/-- What a valid Sync does (R66, R68). DESIGN CHOICE (log entry 17): a Sync of a new grandmaster is, outside LOCKED, the first of a new count of good intervals. -/
def State.syncWith (s : State) (m : SyncMsg) : State :=
  let off := (s.time : Int) - m.origin
  let changed := match s.tb.gmId with | some g => g != m.grandmaster | none => false
  let s := s.modTb (fun b => { b with gmId := some m.grandmaster, lastSync := s.now, servoOffset := off })
  let lim : Nat := s.cfg 0x2002 3
  let s := if changed || decide (s.cfg 0x2002 4 < off.natAbs) then s.enterHoldover else s
  if s.tb.st == .locked then s.modTb (fun b => { b with tbOffset := b.tbOffset - off, tickOffset := b.tickOffset - off })
  else
    let s := s.modTb (fun b => { b with tbOffset := b.tbOffset - off, tickOffset := if b.st == .acquiring then b.tbOffset - off else b.tickOffset,
                                        goodSyncs := if off.natAbs ≤ lim then (if changed then 1 else b.goodSyncs + 1) else 0 })
    if 16 ≤ s.tb.goodSyncs && decide (s.tb.phaseError.natAbs ≤ lim) then s.enterLocked else s

/-- SYNC: a Sync with its Follow_Up is received. -/
def execSync (t : Nat) (m : SyncMsg) (s : State) : Host.Outcome State Fault Refusal :=
  let s := s.at t
  .next (if s.followsGptp m.source m.domain then s.syncWith m else s)

/-- ANNOUNCE: a change of grandmaster identity sends a LOCKED timebase to HOLDOVER. DESIGN CHOICE (log entry 17): in every other state it sets the count of good intervals to 0. -/
def execAnnounce (t : Nat) (m : GptpMsg) (s : State) : Host.Outcome State Fault Refusal :=
  let s := s.at t
  .next (
    if !s.followsGptp m.source m.domain then s
    else
      let changed := match s.tb.gmId with | some g => g != m.value | none => false
      let s := if changed then (s.enterHoldover).modTb (fun b => { b with goodSyncs := 0 }) else s
      s.modTb (fun b => { b with gmId := some m.value }))

/-- PDELAY_REQ: answered on the selected port (R65). -/
def execPdelayReq (t : Nat) (m : GptpMsg) (s : State) : Host.Outcome State Fault Refusal :=
  let s := s.at t
  .next (
    if s.followsGptp m.source m.domain then
      (s.send (.gptp m.source .pdelayResp m.value s.time)).send (.gptp m.source .pdelayRespFollowUp m.value s.time)
    else s)

/-- PDELAY_REQ_ISSUE: the device's periodic request on the selected port (R65). -/
def execPdelayReqIssue (t : Nat) (s : State) : Host.Outcome State Fault Refusal :=
  let s := s.at t
  .next (
    if s.followsGptp s.source (s.cfg 0x2002 2) then
      (s.send (.gptp s.source .pdelayReq s.tb.pdelaySeq s.time)).modTb (fun b => { b with pdelaySeq := (b.pdelaySeq + 1) % 65536 })
    else s)

/-- SYNC_TIMEOUT: no valid Sync in 3 consecutive Sync intervals (R66). -/
def execSyncTimeout (t : Nat) (s : State) : Host.Outcome State Fault Refusal :=
  let s := s.at t
  .next (
    if s.source == 3 then s else s.enterHoldover.modTb (fun b => { b with goodSyncs := 0 }))

/-- HOLDOVER_LIMIT: HOLDOVER has lasted HoldoverLimit (R66). -/
def execHoldoverLimit (s : State) : Host.Outcome State Fault Refusal :=
  .next (
    if s.tb.st == .holdover then
      let s := s.at (s.tb.holdoverSince + s.cfg 0x2002 5)
      (((s.modTb (fun b => { b with st := .freeRun })).raiseOpen s.tb.curFrame 0x0382).setCause 2).cancelCommit.signalStatus
    else s)

/-- PPS_IN: the edge minus the nearest whole second (R67). -/
def execPpsIn (t : Nat) (s : State) : Host.Outcome State Fault Refusal :=
  let s := s.at t
  let x := s.time % 1000000000
  .next (s.modTb (fun b => { b with ppsIn := if x ≤ 500000000 then (x : Int) else (x : Int) - 1000000000 }))

/-- R67: the next whole second of the timebase that has not been pulsed: the one at this instant, unless its pulse was just given. -/
def State.nextSecond (s : State) : Nat := if s.tb.lastPps == some s.now then s.time / 1000000000 + 1 else (s.time + 999999999) / 1000000000

/-- PPS_OUT: the pulse of the next whole second of the timebase (R67). -/
def execPpsOut (s : State) : Host.Outcome State Fault Refusal :=
  let s := s.atTime (s.nextSecond * 1000000000)
  .next ((s.modTb (fun b => { b with lastPps := some s.now })).setPads (fun p => { p with ppsOut := p.ppsOut + 1 }))

end Sys2Proof.Machine
end

