-- ==== Sys2Proof/Machine/Layout.lean ====
section
/-!
DEFINITION. The Hall's layout and bank power (11_memory_buffers.md R330 to R334), and images bound by a view (10_engine_programs.md R539).
-/
namespace Sys2Proof.Machine
open Sys2Proof

/-- Quotient rounded up. -/
def ceilDiv (a b : Nat) : Nat := (a + b - 1) / b

/-- R539: the program images a view binds, by slot index: the tread image, and the filter of each stream in use. -/
def View.treadSlot (v : View) : List Nat := if v.on 0x5001 1 then [v.num 0x5001 2] else []
def View.filterSlots (v : View) : List Nat := ((List.range 128).filter (fun n => v.num (0x3100 + n) 1 != 0)).map (fun n => v.num (0x3100 + n) 4)
def View.boundSlots (v : View) : List Nat := (v.treadSlot ++ v.filterSlots).eraseDups

/-- R333: the power state a view gives a bank. -/
def View.bankPower (v : View) (b : Nat) : BankPower :=
  match bitsAt (v.num 0x8000 (b / 16 + 1)) (2 * (b % 16)) 2 with
  | 0 => .on
  | 1 => .retention
  | _ => .off

/-- The banks that are On, of those the unit-availability record allows (R503). -/
def View.banksOn (v : View) (halls : Nat) : List Nat := (List.range 1024).filter (fun b => v.bankPower b == .on && halls.testBit b)

/-- R330: the banks of an image's program data. -/
def imageBanks (b : List Byte) : Nat := let h := progHeader b; ceilDiv (4 * h.count + h.constLength + h.tallyLength) 131072

/-- R330: the banks of regions 0 to 7, with the images held staged. -/
def View.regionSizes (v : View) (staged : List (List Byte)) (proposals steps : Nat) : List Nat :=
  let layers := v.layers.length
  let images := ((v.boundSlots.map (fun i => v.blob i 1)) ++ staged).eraseDups
  [20, 69, 1, 48, ceilDiv ((3 + v.num 0x2005 1) * (270336 * layers + 64)) 131072,
   ceilDiv (2 * (v.num 0x3220 1 * 262144 + (v.num 0x3220 0x22 + v.num 0x3220 0x23) * 128)) 131072,
   if v.on 0x4100 1 then ceilDiv (2 * proposals * steps * 8) 131072 else 0,
   natSum (images.map imageBanks)]

/-- Places regions over the banks that are On, from bank 0 upward; the last takes what remains. -/
def placeRegions : List Nat → List Nat → List (Nat × Nat)
  | on, [] => [(on.headD 0, on.length)]
  | on, n :: ns => ((if n == 0 then 0 else on.headD 0), n) :: placeRegions (on.drop n) ns

def View.regions (v : View) (halls : Nat) (staged : List (List Byte)) (proposals steps : Nat) : List (Nat × Nat) := placeRegions (v.banksOn halls) (v.regionSizes staged proposals steps)

/-- The header of the model image that a view binds. -/
def State.viewModel (s : State) (v : View) : ModelHeader := modelHeader (s.model (v.num 0x4100 2)).image

/-- R332: an item named by its serial is still in service. -/
def State.stillServed (s : State) (serial : Nat) : Bool := s.disp.items.any (fun i => i.serial == serial && i.inService)

/-- R333, R334: the power state of a bank; one taken out of On stays On until the items in service that use it complete. -/
def State.bankState (s : State) (b : Nat) : BankPower :=
  if ((alGet b s.mem.keptOn).getD []).any s.stillServed then .on else (s.mem.banks[b]?).getD .off

/-- The banks that are On in a list of states, and those of them that an extent of R330 covers. -/
def onBanks (banks : List BankPower) : List Nat := (banks.zipIdx.filter (fun x => x.1 == .on)).map (·.2)
def extentBanks (on : List Nat) (x : Nat × Nat) : List Nat := (on.dropWhile (fun b => decide (b < x.1))).take x.2

/-- The banks of a Hall region. -/
def State.regionBanks (s : State) (r : Nat) : List Nat := extentBanks (onBanks s.mem.banks) ((s.mem.regions[r]?).getD (0, 0))

/-- R332 to R334: the layout and bank states of the active set. A region that lies in other banks than before has moved; what items in service use of its old banks is kept for
them, and the tallies of a moved region 7 begin anew (log entry 41). -/
def State.layHall (s : State) : State :=
  let v := s.activeView
  let h := s.viewModel v
  let halls := s.boot.available.halls
  let banks := (List.range 1024).map (fun b => if halls.testBit b then v.bankPower b else .off)
  let regions := v.regions halls [] h.proposals h.steps
  let old := (List.range 9).map s.regionBanks
  let moved := (List.range 9).filter (fun r => some (extentBanks (onBanks banks) ((regions[r]?).getD (0, 0))) != old[r]?)
  let users := s.disp.items.filter (fun i => i.inService && i.kind.regions.any (fun r => moved.contains r))
  let uses (i : Item) (b : Nat) : Bool := i.kind.regions.any (fun r => ((old[r]?).getD []).contains b)
  let leaving := ((s.mem.banks.zip banks).zipIdx.filter (fun x => x.1.1 == .on && x.1.2 != .on)).map (·.2)
  let kept := (leaving.map (fun b => (b, (users.filter (fun i => uses i b)).map (·.serial)))).filter (fun x => !x.2.isEmpty)
  { s with
    mem := { s.mem with banks := banks, waking := [], regions := regions, moved := moved, users := users.map (·.serial), keptOn := kept }
    boot := { s.boot with tallies := if moved.contains 7 then [] else s.boot.tallies } }

/-- R334: at the Landing before a commit's tick, the banks it turns On begin to wake. -/
def State.wakeBanks (s : State) (frame : Nat) : State :=
  if s.ctl.st == .pending && s.ctl.target == frame + 1 then
    let v := s.stagedView
    { s with mem := { s.mem with waking := (s.mem.banks.zipIdx.filter (fun x => x.1 != .on && v.bankPower x.2 == .on && s.boot.available.halls.testBit x.2)).map (fun x => (x.2, x.1)) } }
  else s

end Sys2Proof.Machine
end

