-- ==== Sys2Proof/Machine/Commit.lean ====
section
/-!
DEFINITION. The commit tick (02_dictionary.md R57, R58): the swap of the sets, and what a commit changes at once in every unit (R31, R69, R255, R299, R305, R324, R332, R400, R431, R474, R505).
-/
namespace Sys2Proof.Machine
open Sys2Proof

/-- R31: the object is a stored one: every RWS object, CommitGuard and FirmwareConfirm's setting. -/
def isStored (idx sub : Nat) : Bool :=
  (match objFind idx sub with | some r => r.access == .rws | none => false) || (idx == 0x1F00 && sub == 3) || (idx == 0xA100 && sub == 7)

/-- The key names a DOM object. -/
def isDomKey (k : Nat) : Bool := match objFind (k / 256) (k % 256) with | some r => r.ty == .dom | none => false

/-- R31: the stored values wait for SETTINGS_SAVE, with the set's ID. A stored DOM not yet loaded (R508) keeps its saved value. -/
def State.dueSave (s : State) : State :=
  let vals := s.dict.active.filter (fun p => isStored (p.1 / 256) (p.1 % 256))
  let waiting := if s.boot.domsLoaded then [] else s.dict.saved.filter (fun p => isDomKey p.1 && (alGet p.1 vals).isNone)
  { s with dict := { s.dict with unsaved := some (waiting.foldl (fun m p => alSet p.1 p.2 m) vals, s.ctl.activeSetId) } }

/-- The staged objects whose value the commit changes. -/
def State.changedKeys (s : State) : List Nat := (s.dict.shadow.filter (fun p => p.2 != s.dict.activeVal (p.1 / 256) (p.1 % 256))).map (·.1)

/-- R313, R324: the image of a program slot is installed: its read-only objects, and a tally area of zeros. -/
def State.installImage (s : State) (idx : Nat) : State :=
  let b := s.cfgBytes idx 1
  let h := progHeader b
  let vals : List Nat := if b.isEmpty then List.replicate 7 0
    else [1, first64 (progMeasurement b), h.count, h.boundCycles, h.boundTile, h.boundHall, if usesFpAtomic b then 1 else 0]
  let s := vals.zipIdx.foldl (fun s x => s.setObj idx (x.2 + 2) x.1) s
  { s with boot := { s.boot with tallies := alErase idx s.boot.tallies }, mem := { s.mem with tallyLost := s.mem.tallyLost.filter (· != idx) } }

/-- R299: what an image the active set binds for stream n, and for the engines, is. -/
def State.filterImage (s : State) (n : Nat) : List Byte := if s.cfg (0x3100 + n) 1 == 0 then [] else s.cfgBytes (s.cfg (0x3100 + n) 4) 1
def State.treadImage (s : State) : List Byte := if s.cfgB 0x5001 1 then s.cfgBytes (s.cfg 0x5001 2) 1 else []

def State.modStream (s : State) (n : Nat) (f : Stream → Stream) : State := { s with world := { s.world with streams := modAt s.world.streams n f } }
def State.stream (s : State) (n : Nat) : Stream := (s.world.streams[n]?).getD Stream.initial

/-- R299, R305: reloads that fall due, and working areas zeroed, where a commit changed a binding or a stream. -/
def State.dueReloads (s : State) (before : State) (keys : List Nat) : State :=
  let s := if s.treadImage == before.treadImage then s
    else { s with disp := { s.disp with units := s.disp.units.map (fun u => { u with reloadDue := true }) } }
  (List.range 128).foldl (fun s n =>
    let newImage := s.filterImage n != before.filterImage n
    let touched := newImage || keys.any (fun k => k / 256 == 0x3100 + n)
    let s := if newImage then s.modStream n (fun x => { x with reloadDue := true }) else s
    if touched then s.modStream n (fun x => { x with working := [] }) else s) s

/-! Rings (R400) -/

/-- A ring is enabled in a state's tables. -/
def State.ringEnabled (s : State) (r : Nat) : Bool := (s.tableRing r).ring.enabled && (s.tableRing r).client.enabled

/-- The state that a ring takes as it leaves RECOVERING: ACTIVE, or draining where the tables in force have disabled its client or the client's submit ring (R400). -/
def State.ringReturns (s : State) (r : Nat) : RingState :=
  if s.boot.domsLoaded && !(s.ringEnabled r && s.ringEnabled (r / 4 * 4)) then .draining else .active

/-- Descriptors of client c that are accepted and not completed. -/
def State.acceptedOf (s : State) (c : Nat) : Nat := (s.host.journal.filter (fun j => j.isDescriptor && j.owner == c && j.st == .accepted && !j.waitsMirror)).length

/-- R400: a client that drains and has no descriptor left to complete has its rings disabled. -/
def State.drainDone (s : State) (c : Nat) : State :=
  if s.host.journal.any (fun j => j.isDescriptor && j.owner == c && j.st == .accepted) then s
  else { s with host := { s.host with rings := s.host.rings.filter (fun p => !(p.1 / 4 == c && (p.2.st == .draining || (p.2.st == .disabled && p.1 % 4 == 0)))) } }

/-- R400: the tables take effect. A draining ring goes on by the entries it had before; one enabled again starts anew, with the client's descriptors still to be completed as its
OUTSTANDING. -/
def State.applyRings (s before : State) : State :=
  let gone := (s.host.rings.filter (fun p => p.2.st != .draining && !s.ringEnabled p.1)).map (·.1)
  let leaving := ((gone.filter (fun r => r % 4 == 0)).map (· / 4)).eraseDups
  let s := leaving.foldl (fun s c =>
    { s with host := { s.host with
        fetched := s.host.fetched.filter (fun f => f.ring != 4 * c)
        rings := s.host.rings.map (fun p => if p.1 / 4 == c then (p.1, { p.2 with st := if p.1 % 4 == 0 then .disabled else .draining }) else p) } }) s
  let keep (p : Nat × Ring) : Nat × Ring := (p.1, { p.2 with kept := if p.2.st == .draining then some (before.ringTables p.1) else none })
  let s := { s with host := { s.host with rings := s.host.rings.map keep } }
  let s := { s with host := { s.host with rings := s.host.rings.filter (fun p => !(gone.contains p.1 && !leaving.contains (p.1 / 4))) } }
  let s := leaving.foldl (fun s c => s.drainDone c) s
  let fresh := (List.range ((s.cfgBytes 0x8400 2).length / 32)).filter (fun r => s.ringEnabled r && (match s.ring? r with | some x => x.st == .disabled || x.st == .draining | none => true))
  let outstanding (r : Nat) : Nat := if r % 4 == 0 then s.acceptedOf (r / 4) else 0
  fresh.foldl (fun s r => s.setRing r { Ring.fresh with outstanding := outstanding r }) s

/-! Groups (R431, R436) -/

/-- R436: this chip's group digest under the active set. -/
def State.groupDigest (s : State) : Nat :=
  let enc (r : ObjRow) (i j : Nat) : List Byte := digestEncoding r (s.dict.activeVal i j)
  let one (i j : Nat) : List Byte := match objFind i j with | some r => enc r i j | none => []
  let filters := (s.activeView.filterSlots.eraseDups.mergeSort (fun a b => decide (a ≤ b))).flatMap (fun i => progMeasurement (s.cfgBytes i 1))
  sm3First64 (one 0x2000 0 ++ one 0x2001 0
    ++ ((rwsObjects objRows 0x2010 0x6FFF ++ rwsObjects objRows 0x7200 0x72FF).flatMap (fun (r, i, j) => enc r i j))
    ++ (if s.cfgB 0x4100 1 then s.boundModel.measurement else []) ++ (s.activeView.treadSlot.flatMap (fun i => progMeasurement (s.cfgBytes i 1))) ++ filters)

/-- R431: the role that the configuration gives another chip of the group, until it is heard with another. -/
def State.configuredRole (s : State) (c : Nat) : Nat :=
  match s.cfg 0x8600 1 with
  | 1 => if s.cfg 0x8600 3 == 4 then 5 else 4
  | 2 => ([1, 2, 2, 3][c]?).getD 0
  | _ => 0

/-- R431, R454: a commit gives this chip its role and the group its chips. -/
def State.applyGroup (s : State) : State :=
  let peers := (List.range 4).map (fun c =>
    let p := s.peer c
    if c == s.chip then { p with st := .self, role := s.cfg 0x8600 3 }
    else if (s.cfg 0x8600 4).testBit c then { (if p.st == .self then Peer.initial else p) with role := s.configuredRole c } else Peer.initial)
  ({ s with group := { s.group with role := s.cfg 0x8600 3, peers := peers, alsoWorld := false, takeAtTick := none } }).roleChanged

/-! Sessions (R51, R505) -/

/-- R505: the key that opened a session still stands in its slot with the role that allowed it to open: CONFIGURATOR, or else READER. -/
def State.keyStands (s : State) (before : State) (x : Session) : Bool :=
  let table := s.cfgBytes 0xA000 1
  (keyRoles table x.keyId).testBit (if x.roles.testBit 1 then 1 else 0) && keyPublic table x.keyId == keyPublic (before.cfgBytes 0xA000 1) x.keyId

/-- R52: the staged set is dropped: the shadow set is the active set again. -/
def State.dropStaged (s : State) : State :=
  { s with dict := { s.dict with shadow := [] }, ctl := { s.ctl with st := .idle, target := 0, owner := 0, stagedRev := 0 } }

/-- R50, R52: a session ends with its subscriptions and transfers; the staged set it owns is aborted, but a pending commit stands without an owner. -/
def State.endSession (s : State) (id : Nat) : State :=
  if !s.odp.sessions.any (fun x => x.id == id) then s
  else
    let s := { s with odp := { s.odp with sessions := s.odp.sessions.filter (fun x => x.id != id) }, ctl := { s.ctl with transfers := s.ctl.transfers.filter (fun x => x.session != id) } }
    if s.ctl.owner != id then s
    else if s.ctl.st == .pending then { s with ctl := { s.ctl with owner := 0 } }
    else s.dropStaged

/-- R51, R505: sessions that a commit closes. DESIGN CHOICE (log entry 19): also those of a transport that 0x1010:05 or :06 switches. -/
def State.closeByCommit (s : State) (before : State) (keys : List Nat) : State :=
  let port := keys.contains (objKey 0x1010 1)
  let lost (x : Session) : Bool :=
    (match x.transport with
     | .mgmt => port || keys.contains (objKey 0x1011 1)
     | .mailbox _ => keys.contains (objKey 0x1010 5)
     | .peer p => port || keys.contains (objKey 0x1010 6) || keys.contains (objKey (0x8601 + p) 3)
     | .ring r => before.ringEnabled r && !s.ringEnabled r)
    || (keys.contains (objKey 0xA000 1) && !s.keyStands before x)
  (s.odp.sessions.filter lost).foldl (fun s x => s.endSession x.id) s

/-! The swap (R57) -/

/-- R474: SentryEnable is set to 0. -/
def State.sentryOff (s : State) : State := ({ s with newel := { s.newel with streak := 0, clearCount := 0 } }).dropCauses 1

/-- R481: the courses of the Hall banks that a layout brings into region 8 begin, and those of the banks it takes out end. -/
def State.hotCourses (s : State) (before : List Nat) : State :=
  let hot := s.regionBanks 8
  let s := (before.filter (fun b => !hot.contains b)).foldl (fun s b => s.endCourse (1024 + b)) s
  (hot.filter (fun b => !before.contains b)).foldl (fun s b => s.beginCourse (1024 + b)) s

/-- What the changed objects do at the commit tick of frame k. -/
def State.applyChanges (s : State) (before : State) (k : Nat) (keys : List Nat) : State :=
  let on (idx sub : Nat) : Bool := keys.contains (objKey idx sub)
  let has (idx : Nat) : Bool := keys.any (fun j => j / 256 == idx)
  let s := if on 0x2000 0 then s.setPeriod k else s
  let s := if on 0x2002 1 then s.sourceChanged else s
  let s := if on 0x6300 1 then { s with pub := { s.pub with slots := s.pub.slots.map (fun x => { x with ready := false }) } } else s
  let s := if on 0x7204 1 && !s.cfgB 0x7204 1 then { s with det := { s.det with held := none, heldSet := [] } } else s
  let s := if on 0x9200 1 && !s.cfgB 0x9200 1 then s.sentryOff else s
  let s := (keys.filter (fun j => decide (0xC000 ≤ j / 256) && decide (j / 256 ≤ 0xDFFF) && j % 256 == 1)).foldl (fun s j => s.installImage (j / 256)) s
  let s := s.dueReloads before keys
  let s := if has 0x8400 then s.applyRings before else s
  let s := s.closeByCommit before keys
  let s := if has 0x8600 then s.applyGroup else s
  let s := if on 0x8100 2 || on 0x8100 3 || on 0x8100 4 then
      { s with mem := { s.mem with channels := s.mem.channels.zipIdx.map (fun x =>
          { x.1 with role := if x.2 == s.cfg 0x8100 2 then 1 else if x.2 == s.cfg 0x8100 3 then 2 else if x.2 == s.cfg 0x8100 4 then 3 else 0 }) } }
    else s
  let hot := s.regionBanks 8
  let s := s.layHall
  if s.mem.moved.isEmpty then s else (s.hotCourses hot).raiseOpen k 0x080B

/-- R57: the staged set becomes the active set at the tick of frame k. -/
def State.commitNow (s : State) (k : Nat) : State :=
  let keys := s.changedKeys
  let before := s
  let d := s.dict.shadow.foldl (fun d p => d.setActive (p.1 / 256) (p.1 % 256) p.2) s.dict
  let s := { s with dict := { d with shadow := [] },
                    ctl := { s.ctl with st := .idle, target := 0, owner := 0, activeSetId := (s.ctl.activeSetId + 1) % u32Mod, stagedRev := 0, committed := true } }
  let s := s.applyChanges before k keys
  let s := if keys.any (fun j => isStored (j / 256) (j % 256)) then s.dueSave else s
  s.recomputeBudget.signalStatus

/-- R57, R58: the pending commit at the tick of frame n: made, or cancelled where its frame has been passed over. -/
def State.commitAt (s : State) (n : Nat) : State :=
  if s.ctl.st != .pending then s
  else if s.ctl.target == n then s.commitNow n
  else if s.ctl.target < n then s.cancelCommit
  else s

end Sys2Proof.Machine
end

