-- ==== Sys2Proof/Machine/HostOps.lean ====
section
/-!
DEFINITION. Operations of the host interface (13_host_interface.md): admission (09_galleries_dispatch.md R282), the journal and its mirror (R412, R413, 14_peer_links.md R443, R444),
completion records (R408 to R410), and the acceptance of packets and descriptors (R74, R76, R407).
-/
namespace Sys2Proof.Machine
open Sys2Proof

/-! Frames of inputs (R74, R76) -/

/-- The seal of frame N on the timebase. -/
def State.sealOf (s : State) (n : Nat) : Int := s.tickOf n + (s.us 0x2010 2 : Int) - s.tb.phaseError

/-- The timebase drives the frames (R375): the current frame is a live one. -/
def State.liveFrames (s : State) : Bool := s.tb.ticked && s.tb.curFrame == s.tb.liveFrame && (s.det.replay == .live || s.det.replay == .entering)

/-- R74: the frame a stamp belongs to: the current frame, or, its seal having passed, the next, whose number its tick fixes. No frame is sealed by the timebase before the first tick,
or while frames are replayed (R375). -/
def State.frameOfStamp (s : State) (stamp : Nat) : Nat :=
  if !s.liveFrames then pendingFrame
  else
    let sealed' := match s.work? s.tb.curFrame with | some w => w.sealed | none => false
    if sealed' || s.sealOf s.tb.curFrame < (stamp : Int) then pendingFrame else s.tb.curFrame

/-- R76: a packet stamped within SealGuard of a seal. -/
def State.guardBand (s : State) (stamp frame : Nat) : State :=
  let g : Nat := s.us 0x2003 1
  let near (n : Nat) : Bool := decide (((stamp : Int) - s.sealOf n).natAbs ≤ g)
  let before : Bool := if frame == pendingFrame then near s.tb.curFrame else decide (0 < frame) && near (frame - 1)
  if s.liveFrames && (near (s.numberOf frame) || before) then (s.count 0x2021 3 1).choice frame 0 true else s

/-! The journal (R412) -/

def padTo (n : Nat) (b : List Byte) : List Byte := b ++ List.replicate ((n - b.length % n) % n) 0#8

/-- R401: the 64 bytes of a descriptor. -/
def Desc.bytes (d : Desc) : List Byte :=
  leBytes 4 d.sequence ++ leBytes 2 d.client ++ leBytes 1 d.opcode
    ++ leBytes 1 ((if d.targeted then 1 else 0) + (if d.devicePayload then 2 else 0) + (if d.notify then 4 else 0) + 8 * d.reserved)
    ++ leBytes 8 d.userTag ++ leBytes 8 d.payloadAddress ++ leBytes 4 d.payloadLength ++ leBytes 4 d.targetFrame ++ slice d.specific 0 32

def descOf (b : List Byte) : Desc :=
  let f := fieldAt b 7 1
  { sequence := fieldAt b 0 4, client := fieldAt b 4 2, opcode := fieldAt b 6 1, targeted := f.testBit 0, devicePayload := f.testBit 1, notify := f.testBit 2, reserved := f / 8,
    userTag := fieldAt b 8 8, payloadAddress := fieldAt b 16 8, payloadLength := fieldAt b 24 4, targetFrame := fieldAt b 28 4, specific := slice b 32 32 }

def JState.code : JState → Nat
  | .accepted => 1 | .completing => 2 | .retired => 3

/-- The payload that the journal holds: a stream packet's. -/
def JRec.journaled (j : JRec) : List Byte :=
  match j.desc with
  | some d => if d.opcode == 1 then j.payload else []
  | none => j.payload

/-- R412: the bytes of a journal record. -/
def JRec.bytes (j : JRec) : List Byte :=
  leBytes 4 0x5A4A5231 ++ leBytes 1 j.st.code ++ leBytes 1 (if j.isDescriptor then 1 else 2) ++ leBytes 2 j.owner ++ leBytes 4 j.submitIndex ++ leBytes 4 j.sequence
    ++ leBytes 8 j.stamp ++ leBytes 4 j.completionIndex ++ leBytes 4 j.journaled.length ++ List.replicate 32 0#8
    ++ (match j.desc with | some d => d.bytes | none => List.replicate 64 0#8) ++ slice j.completion 0 32 ++ List.replicate 32 0#8 ++ padTo 64 j.journaled

/-- A record read back from its bytes, under an identifier. -/
def jrecOf (id : Nat) (b : List Byte) : JRec :=
  let isDesc := fieldAt b 5 1 == 1
  { id := id, st := match fieldAt b 4 1 with | 1 => .accepted | 2 => .completing | _ => .retired, isDescriptor := isDesc, owner := fieldAt b 6 2, submitIndex := fieldAt b 8 4,
    sequence := fieldAt b 12 4, stamp := fieldAt b 16 8, completionIndex := fieldAt b 24 4, desc := if isDesc then some (descOf (slice b 64 64)) else none,
    payload := slice b 192 (fieldAt b 28 4), payloadOk := true, completion := slice b 128 32, outcome := none, replayed := false, badA := false, badB := false, waitsMirror := false, ready := false }

def State.record? (s : State) (id : Nat) : Option JRec := s.host.journal.find? (fun j => j.id == id)
def State.modRecord (s : State) (id : Nat) (f : JRec → JRec) : State :=
  { s with host := { s.host with journal := modFirst (fun j => j.id == id) f s.host.journal } }

/-- Bytes of the 256 MiB journal in use. -/
def State.journalUsed (s : State) : Nat := natSum (s.host.journal.map (fun j => 192 + (padTo 64 j.journaled).length))

/-- R412: retired records at the oldest end give their space back; an episode of a full journal ends when some does. -/
def State.trimJournal (s : State) : State :=
  let left := s.host.journal.dropWhile (fun j => j.st == .retired)
  { s with host := { s.host with journal := left, journalFull := s.host.journalFull && left.length == s.host.journal.length } }

/-- Room for a payload in the journal. -/
def State.journalRoom (s : State) (payload : Nat) : Bool := decide (s.journalUsed + 192 + 64 * ceilDiv payload 64 ≤ 268435456)

/-! Admission (R282, R412) -/

/-- R282, R412, R445: credits are withheld: the external part of the pool or the journal is full, or the peer budget is spent. -/
def State.withholds (s : State) : Bool := !s.poolRoom || s.host.journalFull || s.peerBudgetSpent

/-- R282, R428: credits withheld on the peer ports: a PFC pause of the data priority, which is lifted when they are given again. -/
def State.signalPause (s : State) : State :=
  if s.withholds == s.group.pauseSent then s
  else
    let pause := s.withholds
    let s : State := { s with group := { s.group with pauseSent := pause } }
    ([0, 1].filter (fun p => (s.port p).up)).foldl (fun s p => s.send (.pfc p (s.cfg 0x8600 0x0C) pause)) s

/-- R282: whether the external part of the pool has a free descriptor for new work; full, it withholds credits, and each episode is counted and reported once. -/
def State.takeDescriptor (s : State) : Bool × State :=
  if s.poolRoom then (true, { s with disp := { s.disp with withheld := false } })
  else (false, if s.disp.withheld || s.poolFree then s else (({ s with disp := { s.disp with withheld := true } }).count 0x7101 7 1).raiseOpen s.tb.curFrame 0x0706)

/-- Whether external work with a payload may be admitted: a descriptor (R282), room in the journal, whose episodes without it are counted (R412), and, for a stream packet, the peer
budget (R445). -/
def State.takeRoom (s : State) (payload : Nat) : Bool × State :=
  let (free, s) := s.takeDescriptor
  let (room, s) : Bool × State :=
    if !free then (false, s)
    else if !s.host.journalFull && s.journalRoom payload then (payload == 0 || !s.peerBudgetSpent, s)
    else (false, if s.host.journalFull then s else (({ s with host := { s.host with journalFull := true } }).count 0x8402 5 1).raiseOpen s.tb.curFrame 0x0208)
  (room, s.signalPause)

/-- R443: a STANDBY accepts nothing of its own. -/
def State.accepts (s : State) : Bool := s.works && !(s.groupMode == 1 && s.group.role == 5)

/-! The mirror (R443, R444) -/

/-- Sends a journal record, or its change of state, to the mirror; the answer says whether a mirror holds it. -/
def State.mirror (s : State) (j : JRec) : Bool × State :=
  match s.mirrorTarget with
  | none => (false, s)
  | some d =>
    if s.peerPresent d then
      let seq := (s.peer d).txSeq + 1
      let s := s.sendGroup d 9 true 0 s.tb.curFrame 0 j.bytes
      (true, { s with group := { s.group with mirrorSent := s.group.mirrorSent ++ [(seq, j.id)] } })
    else if s.group.mirrorDown then (false, s)
    else
      let s := (({ s with group := { s.group with mirrorDown := true } }).raise 0x0908 d).setCause 3
      (false, if s.journalSingle then s.deviceFault 2 else s)

/-- Writes a new journal record, and sends it to the mirror. -/
def State.journalWrite (s : State) (j : JRec) : State :=
  let (held, s) := s.mirror j
  { s with host := { s.host with journal := s.host.journal ++ [{ j with waitsMirror := held }], nextJournal := s.host.nextJournal + 1 } }

/-! Completion (R408 to R410) -/

/-- R408: a completion record for its PHASE bit. -/
def completionBytes (sequence client kind tag status length frame : Nat) (replayed original phase : Bool) : List Byte :=
  leBytes 4 sequence ++ leBytes 2 client ++ leBytes 1 kind ++ leBytes 1 ((if phase then 1 else 0) + (if replayed then 2 else 0) + (if original then 4 else 0))
    ++ leBytes 8 tag ++ leBytes 2 status ++ leBytes 2 0 ++ leBytes 4 length ++ leBytes 8 frame

/-- R408: writes a record of a descriptor to its client's completion ring. -/
def State.postRecord (s : State) (d : Desc) (kind status length frame : Nat) (replayed original : Bool) : State :=
  s.ringPush (4 * d.client + 1) (completionBytes d.sequence d.client kind d.userTag status length frame replayed original) (kind == 2 && d.notify)

/-- The outcome with which an item has committed (R264, R410). -/
def State.setOutcome (s : State) (id status length : Nat) : State :=
  let mirrored := s.group.mirrored.map (fun m => if m.record.id == id then { m with record := { m.record with outcome := some (status, length) } } else m)
  ({ s with group := { s.group with mirrored := mirrored } }).modRecord id (fun j => { j with outcome := some (status, length) })

/-- A record with its COMPLETED record's place and bytes. -/
def JRec.completing (j : JRec) (index : Nat) (bytes : List Byte) : JRec := { j with st := .completing, completionIndex := index, completion := bytes }

/-- R413: a journal record is retired, at the mirror too. -/
def State.retireRecord (s : State) (j : JRec) : State :=
  ((s.modRecord j.id (fun j => { j with st := .retired })).mirror { j with st := .retired }).2.trimJournal

/-- R403: LAST_STATUS and the descriptors outstanding of a client's descriptor ring as one completes. -/
def State.ringCompletes (s : State) (client status : Nat) : State :=
  match s.ring? (4 * client) with
  | some x => s.setRing (4 * client) { x with outstanding := x.outstanding - 1, lastStatus := if status == 0 then x.lastStatus else status }
  | none => s

/-- R408, R412, R413: the COMPLETED record of a descriptor is written, and its journal record retired. -/
def State.completeDesc (s : State) (j : JRec) (d : Desc) : State :=
  let (status, length) : Nat × Nat := j.outcome.getD (0, 0)
  let ring := 4 * d.client + 1
  let index := match s.ring? ring with | some x => x.producer | none => 0
  let bytes := completionBytes d.sequence d.client 2 d.userTag status length s.tb.curFrame j.replayed false (phaseAt index (s.ringCfg ring).size)
  let s : State := s.modRecord j.id (fun j => j.completing index bytes)
  let s : State := (s.mirror (j.completing index bytes)).2
  let s : State := (s.postRecord d 2 status length s.tb.curFrame j.replayed false).count 0x8402 3 1
  let s : State := (s.ringCompletes d.client status).retireRecord (j.completing index bytes)
  let draining : Bool := match s.ring? ring with | some x => x.st == .draining | none => false
  if draining then s.drainDone d.client else s

/-- R412, R413: the record of an item that has committed: its COMPLETED record is written, and it is retired. -/
def State.completeRecord (s : State) (id : Nat) : State :=
  match s.record? id with
  | none => s
  | some j => if j.st == .retired then s else match j.desc with | none => s.retireRecord j | some d => s.completeDesc j d

/-! Acceptance (R74, R407, R413) -/

/-- The stream fed by a transport and a source (R101). -/
def State.streamBy (s : State) (transport source : Nat) : Option Nat :=
  (List.range 128).find? (fun n => s.cfg (0x3100 + n) 1 != 0 && s.cfg (0x3100 + n) 2 == transport && s.cfg (0x3100 + n) 3 == source)

/-- A queue pair the device has: towards a chip of the group on a port (R433), or bound to an enabled RoCEv2 client or stream (R398, R101). -/
def State.qpKnown (s : State) (n : Nat) : Bool :=
  (decide (0x100 ≤ n) && decide (n < 0x108) && s.otherChips.contains (n % 4))
    || (List.range ((s.cfgBytes 0x8400 1).length / 32)).any (fun c => (s.clientCfg c).enabled && (s.clientCfg c).transport == 1 && (s.clientCfg c).binding == n)
    || (s.streamBy 2 n).isSome

/-- The clients of a queue pair (R398). -/
def State.qpClients (s : State) (n : Nat) : List Nat :=
  (List.range ((s.cfgBytes 0x8400 1).length / 32)).filter (fun c => (s.clientCfg c).enabled && (s.clientCfg c).transport == 1 && (s.clientCfg c).binding == n)

/-- R404: the frame a targeted descriptor names, counted from the current one. -/
def State.targetOf (s : State) (d : Desc) : Option Nat :=
  if !d.targeted then none
  else
    let ahead := (d.targetFrame + u32Mod - s.tb.curFrame % u32Mod) % u32Mod
    some (if ahead < 2147483648 then s.tb.curFrame + ahead else s.tb.curFrame + ahead - u32Mod)

/-- R416: the item of a record that RESUME, or a takeover, runs again carries REPLAY. -/
def State.replaying (s : State) (journal : Nat) : Bool := ((s.record? journal).map (·.replayed)).getD false

/-- R22, R265: an accepted packet waits for its filter. -/
def State.queuePacket (s : State) (n : Nat) (bytes : List Byte) (stamp journal : Nat) (target : Option Nat) (frame : Nat) : State :=
  let p : InPacket := { bytes := bytes, stamp := stamp, transport := s.cfg (0x3100 + n) 2, source := s.cfg (0x3100 + n) 3, journal := journal, target := target, frame := frame,
                        afterSeal := s.liveFrames && frame == pendingFrame }
  let s := s.modStream n (fun x => { x with waiting := x.waiting ++ [p] })
  s.addItem { kind := .streamPacket, cls := 5, flow := some n, spec := false, replay := s.replaying journal, pinned := false, lane := n, frame := frame, arg := journal, version := 0,
              dispatcher := 18, release := none, field := (s.record? journal).map (·.submitIndex) }

/-- R401, R265: the item of an accepted host command. -/
def State.queueCommand (s : State) (d : Desc) (journal : Nat) : State :=
  let engines := d.opcode == 6 || d.opcode == 7
  let lane := 256 + d.client % 256
  s.addItem { kind := .hostCommand, cls := if engines then 7 else 5, flow := some (0x80 + d.client), spec := false, replay := s.replaying journal, pinned := false, lane := if engines then lane else 0,
              frame := s.tb.curFrame, arg := journal, version := 0, dispatcher := if engines then s.homeOf lane else 19, release := s.hostRelease journal, field := (s.record? journal).map (·.submitIndex) }

/-- R124, R410: a packet that was accepted on a ring whose stream a commit has disabled since is discarded with 0x030B. -/
def State.unfedPacket (s : State) (id : Nat) : State := (s.setOutcome id 0x030B 0).completeRecord id

/-- The rest of an acceptance, once the journal record is stored: the ACCEPTED record, CONSUMER and NEXT_SEQUENCE, and the ready item (R407 step 4). -/
def State.finishAccept (s : State) (id : Nat) : State :=
  match s.record? id with
  | none => s
  | some j =>
    let s := s.modRecord id (fun j => { j with waitsMirror := false, ready := true })
    let frame := s.frameOfStamp j.stamp
    match j.desc with
    | none => s.queuePacket j.owner j.payload j.stamp id none frame
    | some d =>
      let ring := 4 * d.client
      let s := match s.ring? ring with
        | some x => s.setRing ring { x with consumer := (x.consumer + 1) % u32Mod, nextSeq := (d.sequence + 1) % u32Mod, seqSet := true, outstanding := x.outstanding + 1 }
        | none => s
      let s := (s.postRecord d 1 0 0 (if d.opcode == 1 then s.numberOf frame else s.tb.curFrame) false false).count 0x8402 1 1
      if d.opcode == 1 then
        match s.streamBy 0 ring with
        | some n => s.queuePacket n j.payload j.stamp id (s.targetOf d) frame
        | none => s.unfedPacket id
      else s.queueCommand d id

/-- R416 step 2: an ACCEPTED record is replayed. A packet whose frame has sealed is a late input of the frame it now belongs to. -/
def State.resumeAccepted (s : State) (j : JRec) : State :=
  let s : State := (s.modRecord j.id (fun j => { j with replayed := true, ready := true, outcome := none })).count 0x8402 6 1
  let frame := s.frameOfStamp j.stamp
  let before : Nat := if frame == pendingFrame then s.tb.curFrame else frame - 1
  let past : Option Nat := if s.liveFrames && decide (before < frame) && decide ((j.stamp : Int) ≤ s.sealOf before) then some before else none
  match j.desc with
  | none => s.queuePacket j.owner j.payload j.stamp j.id past frame
  | some d =>
    if d.opcode == 1 then
      match s.streamBy 0 (4 * d.client) with
      | some n => s.queuePacket n j.payload j.stamp j.id (past.orElse (fun _ => s.targetOf d)) frame
      | none => s.unfedPacket j.id
    else s.queueCommand d j.id

/-- A packet of a log waits for its filter: it belongs to the replayed frame, whatever its stamp. Its number among journal records names it. -/
def State.replayPacket (s : State) (frame : Nat) (e : Nat × Nat × List Byte) : State :=
  if 128 ≤ e.1 || s.cfg (0x3100 + e.1) 1 == 0 then s
  else
    let id := s.host.nextJournal
    ({ s with host := { s.host with nextJournal := id + 1 } }).queuePacket e.1 e.2.2 e.2.1 id none frame

/-- R282: what waits for a descriptor before anything new takes one as descriptors are free: the accepted records that RESUME or a takeover runs again (R416, R448), in journal order, and
the packets of a replayed frame's log (R376). -/
def State.feedBacklog (s : State) : State :=
  let due := if s.host.recovery then [] else s.host.journal.filter (·.unqueued)
  let s := due.foldl (fun s j => if s.poolFree then s.resumeAccepted j else s) s
  match s.det.run with
  | none => s
  | some r =>
    let next := r.packets.take (s.cfg 0x7100 0x0D - s.externalItems)
    let s : State := next.foldl (fun s e => s.replayPacket r.frame e) s
    { s with det := { s.det with run := some { r with packets := r.packets.drop next.length } } }

/-- R443: the STANDBY applies a mirrored packet with the PRIMARY's acceptance stamp. -/
def State.applyMirrored (s : State) (j : JRec) : State :=
  let frame := s.frameOfStamp j.stamp
  match j.desc with
  | none => s.queuePacket j.owner j.payload j.stamp j.id none frame
  | some d =>
    if d.opcode == 1 then
      match s.streamBy 0 (4 * d.client) with
      | some n => s.queuePacket n j.payload j.stamp j.id (s.targetOf d) frame
      | none => s
    else s

/-- R282, R443: the STANDBY admits what its PRIMARY has mirrored, in order, each record that holds a packet as a descriptor is free for its item, and reports the copies stored; a record
without room, and all after it, wait, and with them their acknowledgements, without which the PRIMARY does not accept (R407). -/
def State.admitMirrored (s : State) : State :=
  (s.group.mirrored.filter (fun m => m.ackDue.isSome)).foldl (fun s m =>
    match m.ackDue with
    | none => s
    | some (frame, sequence) =>
      if (s.group.mirrored.find? (fun x => x.ackDue.isSome)).map (fun x => x.record.id) != some m.record.id then s
      else
        let applies : Bool := s.groupMode == 1 && s.group.role == 5 && m.record.st == .accepted && (match m.record.desc with | some d => d.opcode == 1 | none => true)
        let (room, s) := if applies then s.takeDescriptor else (true, s)
        if !room then s
        else
          let s : State := { s with group := { s.group with mirrored := modFirst (fun x => x.record.id == m.record.id) (fun x => { x with ackDue := none }) s.group.mirrored } }
          (if applies then s.applyMirrored m.record else s).sendGroup m.chip 0x0A true 0 frame 0 (leBytes 8 sequence)) s

/-- R407 steps 2 to 4: a new record is journaled; where no mirror is waited for, it is accepted. -/
def State.acceptRecord (s : State) (j : JRec) : State :=
  let s := s.journalWrite j
  let packet : Bool := match j.desc with | some d => d.opcode == 1 | none => true
  let s := if packet then s.guardBand j.stamp (s.frameOfStamp j.stamp) else s
  match s.record? j.id with
  | some j => if j.waitsMirror then s else s.finishAccept j.id
  | none => s

/-- R416: records of stream n's network packets wait for RESUME, which replays them in stamp order, so that none after them is accepted before. -/
def State.streamRecovers (s : State) (n : Nat) : Bool := s.host.recovery && s.host.journal.any (fun j => !j.isDescriptor && j.owner == n && j.unqueued)

/-- R413: a network packet of stream n is journaled, stamped and accepted, where central dispatch admits it. -/
def State.acceptNetwork (s : State) (n : Nat) (bytes : List Byte) : State :=
  let (ok, s) := if s.streamRecovers n then (false, s) else s.takeRoom bytes.length
  if !ok then s
  else
    let id := s.host.nextJournal
    let j : JRec :=
      { id := id, st := .accepted, isDescriptor := false, owner := n, submitIndex := 0, sequence := 0, stamp := s.time, completionIndex := 0, desc := none, payload := bytes,
        payloadOk := true, completion := [], outcome := none, replayed := false, badA := false, badB := false, waitsMirror := false, ready := false }
    s.acceptRecord j

end Sys2Proof.Machine
end

