-- ==== Sys2Proof/Machine/Records.lean ====
section
/-!
DEFINITION. Update records (04_world_model.md R104 to R106): the words of a packet read into records, and the first malformed one.
-/
namespace Sys2Proof.Machine
open Sys2Proof

/-- What the tests of R106 need to know of the packet's stream: its kind, the type of its target layer, the acceptance stamp, and whether it may carry urgent deltas (R123). -/
structure ReadCfg where
  kind : Nat
  layerType : Nat
  stamp : Nat
  urgentAllowed : Bool
  deriving DecidableEq, Repr

def State.readCfg (s : State) (n stamp : Nat) : ReadCfg :=
  let k := s.cfg (0x3100 + n) 1
  { kind := k, layerType := s.cfg (0x3210 + s.cfg (0x3100 + n) 5) 1, stamp := stamp, urgentAllowed := s.cfgB (0x3100 + n) 7 && (k == 1 || k == 2) }

/-- R105: the cell format of a raster stream: bits per cell. -/
def ReadCfg.cellBits (c : ReadCfg) : Nat :=
  match c.kind with
  | 1 => 2
  | 4 => 8
  | _ => match c.layerType with | 1 => 2 | 2 => 8 | _ => 1

/-- R100: the record kinds a stream kind may carry. -/
def recordAllowed (stream kind : Nat) : Bool :=
  kind == 0x0F || (match stream with
    | 1 | 4 | 6 => kind == 1 || kind == 2
    | 2 => kind == 3 || kind == 4
    | 3 => kind == 5 || kind == 6
    | 5 => kind == 7
    | _ => false)

/-- Word i of a record, and two words as a U64. -/
def recWord (ws : List Nat) (i : Nat) : Nat := (ws[i]?).getD 0
def recWide (ws : List Nat) (i : Nat) : Nat := recWord ws i + 2 ^ 32 * recWord ws (i + 1)
def recF32 (ws : List Nat) (i : Nat) : F32 := BitVec.ofNat 32 (recWord ws i)
def recF64 (ws : List Nat) (i : Nat) : F64 := BitVec.ofNat 64 (recWide ws i)

/-- The cells of a raster tile, from word 6 on. -/
def rasterCells (bits : Nat) (ws : List Nat) : List Nat :=
  let per := 32 / bits
  (List.range 4096).map (fun k => bitsAt (recWord ws (6 + k / per)) (bits * (k % per)) bits)

/-- A field that is neither a NaN nor an infinity and not negative; and one that is positive. -/
def notNegative (a : F32) : Bool := f32Finite a && f32Le f32Zero a
def positive (a : F32) : Bool := f32Finite a && f32Lt f32Zero a

/-- An AGENT record (R105): its modes. -/
def agentModes (samples : Nat) (ws : List Nat) : Nat → Nat → List AgentMode
  | 0, _ => []
  | n + 1, at' =>
    ⟨recF32 ws at', (List.range samples).map (fun k => (recF32 ws (at' + 1 + 3 * k), recF32 ws (at' + 2 + 3 * k), recF32 ws (at' + 3 + 3 * k)))⟩
      :: agentModes samples ws n (at' + 1 + 3 * samples)

def readAgent (time : Nat) (ws : List Nat) : Option UpdRec :=
  let w5 := recWord ws 5
  let modes := bitsAt w5 8 8
  let samples := bitsAt w5 16 8
  let a : Agent :=
    { id := recWord ws 4, cls := bitsAt w5 0 8, modes := agentModes samples ws modes 16, x := recF64 ws 6, y := recF64 ws 8, heading := recF32 ws 10, speed := recF32 ws 11,
      length := recF32 ws 12, width := recF32 ws 13, step := recF32 ws 14, time := time }
  let ok := decide (a.cls ≤ 7) && decide (1 ≤ modes) && decide (modes ≤ 6) && decide (1 ≤ samples) && decide (samples ≤ 96) && bitsAt w5 24 8 == 0 && recWord ws 15 == 0
    && ws.length == 16 + modes * (1 + 3 * samples) && f64Finite a.x && f64Finite a.y && f32Finite a.heading && notNegative a.speed && positive a.length && positive a.width
    && f32Finite a.step && f32Le 0x3D4CCCCD#32 a.step && f32Le a.step 0x3F000000#32
    && a.modes.all (fun m => f32Finite m.prob && m.samples.all (fun p => f32Finite p.1 && f32Finite p.2.1 && f32Finite p.2.2))
  if ok then some (.agent a) else none

/-- A ROUTE_SEGMENT record. -/
def readSegment (ws : List Nat) : Option UpdRec :=
  let r : RouteSeg :=
    { id := recWord ws 4, onRoute := (recWord ws 5).testBit 0, x := recF64 ws 6, y := recF64 ws 8,
      points := (List.range 8).map (fun k => (recF32 ws (10 + 2 * k), recF32 ws (11 + 2 * k))), widthLeft := recF32 ws 26, widthRight := recF32 ws 27, speedLimit := recF32 ws 28 }
  let ok := ws.length == 29 && recWord ws 5 / 2 == 0 && f64Finite r.x && f64Finite r.y && r.points.all (fun p => f32Finite p.1 && f32Finite p.2)
    && f32Finite r.widthLeft && f32Finite r.widthRight && f32Finite r.speedLimit
  if ok then some (.segment r) else none

/-- An EGO_STATE record. -/
def readEgo (time mapFrame : Nat) (ws : List Nat) : Option UpdRec :=
  let e : EgoState :=
    { x := recF64 ws 4, y := recF64 ws 6, heading := recF32 ws 8, speed := recF32 ws 9, accel := recF32 ws 10, curvature := recF32 ws 11, art1 := recF32 ws 12, art2 := recF32 ws 13,
      time := time, mapFrame := mapFrame }
  let ok := ws.length == 14 && f64Finite e.x && f64Finite e.y && f32Finite e.heading && notNegative e.speed && f32Finite e.accel && f32Finite e.curvature
    && f32Finite e.art1 && f32Finite e.art2
  if ok then some (.ego e) else none

/-- A record of the right length read by its kind; none where it is malformed (R106). -/
def readRecord (c : ReadCfg) (ws : List Nat) : Option UpdRec :=
  let kind := bitsAt (recWord ws 0) 0 8
  let time := recWide ws 2
  let tile : Int × Int := (signedOf 32 (recWord ws 4), signedOf 32 (recWord ws 5))
  if bitsAt (recWord ws 0) 8 8 != 0 || recWord ws 1 / 65536 != 0 || !recordAllowed c.kind kind || c.stamp < time then none
  else match kind with
  | 1 =>
    let cells := rasterCells c.cellBits ws
    if ws.length == 6 + 128 * c.cellBits && !(c.cellBits == 2 && cells.contains 3) then some (.rasterTile ⟨tile.1, tile.2, time, cells⟩) else none
  | 2 => if ws.length == 6 then some (.tileDrop tile.1 tile.2) else none
  | 3 => readAgent time ws
  | 4 => if ws.length == 5 then some (.agentRemove (recWord ws 4)) else none
  | 5 => readSegment ws
  | 6 => if ws.length == 4 then some .routeClear else none
  | 7 => readEgo time (bitsAt (recWord ws 1) 0 16) ws
  | 0x0F => if ws.length == 8 && recWord ws 5 / 2 == 0 then some (.packetEnd (recWord ws 4) ((recWord ws 5).testBit 0) (recWide ws 6)) else none
  | _ => none

/-- A packet read: its records, the position of the first malformed one, and what its PACKET_END says. -/
structure ReadPacket where
  records : List (Nat × Nat × Nat × UpdRec)
  bad : Option Nat
  urgent : Bool
  target : Option Nat
  /-- The words end before a record does, or before a PACKET_END. -/
  short : Bool
  deriving DecidableEq, Repr

/-- Reads records from position `at'` on, `n` having been read before. -/
def readRecords (c : ReadCfg) : Nat → Nat → Nat → List Nat → ReadPacket
  | 0, _, at', _ => ⟨[], some at', false, none, true⟩
  | fuel + 1, n, at', ws =>
    let len := bitsAt (recWord ws 0) 16 16
    let last := at' + min (max len 4) (max ws.length 1) - 1
    if ws.length < 4 || len < 4 || ws.length < len then ⟨[], some last, false, none, ws.length < 4 || 4 ≤ len⟩
    else
      let r := ws.take len
      let mapFrame := bitsAt (recWord r 1) 0 16
      match readRecord c r with
      | none => ⟨[(mapFrame, at' + 3, recWide r 2, .routeClear)], some last, false, none, false⟩
      | some (.packetEnd count urgent target) =>
        let after := ws.drop len
        let bad := if count != n || (urgent && !c.urgentAllowed) then some last else if after.isEmpty then none else some (last + 1)
        ⟨[(mapFrame, at' + 3, recWide r 2, .packetEnd count urgent target)], bad, urgent, if target == 0 then none else some target, false⟩
      | some rec =>
        let x := readRecords c fuel (n + 1) (at' + len) (ws.drop len)
        { x with records := (mapFrame, at' + 3, recWide r 2, rec) :: x.records }

/-- R104 to R106: the words of a packet. -/
def readPacket (c : ReadCfg) (ws : List Nat) : ReadPacket := readRecords c (ws.length + 1) 0 0 ws

end Sys2Proof.Machine
end

