-- ==== Sys2Proof/Machine/Source.lean ====
section
/-!
DEFINITION. The source state (04_world_model.md R95, R96, R107, R112, R124 to R127): the application of records, and what a seal does to streams, agents and the ego state.
-/
namespace Sys2Proof.Machine
open Sys2Proof

/-! Records applied to a stream (R107) -/

/-- R107: the squared distance of a point from the reference position. -/
def refDist (ref p : Pt) : F64 := ptNorm2 (ptSub p ref)

/-- The centre of a source tile. -/
def srcCentre (cell : F64) (tx ty : Int) : Pt :=
  let w := f64Mul (f64OfInt 64) cell
  let at' (i : Int) : F64 := f64Mul (f64Add (f64OfInt i) f64Half) w
  (at' tx, at' ty)

/-- The element that lies farthest under a distance; ties go to the one that comes first. -/
def farthest {α : Type} (dist : α → F64) : List α → Option α
  | [] => none
  | x :: xs => match farthest dist xs with | some y => if f64Lt (dist x) (dist y) then some y else some x | none => some x

/-- Puts a tile in place of the one of its key, the farthest evicted first from a full store; the count of evictions. -/
def Stream.putTile (x : Stream) (cell : F64) (ref : Pt) (t : SrcTile) : Stream × Nat :=
  let x := { x with lostKeys := x.lostKeys.filter (· != LostKey.tile t.tx t.ty) }
  if x.tiles.any (fun u => u.tx == t.tx && u.ty == t.ty) then
    ({ x with tiles := x.tiles.map (fun u => if u.tx == t.tx && u.ty == t.ty then t else u) }, 0)
  else if x.tiles.length < 1024 then ({ x with tiles := x.tiles ++ [t] }, 0)
  else
    let order := x.tiles.mergeSort (fun a b => decide (a.ty < b.ty) || (decide (a.ty = b.ty) && decide (a.tx ≤ b.tx)))
    match farthest (fun u : SrcTile => refDist ref (srcCentre cell u.tx u.ty)) order with
    | some v => ({ x with tiles := x.tiles.filter (fun u => !(u.tx == v.tx && u.ty == v.ty)) ++ [t] }, 1)
    | none => (x, 0)

/-- Puts a segment in place of the one of its ID, the farthest evicted first from a full store. -/
def Stream.putSegment (x : Stream) (ref : Pt) (r : RouteSeg) : Stream × Nat :=
  if x.segments.any (fun u => u.id == r.id) then ({ x with segments := x.segments.map (fun u => if u.id == r.id then r else u) }, 0)
  else if x.segments.length < 512 then ({ x with segments := x.segments ++ [r] }, 0)
  else
    let order := x.segments.mergeSort (fun a b => decide (a.id ≤ b.id))
    match farthest (fun u : RouteSeg => refDist ref (u.x, u.y)) order with
    | some v => ({ x with segments := x.segments.filter (fun u => u.id != v.id) ++ [r] }, 1)
    | none => (x, 0)

/-- R107: one record applied to a stream, with the number of evictions. -/
def Stream.apply (x : Stream) (cell : F64) (ref : Pt) (r : UpdRec) : Stream × Nat :=
  match r with
  | .rasterTile t => x.putTile cell ref t
  | .tileDrop tx ty => ({ x with tiles := x.tiles.filter (fun u => !(u.tx == tx && u.ty == ty)), lostKeys := x.lostKeys.filter (· != LostKey.tile tx ty) }, 0)
  | .agent a => ({ x with agents := if x.agents.any (fun u => u.id == a.id) then x.agents.map (fun u => if u.id == a.id then a else u) else x.agents ++ [a] }, 0)
  | .agentRemove id => ({ x with agents := x.agents.filter (fun u => u.id != id) }, 0)
  | .segment g => x.putSegment ref g
  | .routeClear => ({ x with segments := [] }, 0)
  | .ego e => ({ x with ego := match x.ego with | some o => if o.time ≤ e.time then some e else some o | none => some e }, 0)
  | .packetEnd _ _ _ => (x, 0)

/-- A record that is an update, as opposed to PACKET_END. -/
def UpdRec.isUpdate : UpdRec → Bool
  | .packetEnd _ _ _ => false
  | _ => true

/-- All records of a packet applied, in the order they were written (R102); the newest SENSOR_TIME of a stream (R125) is that of any record, PACKET_END among them (log entry 35). -/
def Stream.applyAll (x : Stream) (cell : F64) (ref : Pt) (rs : List (Nat × Nat × Nat × UpdRec)) : Stream × Nat :=
  rs.foldl (fun (x, n) r =>
    let (y, m) := x.apply cell ref r.2.2.2
    ({ y with newest := some (match y.newest with | some t => max t r.2.2.1 | none => r.2.2.1) }, n + m)) (x, 0)

/-- The source cell size of a stream, in FP64. -/
def State.srcCell (s : State) (n : Nat) : F64 := f64OfF32 (s.cfgF (0x3100 + n) 0x0A)

/-- R107: the reference position. -/
def World.ref (w : World) : Pt := (w.refX, w.refY)

/-- R124: the status with which a packet is discarded at its seal: the first cause met, the map-frame test at each header's last word among them. -/
def HeldPacket.discard (p : HeldPacket) (kind : Nat) (test : Option Nat) : Option Nat :=
  if kind == 0 then some 0x030B
  else
    let wrong := match test with
      | some f => (p.records.find? (fun r => r.1 != f)).map (fun r => (r.2.1, 0x0304))
      | none => none
    match p.cause, wrong with
    | some (a, x), some (b, y) => if a ≤ b then some x else some y
    | some (_, x), none => some x
    | none, some (_, y) => some y
    | none, none => none

/-- R74, R75: a packet applied for a frame has a target frame earlier than the frame that its stamp gives: that one, or, for an urgent delta, the next. -/
def State.isLate (s : State) (frame : Nat) (p : HeldPacket) : Bool :=
  match p.target with | some f => decide (f < if p.frame == pendingFrame then s.nextNumber else frame) | none => false

/-- R102, R124: a held packet enters the source state, or is discarded; its journal record completes (R410, R413). A late one counts as it is applied (R74). -/
def State.takePacket (s : State) (n frame : Nat) (p : HeldPacket) (test : Option Nat) : State :=
  match p.discard (s.cfg (0x3100 + n) 1) test with
  | some status =>
    let s := (s.modStream n (fun x => { x with discarded := true })).count (0x3180 + n) 2 1
    let s := if status == 0x0302 then s.disturb frame else s
    (s.setOutcome p.journal status 0).completeRecord p.journal
  | none =>
    let (x, evicted) := (s.stream n).applyAll (s.srcCell n) s.world.ref p.records
    let s := s.modStream n (fun _ => { x with applied := true })
    let s := (s.count (0x3180 + n) 1 1).count (0x3180 + n) 3 (p.records.filter (fun r => r.2.2.2.isUpdate)).length
    let s := if evicted == 0 then s else s.count (0x3180 + n) 6 evicted
    let s := if s.isLate frame p then (s.count 0x2021 2 1).raiseFor frame 0x0386 n (s.openArg2 0x0386) else s
    (s.setOutcome p.journal 0 0).completeRecord p.journal

/-- The packets of a stream that belong to frames up to N are taken, in acceptance order. -/
def State.takeStream (s : State) (frame n : Nat) (test : Option Nat) : State :=
  let mine := (s.stream n).held.filter (fun p => decide (p.frame ≤ frame))
  let s := s.modStream n (fun x => { x with held := x.held.filter (fun p => !decide (p.frame ≤ frame)) })
  mine.foldl (fun s p => s.takePacket n frame p test) s

/-! The ego state (R95, R96) -/

/-- R96: the record with the latest SENSOR_TIME among all that have been applied, whichever stream was of kind EGO_STATE then; of two with equal times the one of stream n counts. -/
def State.latestEgo (s : State) (n : Nat) : Option EgoState :=
  s.world.streams.foldl (fun a x => match a, x.ego with
    | some o, some e => if o.time < e.time then some e else some o
    | none, e => e
    | o, none => o) (s.stream n).ego

/-- The stream of kind EGO_STATE. -/
def State.egoStream (s : State) : Option Nat := (List.range 128).find? (fun n => s.cfg (0x3100 + n) 1 == 5)

/-- R96: the sealed ego state propagated to an instant, position and heading in FP64. -/
def EgoState.propagate (e : EgoState) (upto : Nat) : StartState :=
  let dt := f64Seconds ((upto : Int) - (e.time : Int))
  let v := f64OfF32 e.speed
  let a := f64OfF32 e.accel
  let k := f64OfF32 e.curvature
  let v1 := f64Add v (f64Mul a dt)
  let stops := f64Lt v1 f64Zero
  let d := if stops then f64Div (f64Mul v v) (f64Mul (f64OfInt 2) (f64Abs a)) else f64Mul (f64Add v (f64Mul (f64Mul f64Half a) dt)) dt
  let h := f64OfF32 e.heading
  let h1 := f64Add h (f64Mul k d)
  let straight := f64Lt (f64Abs k) (f64OfRatio 1 1000000000)
  let (dx, dy) : F64 × F64 :=
    if straight then (f64Mul d (f64Cos h), f64Mul d (f64Sin h))
    else (f64Div (f64Sub (f64Sin h1) (f64Sin h)) k, f64Div (f64Sub (f64Cos h) (f64Cos h1)) k)
  { x := f64Add e.x dx, y := f64Add e.y dy, heading := h1, speed := if stops then f32Zero else f32OfF64 v1, accel := if stops then f32Zero else e.accel, curvature := e.curvature,
    art1 := e.art1, art2 := e.art2 }

/-- R95: a new map frame clears every stored source tile and every agent, and the reference position goes to the origin (R107). -/
def State.newMapFrame (s : State) (f : Nat) : State :=
  if f == s.world.mapFrame then s
  else { s with world := { s.world with mapFrame := f, refX := f64Zero, refY := f64Zero, streams := s.world.streams.map (fun x => { x with tiles := [], agents := [] }) } }

/-! The seal's work on the source state -/

/-- R112: agents whose hold time has passed at an instant are removed and counted. -/
def State.expireAgents (s : State) (now : Nat) : State :=
  (List.range 128).foldl (fun s n =>
    if s.cfg (0x3100 + n) 1 != 2 then s
    else
      let old (a : Agent) : Bool := decide (a.time + s.cfg (0x3100 + n) 0x0E < now)
      let gone := ((s.stream n).agents.filter old).length
      if gone == 0 then s
      else (s.modStream n (fun x => { x with agents := x.agents.filter (fun a => !old a) })).count (0x3180 + n) 5 gone) s

/-- R125: stream n is stale for the frame sealing at an instant. -/
def State.staleStream (s : State) (n now : Nat) : Bool :=
  let x := s.stream n
  let kind := s.cfg (0x3100 + n) 1
  let old := match x.newest with | some t => decide (t + s.cfg (0x3100 + n) 8 < now) | none => true
  kind != 0 && (x.discarded || (kind != 6 && !x.applied && old))

/-- R100, R127: the layers a stream contributes to. -/
def State.layersOf (s : State) (n : Nat) : List Nat :=
  match s.cfg (0x3100 + n) 1 with
  | 2 => (List.range 16).filter (fun l => s.cfg (0x3210 + l) 3 != 0)
  | 5 => List.range 16
  | 0 => []
  | _ => [s.cfg (0x3100 + n) 5]

/-- R341: a stream that lost source state keeps its layers stale. -/
def State.lossStale (s : State) (n now : Nat) : Bool :=
  let x := s.stream n
  if s.cfg (0x3100 + n) 1 == 6 then !x.lostKeys.isEmpty else decide (now < x.lostUntil)

/-- R125: a stream is found stale for a frame, or fresh, once its packets have been taken. -/
def Stream.judged (x : Stream) (stale : Bool) : Stream :=
  { x with applied := false, discarded := false, stale := stale, runBefore := x.staleRun, staleRun := if stale then x.staleRun + 1 else 0 }

/-- R125: a stale stream is counted and reported. -/
def State.reportStale (s : State) (frame n : Nat) : State := (s.count (0x3180 + n) 4 1).raiseFor frame 0x0306 n (s.openArg2 0x0306)

/-- R125: the streams stale for the frame in hand, as the bits of StaleStreams. -/
def State.staleMask (s : State) : Nat := natSum (((List.range 128).filter (fun n => (s.stream n).stale)).map (2 ^ ·))

/-- R127, R341: STALE_LAYERS of the frame sealing at an instant, by the staleness its streams have been found to have. -/
def State.staleLayers (s : State) (now : Nat) : Nat :=
  let hit (n : Nat) : Bool := (s.cfgB (0x3100 + n) 6 && decide (s.cfg (0x3100 + n) 9 < (s.stream n).staleRun)) || s.lossStale n now
  natSum ((((List.range 128).filter (fun n => s.cfg (0x3100 + n) 1 != 0 && hit n)).flatMap s.layersOf).eraseDups.map (2 ^ ·))

/-- R87, R126: the objects that show a frame's stale streams. -/
def State.showStale (s : State) : State := (s.setObj 0x3300 1 (s.staleMask % 2 ^ 64)).setObj 0x3300 2 (s.staleMask / 2 ^ 64)

/-- R127: the frame has stale layers. -/
def State.reportLayers (s : State) (frame bits : Nat) : State := if bits == 0 then s else (s.count 0x3301 5 1).raiseOpen frame 0x0307

/-- R125 to R127: staleness of every stream at a seal: the bits of StaleStreams, and STALE_LAYERS. -/
def State.sealStale (s : State) (frame now : Nat) : Nat × State :=
  let s := (List.range 128).foldl (fun s n =>
    let stale := s.staleStream n now
    let t := s.modStream n (fun x => x.judged stale)
    if stale then t.reportStale frame n else t) s
  let bits := s.staleLayers now
  let s := s.showStale.reportLayers frame bits
  let meets := (bits &&& s.cfg 0x5010 0x12) != 0
  (bits, if meets then s.setCause 7 else s.clearCause 7)

/-- R125, R127: a packet of a frame is discarded after its seal at an instant, an urgent one (R95): its stream is stale for that frame after all, and with it, if it is required, its
layers. -/
def State.staleAfterSeal (s : State) (frame n now : Nat) : State :=
  if (s.stream n).stale then s
  else
    let before := s.staleLayers now
    let s := ((s.modStream n (fun x => { x with stale := true, staleRun := x.runBefore + 1 })).showStale).reportStale frame n
    let bits := s.staleLayers now
    let s := if before == 0 then s.reportLayers frame bits else s
    if (bits &&& s.cfg 0x5010 0x12) != 0 then s.setCause 7 else s

/-- R107: what takes part in the frame sealing at an instant: aged raster tiles do not. DESIGN CHOICE (log entry 65): a stream's kept state is read under the kind it has now. -/
def State.freeze (s : State) (frame landing now : Nat) (start : StartState) : Inputs :=
  let kind (n : Nat) : Nat := s.cfg (0x3100 + n) 1
  { frame := frame, landing := landing, start := start,
    tiles := (List.range 128).filterMap (fun n =>
      if kind n == 1 || kind n == 4 then some (n, (s.stream n).tiles.filter (fun t => decide (now ≤ t.time + s.cfg (0x3100 + n) 8)))
      else if kind n == 6 then some (n, (s.stream n).tiles) else none),
    agents := (List.range 128).filterMap (fun n => if kind n == 2 then some (n, (s.stream n).agents) else none),
    segments := ((List.range 128).filter (fun n => kind n == 3)).flatMap (fun n => (s.stream n).segments) }

/-- R112: more than 4,096 agents at a seal. -/
def State.overflowAgents (s : State) (frame : Nat) (inp : Inputs) : State :=
  let n := natSum (inp.agents.map (fun p => p.2.length))
  if n ≤ 4096 then s else (s.count 0x3301 4 (n - 4096)).raiseOpen frame 0x0308

end Sys2Proof.Machine
end

