-- ==== Sys2Proof/Machine/Streams.lean ====
section
/-!
DEFINITION. Stream input: STREAM_PACKET_ARRIVAL (13_host_interface.md R413, 04_world_model.md R101), FILTER_INVOCATION (10_engine_programs.md R302, R305, R316), the stream buffers
(11_memory_buffers.md R343 to R351): STREAM_READ_START, PACKET_APPLY, STREAM_BANK_RETURN, FLUSH; and the sentry's copy (15_safety.md R471): SENTRY_PACKET.
-/
namespace Sys2Proof.Machine
open Sys2Proof

/-! Arrival -/

/-- R101: the stream to which a datagram's destination port delivers it; none where the port is ODP's or the client rings', or no enabled stream's: a port of ODP or of the
rings takes its datagrams by their own commands, and a datagram to any other port is dropped (R124). -/
def State.udpStream (s : State) (destination : Nat) : Option Nat :=
  if (destination == s.cfg 0x1010 1 && s.cfgB 0x1010 6) || destination == s.cfg 0x8400 3 then none else s.streamBy 1 destination

/-- R426: a datagram's frame has at most 4,200 bytes. PRESUMED (log entry 49): an untagged frame has 46 bytes besides, a tagged one (VlanId of the active port) 50. -/
def State.frameFits (s : State) (datagram : Nat) : Bool := decide (datagram + (if s.cfg (0x8601 + s.group.activePort) 5 == 0 then 46 else 50) ≤ 4200)

/-- STREAM_PACKET_ARRIVAL_UDP: a datagram arrives on a peer port for a destination port (R101, R413); one whose frame is too long does not (R426). -/
def execStreamPacketArrivalUdp (t destination : Nat) (bytes : List Byte) (s : State) : Host.Outcome State Fault Refusal :=
  let s := s.at t
  .next (
    match s.udpStream destination with
    | some n => if s.accepts && s.frameFits bytes.length then s.acceptNetwork n bytes else s
    | none => s)

/-- R427: a request is answered with a NAK for an invalid request and counted. -/
def State.nak (s : State) (qp : Nat) : State := ({ s with group := { s.group with naks := s.group.naks + 1 } }).sendInput s.group.activePort (.roceNak qp)

/-- STREAM_PACKET_ARRIVAL_ROCE: a run of WRITEs ended by a WRITE with immediate arrives on a queue pair (R101, R413); one of a kind that is not supported, or on a queue pair that no
enabled stream or client names, is answered with a NAK for an invalid request (R124, R427). -/
def execStreamPacketArrivalRoce (t : Nat) (r : RoceRequest) (bytes : List Byte) (s : State) : Host.Outcome State Fault Refusal :=
  let s := s.at t
  .next (
    if !s.accepts then s
    else if !r.supported then s.nak r.qp
    else
      match s.streamBy 2 r.qp with
      | some n => s.acceptNetwork n bytes
      | none => if s.qpKnown r.qp then s else s.nak r.qp)

/-! The buffer (R343, R344) -/

/-- R347: even parity of a word's lanes: bit n makes the count of ones in lane n and itself even. -/
def laneParity (x : Nat) : Nat := ((List.range 32).filter (fun b => x.testBit b)).length % 2
def wordParity (lanes : List Nat) : Nat := (List.range 8).foldl (fun m i => m + laneParity ((lanes[i]?).getD 0) * 2 ^ i) 0

/-- The lanes of a packet as buffer words of up to eight lanes. -/
def packLanes : Nat → List Nat → List (List Nat)
  | 0, _ => []
  | fuel + 1, ls => if ls.length ≤ 8 then [ls] else ls.take 8 :: packLanes fuel (ls.drop 8)

/-- R343, R344: a word as written, of up to eight lanes, a marker and its cause. -/
def bufWord (w : List Nat × Bool × Nat) (last : Bool) (home : WordHome) : BufWord :=
  { lanes := (w.1 ++ List.replicate 8 0).take 8, used := w.1.length, isEnd := last, trunc := w.2.1, poison := false, cause := w.2.2, parity := wordParity w.1, home := home }

/-- R343: where the writer puts a word. -/
def StreamBuf.home (b : StreamBuf) : WordHome := if b.chain then .chain else if b.writePos < 1024 then .bank0 else .bank1

/-- Writes a word of the packet being written, the first that is not complete, with its parity; the last word completes it. -/
def StreamBuf.put (b : StreamBuf) (w : List Nat × Bool × Nat) (last : Bool) : StreamBuf :=
  let x := bufWord w last b.home
  { b with writePos := if b.chain then b.writePos else (b.writePos + 1) % 2048
           packets := modFirst (fun p => !p.complete) (fun p => { p with words := p.words ++ [x], complete := last }) b.packets }

/-- R345: the map builder reads on in the packet it has begun; each word read frees its place. -/
def StreamBuf.readOn (b : StreamBuf) : StreamBuf :=
  match b.packets with
  | p :: rest => if p.readStarted then { b with packets := { p with read := p.read ++ p.words, words := [] } :: rest } else b
  | [] => b

/-- Unread words, and the room the writer has in the part it writes to. -/
def StreamBuf.wordsHeld (b : StreamBuf) : Nat := natSum (b.packets.map (fun p => p.words.length))
def StreamBuf.room (b : StreamBuf) : Nat :=
  if b.chain then 16 - natSum (b.packets.map (fun p => (p.words.filter (fun w => w.home == .chain)).length)) else 2048 - b.wordsHeld

/-- R345: the writer writes on until it is done or the buffer holds no free word; what is left. -/
def StreamBuf.pump : List (List Nat × Bool × Nat) → StreamBuf → StreamBuf × List (List Nat × Bool × Nat)
  | [], b => (b, [])
  | w :: rest, b => if b.room == 0 then (b, w :: rest) else StreamBuf.pump rest (b.put w rest.isEmpty).readOn

def State.modBuf (s : State) (n : Nat) (f : StreamBuf → StreamBuf) : State := s.modStream n (fun x => { x with buf := f x.buf })

/-! FILTER_INVOCATION -/

/-- R302: the filter invocation of a packet. -/
def State.filterRun (s : State) (n : Nat) (x : Stream) (p : InPacket) : Invocation :=
  let w (k : Nat) : Word := BitVec.ofNat 32 k
  let slot := s.cfg (0x3100 + n) 4
  let regs := [0#32, w p.bytes.length, w n, w (p.stamp % u32Mod), w (p.stamp / u32Mod), w p.transport, w p.source, 0x8000#32] ++ List.replicate 56 0#32
  let code := progCode x.program
  let v := { Invocation.initial with
    kind := .filter, code := code, consts := progConsts x.program, tallyLength := (progHeader x.program).tallyLength, tally := (alGet slot s.boot.tallies).getD [],
    mem := x.working, packet := p.bytes, progSlot := some slot, frame := p.frame }
  engRun (s.engEnv p.frame 0 false) (runFuel code) (v.begin regs)

/-- R471: the sentry streams. -/
def State.sentryStream (s : State) (n : Nat) : Bool := (s.cfg 0x9200 2 + 2 ^ 64 * s.cfg 0x9200 3).testBit n

/-- R471: the sentry's copy of a packet, if its buffer of 1 MiB has room. -/
def State.copyToSentry (s : State) (n : Nat) (p : InPacket) (output : List Nat) (closed : Bool) : State :=
  if !s.sentryStream n then s
  else
    let bytes := output.flatMap (leBytes 4)
    let held := natSum (s.newel.buffer.map (fun q => q.words.length))
    if 1048576 < held + bytes.length then s.count 0x9202 6 1
    else { s with newel := { s.newel with buffer := s.newel.buffer ++ [{ stream := n, words := bytes, closed := closed, crcOk := true, stamp := p.stamp, frame := p.frame }] } }

/-- A packet leaves the transport for the stream buffer, with the words its filter is to write. -/
def State.openPacket (s : State) (n : Nat) (p : InPacket) (rest : List (List Nat × Bool × Nat)) (output : List Nat) (closed : Bool) : State :=
  let packet : BufPacket :=
    { words := [], payload := p.bytes, stamp := p.stamp, journal := p.journal, target := p.target, frame := p.frame, afterSeal := p.afterSeal, complete := false, readStarted := false, read := [] }
  s.modStream n (fun x => { x with
    waiting := x.waiting.filter (fun q => q.journal != p.journal), running := x.running ++ [⟨p, rest, output, closed⟩], buf := { x.buf with packets := x.buf.packets ++ [packet] } })

/-- The words of an invocation's packet: its lanes, and a truncated-packet marker where it does not end well (R316). -/
def packetWords (output : List Nat) (marker : Option Nat) : List (List Nat × Bool × Nat) :=
  let data := (packLanes (output.length + 1) output).map (fun ls => (ls, false, 0))
  match marker with
  | some c => (if output.isEmpty then [] else data) ++ [([], true, c)]
  | none => data

/-- The packet of an item in service at a stream's ingress processor runs through its filter, once the processor's program store holds the stream's program (R299). -/
def State.beginFilter (s : State) (n : Nat) (i : Item) : State :=
  let x := s.stream n
  match x.waiting.find? (fun p => p.journal == i.arg) with
  | none => s
  | some p =>
    if x.reloadDue then s
    else
      let v := s.filterRun n x p
      let marker : Option Nat := match v.status with | .yielded => none | .ended _ => some 0x0301 | _ => some 0x0305
      let s := (s.setTally v.progSlot v.tally).fpAtomicChoice p.frame v.fpAtomic
      let s := s.modStream n (fun x => { x with working := v.mem })
      (s.openPacket n p (packetWords v.output marker) v.output marker.isNone).takeInHand (512 + n) v

/-- R57: the packets in service at the ingress processors run before a commit takes effect. -/
def State.beginFilters (s : State) : State :=
  (s.disp.items.filter (fun i => i.kind == .streamPacket && i.loc == .unit 18 && !i.committed)).foldl (fun s i => s.beginFilter i.lane i) s

/-- Stream n's output is written as far as the buffer has room; a packet written in full goes to the sentry's copy. -/
def State.pumpRuns (n : Nat) : List FilterRun → State → State
  | [], s => s.modStream n (fun x => { x with running := [] })
  | r :: rs, s =>
    let (buf, rest) := (s.stream n).buf.pump r.rest
    let s := s.modBuf n (fun _ => buf)
    let s := if rest.length == r.rest.length then s else s.count (0x8300 + n) 1 (r.rest.length - rest.length)
    if rest.isEmpty then State.pumpRuns n rs (s.copyToSentry n r.packet r.output r.closed)
    else s.modStream n (fun x => { x with running := { r with rest := rest } :: rs })

def State.pump (s : State) (n : Nat) : State := State.pumpRuns n (s.stream n).running s

/-- FILTER_INVOCATION's work: the packet runs, unless it has, and its output is written; the item commits when all of it is (R345). -/
def State.filterPacket (s : State) (n : Nat) (i : Item) : State :=
  let s := (s.beginFilter n i).pump n
  let x := s.stream n
  if x.running.any (fun r => r.packet.journal == i.arg) || x.waiting.any (fun p => p.journal == i.arg) then s else s.commitItem i.serial

/-- FILTER_INVOCATION: the packet in service at the stream's ingress processor runs through its filter, or goes on being written where the buffer was full. -/
def execFilterInvocation (stream : Nat) (s : State) : Host.Outcome State Fault Refusal :=
  .next (
    match s.atUnit 18 .streamPacket (fun i => i.flow == some stream) with
    | none => s.pump stream
    | some i => s.filterPacket stream i)

/-! Reading (R346, R347) -/

/-- STREAM_READ_START: the map builder begins the oldest packet once CutThroughWords words, or its END word, are held; in chain mode at its first word. -/
def execStreamReadStart (stream : Nat) (s : State) : Host.Outcome State Fault Refusal :=
  .next (
    let b := (s.stream stream).buf
    match b.packets with
    | [] => s
    | p :: rest =>
      if s.throttledRun && (b.chain || p.complete || decide (s.cfg (0x8200 + stream) 1 ≤ p.words.length)) then s.modBuf stream (fun b => ({ b with packets := { p with readStarted := true } :: rest }).readOn) else s)

/-- A stored word with some of its bits flipped: bits 0 to 255 its lanes, 256 to 263 its parity; the rest of the sideband has no parity, and is read as written (log entry 35). -/
def BufWord.flip (w : BufWord) (bits : List Nat) : BufWord :=
  bits.foldl (fun w b =>
    if b < 256 then { w with lanes := w.lanes.zipIdx.map (fun x => if x.2 == b / 32 then x.1 ^^^ 2 ^ (b % 32) else x.1) }
    else if b < 264 then { w with parity := w.parity ^^^ 2 ^ (b - 256) }
    else w) w

/-- R347: POISON: the parity of a word read does not match. -/
def BufWord.poisoned (w : BufWord) : Bool := wordParity w.lanes != w.parity

/-- R344, R347: words as the map builder reads them, with the bits found changed, by word and bit: POISON is set where the parity fails. -/
def readWords (flips : List (Nat × Nat)) (words : List BufWord) : List BufWord :=
  words.zipIdx.map (fun x => let w := x.1.flip ((flips.filter (fun f => f.1 == x.2)).map (·.2)); { w with poison := w.poison || w.poisoned })

/-- The words that have come to be poisoned. -/
def newlyPoisoned (before after : List BufWord) : List BufWord := ((before.zip after).filter (fun x => x.2.poison && !x.1.poison)).map (·.2)

/-- R348: a bank leaves service: the writer goes over to the chain. -/
def State.bankOut (s : State) (n bank : Nat) : State :=
  let b := (s.stream n).buf
  let st := if bank == 0 then b.bank0 else b.bank1
  if st == .out then s
  else
    let s := s.modBuf n (fun b => if bank == 0 then { b with bank0 := .out, chain := true } else { b with bank1 := .out, chain := true })
    (s.count (0x8300 + n) 4 1).raise 0x0808 n

/-- R347, R348: the parity errors of the words of a packet. -/
def State.countParity (s : State) (n : Nat) (bad : List BufWord) : State :=
  if bad.isEmpty then s
  else
    let of (h : WordHome) : Nat := (bad.filter (fun w => w.home == h)).length
    let s := (s.modBuf n (fun b => { b with errors0 := b.errors0 + of .bank0, errors1 := b.errors1 + of .bank1 })).count (0x8300 + n) 2 bad.length
    let b := (s.stream n).buf
    let limit := s.cfg 0x8280 1
    let s := if 0 < of .bank0 && decide (limit ≤ b.errors0) then s.bankOut n 0 else s
    if 0 < of .bank1 && decide (limit ≤ b.errors1) then s.bankOut n 1 else s

/-- The least of some causes by position; among equals the first. -/
def firstCause : List (Nat × Nat) → Option (Nat × Nat)
  | [] => none
  | c :: rest => match firstCause rest with | some d => if d.1 < c.1 then some d else some c | none => some c

/-- R106, R124: what the map builder holds of a packet it has read, word by word. -/
def State.readBuffered (s : State) (n : Nat) (p : BufPacket) (words : List BufWord) : HeldPacket :=
  let lanes := (words.filter (fun w => !w.trunc)).flatMap (fun w => w.lanes.take w.used)
  let r := readPacket (s.readCfg n p.stamp) lanes
  let trunc := words.zipIdx.find? (fun x => x.1.trunc)
  let causes : List (Nat × Nat) :=
    (match words.zipIdx.find? (fun x => x.1.poison) with | some x => [(8 * x.2, 0x0302)] | none => [])
      ++ (match trunc with | some x => [(8 * x.2, x.1.cause)] | none => [])
      ++ (match r.bad with | some q => if r.short && trunc.isSome then [] else [(q, 0x0301)] | none => [])
  { records := r.records, cause := firstCause causes, urgent := r.urgent, payload := p.payload, stamp := p.stamp, journal := p.journal, frame := p.frame, afterSeal := p.afterSeal,
    target := match p.target with | some f => some f | none => r.target }

/-- R85, R86: an urgent packet without a cause of discard, by its stamp and the frame it belongs to. One stamped after the seal of the current frame is a delta of it, whenever it is
read; one whose frame's tick came before it was read is deferred, and held as an input of its own frame; any other is an ordinary input. -/
def State.routeUrgent (s : State) (stream : Nat) (h : HeldPacket) : State :=
  let hold (s : State) : State := s.modStream stream (fun x => { x with held := x.held ++ [h] })
  if !h.afterSeal then hold s
  else if h.frame == pendingFrame then { s with world := { s.world with deltaDue := s.world.deltaDue ++ [(stream, h)] } }
  else hold ((s.count 0x2021 8 1).raise 0x0385 stream)

/-- PACKET_APPLY: the map builder reads the oldest packet to its END and tests it; its records wait for their seal (R95), those of an urgent packet stamped after the seal for
URGENT_DELTA. Of a packet it has begun whose END is yet to come it reads what is written. `flips` are the bits found changed as each word is read: (word, bit). -/
def execPacketApply (stream : Nat) (flips : List (Nat × Nat)) (s : State) : Host.Outcome State Fault Refusal :=
  .next (
    match (s.stream stream).buf.packets with
    | [] => s
    | p :: rest =>
      if !p.readStarted || !s.throttledRun then s
      else
        let words := readWords flips (p.read ++ p.words)
        let bad := newlyPoisoned (p.read ++ p.words) words
        if !p.complete then (s.modBuf stream (fun b => { b with packets := { p with read := words, words := [] } :: rest })).countParity stream bad
        else
        let h := s.readBuffered stream p words
        let s := (s.modBuf stream (fun b => { b with packets := rest })).countParity stream bad
        if h.urgent && h.cause.isNone then s.routeUrgent stream h
        else s.modStream stream (fun x => { x with held := x.held ++ [h] }))

/-- R348, R349: the result of a self-test slice of a stream-buffer bank: one out of service that passes is ready to return; one that fails is out until the next reset. -/
def State.bankTested (s : State) (n bank : Nat) (passed : Bool) : State :=
  let b := (s.stream n).buf
  let st := if bank == 0 then b.bank0 else b.bank1
  let failed := if bank == 0 then b.failed0 else b.failed1
  if failed then s
  else if passed then
    (if st == .inService then s else s.modBuf n (fun b => if bank == 0 then { b with bank0 := .test } else { b with bank1 := .test }))
  else
    let s := if st == .inService then s.bankOut n bank else s
    s.modBuf n (fun b => if bank == 0 then { b with bank0 := .out, failed0 := true } else { b with bank1 := .out, failed1 := true })

/-- STREAM_BANK_RETURN: a bank that has passed MBIST returns; with both banks in service the writer goes back to bank 0, word 0 (R349). -/
def execStreamBankReturn (stream bank : Nat) (s : State) : Host.Outcome State Fault Refusal :=
  .next (
    let b := (s.stream stream).buf
    let st := if bank == 0 then b.bank0 else b.bank1
    if st != .test || decide (1 < bank) || decide (128 ≤ stream) then s
    else
      let b := if bank == 0 then { b with bank0 := .inService, errors0 := 0 } else { b with bank1 := .inService, errors1 := 0 }
      let b := if b.bank0 == .inService && b.bank1 == .inService then { b with chain := false, writePos := 0 } else b
      (s.modBuf stream (fun _ => b)).raise 0x0809 stream)

/-- R350: the filter invocations in progress end: their items with them, and the sentry's copies of what they have written stay open (R471). -/
def State.endRunning (s : State) (n : Nat) : State :=
  let x := s.stream n
  let s := s.modStream n (fun x => { x with running := [] })
  x.running.foldl (fun s r =>
    let s := s.copyToSentry n r.packet (r.cut 0).output false
    match s.atUnit 18 .streamPacket (fun i => i.arg == r.packet.journal) with
    | some i => s.commitItem i.serial
    | none => s) s

/-- R350, R351: what a flush leaves of a packet: one that the map builder is reading ends in a TRUNC word, so that a cause met before it decides; another is gone unread. -/
def State.flushed (s : State) (n : Nat) (p : BufPacket) : HeldPacket :=
  if p.readStarted then s.readBuffered n p (p.read ++ [bufWord ([], true, 0x0303) true .chain])
  else
    { records := [], cause := some (0, 0x0303), urgent := false, payload := p.payload, stamp := p.stamp, journal := p.journal, frame := p.frame, afterSeal := p.afterSeal, target := p.target }

/-- R350: a flush: every packet in the buffer, the one being written too, is discarded with 0x0303 or the cause met first; the working area is kept. -/
def State.flushBuffer (s : State) (n : Nat) : State :=
  let s := s.endRunning n
  let held := (s.stream n).buf.packets.map (s.flushed n)
  let s := s.modStream n (fun x => { x with buf := { x.buf with packets := [] }, held := x.held ++ held })
  let s := if held.isEmpty then s else s.count (0x8300 + n) 3 held.length
  s.raise 0x080A n

/-- FLUSH: 1 is written to Flush of stream buffer n. -/
def execFlush (stream : Nat) (s : State) : Host.Outcome State Fault Refusal := .next (if stream < 128 then s.flushBuffer stream else s)

/-! The sentry's copy -/

/-- SENTRY_PACKET: the Newel takes the oldest packet out of the sentry buffer, tests it and holds its records for the seal (R471). -/
def execSentryPacket (s : State) : Host.Outcome State Fault Refusal :=
  .next (
    match s.newel.buffer with
    | [] => s
    | p :: rest =>
      let s := { s with newel := { s.newel with buffer := rest } }
      let r := readPacket (s.readCfg p.stream p.stamp) ((wordsLE (p.words.length / 4) p.words).map (·.toNat))
      if p.closed && p.crcOk && r.bad.isNone then
        { s with newel := { s.newel with held := s.newel.held ++ [{ stream := p.stream, frame := p.frame, records := r.records.map (fun x => (x.1, x.2.2.2)) }] } }
      else s.count 0x9202 6 1)

end Sys2Proof.Machine
end

