-- ==== Sys2Proof/Machine/SceneOps.lean ====
section
/-!
DEFINITION. What leaves the map builder as bytes: directory entries and version records (04_world_model.md R116 to R118), the scene tensor (R128, 05_proposal.md R141), and the shipping
of versions and scenes in a split group (14_peer_links.md R438 to R440).
-/
namespace Sys2Proof.Machine
open Sys2Proof

/-! Tiles and versions -/

/-- R116: the content of a tile as stored. -/
def Tile.content (t : Tile) (type : Nat) : List Byte :=
  match type with
  | 1 => t.values.flatMap (leBytes 2)
  | 2 => t.values.flatMap (leBytes 1)
  | _ => (List.range 512).flatMap (fun k => leBytes 1 (natSum ((List.range 8).map (fun b => (t.values[8 * k + b]?).getD 0 * 2 ^ b))))

/-- R117: MIN_VALUE and MAX_VALUE. -/
def Tile.minMax (t : Tile) (type : Nat) : Nat × Nat :=
  if type == 3 then (0, 1)
  else match t.values with
    | [] => (0, 0)
    | v :: vs => (vs.foldl min v, vs.foldl max v)

/-- R117: a directory entry; `front` is its first word. -/
def Tile.entry (t : Tile) (type front : Nat) : List Byte :=
  let (lo, hi) := t.minMax type
  leBytes 4 front ++ leBytes 4 t.origin ++ leBytes 2 lo ++ leBytes 2 hi ++ leBytes 4 (bitIf t.spec 0 + bitIf t.kept 1 + bitIf t.unknown 3)

/-- R306: the key of a tile, OFFSET zero; and a key read back. -/
def TileKey.ref (k : TileKey) : Nat := k.layer * 2 ^ 28 + k.grid * 2 ^ 27 + k.slice * 2 ^ 21 + k.tile * 2 ^ 13
def tileKeyOf (x : Nat) : TileKey := ⟨bitsAt x 28 4, bitsAt x 27 1, bitsAt x 21 6, bitsAt x 13 8⟩

/-- R118: the version record. -/
def Version.bytes (v : Version) : List Byte :=
  leBytes 4 v.number ++ leBytes 4 (v.parent.getD 0) ++ leBytes 8 v.frame ++ leBytes 2 v.mapFrame ++ leBytes 2 v.staleLayers
    ++ leBytes 4 (bitIf v.spec 0 + bitIf v.urgent 1 + bitIf v.egoStale 2 + bitIf v.reinitialised 3 + bitIf v.parent.isSome 4)
    ++ leBytes 8 v.inputs.start.x.toNat ++ leBytes 8 v.inputs.start.y.toNat ++ leBytes 4 (f32OfF64 v.inputs.start.heading).toNat ++ leBytes 4 v.inputs.start.speed.toNat
    ++ leBytes 8 v.sealTime ++ leBytes 4 v.tilesNew ++ leBytes 4 0

/-- Looks up and changes a version. -/
def State.version? (s : State) (number : Nat) (spec : Bool) : Option Version := s.world.versions.find? (fun v => v.number == number && v.spec == spec)
def State.modVersion (s : State) (number : Nat) (spec : Bool) (f : Version → Version) : State :=
  { s with world := { s.world with versions := modFirst (fun v => v.number == number && v.spec == spec) f s.world.versions } }

/-- R135: what 0x3300 shows of the newest sealed version. -/
def State.showVersion (s : State) (v : Version) : State := ((s.setObj 0x3300 3 v.number).setObj 0x3300 4 v.mapFrame).setObj 0x3300 5 v.staleLayers

/-- The newest sealed version. -/
def State.newest (s : State) : Option Version := (s.world.versions.filter (fun v => !v.spec)).getLast?

/-- R119: versions that nothing keeps live are retired. Kept are the newest sealed version, one still being built with the version whose tiles it takes, the run-ahead map until its
comparison is complete and the sealed version has been shipped against it (R438), the held frame's version, and every version that an item in flight reads. -/
def State.retireVersions (s : State) : State :=
  let last := (s.newest.map (fun v => v.number)).getD 0
  let building := s.world.versions.filter (fun v => !v.ready)
  let running := s.world.comparing || s.frames.any (fun w => w.speculative)
  let live (v : Version) : Bool :=
    (if v.spec then (running || (s.groupMode == 2 && building.any (fun b => !b.spec && b.frame == v.frame))) && v.number == s.world.lastSpec
     else v.number == last || s.frames.any (fun w => !w.speculative && w.version == v.number) || building.any (fun b => b.parent == some v.number) || (match s.det.held with | some w => w.version == v.number | none => false))
    || !v.ready
    || s.disp.items.any (fun i => i.loc.inFlight && i.version == v.number && i.spec == v.spec)
  { s with world := { s.world with versions := s.world.versions.filter live } }

/-! The scene tensor (R128) -/

/-- The magnitude of a finite value in a format of the given exponent bias and fraction bits, to nearest with ties to even, held at a largest code (R141). -/
def narrowCode (bias mant largest : Nat) (x : F32) : Nat :=
  let v := (f32Fix (f32Abs x)).toNat
  let e : Int := max ((Nat.log2 v : Int) - 149) (1 - (bias : Int))
  let shift := (e - (mant : Int) + 149).toNat
  let q := v / 2 ^ shift
  let r := v % 2 ^ shift
  let half := 2 ^ (shift - 1)
  let q := if half < r || (r == half && q % 2 == 1) then q + 1 else q
  min largest ((e + (bias : Int) - 1).toNat * 2 ^ mant + q)

/-- The formats into which the array converts (R140, R141). -/
inductive Narrow where
  | bf16 | e4m3 | e5m2 | int8 | int4
  deriving DecidableEq, Repr

/-- R141: an FP32 value rounded to an integer of `bits` bits, a NaN to 0. -/
def narrowInt (bits : Nat) (x : F32) : Nat :=
  let top : Int := 2 ^ (bits - 1)
  if f32IsNaN x then 0
  else unsignedOf bits (if f32Finite x then clampInt (-top) (top - 1) ((fpToIntExact fmt32 .rne x.toNat).getD 0) else if x.getLsbD 31 then -top else top - 1)

/-- R141: an FP32 value rounded to a narrow floating format with its sign bit at `sign`; a NaN becomes one of the format's NaNs, which are the `nans` codes above `first` (log entry 60). -/
def narrowFloat (bias mant largest sign first nans : Nat) (x : F32) : Nat :=
  if f32IsNaN x then
    let free := (Config.narrowNan sign mant).toNat
    first + free / 2 % nans + free % 2 * 2 ^ sign
  else (if f32Finite x then narrowCode bias mant largest x else largest) + bitIf (x.getLsbD 31) sign

/-- R141: the conversion into each format. -/
def Narrow.code : Narrow → F32 → Nat
  | .bf16, x => narrowFloat 127 7 0x7F7F 15 0x7F81 127 x
  | .e4m3, x => narrowFloat 7 3 0x7E 7 0x7F 1 x
  | .e5m2, x => narrowFloat 15 2 0x7B 7 0x7D 3 x
  | .int8, x => narrowInt 8 x
  | .int4, x => narrowInt 4 x

/-- R141: the conversion is a numeric event of the model run. -/
def Narrow.event : Narrow → F32 → Bool
  | .int8, x | .int4, x => f32IsNaN x
  | _, _ => false

/-- R144: the format of an INPUT_FORMAT code; none is FP32. -/
def inputNarrow : Nat → Option Narrow
  | 1 => some .bf16
  | 2 => some .e4m3
  | 3 => some .int8
  | _ => none

/-- R144: INPUT_SCALE multiplies a value before its conversion to INT8. -/
def scaledInput (format : Nat) (scale x : F32) : F32 := if format == 3 then f32Mul x scale else x

/-- R128, R141, R144: a value in an input format: FP32, BF16, FP8 E4M3 or INT8 with its scale. -/
def sceneBytes (format : Nat) (scale x : F32) : List Byte :=
  match inputNarrow format with
  | none => leBytes 4 x.toNat
  | some n => leBytes (if format == 1 then 2 else 1) (n.code (scaledInput format scale x))

/-- R141: a value's conversion to an input format is a numeric event. -/
def sceneEvent (format : Nat) (scale x : F32) : Bool :=
  match inputNarrow format with
  | none => false
  | some n => n.event (scaledInput format scale x)

/-- The stored values of a layer's cells in a version, near grid. -/
def nearCell (tiles : List Tile) (m : MapView) (layer slice : Nat) (i j : Nat) : Nat :=
  match tiles.find? (fun t => t.key == ⟨layer, 0, m.sliceOf layer slice, cellTile i j⟩) with
  | some t => (t.values[cellPos i j]?).getD 0
  | none => 0

/-- R128: one value of the raster part. -/
def rasterValue (tiles : List Tile) (m : MapView) (clip : F32) (layer slice i j : Nat) : F32 :=
  let vs := (List.range 16).map (fun k => nearCell tiles m layer slice (4 * i + k % 4) (4 * j + k / 4))
  match m.typeOf layer with
  | 1 => f32Min clip (f32Mul (f32OfInt (vs.foldl min 65535 : Nat)) 0x3C000000#32)
  | 2 => f32Div (f32OfInt (vs.foldl max 0 : Nat)) (f32OfInt 255)
  | _ => if vs.all (· == 1) then f32One else f32Zero

/-- R128: an agent token. -/
def agentToken (inp : Inputs) (a : Agent) : List F32 :=
  let pl := inp.start.placement
  let at' (x y : F64) : F32 × F32 := let q := pl.toPlan (x, y); (f32OfF64 q.1, f32OfF64 q.2)
  let (x, y) := at' a.x a.y
  let h := f32OfF64 (f64Sub (f64OfF32 a.heading) pl.heading)
  let mode (m : Nat) : List F32 := match a.modes[m]? with
    | some md =>
      let last := md.samples.getLastD (f32Zero, f32Zero, f32Zero)
      let (mx, my) := at' (f64Add a.x (f64OfF32 last.1)) (f64Add a.y (f64OfF32 last.2.1))
      [md.prob, mx, my]
    | none => [f32Zero, f32Zero, f32Zero]
  [x, y, f32Cos h, f32Sin h, a.speed, a.length, a.width, f32OfInt (a.cls : Int), f32OfF64 (f64Seconds ((inp.landing : Int) - (a.time : Int)))]
    ++ (List.range 6).flatMap mode ++ [f32Zero, f32Zero, f32Zero, f32Zero, f32One]

/-- R128: a route token. -/
def routeToken (inp : Inputs) (r : RouteSeg) : List F32 :=
  let pl := inp.start.placement
  r.points.flatMap (fun (dx, dy) => let q := pl.toPlan (f64Add r.x (f64OfF32 dx), f64Add r.y (f64OfF32 dy)); [f32OfF64 q.1, f32OfF64 q.2])
    ++ [r.widthLeft, r.widthRight, r.speedLimit, if r.onRoute then f32One else f32Zero] ++ List.replicate 11 f32Zero ++ [f32One]

/-- Tokens cut or filled out with rows of zeros to a limit. -/
def tokenRows (limit : Nat) (rows : List (List F32)) : List F32 :=
  (rows.take limit ++ List.replicate (limit - rows.length) (List.replicate 32 f32Zero)).flatten

/-- R128: agent tokens by ascending FP32 x² + y², stream and AGENT_ID; the overflow agents of R112 are left out. -/
def sceneAgents (inp : Inputs) : List (List F32) :=
  let all := ((liveAgents inp).take 4096).map (fun (n, a) => (n, a.id, agentToken inp a))
  let key (t : List F32) : F32 := match t with | x :: y :: _ => f32Add (f32Mul x x) (f32Mul y y) | _ => f32Zero
  (all.mergeSort (fun p q => f32Lt (key p.2.2) (key q.2.2) || (f32Le (key p.2.2) (key q.2.2) && (decide (p.1 < q.1) || (p.1 == q.1 && decide (p.2.1 ≤ q.2.1)))))).map (·.2.2)

/-- R128: the values of the scene tensor of a version in part order, in FP32. -/
def State.sceneValues (s : State) (v : Version) : List F32 :=
  let m := s.mapView v.tiles
  let clip := s.cfgF 0x3220 0x24
  let raster := (List.range (s.cfg 0x3220 1)).flatMap (fun n =>
    let c := s.cfg 0x3220 (n + 2)
    (List.range 65536).map (fun k => rasterValue v.tiles m clip (c / 256) (c % 256) (k % 256) (k / 256)))
  let agents := tokenRows (s.cfg 0x3220 0x22) (sceneAgents v.inputs)
  let route := tokenRows (s.cfg 0x3220 0x23) ((v.inputs.segments.mergeSort (fun a b => decide (a.id ≤ b.id))).map (routeToken v.inputs))
  raster ++ agents ++ route

/-- R128: the scene tensor of a version in the bound model's input format (FP32 where none is bound). -/
def State.sceneOf (s : State) (v : Version) : List Byte :=
  let h := modelHeader s.boundModel.image
  (s.sceneValues v).flatMap (sceneBytes h.inputFormat h.inputScale)

/-- R141: the numeric events of the conversion of a scene tensor. -/
def State.sceneEvents (s : State) (v : Version) : Nat :=
  let h := modelHeader s.boundModel.image
  ((s.sceneValues v).filter (sceneEvent h.inputFormat h.inputScale)).length

/-! Shipping (R438, R440) -/

/-- R438: the next chip of the chain after this one that is PRESENT. -/
def State.nextInChain (s : State) : Option Nat := (List.range 4).find? (fun c => decide (s.chip < c) && s.otherChips.contains c && s.peerPresent c)

/-- R438: a tile as a MAP_SEGMENT carries it. -/
def State.shippedTile (s : State) (t : Tile) : List Byte := t.entry (s.layerType t.key.layer) t.key.ref ++ t.content (s.layerType t.key.layer)

/-- R438: the version that the receivers hold when `v` is shipped: v itself less its delta for an urgent delta, the run-ahead map where run-ahead ran, else the last version of the
frame before. -/
def State.heldBefore (s : State) (v : Version) : Option Version :=
  if v.urgent then v.parent.bind (fun p => s.version? p false)
  else if v.spec then s.newest
  else match s.world.versions.find? (fun x => x.spec && x.frame == v.frame) with
    | some x => some x
    | none => (s.world.versions.filter (fun x => !x.spec && x.number != v.number)).getLast?

/-- R438, R439: ships a version: every entry whose ORIGIN differs from the held version's, with its tile, and then the version record. -/
def State.shipVersion (s : State) (v : Version) : State :=
  if s.groupMode != 2 then s
  else
    let held := match s.heldBefore v with | some x => x.tiles | none => []
    let delta := v.tiles.filter (fun t => !held.any (fun u => u.key == t.key && u.origin == t.origin && u.spec == t.spec))
    let bytes := delta.flatMap s.shippedTile
    let s := if s.cfg 0x8600 9 < bytes.length + 64 then (s.count 0x8605 8 1).raiseOpen v.frame 0x0904 else s
    match s.nextInChain with
    | none => s
    | some d => (if bytes.isEmpty then s else s.sendSegments d 2 v.frame v.number bytes).sendGroup d 3 true 0 v.frame v.number v.bytes

/-- R440: the scene tensor goes to chip 1. -/
def State.shipScene (s : State) (frame version : Nat) (bytes : List Byte) : State :=
  if s.groupMode == 2 && s.chip != 1 && s.otherChips.contains 1 then s.sendSegments 1 4 frame version bytes else s

end Sys2Proof.Machine
end

