-- ==== Sys2Proof/Machine/FrameOps.lean ====
section
/-!
DEFINITION. Operations of the frame cycle (03_frame_cycle.md R73 to R88): frames in flight, start states (R78), carried state (12_determinism.md R377), the work of a sealed frame
(05_proposal.md R158 to R161), tile jobs as items (04_world_model.md R120), round 0's blocks, and urgent versions (R85 to R88, R123).
-/
namespace Sys2Proof.Machine
open Sys2Proof

/-! Frames -/

/-- A frame before its seal. -/
def FrameWork.fresh (n tick : Nat) : FrameWork :=
  { frame := n, tick := tick, start := StartState.zero, reinitialised := false, sealed := false, version := 0, base := 0, due := none, speculative := false, release := none, qpSolvers := 0, qpLanes := 0, solverStopped := false,
    policyBlocks := 0, applicable := [], special := ⟨none, []⟩, policy := PolicyRun.initial, rounds := [], blocks := [], galleryLists := List.replicate 16 ⟨[], 0⟩,
    topList := ⟨[], 0⟩, forwarded := [], reevals := [], faulted := [], excluded := [], evaluated := [], counted := [], abandoned := [], noLattice := false, closed := none, status := 0,
    mask := 0, once := [], plans := [], chosen := none, landed := false, slack := false, rebuildDue := false, squashAll := false, squashPolicy := false }

/-- What frames need before they run: a commit has been made, the stored DOMs are loaded, and the active set's model and programs are there (R52, R508). -/
def State.runsFrames (s : State) : Bool := s.works && s.ctl.committed && s.boot.domsLoaded && s.bindingsLoaded

/-- Cancels every item of the frames a test picks out, and drops their work. -/
def State.dropFrames (s : State) (p : FrameWork → Bool) : State :=
  let gone := (s.frames.filter p).map (fun w => w.frame)
  let s := s.cancelItems (fun i => gone.contains i.frame && i.kind != .streamPacket && i.kind != .hostCommand && i.kind != .selfTest)
  { s with frames := s.frames.filter (fun w => !p w) }

/-- The run-ahead work and its map are dropped. -/
def State.dropRunAhead (s : State) : State :=
  let s := s.dropFrames (fun w => w.speculative)
  { s with world := { s.world with versions := s.world.versions.filter (fun v => !v.spec), compare := [], reversioned := [], comparing := false, specScene := none } }

/-! Start states (R78) -/

/-- The settings under which a published plan of some steps was made: those of its vehicle, and its step length (R78). -/
def History.setting (h : History) (steps idx sub : Nat) : Nat :=
  if idx == 0x4000 then (h.settings[sub - 1]?).getD 0 else if sub == 1 then steps else h.stepLength

/-- S_p: the plan published for the frame before n, evaluated at n's Landing, under the settings of its own frame. -/
def State.planStart (s : State) (n landing : Nat) : Option StartState :=
  match s.pub.history with
  | none => none
  | some h =>
    if h.frame + 1 != n then none
    else h.controls.map fun us =>
      let v := vehicleFrom (h.setting us.length)
      let e := expandControls v 0 h.start.pose us
      let p := (pointAt (1000 * h.stepLength) v.substeps (landing - h.landing) e.nodes (fun _ => false) 1).pose
      let q := h.start.placement.toMap (f64OfF32 p.x, f64OfF32 p.y)
      { x := q.1, y := q.2, heading := f64Add h.start.heading (f64OfF32 p.heading), speed := p.speed, accel := p.accel, curvature := p.curvature, art1 := p.art1, art2 := p.art2 }

/-- 2π in FP64, and an angle brought to within half a turn of zero. -/
def f64TwoPi : F64 := 0x401921FB54442D18#64
def f64Wrap (a : F64) : F64 := f64Sub a (f64Mul (f64OfInt (f64Floor (f64Add (f64Div a f64TwoPi) f64Half))) f64TwoPi)

/-- R78: S_m lies within the three tolerances of S_p. -/
def State.withinStart (s : State) (p m : StartState) : Bool :=
  f64Le (ptDist (p.x, p.y) (m.x, m.y)) (f64OfF32 (s.cfgF 0x2004 2))
    && f64Le (f64Abs (f64Wrap (f64Sub m.heading p.heading))) (f64OfF32 (s.cfgF 0x2004 3))
    && f32Le (f32Abs (f32Sub m.speed p.speed)) (s.cfgF 0x2004 4)

/-- R78: the start state of frame n, and whether it is reinitialised. DESIGN CHOICE (log entry 65): where no EGO_STATE record has ever been applied, S_m is the all-zero start state. -/
def State.chooseStart (s : State) (n landing : Nat) : StartState × Bool :=
  let m := match s.world.ego with | some e => e.propagate landing | none => StartState.zero
  match s.planStart n landing with
  | some p => if s.withinStart p m then (p, false) else (m, true)
  | none => (m, true)

/-! Carried state (R377) -/

def State.carried (s : State) : Carried :=
  { streams := s.world.streams.map (fun x => ⟨x.tiles, x.agents, x.segments, x.ego, x.newest, x.staleRun, x.lostKeys, x.lostUntil, x.working⟩),
    mapFrame := s.world.mapFrame, refX := s.world.refX, refY := s.world.refY, history := s.pub.history, status := s.pub.carriedStatus, warm := s.pub.warm }

/-- Makes a carried-state image, and keeps note of what it holds. -/
def State.makeImage (s : State) : List Byte × State :=
  let b := Config.carriedImage s.carried
  (b, { s with det := { s.det with images := s.det.images ++ [(b, s.carried)] } })

/-- What an image holds. -/
def State.imageOf (s : State) (b : List Byte) : Option Carried :=
  match s.det.images.find? (fun x => x.1 == b) with
  | some x => some x.2
  | none => Config.carriedOf b

/-- Takes a carried state over. -/
def State.loadCarried (s : State) (c : Carried) : State :=
  let streams := s.world.streams.zipIdx.map (fun (x, n) => match c.streams[n]? with
    | some k =>
      { x with
        tiles := k.tiles, agents := k.agents, segments := k.segments, ego := k.ego, newest := k.newest, staleRun := k.staleRun, lostKeys := k.lostKeys,
        lostUntil := k.lostUntil, working := memOf k.working }
    | none => x)
  { s with
    world := { s.world with mapFrame := c.mapFrame, refX := c.refX, refY := c.refY, streams := streams },
    pub := { s.pub with history := c.history, carriedStatus := c.status, warm := c.warm } }

/-- R377: the carried state after a reset. -/
def Carried.clear : Carried :=
  ⟨List.replicate 128 ⟨[], [], [], none, none, 0, [], 0, []⟩, 0, f64Zero, f64Zero, none, 3, []⟩

/-! The work of a frame -/

/-- R159: the continuation's controls; none where it is absent (R160). The source step that contains an instant is the floor of the FP64 quotient by Δt (log entry 61). -/
def State.continuation (s : State) (n tick : Nat) : Option (List Control) :=
  match s.pub.history with
  | none => none
  | some h =>
    if h.frame + 1 == n && h.stepLength == s.cfg 0x4001 2 then
      let dt := f64OfRatio h.stepLength 1000000
      let shift := f64Seconds ((tick : Int) - (h.tick : Int))
      let step (k : Nat) : Nat := (f64Floor (f64Div (f64Add (f64Mul (f64Add (f64OfInt k) f64Half) dt) shift) dt)).toNat
      h.controls.map (fun us => (List.range (s.cfg 0x4001 1)).map (fun k => (us[step k]?).getD ⟨0#32, 0#32⟩))
    else none

/-- The candidates a frame will have from its start state on (R158 to R161, R267). -/
def State.openWork (s : State) (n number : Nat) (start : StartState) (reinit speculative : Bool) : State :=
  s.modWork n (fun w =>
    let cont := s.continuation n w.tick
    { w with
      start := start, reinitialised := reinit, sealed := !speculative, speculative := speculative, version := number, base := number, due := some number,
      policyBlocks := s.policyRunLength, applicable := if s.runsLattice then applicableEntries (s.cfgBytes 0x4200 2) start.speed else [],
      noLattice := decide (s.now < s.mem.libraryUntil),
      special := ⟨cont, minRiskControls s.vehicle start.pose ((cont.getD []).map (·.sigma))⟩,
      rounds := if w.rounds.isEmpty then s.emptyRounds else w.rounds })

/-- R160: an absent continuation is reported by the chip that runs it. -/
def State.reportContinuation (s : State) (n : Nat) : State :=
  match s.work? n with
  | some w => if s.runsSpecial && s.checks && w.special.continuation.isNone then (s.count 0x4400 9 1).raiseOpen n 0x0407 else s
  | none => s

/-- The round-0 blocks of a frame that are neither in hand, nor recorded, nor abandoned are issued, and withdrawn ones are requeued (R22, R83, R87); lattice blocks wait while the library
copy is being restored (R341). -/
def State.issueMissing (s : State) (n : Nat) : State :=
  match s.work? n with
  | none => s
  | some w =>
    if !s.checks || !s.versionReady w || w.closed.isSome || w.landed then s
    else
      let policy := if w.policy.failed || !s.policyStands w then 0 else 64 * w.policy.emitted
      let lattice := if w.noLattice then 0 else w.applicable.length
      let ids := (if s.runsSpecial then [mkCid s.cidChipField 0 3 0] else []) ++ s.firstIds 0 0 policy ++ s.firstIds 0 1 lattice
      let s := ids.foldl (fun s i =>
        if (s.blockItem? n i).isSome || w.abandoned.contains i || w.blocks.any (fun r => r.firstId == i && decide (r.beta < 4112)) then s else s.issueBlock n i) s
      let s := (w.blocks.filter (fun r => r.withdrawn && decide (r.beta < 4112))).foldl (fun s r => s.replayBlock n r.firstId) s
      s.completeRound0 n

/-! Tile jobs as items (R120, R265) -/

def jobArg (j : Nat × Nat × Nat) : Nat := (33 * j.1 + j.2.1) * 256 + j.2.2
def argJob (a : Nat) : Nat × Nat × Nat := (a / 8448, a / 256 % 33, a % 256)

/-- R81, R88, R269: the class of a version's tile jobs. -/
def State.tileClass (s : State) (v : Version) : Nat :=
  if v.spec then (if s.world.comparing && s.strict then 1 else 6) else if v.urgent then 1 else 2

/-- The map builder produces tile jobs on demand, at most 64 of them as items, sealed versions before the run-ahead map, and none for a frame that has landed (R90). -/
def State.feedTiles (s : State) : State :=
  let has (v : Version) (j : Nat × Nat × Nat) : Bool :=
    s.disp.items.any (fun i => i.kind == .tileJob && i.version == v.number && i.spec == v.spec && i.arg == jobArg j && !i.committed)
  let landed (v : Version) : Bool := match s.work? v.frame with | some w => w.landed | none => true
  let vs := s.world.versions.filter (fun v => !v.ready && (v.spec || !landed v))
  let due := (vs.filter (fun v => !v.spec) ++ vs.filter (fun v => v.spec)).flatMap (fun v => (v.jobs.filter (fun j => !has v j)).map (fun j => (v, j)))
  let room := 64 - (s.disp.items.filter (fun i => i.kind == .tileJob)).length
  (due.take room).foldl (fun s (v, j) =>
    s.addItem { kind := .tileJob, cls := s.tileClass v, flow := none, spec := v.spec, replay := false, pinned := false, lane := 0, frame := v.frame, arg := jobArg j,
                version := v.number, dispatcher := 16, release := if v.spec then (s.work? v.frame).bind (·.release) else none, field := some j.2.2 }) s

/-- R108 to R116, R119: the tile of a key for a version: the parent's where its content is unchanged, else a new one; with the number of tiles written. -/
def buildTile (b : BuildCfg) (v : Version) (parent : List Tile) (k : TileKey) (next : Nat) : Tile × Nat :=
  let values := tileValues b v.inputs k
  let unknown := tileUnknown b v.inputs k
  let share := if v.urgent then none else parent.find? (fun t => t.key == k && t.values == values && t.unknown == unknown && !t.lost)
  match share with
  | some t => (t, 0)
  | none => ({ key := k, addr := (Config.tileAddress next).toNat, origin := v.number, spec := v.spec, kept := false, unknown := unknown, values := values, lost := false }, 1)

/-- One tile job of a version: every layer with content in the slice that has no tile yet (R120). -/
def State.runTileJob (s : State) (number : Nat) (spec : Bool) (j : Nat × Nat × Nat) : State :=
  match s.version? number spec with
  | none => s
  | some v =>
    let b := s.buildCfg
    let parent := match v.parent with | some p => s.versionTiles p false | none => []
    let keys := ((b.layersIn j.2.1).map (fun l => (⟨l, j.1, j.2.1, j.2.2⟩ : TileKey))).filter (fun k => !v.tiles.any (fun t => t.key == k))
    let (tiles, next) := keys.foldl (fun (ts, n) k => let (t, m) := buildTile b v parent k n; (ts ++ [t], n + m)) (([] : List Tile), s.world.nextTile)
    let written := next - s.world.nextTile
    let s := { s with world := { s.world with nextTile := next } }
    s.modVersion number spec (fun v => { v with tiles := v.tiles ++ tiles, jobs := v.jobs.filter (· != j), tilesNew := v.tilesNew + written })

/-! Urgent deltas (R85 to R88, R123) -/

/-- A packet is held for its seal, in acceptance order. -/
def State.holdPacket (s : State) (n : Nat) (p : HeldPacket) : State :=
  s.modStream n (fun x => { x with held := x.held.takeWhile (fun q => decide (q.journal < p.journal)) ++ [p] ++ x.held.dropWhile (fun q => decide (q.journal < p.journal)) })

/-- R86: an urgent delta is deferred: it becomes an ordinary input of the next frame. -/
def State.deferDelta (s : State) (n : Nat) (p : HeldPacket) : State := ((s.count 0x2021 8 1).raise 0x0385 n).holdPacket n p

/-- The packet of a delta of frame `w` enters the source state of its stream. Applied, it is no packet of the next frame; discarded, it makes the stream stale for frame `w` (R95, R125). -/
def State.takeDelta (s : State) (n : Nat) (w : FrameWork) (p : HeldPacket) : State :=
  let test := some s.world.mapFrame
  let lost := (p.discard (s.cfg (0x3100 + n) 1) test).isSome
  let before := s.stream n
  let s := (s.takePacket n w.frame p test).modStream n (fun x => { x with applied := before.applied, discarded := before.discarded })
  if lost then s.staleAfterSeal w.frame n (w.tick + s.us 0x2010 2) else s

/-- R123: the next delta's version is begun, once the newest sealed version is built: its tiles are those of that version but for the tiles that the delta changes. -/
def State.startDelta (s : State) : State :=
  match s.world.deltaOpen, s.newest, s.work? s.tb.curFrame with
  | (n, p) :: rest, some v, some w =>
    if !v.ready || v.frame != w.frame || w.landed then s
    else
      let s := { s with world := { s.world with deltaOpen := rest } }
      let s := s.takeDelta n w p
      let b := s.buildCfg
      let inputs := s.freeze w.frame v.inputs.landing (w.tick + s.us 0x2010 2) v.inputs.start
      let changed := (b.allJobs.flatMap (fun j => (b.layersIn j.2.1).map (fun l => (⟨l, j.1, j.2.1, j.2.2⟩ : TileKey)))).filter (changedTile b v.inputs inputs)
      let number := (s.world.lastVersion + 1) % u32Mod
      let stamp := match v.deltaStamp with | some t => max t p.stamp | none => p.stamp
      let v' : Version := { v with
        number := number, parent := some v.number, urgent := true, tilesNew := 0, inputs := inputs, tiles := v.tiles.filter (fun t => !changed.contains t.key),
        jobs := b.sortJobs (changed.map (fun k => (k.grid, k.slice, k.tile))), ready := false, deltaStamp := some stamp,
        staleLayers := s.staleLayers (w.tick + s.us 0x2010 2) }
      let s := { s with world := { s.world with versions := s.world.versions ++ [v'], lastVersion := number } }
      (if changed.isEmpty then s else s.count 0x3301 2 changed.length).feedTiles
  | _, _, _ => s

/-- R244: every prepared plan judged against an older version is rechecked, in ladder order; one whose recheck has not ended is judged anew as it ends. -/
def State.repeatRechecks (s : State) (frame : Nat) : State :=
  match s.work? frame with
  | none => s
  | some w =>
    if w.landed then s else
    let due := w.plans.filter (fun p => !p.failed && (match p.verdict with | some (v, _) => v != w.version | none => false)
      && !s.recheckDue frame p.pos)
    due.foldl (fun s p => (s.addRecheck frame p.pos).count 0x6301 6 1) s

end Sys2Proof.Machine
end

