-- ==== Sys2Proof/Machine/Lockstep.lean ====
section
/-!
DEFINITION. Lock-step comparison (12_determinism.md R379 to R382): the digests exchanged with the other chip of a pair, the search for the first diverging step, and its class.
The spec names the payloads of DIGEST and BISECT without a layout; theirs are the model's (log entry 30).
-/
namespace Sys2Proof.Machine
open Sys2Proof

/-- R379: lock-step comparison runs, with this peer. -/
def State.lockstepPeer (s : State) : Option Nat := if s.cfgB 0x7210 1 && s.groupMode == 1 then s.otherChips.head? else none

/-- R450: the chip whose digests of a frame are compared: it was PRESENT at the frame's tick. -/
def State.comparedPeer (s : State) (frame : Nat) : Option Nat := s.lockstepPeer.filter (fun c => decide ((s.peer c).since ≤ frame))

/-- A frame's determinism mask on this chip. -/
def State.ownMask (s : State) (frame : Nat) : Nat :=
  match s.work? frame with
  | some w => w.mask
  | none => (alGet frame s.det.masks).getD 0

/-- The other chip's mask of a frame, as its digests give it. -/
def State.peerMask (s : State) (frame : Nat) : Nat := (s.det.peer.filter (fun p => p.frame == frame)).foldl (fun a p => a ||| p.mask) 0

/-- The digest of node `k` of the level `level` below the root. -/
def State.nodeAt (s : State) (frame phase round level k : Nat) : Nat :=
  let h := phaseHeight phase - level
  match s.phase? frame phase round with
  | some p => digestNode p.leaves h (k * 2 ^ h)
  | none => zeroNode h

/-- R381: this chip's half of a level's exchange. -/
def State.sendLevel (s : State) (x : Search) : State :=
  match s.lockstepPeer with
  | none => s
  | some c =>
    let node (k : Nat) : Nat := s.nodeAt x.frame x.phase x.round (x.level + 1) k
    s.sendGroup c 8 true 0 x.frame 0
      (leBytes 1 x.phase ++ leBytes 1 x.round ++ leBytes 1 x.level ++ leBytes 1 0 ++ leBytes 4 x.node ++ leBytes 8 (node (2 * x.node)) ++ leBytes 8 (node (2 * x.node + 1)))

/-- R381: the first search that waits begins, where none runs. -/
def State.startSearch (s : State) : State :=
  match s.det.search, s.det.waiting with
  | none, x :: xs => ({ s with det := { s.det with search := some x, waiting := xs } }).sendLevel x
  | _, _ => s

/-- R380: T(N) + FramePeriod + LockstepWindow. -/
def State.digestLimit (s : State) (frame : Nat) : Nat :=
  (s.tb.anchorTick + ((frame : Int) + 1 - (s.tb.anchorFrame : Int)) * (s.tb.period : Int)).toNat + 1000 * s.cfg 0x7210 2

/-- R379: a frame whose step digests are kept with those of the current frame. -/
def keepsSteps (current n : Nat) : Bool := decide (current ≤ n + 1)

/-- R380: the phases of a frame still wait for the peer's digests. -/
def State.awaitsDigests (s : State) (n : Nat) : Bool := s.lockstepPeer.isSome && decide (s.tickTime < (s.digestLimit n : Int))

/-- R379 to R381: the step digests of a new frame push out those of the frame before the previous one, whose roots stay until their limit; a search among them ends without a result
(0x072C). -/
def State.keepDigests (s : State) (frame : Nat) : State :=
  let keeps (p : PhaseDigest) : Bool := keepsSteps frame p.frame || (match s.det.held with | some w => w.frame == p.frame | none => false)
  let old (x : Search) : Bool := !keepsSteps frame x.frame
  let gone := (s.det.search.toList ++ s.det.waiting).filter old
  let s := { s with det := { s.det with
    own := (s.det.own.filter (fun p => keeps p || s.awaitsDigests p.frame)).map (fun p => if keeps p || !p.final then p else { p with leaves := [] })
    peer := s.det.peer.filter (fun p => keepsSteps frame p.frame || s.awaitsDigests p.frame), search := s.det.search.filter (fun x => !old x), waiting := s.det.waiting.filter (fun x => !old x)
    divergedFrames := s.det.divergedFrames.filter (fun n => decide (frame ≤ n + 2) || s.awaitsDigests n) } }
  (gone.foldl (fun s x => s.raiseOpen x.frame 0x072C) s).startSearch

/-- R382: the class of a frame's divergences: 0 DIVERGED, 1 EXCUSED, 2 INHERITED. -/
def State.divergenceClass (s : State) (frame : Nat) : Nat :=
  let sealDiffers : Bool := match s.phase? frame 0 0, s.det.peer.find? (fun p => p.frame == frame && p.phase == 0) with
    | some a, some b => a.final && a.root != b.root
    | _, _ => false
  if sealDiffers && 0 < frame && s.det.divergedFrames.contains (frame - 1) then 2
  else if s.ownMask frame != 0 || s.peerMask frame != 0 then 1
  else 0

/-- R382: a diverging step is reported. -/
def State.reportDivergence (s : State) (x : Search) (index mine theirs : Nat) : State :=
  let c := s.divergenceClass x.frame
  let step := index % 8192 + 8192 * (x.round % 4) + 65536 * x.phase + 2 ^ 19 * c
  let s := { s with det := { s.det with last := ⟨x.frame, step, mine, theirs, s.peerMask x.frame⟩ } }
  let s := (s.count 0x7212 (c + 2) 1).raiseOpen x.frame (0x0728 + c)
  if c == 0 then ({ s with newel := { s.newel with diverged := true } }).setCause 5 else s

/-- R381: two roots differ: the frame's first is searched, later ones are counted. -/
def State.rootsDiffer (s : State) (frame phase round theirs : Nat) : State :=
  if s.det.divergedFrames.contains frame then s.count 0x7212 (s.divergenceClass frame + 2) 1
  else
    let s := { s with det := { s.det with divergedFrames := s.det.divergedFrames ++ [frame] } }
    let x : Search := ⟨frame, phase, round, 0, 0⟩
    if phaseHeight phase == 0 then s.reportDivergence x 0 (((s.phase? frame phase round).map (·.root)).getD 0) theirs
    else if !keepsSteps s.tb.curFrame frame then s.raiseOpen frame 0x072C
    else ({ s with det := { s.det with waiting := s.det.waiting ++ [x] } }).startSearch

/-- R379: a phase is compared once its digest is final here and the peer's is present. -/
def State.comparePhase (s : State) (frame phase round : Nat) : State :=
  match s.phase? frame phase round, s.det.peer.find? (fun p => p.frame == frame && p.phase == phase && p.round == round) with
  | some a, some b =>
    if !a.final || a.compared then s
    else
      let s := (s.modPhase frame phase round (fun p => { p with compared := true })).count 0x7212 1 1
      if a.root == b.root then s else s.rootsDiffer frame phase round b.root
  | _, _ => s

/-- DIGEST_FINAL: a phase digest becomes final and is sent to the peer (R379). -/
def execDigestFinal (frame phase round : Nat) (s : State) : Host.Outcome State Fault Refusal :=
  .next (
    match s.phase? frame phase round with
    | none => s
    | some p =>
      if !p.ready || p.final then s
      else
        let root := s.nodeAt frame phase round 0 0
        let s := s.modPhase frame phase round (fun p => { p with root := root, final := true })
        match s.lockstepPeer with
        | none => s
        | some c =>
          (s.sendGroup c 7 true 0 frame 0 (leBytes 1 phase ++ leBytes 1 round ++ leBytes 2 (s.ownMask frame) ++ leBytes 4 0 ++ leBytes 8 root)).comparePhase frame phase round)

/-- DIGEST_MISSING: the peer's digest has not arrived by T(N) + FramePeriod + LockstepWindow; the phase is not compared (R380). -/
def execDigestMissing (frame phase round : Nat) (s : State) : Host.Outcome State Fault Refusal :=
  .next (
    let s := s.atTick (s.digestLimit frame)
    match s.phase? frame phase round, s.comparedPeer frame with
    | some p, some _ =>
      if p.compared || s.det.peer.any (fun q => q.frame == frame && q.phase == phase && q.round == round) then s
      else ((s.modPhase frame phase round (fun p => { p with compared := true })).count 0x7212 5 1).raiseOpen frame 0x072B
    | _, _ => s)

/-- R381: the peer's half of a level: the search goes to the child whose digests differ, or reports the leaf. -/
def State.takeLevel (s : State) (x : Search) (left right : Nat) : State :=
  let node (k : Nat) : Nat := s.nodeAt x.frame x.phase x.round (x.level + 1) k
  let differs := node (2 * x.node) != left
  let child := if differs then 2 * x.node else 2 * x.node + 1
  if x.level + 1 == phaseHeight x.phase then
    (({ s with det := { s.det with search := none } }).reportDivergence x child (node child) (if differs then left else right)).startSearch
  else
    let y : Search := { x with level := x.level + 1, node := child }
    ({ s with det := { s.det with search := some y } }).sendLevel y

/-- A BISECT message's content is received. A chip behind its peer in the search goes to the peer's node, and one that has not begun it begins there. -/
def State.bisectFrom (s : State) (frame : Nat) (payload : List Byte) : State :=
  let phase := fieldAt payload 0 1
  let round := fieldAt payload 1 1
  let level := fieldAt payload 2 1
  let x : Search := ⟨frame, phase, round, level, fieldAt payload 4 4⟩
  let left := fieldAt payload 8 8
  let right := fieldAt payload 16 8
  if (s.comparedPeer frame).isNone || !keepsSteps s.tb.curFrame frame || phaseHeight phase ≤ level || (s.phase? frame phase round).isNone then s
  else
    match s.det.search with
    | some y =>
      if y.frame == frame && y.phase == phase && y.round == round then
        if level < y.level then s
        else if level == y.level then s.takeLevel { x with node := y.node } left right
        else (({ s with det := { s.det with search := some x } }).sendLevel x).takeLevel x left right
      else if s.det.divergedFrames.contains frame then s
      else { s with det := { s.det with divergedFrames := s.det.divergedFrames ++ [frame], waiting := s.det.waiting ++ [⟨frame, phase, round, 0, 0⟩] } }
    | none =>
      if s.det.divergedFrames.contains frame then s
      else
        let s := { s with det := { s.det with divergedFrames := s.det.divergedFrames ++ [frame], search := some x } }
        (s.sendLevel x).takeLevel x left right

/-- A DIGEST message's content is received (R379). -/
def State.digestFrom (s : State) (frame : Nat) (payload : List Byte) : State :=
  let phase := fieldAt payload 0 1
  let round := fieldAt payload 1 1
  if (s.comparedPeer frame).isNone || s.det.peer.any (fun p => p.frame == frame && p.phase == phase && p.round == round) then s
  else
    let d : PeerDigest := ⟨frame, phase, round, fieldAt payload 8 8, fieldAt payload 2 2⟩
    ({ s with det := { s.det with peer := s.det.peer ++ [d] } }).comparePhase frame phase round

end Sys2Proof.Machine
end

