-- ==== Sys2Proof/Machine/SelfTest.lean ====
section
/-! DEFINITION. The self-test slices of the slack: when one fits, which banks and engines have one, and what follows at an engine. -/

namespace Sys2Proof.Machine

/-- R289, R479: an engine's scratchpad is zeroed and its program store loaded with the program that the active set binds. -/
def State.loadEngine (s : State) (e : Nat) : State :=
  (s.zeroScratchpad e).modUnit e (fun _ => ⟨0, [], s.treadImage, false⟩)

/-- R478: a slice that starts at an instant of the tick clock ends, at the throttle step, before the guard of the next tick: start + 50 · 16 / (16 − s) µs ≤ T(N + 1) − SelfTestGuard. -/
def State.sliceEnds (s : State) (start : Nat) : Bool :=
  decide ((start + 1000 * s.cfg 0x9300 2) * (16 - s.power.step) + 800000 ≤ (s.tb.curTick + s.tb.period) * (16 - s.power.step))

/-- R477, R349: the banks that are tested in slack: those of region 8, as units 1024 + b, and the stream-buffer banks out of service that have not failed, as units 4096 + 2n + i. -/
def State.testBanks (s : State) : List Nat :=
  (s.regionBanks 8).map (1024 + ·)
    ++ (s.world.streams.zipIdx.flatMap (fun x =>
          (if x.1.buf.bank0 == .out && !x.1.buf.failed0 then [4096 + 2 * x.2] else []) ++ (if x.1.buf.bank1 == .out && !x.1.buf.failed1 then [4097 + 2 * x.2] else [])))

/-- R478: the slices of a slack: one for each bank to be tested, the one first whose last pass ended longest ago, and one for each engine in service that has none waiting, all released
at SlackStart. -/
def State.placeSlices (s : State) (frame release : Nat) : State :=
  let since (u : Nat) : Nat := ((alGet u s.newel.courses).map (·.since)).getD 0
  let s := { s with newel := { s.newel with bankSlices := (s.testBanks.mergeSort (fun a b => decide (since a ≤ since b))).map (fun u => (u, release)) } }
  (s.disp.enginesIn.filter (fun e => !s.disp.items.any (fun i => i.kind == .selfTest && i.lane == e))).foldl (fun s e =>
    s.addItem { kind := .selfTest, cls := 8, flow := none, spec := false, replay := false, pinned := true, lane := e, frame := frame,
                arg := ((alGet e s.newel.courses).map (·.segment)).getD 0, version := 0, dispatcher := e / 32, release := some release }) s

/-- R478: the next bank slice of the slack enters service at an instant of the tick clock, where it still fits. DESIGN CHOICE (log entry 40): one bank at a time is tested. -/
def State.nextBankSlice (s : State) (now : Nat) : State :=
  match s.newel.bankTest, s.newel.bankSlices with
  | none, (u, r) :: rest =>
    if r ≤ now && s.sliceEnds now && s.testBanks.contains u then { s with newel := { s.newel with bankTest := some (u, now), bankSlices := rest } } else s
  | _, _ => s

end Sys2Proof.Machine
end

