-- ==== Sys2Proof/Machine/Publish.lean ====
section
/-!
DEFINITION. The Landing and the result slots: LANDING (03_frame_cycle.md R89, R90; 08_refinement.md R245 to R253; 15_safety.md R458 to R461, R465, R475, R476),
PUBLICATION_FAILURE (R468) and RELEASE (R254).
-/
namespace Sys2Proof.Machine
open Sys2Proof

/-! The slot (R249 to R251) -/

/-- R247: the status of a published plan. -/
def planStatus (p : Option Plan) : Nat := match p with | some p => (if p.pos < 64 then 0 else p.pos - 63) | none => 3

/-- What a Landing publishes. -/
structure Published where
  plan : Option Plan
  substituted : Bool
  /-- MAP_VERSION. -/
  version : Nat
  deriving DecidableEq, Repr

def Published.points (x : Published) : List PlanPoint := match x.plan with | some p => p.points.getD [] | none => []
def Published.pointBytes (x : Published) : List Byte := x.points.flatMap PlanPoint.bytes

/-- R251: bytes 32 to 123 of a slot. -/
def State.slotBody (s : State) (w : FrameWork) (x : Published) : List Byte :=
  let mapFrame := match s.world.versions.find? (fun v => v.number == w.version && !v.spec) with | some v => v.mapFrame | none => s.world.mapFrame
  let of (d : Nat) (f : Plan → Nat) : Nat := match x.plan with | some p => f p | none => d
  leBytes 8 w.frame ++ leBytes 1 (planStatus x.plan) ++ leBytes 1 (of 0xFF (·.pos)) ++ leBytes 1 x.points.length
    ++ leBytes 1 (match x.plan with | some p => p.flags x.substituted | none => bitIf x.substituted 4)
    ++ leBytes 4 (of 0xFFFFFFFF (fun p => p.entry.cid)) ++ leBytes 4 x.version ++ leBytes 4 s.ctl.activeSetId ++ leBytes 4 (w.status - w.status % 2) ++ leBytes 4 (s.cfg 0x6200 2)
    ++ leBytes 8 (w.tick + s.us 0x2016 1) ++ leBytes 8 w.start.x.toNat ++ leBytes 8 w.start.y.toNat ++ leBytes 8 w.start.heading.toNat ++ leBytes 2 mapFrame
    ++ leBytes 2 (of 0 (fun p => p.qp.iterations)) ++ leBytes 2 (of 0 (fun p => p.qp.pivots)) ++ leBytes 2 0 ++ leBytes 4 (of 0xFF800000 (fun p => p.entry.merit.toNat))
    ++ List.replicate 16 0#8

/-- R251: bytes 32 to 127: the body and its CRC over the body and the points. -/
def sealedBody (body points : List Byte) : List Byte := body ++ leBytes 4 (crc32c (body ++ points)).toNat

/-- R251: the 32 bytes before them. -/
def slotFront (generation : Nat) (ready : Bool) : List Byte :=
  leBytes 8 generation ++ leBytes 2 (if ready then 1 else 2) ++ leBytes 2 (if ready then 0 else 0x0620) ++ List.replicate 20 0#8

/-- R250, R253: what a read of a slot returns: 8,192 bytes. -/
def ResultSlot.bytes (x : ResultSlot) : List Byte := slice (slotFront x.generation x.ready ++ slice x.body 0 96 ++ x.points) 0 8192

/-! Substitution (R475, R476) -/

/-- R475: a fall-back that may stand in for the chosen plan. -/
def FrameWork.usable (w : FrameWork) (chosen pos : Nat) : Bool :=
  decide (chosen < pos) && (match w.plan? pos with | some p => p.verdictAt w.due == some true && p.sentry == some true | none => false)

/-- R475, R476: the plan that is published, by the verdict on the chosen one. -/
def FrameWork.substitute (w : FrameWork) (c : Nat) (v : Verdict) (z : Nat) (latch : Bool) : Option Nat :=
  let least := if w.usable c 65 then some 65 else none
  if latch && decide (c < 65) then least
  else match v with
    | .agree => some c
    | _ => if z == 0 && w.usable c 64 then some 64 else least

/-- R474 to R476, R487: the sentry's part of a Landing: the ladder position published and whether it was substituted. -/
def State.sentryLanding (s : State) (w : FrameWork) (chosen : Option Nat) : Option Nat × State :=
  if !s.cfgB 0x9200 1 then (chosen, s)
  else match chosen with
  | none => (none, { s with newel := { s.newel with lastVerdict := .noPlan } })
  | some c =>
    let p := w.plan? c
    let v : Verdict := match p.bind (·.sentry) with | some true => .agree | some false => .disagree | none => .incomplete
    let z := s.newel.streak
    let latched := s.newel.degraded.testBit 0
    let out := w.substitute c v z (latched && s.cfgB 0x9200 8)
    let s := match v with
      | .disagree =>
        let s := (s.count 0x9202 2 1).raiseOpen w.frame 0x0A05
        { s with newel := { s.newel with streak := min 255 (z + 1), lastFirstPoint := match p with | some p => p.sentryPoint | none => 0 } }
      | .incomplete => (s.count 0x9202 4 1).raiseOpen w.frame 0x0A07
      | _ => { s with newel := { s.newel with streak := 0 } }
    let s := if v != .agree && z != 0 then s.setCause 0 else s
    let s :=
      if v == .agree then
        (if latched then
          let n := s.newel.clearCount + 1
          if s.cfg 0x9200 9 ≤ n then ({ s with newel := { s.newel with clearCount := 0 } }).clearCause 0 else { s with newel := { s.newel with clearCount := n } }
        else s)
      else { s with newel := { s.newel with clearCount := 0 } }
    let s := { s with newel := { s.newel with lastVerdict := v } }
    (out, if out == some c then s else (s.count 0x9202 3 1).choice w.frame 6 true)

/-! The outputs (R458 to R461) -/

/-- R460: a safe-state hold begins or is renewed at a frame. -/
def State.beginHold (s : State) (frame : Nat) : State :=
  let fresh := s.newel.hold.isNone
  let s := { s with newel := { s.newel with hold := some (s.cfg 0x9000 1), safeFrame := if fresh then frame else s.newel.safeFrame } }
  if fresh then (s.count 0x9002 2 1).raiseOpen frame 0x0A0C else s

/-- R460: the hold at a Landing with a status other than NONE. -/
def State.passHold (s : State) (frame : Nat) : State :=
  match s.newel.hold with
  | none => s
  | some n => if n ≤ 1 then ({ s with newel := { s.newel with hold := none } }).raiseOpen frame 0x0A0D else { s with newel := { s.newel with hold := some (n - 1) } }

/-- R459: whether a Landing sets PLAN_OK. -/
def State.planOk (s : State) (status : Nat) : Bool :=
  s.publishes && decide (status < 3) && !s.faulted && s.newel.hold.isNone && s.cfgB 0x9200 1 && s.det.replay == .live && (s.tb.st == .locked || s.tb.st == .holdover)

/-- R458 to R461: the pins at a Landing. -/
def State.landPins (s : State) (frame status : Nat) : State :=
  let s := if s.publishes then (if status == 3 then s.beginHold frame else s.passHold frame) else s
  let ok := s.planOk status
  let s := s.setPins (fun p => { p with planOk := ok })
  ({ s with newel := { s.newel with startHold := s.newel.startHold && !ok } }).driveSafe

/-! LANDING -/

/-- R465: the span ends: causes whose clearing condition still holds are cleared, and INTEGRITY is judged. -/
def State.endSpan (s : State) : State :=
  let n := s.newel
  let bad := decide (s.cfg 0x9000 3 < n.corruptEvents) || decide (0 < n.excludedEvents)
  let s := ({ s with newel := { n with setThisSpan := 0, clearDue := 0, corruptEvents := 0, excludedEvents := 0, integrityRun := if bad then 0 else n.integrityRun + 1 } }).dropCauses n.clearDue
  if s.cfg 0x9000 2 ≤ s.newel.integrityRun then s.dropCauses (2 ^ 4) else s

/-- R465: LOCKSTEP is judged at the Landing of a frame, by the comparisons of the frame before (log entry 29). -/
def State.judgeLockstep (s : State) (frame : Nat) : State :=
  let n := s.newel
  let compared := s.det.own.any (fun p => p.compared && p.frame + 1 == frame)
  let run := if n.diverged then 0 else if compared then n.lockstepRun + 1 else n.lockstepRun
  let s := { s with newel := { n with diverged := false, lockstepRun := run } }
  if s.cfg 0x9000 2 ≤ run then s.dropCauses (2 ^ 5) else s

/-- R362, R363: the REFINE and RECHECK steps that have not retired do so with the Landing, and their phases are complete, as is every earlier phase, with the steps it has (R380). -/
def State.retirePlans (s : State) (w : FrameWork) : State :=
  let s := w.plans.foldl (fun s p => (s.retireRefine w.frame p.pos).retireRecheck w.frame p.pos) s
  let s := (List.range 4).foldl (fun s r => s.phaseReady w.frame 3 r) s
  [1, 2, 4, 5].foldl (fun s p => s.phaseReady w.frame p 0) s

/-- R252: the slot write, or the overrun. -/
def State.writeSlot (s : State) (w : FrameWork) (body points : List Byte) : State :=
  let k := w.frame % max 1 (s.cfg 0x6300 1)
  match s.pub.slots[k]? with
  | none => s
  | some x =>
    if x.ready then (s.count 0x6301 9 1).raise 0x0621 k
    else { s with pub := { s.pub with slots := setAt s.pub.slots k ⟨w.frame, true, body, points⟩ } }

/-- R418: a copy for every enabled publication ring. -/
def State.postPublication (s : State) (record : List Byte) : State :=
  ((s.host.rings.filter (fun p => p.1 % 4 == 3 && p.2.st != .disabled)).map (·.1)).foldl (fun s r =>
    if s.ringRoom r == 0 then s.count 0x8402 8 1 else s.ringPush r (fun _ => record) false) s

/-- R442: the refiner's PLAN message to chips 0 and 1. -/
def State.sendPlan (s : State) (w : FrameWork) (record : List Byte) (controls : List Control) : State :=
  if s.groupMode == 2 && s.group.role == 3 then
    ([0, 1].filter (fun c => c != s.chip && s.otherChips.contains c)).foldl (fun s c => s.sendSegments c 6 w.frame w.version (record ++ controls.flatMap Control.bytes)) s
  else s

/-- R248, R78: what stays of the Landing of a frame: the control sequence it published, or none after NONE. -/
def State.remember (s : State) (w : FrameWork) (controls : Option (List Control)) : State :=
  { s with pub := { s.pub with history := some {
      frame := w.frame, tick := w.tick, stepLength := s.cfg 0x4001 2, controls := controls, start := w.start, landing := w.tick + s.us 0x2016 1,
      settings := (List.range 0x1A).map (fun j => s.cfg 0x4000 (j + 1)) } } }

/-- R247, R248, R252, R260, R362, R418, R442: publishes. -/
def State.publish (s : State) (w : FrameWork) (x : Published) : State :=
  let status := planStatus x.plan
  let s := s.count 0x6301 (status + 1) 1
  let s := if status == 0 then s else (s.raiseOpen w.frame (0x061A + status)).frameStatus w.frame (0x1A + status)
  match s.work? w.frame with
  | none => s
  | some w =>
    let body := s.slotBody w x
    let sealed' := sealedBody body x.pointBytes
    let record := slotFront w.frame true ++ sealed'
    let controls := match x.plan with | some p => p.controls | none => []
    let s := s.writeSlot w sealed' x.pointBytes
    let s := s.remember w (x.plan.map (fun p : Plan => p.controls))
    let s := { s with pub := { s.pub with carriedStatus := status, lastFrame := w.frame, lastStatus := status, lastFrameStatus := w.status - w.status % 2 } }
    let s := (s.postPublication record).sendPlan w record controls
    (s.recordStep w.frame 6 0 0 (body.take 16 ++ slice body 24 68 ++ x.pointBytes)).phaseReady w.frame 6 0

/-- R245, R246: the choice at the Landing, a recheck not completed counting as failed. -/
def FrameWork.finalChoice (w : FrameWork) : Option Nat :=
  choose w.due (w.plans.map (fun p => if (p.verdictAt w.due).isNone then { p with failed := true } else p))

/-- R246: a recheck not completed bears on what is published: the first plan of the ladder that has not failed has no verdict. -/
def FrameWork.recheckOpen (w : FrameWork) : Bool :=
  match w.plans.find? (fun p => p.verdictAt w.due != some false) with
  | some p => (p.verdictAt w.due).isNone
  | none => false

/-- R369: the frame's mask is written. -/
def State.writeMask (s : State) (frame : Nat) : State :=
  match s.work? frame with
  | none => s
  | some w =>
    let s := { s with det := { s.det with maskFrame := frame, mask := w.mask, masks := ((frame, w.mask) :: s.det.masks).take 32 } }
    if w.mask == 0 then s
    else
      let s := if w.mask % 512 != 0 then s.count 0x7203 2 1 else s
      s.raiseFor frame 0x0720 (s.openArg 0x0720) w.mask

/-- The refining part of a Landing: choice, substitution, publication and pins. -/
def State.landPlan (s : State) (w : FrameWork) : State :=
  let final := w.finalChoice
  let s := if w.recheckOpen then (((s.count 0x6301 7 1).frameStatus w.frame 0x1A).choice w.frame 5 true) else s
  let s := s.retirePlans w
  let (out, s) := s.sentryLanding w final
  if s.faulted then (s.remember w none).phaseReady w.frame 6 0
  else
    let plan := out.bind w.plan?
    let (version, s) : Nat × State := match plan with
      | some _ => (w.version, s)
      | none => let (n, s) := s.draw; ((Config.openValue 2 n).toNat % u32Mod, s)
    let x : Published := ⟨plan, out != final, version⟩
    (s.publish w x).landPins w.frame (planStatus plan)

/-- The Landing of a frame (R89, R90), but for what it does to replay and to the Hall's banks. -/
def State.landFrame (s : State) (w : FrameWork) : State :=
  let s := if s.det.unpaced then s else s.atTick (w.tick + s.us 0x2016 1)
  let s := s.endSpan.judgeLockstep w.frame
  let s := if s.closes then s.landPlan w else (if (s.pub.history.map (·.frame)) == some w.frame then s else s.remember w none).driveSafe
  let s := match w.closed with | some l => { s with pub := { s.pub with lastList := l.bytes } } | none => s
  let s := s.writeMask w.frame
  let s := { s with det := { s.det with landingStep := s.det.stepCounter } }
  let s := s.cancelItems (fun i => i.frame == w.frame && !i.spec && i.kind != .streamPacket && i.kind != .hostCommand && i.kind != .selfTest)
  let s := s.modWork w.frame (fun w => { w with landed := true })
  let s := match s.work? w.frame with
    | some w => if s.cfgB 0x7204 1 && !s.cfgB 0x7204 2 then { s with det := { s.det with held := some w, heldSet := s.dict.active } } else s
    | none => s
  s.pendRejoins.placeSlices w.frame (w.tick + s.us 0x2017 1)

/-- R468: the last frame landed has a publication that can fail, once. -/
def State.publication? (s : State) : Option FrameWork :=
  (s.frames.find? (fun w => w.landed && !w.speculative)).filter (fun w => s.publishes && !s.faulted && s.newel.lastPubFailure != some w.frame)

/-- R468: a frame has a publication failure; a second in consecutive frames is a device fault. -/
def State.publicationFails (s : State) (frame : Nat) : State :=
  let again := s.newel.lastPubFailure == some (frame - 1) && decide (0 < frame)
  let s := { s with newel := { s.newel with lastPubFailure := some frame } }
  let s := (s.setPins (fun p => { p with planOk := false })).beginHold frame
  let s := ((s.count 0x9002 5 1).raiseOpen frame 0x0A08).driveSafe
  if again then s.deviceFault 5 else s

/-- PUBLICATION_FAILURE: the last frame's publication is reported as failed, or not at all (R468). -/
def execPublicationFailure (s : State) : Host.Outcome State Fault Refusal :=
  .next (
    match s.publication? with
    | none => s
    | some w => (if s.det.unpaced then s else s.atTick (w.tick + s.us 0x2016 1 + 5000)).publicationFails w.frame)

/-- RELEASE: a write of a generation to a slot's RELEASE register (R254); before READY it is discarded (R392). -/
def execRelease (t slot generation : Nat) (s : State) : Host.Outcome State Fault Refusal :=
  let s := s.at t
  .next (
    match s.pub.slots[slot]? with
    | none => s
    | some x =>
      if s.cfg 0x6300 1 ≤ slot || !s.boot.ready then s
      else if x.ready && x.generation == generation then { s with pub := { s.pub with slots := setAt s.pub.slots slot { x with ready := false } } }
      else s.count 0x6301 0x0A 1)

end Sys2Proof.Machine
end

