-- ==== Sys2Proof/Machine/Frame.lean ====
section
/-!
DEFINITION. The frame cycle's commands (03_frame_cycle.md, 04_world_model.md, 09_galleries_dispatch.md R271, R290): FRAME_TICK, PROGRAM_RELOAD, SEAL, RUNAHEAD_TILE_COMPARE,
RUNAHEAD_COMMIT_POINT, TILE_JOB, MAP_READY, SCENE_TENSOR_EMIT, BUILD_END_PROMOTION, URGENT_DELTA, URGENT_VERSION_SEAL, LANDING and SLACK_START.
-/
namespace Sys2Proof.Machine
open Sys2Proof

/-! FRAME_TICK -/

/-- R272: at a dispatcher tick, items whose release time has come become ready (or wait on for their inputs), and those held for a full delay list are offered again. -/
def State.releaseDue (s : State) (now : Nat) : State :=
  let items := s.disp.items.map (fun i => match i.loc with
    | .delay d r => if r ≤ now then { i with loc := if s.inputsExist i.kind i.frame i.spec then .ready d else .waiting d false } else i
    | _ => i)
  let s : State := { s with disp := { s.disp with items := items } }
  (s.disp.items.filter (fun i => match i.loc with | .held _ _ => true | _ => false)).foldl (fun s i =>
    match i.loc with
    | .held d r => let (loc, s) := s.delayLoc d r; s.modItem i.serial (fun i => { i with loc := loc })
    | _ => s) s

/-- R448: this chip takes a role, and says so to the chips it can reach. -/
def State.takeRole (s : State) (role : Nat) : State :=
  let s : State := if role == 3 then { s with group := { s.group with alsoWorld := s.group.alsoWorld || s.group.role == 1 }, pub := { s.pub with history := none, warm := [] } } else s
  let s : State := ({ s with group := { s.group with role := role } }).roleChanged
  let s : State := (s.otherChips.filter s.peerPresent).foldl (fun s c => s.sendGroup c 0x0B true 0 s.tb.curFrame 0 (leBytes 1 role)) s
  (s.count 0x8605 0x0B 1).raiseOpen s.tb.curFrame 0x0906

/-- R450: a chip that has joined long enough and is in step becomes PRESENT; the PRIMARY of a pair sends it every journal record not yet retired, and at the seal the carried state. -/
def State.admitPeer (s : State) (c : Nat) : State :=
  let p := s.peer c
  if p.st != .joining || p.outOfStep || s.now < p.joinSince + s.us 0x8600 0x0B then s
  else
    let s : State := ((s.modPeer c (fun p => { p with st := .present, since := s.tb.curFrame })).count 0x8605 0x0C 1).raise 0x0907 c
    let s : State := if s.mirrorTarget == some c then ({ s with group := { s.group with mirrorDown := false } }).clearCause 3 else s
    if s.groupMode == 1 && s.group.role == 4 then
      let s : State := { s with group := { s.group with checkpointDue := some c } }
      (s.host.journal.filter (fun j => j.st != .retired)).foldl (fun s j => (s.mirror j).2) s
    else s

/-- R465: cause PEER is cleared when every chip of the group is PRESENT and in step. -/
def State.clearPeers (s : State) : State := if s.otherChips.all (fun c => s.peerPresent c && !(s.peer c).outOfStep) then s.clearCause 8 else s

/-- What a tick does in the group: roles due are taken (R448, R449), joined chips become PRESENT (R450), and the group digest is taken (R436). -/
def State.groupTick (s : State) : State :=
  let s : State := match s.group.takeAtTick with
    | some 5 => ({ s with group := { s.group with role := 5, takeAtTick := none } }).roleChanged
    | some r => ({ s with group := { s.group with takeAtTick := none } }).takeRole r
    | none => s
  let s : State := (s.otherChips.foldl (fun s c => s.admitPeer c) s).clearPeers
  let digest := s.groupDigest
  { s with group := { s.group with digest := digest, digests := (alSet s.tb.curFrame digest s.group.digests).drop ((alSet s.tb.curFrame digest s.group.digests).length - 4) } }

/-- Frame n becomes the current frame: older frames leave, and its work begins. -/
def State.beginFrame (s : State) (n : Nat) : State :=
  let s : State := if s.frames.any (fun w => w.speculative && w.frame != n) then s.dropRunAhead else s
  let s : State := (s.dropFrames (fun w => !w.speculative)).keepDigests n
  let s : State := { s with world := { s.world with deltas := 0, streams := s.world.streams.map (fun x => { x with buf := { x.buf with errors0 := 0, errors1 := 0 } }) } }
  let carry := s.det.carryMask
  let s : State := { s with det := { s.det with carryMask := 0 } }
  if !s.runsFrames then s.dropRunAhead
  else if s.frames.any (fun w => w.frame == n) then s.modWork n (fun w => { w with tick := s.tb.curTick, mask := w.mask ||| carry })
  else { s with frames := s.frames ++ [{ FrameWork.fresh n s.tb.curTick with mask := carry }] }

/-- FRAME_TICK (R290): the commit swap, or else rejoins; the lane mapping; the delay lists; the frame's work. -/
def execFrameTick (s : State) : Host.Outcome State Fault Refusal :=
  .next (
    if !s.works || s.det.replay == .replaying || s.det.replay == .leaving then s
    else match s.schedule with
    | none => s
    | some (n, s) =>
      let s : State := ({ s.tickAt n with det := { s.det with unpaced := false } }).finishOld n
      let set := s.ctl.activeSetId
      let s : State := (if s.ctl.st == .pending then s.beginFilters else s).commitAt n
      let s : State := if s.ctl.activeSetId == set then s.enterService s.tb.curTick else s
      ((s.remapLanes.releaseDue s.tb.curTick).groupTick).beginFrame n)

/-- PROGRAM_RELOAD: an engine, or a stream's ingress processor, whose work of the old frame is done reloads its program store (R299). -/
def execProgramReload (ingress : Bool) (number : Nat) (s : State) : Host.Outcome State Fault Refusal :=
  .next (
    if ingress then
      (if (s.stream number).reloadDue && (s.stream number).running.isEmpty && number < 128 then
        s.modStream number (fun x => { x with program := s.filterImage number, reloadDue := false })
      else s)
    else
      match s.disp.units[number]? with
      | some u => if u.reloadDue && (s.serving number).isNone then s.modUnit number (fun u => { u with program := s.treadImage, reloadDue := false }) else s
      | none => s)

/-! SEAL -/

/-- The stream packets that a seal applies, by stream: their payloads in acceptance order (R362). -/
def State.appliedPayloads (s : State) (frame n : Nat) (test : Option Nat) : List Byte :=
  ((s.stream n).held.filter (fun p => decide (p.frame ≤ frame) && (p.discard (s.cfg (0x3100 + n) 1) test).isNone)).flatMap (·.payload)

/-- R471: one packet's records in the sentry's own source state. -/
def State.sentryApply (s : State) (p : SentryHeld) : State :=
  let old := (s.newel.sources.find? (fun x => x.stream == p.stream)).getD ⟨p.stream, [], []⟩
  let x := { Stream.initial with tiles := old.tiles, agents := old.agents }
  let y := p.records.foldl (fun (x : Stream) r => (x.apply (s.srcCell p.stream) s.world.ref r.2).1) x
  { s with newel := { s.newel with sources := s.newel.sources.filter (fun x => x.stream != p.stream) ++ [⟨p.stream, y.tiles, y.agents⟩] } }

/-- R471, R472: the sentry's part of a seal: the records held for the frame, hold times, and what the raster is drawn from. -/
def State.sentrySeal (s : State) (frame mapFrame now landing : Nat) (start : StartState) : State :=
  let s : State := if s.newel.mapFrame == mapFrame then s else { s with newel := { s.newel with mapFrame := mapFrame, sources := [] } }
  let due := s.newel.held.filter (fun p => decide (p.frame ≤ frame))
  let s : State := { s with newel := { s.newel with held := s.newel.held.filter (fun p => !decide (p.frame ≤ frame)) } }
  let s : State := due.foldl (fun s p => if p.records.all (fun r => r.1 == mapFrame) then s.sentryApply p else s.count 0x9202 6 1) s
  let sources := s.newel.sources.map (fun x => { x with agents := x.agents.filter (fun a => decide (now ≤ a.time + s.cfg (0x3100 + x.stream) 0x0E)) })
  let drawn := sources.map (fun x => { x with tiles := x.tiles.filter (fun t => s.cfg (0x3100 + x.stream) 1 == 6 || decide (now ≤ t.time + s.cfg (0x3100 + x.stream) 8)) })
  { s with newel := { s.newel with sources := sources, scene := some ⟨frame, landing, start, drawn⟩ } }

/-- R81: the sealed version of a frame that had run-ahead: its tiles are compared with the run-ahead map's, and tiles that run-ahead has not finished are, in RELAXED mode, built anew. -/
def State.beginCompare (s : State) (frame : Nat) (run sealedV : Version) : State :=
  let noKeep := s.world.noShare || (sealedV.reinitialised && sealedV.inputs.start.placement != run.inputs.start.placement)
  let b := s.buildCfg
  let keysOf (js : List (Nat × Nat × Nat)) : List TileKey := js.flatMap (fun j => (b.layersIn j.2.1).map (fun l => (⟨l, j.1, j.2.1, j.2.2⟩ : TileKey)))
  let undone := keysOf run.jobs
  let all := keysOf b.allJobs
  let reversioned := if noKeep then all else if s.strict then [] else undone
  let s : State := { s with world := { s.world with comparing := true, reversioned := reversioned, compare := all.filter (fun k => !reversioned.contains k) } }
  let s : State := if !s.strict && !undone.isEmpty then s.choice frame 2 true else s
  let s : State := s.modVersion run.number true (fun v => if noKeep || !s.strict then { v with jobs := [] } else v)
  let s : State := if noKeep || !s.strict then s.cancelItems (fun i => i.kind == .tileJob && i.spec) else s
  let s : State := { s with disp := { s.disp with items := s.disp.items.map (fun i => if i.kind == .tileJob && i.spec then { i with cls := 1, level := s.classLevel 1 } else i) } }
  let s : State := if reversioned.isEmpty then s else s.count 0x3301 2 reversioned.length
  s.modVersion sealedV.number false (fun v => { v with jobs := b.sortJobs (reversioned.map (fun k => (k.grid, k.slice, k.tile))) })

/-- R362: the deterministic content of the SEAL step. -/
def sealContent (v : Version) (payloads : List (List Byte)) (carried : List Byte) : List Byte :=
  let r := v.bytes
  slice r 8 12 ++ leBytes 1 (fieldAt r 20 1 % 32) ++ slice r 24 24 ++ payloads.flatMap sm3 ++ carried

/-- R77, R95 to R97, R107, R112, R125 to R127: the seal's work on the source state; the answer holds STALE_LAYERS, the payloads applied and the state. DESIGN CHOICE (log entry
65): before any EGO_STATE record the map frame tested against is 0. -/
def State.sealSources (s : State) (frame now : Nat) : Nat × List (List Byte) × State :=
  let left := s.world.deltaDue
  let opened := s.world.deltaOpen
  let s : State := { s with world := { s.world with deltaDue := [], deltaOpen := [] } }
  let s : State := left.foldl (fun s (n, p) => s.deferDelta n p) s
  let s : State := opened.foldl (fun s (n, p) => s.holdPacket n p) s
  let egoN := s.egoStream.getD 128
  let egoPay := s.appliedPayloads frame egoN none
  let s : State := s.takeStream frame egoN none
  let ego := s.latestEgo egoN
  let s : State := { s with world := { s.world with ego := ego } }
  let s : State := match ego with | some e => s.newMapFrame e.mapFrame | none => s
  let test := some s.world.mapFrame
  let payloads := (List.range 128).map (fun n => if n == egoN then egoPay else s.appliedPayloads frame n test)
  let s : State := (List.range 128).foldl (fun s n => if n == egoN then s else s.takeStream frame n test) s
  let (stale, s) := (s.expireAgents now).sealStale frame now
  (stale, payloads, s)

/-- R77, R81: the version of a frame is numbered and begun. -/
def State.sealVersion (s : State) (frame now stale : Nat) (inp : Inputs) (reinit : Bool) : Version × State :=
  let run := s.world.versions.find? (fun v => v.spec && v.frame == frame)
  let number := (s.world.lastVersion + 1) % u32Mod
  let egoStale := match s.egoStream with
    | some n => (s.stream n).stale || (match s.world.ego with | some e => decide (e.time + s.cfg (0x3100 + n) 8 < now) | none => false)
    | none => false
  let v : Version :=
    { number := number, spec := false, parent := if s.world.noShare || run.isSome then none else s.newest.map (·.number), frame := frame, mapFrame := s.world.mapFrame,
      staleLayers := stale, urgent := false, egoStale := egoStale, reinitialised := reinit, sealTime := now, tilesNew := 0, inputs := inp, tiles := [],
      jobs := if run.isSome then [] else s.buildCfg.allJobs, ready := false, deltaStamp := none }
  let s : State := { s with world := { s.world with versions := s.world.versions ++ [v], lastVersion := number } }
  let s : State := (s.showVersion v).count 0x3301 1 1
  let s : State := match run with | some x => s.beginCompare frame x v | none => s
  (v, { s with world := { s.world with noShare := false } })

/-- R450: the carried state taken at the seal goes to the chip that rejoins a pair. -/
def State.sendCheckpoint (s : State) (frame : Nat) : State :=
  match s.group.checkpointDue with
  | none => s
  | some c =>
    let (image, s) := s.makeImage
    ({ s with group := { s.group with checkpointDue := none } }).sendSegments c 0x0C frame 0 image

/-- R410: the carried state of a frame taken at its seal for the DUMP descriptors that ask for it. -/
def State.takeDumps (s : State) (frame : Nat) : State :=
  let wants (j : JRec) : Bool :=
    match j.desc with
    | some d => d.opcode == 7 && j.st == .accepted && fieldAt d.specific 8 1 == 0 && fieldAt d.specific 0 8 == frame
    | none => false
  (s.host.journal.filter wants).foldl (fun s j =>
    let (image, s) : List Byte × State := s.makeImage
    { s with det := { s.det with dumps := s.det.dumps ++ [(j.id, s.det.stepCounter, image)] } }) s

/-- The seal of a frame on a chip that builds maps. -/
def State.sealFrame (s : State) (w : FrameWork) : State :=
  let now := w.tick + s.us 0x2010 2
  let landing := w.tick + s.us 0x2016 1
  let s : State := (s.sendCheckpoint w.frame).takeDumps w.frame
  let carried := sm3 (Config.carriedImage s.carried)
  let (stale, payloads, s) := s.sealSources w.frame now
  let (start, reinit) := s.chooseStart w.frame landing
  let s : State := s.sentrySeal w.frame s.world.mapFrame now landing start
  let s : State := { s with world := { s.world with refX := start.x, refY := start.y } }
  let inp := s.freeze w.frame landing now start
  let s : State := s.overflowAgents w.frame inp
  let (v, s) := s.sealVersion w.frame now stale inp reinit
  let s : State := (s.openWork w.frame v.number start reinit false).reportContinuation w.frame
  let s : State := (s.recordStep w.frame 0 0 0 (sealContent v payloads carried)).phaseReady w.frame 0 0
  s.retireVersions.feedTiles

/-- Packets of the replayed frame that the map builder has not read yet. -/
def State.inputsPending (s : State) : Bool :=
  (match s.det.run with | some r => !r.packets.isEmpty | none => false) ||
  s.world.streams.any (fun x => x.waiting.any (fun p => p.frame == s.tb.curFrame) || x.buf.packets.any (fun p => p.frame == s.tb.curFrame))

/-- SEAL: at SealEnd the current frame's inputs are frozen, its start state chosen and its version numbered. It waits for the old banks of a moved region 4 (R332). -/
def execSeal (s : State) : Host.Outcome State Fault Refusal :=
  .next (
    match s.work? s.tb.curFrame with
    | none => s
    | some w =>
      if w.sealed || !s.mapRuns || (s.det.unpaced && s.inputsPending) || s.regionBusy 4 then s
      else
        let s : State := if s.det.unpaced then s else s.atTick (w.tick + s.us 0x2010 2)
        s.sealFrame w)

/-! Run-ahead's comparison and commit point -/

/-- RUNAHEAD_TILE_COMPARE: each tile of the sealed content is compared with the run-ahead map's; a kept tile is carried over, another is re-versioned (R122). In STRICT mode the comparison
follows the last of the run-ahead's own tiles. -/
def execRunaheadTileCompare (s : State) : Host.Outcome State Fault Refusal :=
  .next (
    match s.world.versions.find? (fun v => v.spec), s.newest with
    | some run, some v =>
      if !s.world.comparing || !s.throttledRun || s.world.compare.isEmpty || !run.jobs.isEmpty then s
      else
        let b := s.buildCfg
        let keys := s.world.compare
        let stays (k : TileKey) : Bool := run.tiles.any (fun t => t.key == k) && keepsTile b v.inputs run.inputs k
        let kept := (run.tiles.filter (fun t => keys.contains t.key && stays t.key)).map (fun t => { t with kept := true })
        let changed := keys.filter (fun k => !stays k)
        let s : State := { s with world := { s.world with compare := [], reversioned := s.world.reversioned ++ changed } }
        let s : State := s.modVersion v.number false (fun v => { v with tiles := v.tiles ++ kept, jobs := b.sortJobs (v.jobs ++ changed.map (fun k => (k.grid, k.slice, k.tile))) })
        let s : State := if kept.isEmpty then s else s.count 0x3301 3 kept.length
        let s : State := if changed.isEmpty then s else s.count 0x3301 2 changed.length
        s.feedTiles
    | _, _ => s)

/-- A run-ahead block of a frame that has not entered service, by a test on its FIRST_ID. -/
def Item.aheadBlock (i : Item) (frame : Nat) (p : Nat → Bool) : Bool :=
  i.kind == .candidateBlock && i.frame == frame && i.spec && p i.arg && (match i.loc with | .service _ | .unit _ => false | _ => true)

/-- R82: run-ahead blocks not yet in service become ordinary work of the frame against the sealed version, and keep their ENQUEUE_TIME (R269). -/
def State.claimItems (s : State) (frame : Nat) (p : Nat → Bool) : State :=
  let claim (i : Item) : Item :=
    let cls := if i.replay then 3 else 4
    { i with spec := false, version := 0, cls := cls, level := s.classLevel cls, loc := .waiting i.home false }
  ({ s with disp := { s.disp with items := s.disp.items.map (fun (i : Item) => if i.aheadBlock frame p then claim i else i) } }).settleItems

/-- R82: run-ahead blocks not yet in service are squashed. -/
def State.squashItems (s : State) (frame : Nat) (p : Nat → Bool) : State :=
  let n := (s.disp.items.filter (fun (i : Item) => i.aheadBlock frame p)).length
  let s : State := { s with disp := { s.disp with items := s.disp.items.filter (fun (i : Item) => !i.aheadBlock frame p) } }
  if n == 0 then s else s.count 0x2021 6 n

/-- R82: policy blocks wait at the commit point for the sealed scene tensor. -/
def State.holdItems (s : State) (frame : Nat) (p : Nat → Bool) : State :=
  { s with disp := { s.disp with items := s.disp.items.map (fun (i : Item) => if i.aheadBlock frame p then { i with loc := .waiting i.home false } else i) } }

/-- R82: the commit point of a frame's run-ahead. -/
def State.commitPoint (s : State) (w : FrameWork) : State :=
  let policy (first : Nat) : Bool := cidSource first == 0
  let s : State := { s with world := { s.world with comparing := false } }
  let s : State := s.modWork w.frame (fun w => { w with squashAll := w.reinitialised })
  let s : State :=
    if w.reinitialised then ((s.count 0x2021 4 1).raiseOpen w.frame 0x0384).squashItems w.frame (fun _ => true)
    else (s.holdItems w.frame policy).claimItems w.frame (fun i => !policy i)
  ((s.disposeAll w.frame).issueMissing w.frame).goRounds w.frame

/-- RUNAHEAD_COMMIT_POINT: the comparison of every tile is complete (R82). -/
def execRunaheadCommitPoint (s : State) : Host.Outcome State Fault Refusal :=
  .next (
    match s.frames.find? (fun w => w.sealed && !w.landed) with
    | some w => if s.world.comparing && s.world.compare.isEmpty then (s.commitPoint w).retireVersions else s
    | none => s)

/-! Tiles -/

/-- TILE_JOB: a lane of the map builder runs the tile job it serves and writes its tiles (R120). -/
def execTileJob (lane : Nat) (s : State) : Host.Outcome State Fault Refusal :=
  .next (
    match s.atUnit 16 .tileJob (fun i => i.lane == lane) with
    | none => s
    | some i =>
      let s : State := s.commitItem i.serial
      if i.dropped then s else s.runTileJob i.version i.spec (argJob i.arg))

/-- R362: the BUILD steps of a frame's first sealed version. -/
def State.buildSteps (s : State) (v : Version) : State :=
  let b := s.buildCfg
  let order := b.allJobs
  let one (s : State) (g : Nat) : State :=
    let ts := order.flatMap (fun j => v.tiles.filter (fun t => tileGroup j.1 j.2.2 == g && t.key.grid == j.1 && t.key.slice == j.2.1 && t.key.tile == j.2.2))
    if ts.isEmpty then s
    else s.recordStep v.frame 1 0 g (ts.flatMap (fun t => slice (({ t with spec := false } : Tile).entry (s.layerType t.key.layer) 0) 8 5 ++ t.content (s.layerType t.key.layer)))
  ((List.range 256).foldl one s).phaseReady v.frame 1 0

/-- A version of a frame is ready: its directory is published, it is shipped in a split group, and the blocks that waited for it become ready (R21, R22, R438). -/
def State.publishVersion (s : State) (v : Version) : State :=
  let s : State := s.modVersion v.number v.spec (fun v => { v with ready := true })
  let s : State := if v.spec || v.urgent then s else s.buildSteps v
  let s : State := s.shipVersion v
  ((s.settleItems.issueMissing v.frame).goRounds v.frame).retireVersions.startDelta

/-- MAP_READY: the last tile job of a version is done. -/
def execMapReady (s : State) : Host.Outcome State Fault Refusal :=
  .next (
    match s.world.versions.find? (fun v => !v.ready && !v.urgent && v.jobs.isEmpty && (v.spec || !s.world.comparing) && s.mapRuns) with
    | none => s
    | some v => s.publishVersion v)

/-- R341: with the bound model slot INVALID a frame has no policy candidates. -/
def State.policyAbsent (s : State) (frame : Nat) : State :=
  ((((s.modWork frame (fun w => { w with policy := { w.policy with failed := true } })).raiseOpen frame 0x0404).disturb frame).completeRound0 frame |>.goRounds frame)

/-- R82: the sealed scene tensor decides what becomes of a run-ahead policy round, or begins an ordinary one (R22, R146); `reruns` says that a run-ahead tensor differs from it. A policy
that has failed for the frame runs no more, but for that rerun (R149). -/
def State.judgePolicy (s : State) (w : FrameWork) (same reruns : Bool) : State :=
  let policyItem (i : Item) : Bool := i.kind == .policyRun && i.frame == w.frame
  let fresh (s : State) : State :=
    s.addItem { kind := .policyRun, cls := 4, flow := none, spec := false, replay := false, pinned := false, lane := 0, frame := w.frame, arg := 0, version := 0, dispatcher := 20, release := none }
  if !(s.runsPolicy && s.checks) then s
  else
    let running := s.disp.items.any (fun i => policyItem i && (match i.loc with | .unit _ => true | _ => false))
    let policy (first : Nat) : Bool := cidSource first == 0
    if (same && (w.policy.started || running)) || (w.policy.failed && !reruns) then
      ((((s.claimItems w.frame policy).disposeAll w.frame).issueMissing w.frame).retireProposals w.frame).goRounds w.frame
    else
      let began := w.policy.started
      let s : State := (s.cancelItems policyItem).squashItems w.frame policy
      let s : State := s.modWork w.frame (fun w => { w with squashPolicy := began, policy := PolicyRun.initial, counted := w.counted.filter (fun c => cidSource c != 0), abandoned := w.abandoned.filter (fun c => decide (u32Mod ≤ c) || cidSource c != 0) })
      let s : State := s.disposeAll w.frame
      if s.boundModel.st == .valid then fresh s else s.policyAbsent w.frame

/-- The scene tensor of a frame is complete, on the chip that emits it or on chip 1 of a split group. -/
def State.sceneDone (s : State) (frame : Nat) (spec : Bool) (bytes : List Byte) (numeric : Nat) : State :=
  match s.work? frame with
  | none => s
  | some w =>
    if spec then
      let s : State := { s with world := { s.world with specScene := some ⟨frame, bytes, numeric⟩ } }
      if s.runsPolicy && s.checks && s.boundModel.st == .valid then
        s.addItem { kind := .policyRun, cls := 6, flow := none, spec := true, replay := false, pinned := false, lane := 0, frame := frame, arg := 0, version := 0, dispatcher := 20, release := w.release }
      else s
    else
      let ahead := s.world.specScene.filter (fun x => x.frame == frame)
      let same := match ahead with | some x => sm3 x.bytes == sm3 bytes | none => false
      let s : State := { s with world := { s.world with scene := some ⟨frame, bytes, numeric⟩, specScene := none } }
      s.judgePolicy w same (ahead.isSome && !same)

/-- SCENE_TENSOR_EMIT: the emitter writes the scene tensor of the version in hand (R128). -/
def execSceneTensorEmit (s : State) : Host.Outcome State Fault Refusal :=
  .next (
    let wants (v : Version) : Bool :=
      v.ready && !v.urgent && s.mapRuns && s.frames.any (fun w => w.frame == v.frame && w.version == v.number && w.speculative == v.spec && !w.landed)
        && (match (if v.spec then s.world.specScene else s.world.scene) with | some x => x.frame != v.frame | none => true)
    match (if s.regionBusy 5 then none else s.world.versions.find? wants) with
    | none => s
    | some v =>
      let bytes := s.sceneOf v
      let s : State := (s.count 0x3301 6 1).shipScene v.frame v.number bytes
      s.sceneDone v.frame v.spec bytes (s.sceneEvents v))

/-- BUILD_END_PROMOTION: MAP items of the frame still ready at BuildEnd are counted, and with LatePromote moved to level 0 (R271). -/
def execBuildEndPromotion (s : State) : Host.Outcome State Fault Refusal :=
  .next (
    match s.work? s.tb.curFrame with
    | none => s
    | some w =>
      let s : State := s.atTick (w.tick + s.us 0x2011 2)
      let late (i : Item) : Bool := i.cls == 2 && i.frame == w.frame && !i.late && (match i.loc with | .ready _ => true | _ => false)
      let n := (s.disp.items.filter late).length
      if n == 0 || w.once.contains 0x10000 then s.modWork w.frame (fun w => { w with once := 0x10000 :: w.once })
      else
        let s : State := (s.count 0x7101 8 n).modWork w.frame (fun w => { w with once := 0x10000 :: w.once })
        if s.cfgB 0x7100 0x0C then { s with disp := { s.disp with items := s.disp.items.map (fun i => if late i then { i with late := true, level := 0 } else i) } } else s)

/-! Urgent deltas -/

/-- URGENT_DELTA: an urgent packet stamped after the seal becomes a delta of the current frame, once that is sealed, or is deferred (R85, R86). DESIGN CHOICE (log entry 35): one behind
an earlier packet of its stream that waits for the next seal is deferred as well, since a stream's packets are applied in the order they were accepted (R102). -/
def execUrgentDelta (stream : Nat) (s : State) : Host.Outcome State Fault Refusal :=
  .next (
    match s.world.deltaDue.find? (fun d => d.1 == stream), s.work? s.tb.curFrame with
    | some (_, p), some w =>
      if !w.sealed || !s.throttledRun then s else
      let s : State := { s with world := { s.world with deltaDue := s.world.deltaDue.filter (fun d => d.2.journal != p.journal) } }
      if (p.discard (s.cfg (0x3100 + stream) 1) (some s.world.mapFrame)).isSome then s.takeDelta stream w p
      else
        let late : Bool := decide ((s.tickOf w.frame + (s.us 0x2015 2 : Int) - s.tb.phaseError) < (p.stamp : Int))
        let behind : Bool := (s.stream stream).held.any (fun q => decide (q.journal < p.journal))
        if s.strict || s.det.unpaced || late || behind || s.cfg 0x2005 1 ≤ s.world.deltas then s.deferDelta stream p
        else
          let s : State := { s with world := { s.world with deltas := s.world.deltas + 1, deltaOpen := s.world.deltaOpen ++ [(stream, p)] } }
          let s : State := ((s.modWork w.frame (fun w => { w with due := none })).present w.frame).settleItems
          ((s.count 0x2021 7 1).choice w.frame 1 false).startDelta
    | _, _ => s)

/-- R87, R244: blocks whose signature meets the tiles of an urgent version are withdrawn and requeued, and rechecks repeated. -/
def State.meetUrgent (s : State) (v : Version) : State :=
  let before := v.parent.getD 0
  let s : State := s.modWork v.frame (fun w => { w with version := v.number, due := if s.world.deltaOpen.isEmpty then some v.number else none })
  match s.work? v.frame with
  | some w =>
    if w.closed.isSome then (s.repeatRechecks v.frame).settleItems
    else s.withdrawBlocks v.frame (fun r => !r.speculative && (r.signature &&& s.groupsSince before v.number) != 0)
  | none => s

/-- URGENT_VERSION_SEAL: the version of a delta is built and seals: blocks whose signature meets its tiles are withdrawn and requeued, and rechecks repeated (R87, R244). -/
def execUrgentVersionSeal (s : State) : Host.Outcome State Fault Refusal :=
  .next (
    match s.world.versions.find? (fun v => v.urgent && !v.ready && v.jobs.isEmpty && s.mapRuns) with
    | none => s
    | some v =>
      let s : State := ((s.modVersion v.number false (fun v => { v with sealTime := s.time })).showVersion v).count 0x3301 1 1
      let s : State := (s.modVersion v.number false (fun v => { v with ready := true })).meetUrgent v
      (s.version? v.number false).elim s (fun v => s.publishVersion v))

/-! LANDING and SLACK_START -/

/-- R375: live frames resume at the first tick at least 1 ms later, numbered from the live count; the frames passed over are counted. -/
def State.resumeLive (s : State) (last : Nat) : State :=
  let s : State := { s with det := { s.det with replay := .live } }
  let n := s.frameFrom (max s.tb.anchorFrame (last + 1)) ((s.time : Int) + 1000000)
  ((if last + 1 < n then s.count 0x2021 1 (n - last - 1) else s).modTb (fun b => { b with nextFrame := some n })).signalStatus

/-- R375: replay begins or ends at a Landing, and the REPLAY descriptor of a frame that lands completes. -/
def State.landReplay (s : State) (w : FrameWork) : State :=
  let s : State := match s.det.run with
    | some r =>
      if r.frame == w.frame then
        let s : State := { s with det := { s.det with run := none, lastReplayed := some w.frame } }
        let s : State := (s.count 0x7212 7 1).setOutcome r.record 0 0
        match s.disp.items.find? (fun i => i.kind == .hostCommand && i.arg == r.record) with
        | some i => s.commitItem i.serial
        | none => s
      else s
    | none => s
  match s.det.replay with
  | .entering => (({ s with det := { s.det with replay := .replaying } }).modTb (fun b => { b with nextFrame := none })).signalStatus
  | .leaving => s.resumeLive s.tb.liveFrame
  | _ => s

/-- R376: a replayed frame lands once its version has sealed, its list has closed and the last recheck has ended. -/
def State.mayLand (s : State) (w : FrameWork) : Bool :=
  !s.det.unpaced || ((w.sealed || !s.buildsMaps) && (w.closed.isSome || !s.closesList) && w.plans.all (fun p => (p.verdictAt w.due).isSome))

/-- LANDING: the oldest frame in flight lands (R89, R90, R334, R375). -/
def execLanding (s : State) : Host.Outcome State Fault Refusal :=
  .next (
    match s.frames.find? (fun w => !w.landed && !w.speculative) with
    | none => s
    | some w => if !s.mayLand w then s else (((s.landFrame w).wakeBanks w.frame).landReplay w).retireVersions)

/-- R80: the run-ahead of the next frame begins: its map, and with it its work. -/
def State.beginRunAhead (s : State) (w : FrameWork) (v : Version) (start : StartState) (landing : Nat) : State :=
  let n := w.frame + 1
  let number := (s.world.lastSpec + 1) % u32Mod
  let inp := { v.inputs with frame := n, landing := landing, start := start }
  let run : Version := { v with
    number := number, spec := true, parent := some v.number, frame := n, urgent := false, reinitialised := false, sealTime := s.time, tilesNew := 0, inputs := inp, tiles := [],
    jobs := s.buildCfg.allJobs, ready := false, deltaStamp := none }
  let s : State := { s with world := { s.world with versions := s.world.versions ++ [run], lastSpec := number, specScene := none, reversioned := [], compare := [], comparing := false } }
  let release := if s.det.unpaced then none else some (w.tick + s.us 0x2017 1)
  let s : State := { s with frames := s.frames ++ [{ FrameWork.fresh n (w.tick + s.tb.period) with release := release }] }
  (s.openWork n number start false true).feedTiles

/-- R79: run-ahead for the next frame begins where it is enabled, the frame published a plan and no commit is pending for the next (R84). It reads the newest version that has sealed. -/
def State.runAhead (s : State) (w : FrameWork) : State :=
  let n := w.frame + 1
  let landing := w.tick + s.tb.period + s.us 0x2016 1
  if !s.cfgB 0x2004 1 || !s.buildsMaps || s.frames.any (fun w => w.speculative) then s
  else if s.ctl.st == .pending && s.ctl.target == n then s.count 0x2021 9 1
  else match s.planStart n landing, (s.world.versions.filter (fun v => !v.spec && v.frame == w.frame && (!v.urgent || v.ready))).getLast? with
    | some start, some v => s.beginRunAhead w v start landing
    | _, _ => s

/-- SLACK_START: run-ahead for the next frame begins, and the items that wait for the slack are released (R79, R84, R272). -/
def execSlackStart (s : State) : Host.Outcome State Fault Refusal :=
  .next (
    match s.frames.find? (fun w => w.landed && !w.slack && !w.speculative) with
    | none => s
    | some w =>
      let slack := w.tick + s.us 0x2017 1
      let s : State := if s.det.unpaced then s else s.atTick slack
      (((s.modWork w.frame (fun w => { w with slack := true })).runAhead w).releaseDue slack).nextBankSlice slack)

end Sys2Proof.Machine
end

