-- ==== Sys2Proof/Machine/Service.lean ====
section
/-!
DEFINITION. Dispatch (09_galleries_dispatch.md R270 to R292): the dispatcher tick, stealing, assignment, retirement and admission; units leaving and rejoining service;
self-test slices and supervision (15_safety.md R467, R470, R476 to R481).
-/
namespace Sys2Proof.Machine
open Sys2Proof

/-- DISPATCHER_TICK: at the tick of a whole microsecond of the timebase, common to all dispatchers, the delay-list items due are released to the ready lists (R272). The tick of a
microsecond still to come does nothing. -/
def execDispatcherTick (t tick : Nat) (s : State) : Host.Outcome State Fault Refusal :=
  let s : State := s.at t
  .next (if s.works && decide ((1000 * tick : Int) ≤ (s.now : Int) + s.tb.tickOffset) then s.releaseDue (1000 * tick) else s)

/-! Loads and stealing (R277 to R280) -/

/-- R277: the stealable units of a Gallery, each by its head: the loose stealable items, and the heads of chains of which no item is in flight. -/
def State.stealUnits (s : State) (g : Nat) : List Item :=
  s.disp.items.filter (fun i => i.loc == .ready g && i.stealable
    && (match i.flow with | some f => !s.disp.items.any (fun j => j.flow == some f && j.loc.inFlight) | none => true))

/-- LOAD_RANKING: each Gallery's load; a Gallery out of service has none (R277). -/
def execLoadRanking (s : State) : Host.Outcome State Fault Refusal :=
  .next { s with disp := { s.disp with loads := (List.range 16).map (fun g => if (s.gallery g).st == .inService then (s.stealUnits g).length else 0) } }

/-- R278: the most-loaded Gallery of the last ranking other than the thief's, of load 1 or more. -/
def State.victim (s : State) (g : Nat) : Option Nat :=
  (List.range 16).foldl (fun best v =>
    let load := (s.disp.loads[v]?).getD 0
    if v == g || load == 0 then best
    else match best with
      | some b => if (s.disp.loads[b]?).getD 0 < load then some v else some b
      | none => some v) none

/-- Items in flight at an engine (R274, R275). -/
def State.inFlightAt (s : State) (e : Nat) : Nat := (s.disp.items.filter (fun i => i.loc.engine? == some e)).length

/-- R275, R276: an engine can be assigned an item. -/
def State.engineRoom (s : State) (e : Nat) : Bool :=
  s.disp.engineIn e && decide (s.inFlightAt e < s.cfg 0x7100 0x0B)
    && !(match s.serving e with | some i => i.kind == .selfTest | none => false)
    && !(((s.disp.units[e]?).map (·.reloadDue)).getD true)

/-- The first `n` items under the order of R270. -/
def takeFirst : Nat → List Item → List Item
  | 0, _ => []
  | n + 1, is => match firstItem is with | some i => i :: takeFirst n (is.filter (fun j => j.serial != i.serial)) | none => []

/-- R279: one unit moves to a dispatcher, a chain whole. -/
def State.moveUnit (s : State) (g : Nat) (head : Item) : State :=
  { s with disp := { s.disp with items := s.disp.items.map (fun i =>
      if i.serial == head.serial then { i with loc := .ready g, home := g }
      else if head.flow.isSome && i.flow == head.flow then { i with loc := (match i.loc with | .chain _ => .chain g | l => l), home := g } else i) } }

/-- STEAL: a Gallery whose ready lists are empty and one of whose engines has room takes units from its victim (R278). -/
def execSteal (gallery : Nat) (s : State) : Host.Outcome State Fault Refusal :=
  .next (
    if !s.cfgB 0x7100 0x0A || (s.gallery gallery).st != .inService || s.disp.items.any (fun i => i.loc == .ready gallery) || !((galleryEngines gallery).any s.engineRoom) then s
    else match s.victim gallery with
      | none => s
      | some v =>
        let units := s.stealUnits v
        match firstItem units with
        | none => s.count 0x7101 5 1
        | some top =>
          let level := units.filter (fun i => i.level == top.level)
          let heads := takeFirst (max 1 (level.length / 2)) level
          let moved := natSum (heads.map (fun h => if h.flow.isSome then (s.disp.items.filter (fun i => i.flow == h.flow)).length else 1))
          let s : State := heads.foldl (fun s h => s.moveUnit gallery h) s
          (s.count 0x7101 3 1).count 0x7101 4 moved)

/-! Assignment (R275, R276) -/

/-- R276, R478: a slice may enter service on its engine: nothing else is in flight there, the ready lists hold nothing it could take, and it ends before the guard. -/
def State.sliceFits (s : State) (g : Nat) (i : Item) : Bool :=
  let e := i.lane
  let takes (j : Item) : Bool := j.loc == .ready g && !j.pinned && (s.cfgB 0x7100 0x0A || s.laneEngine j.lane == e)
  s.disp.engineIn e && s.inFlightAt e == 0 && !(((s.disp.units[e]?).map (·.reloadDue)).getD true) && !s.disp.items.any takes
    && s.sliceEnds s.tickTime.toNat

/-- R275: the engine of Gallery `g` that a ready item goes to. -/
def State.engineFor (s : State) (g : Nat) (i : Item) : Option Nat :=
  if (s.gallery g).st != .inService then none
  else if i.kind == .selfTest then (if s.sliceFits g i then some i.lane else none)
  else if s.cfgB 0x7100 0x0A then
    ((galleryEngines g).filter s.engineRoom).foldl (fun best e =>
      match best with
      | some b => if s.inFlightAt e < s.inFlightAt b then some e else some b
      | none => some e) none
  else
    let e := s.laneEngine i.lane
    if s.engineRoom e then some e else none

/-- Items in service at a unit other than an engine. -/
def State.unitLoad (s : State) (d : Nat) : Nat := (s.disp.items.filter (fun i => i.loc == .unit d)).length

/-- R286, R503: the ingress processor of stream n is in service. -/
def State.ingressIn (s : State) (n : Nat) : Bool :=
  s.boot.available.ingress.testBit (n / 16) && !(((s.clocks[69 + n / 16]?).getD ClockDomain.initial).fault)

/-- The physical lanes that run QPs now (R233, R360). -/
def State.lanesBusy (s : State) : List Nat :=
  (s.disp.items.filter (fun i => i.loc == .unit 17)).flatMap (fun i => (((s.work? i.frame).bind (fun w => w.plan? i.arg)).map (fun p => p.qp.lanes)).getD [])

/-- A place whose QP waits or runs, or whose reference is still to come. -/
def FrameWork.qpDue (w : FrameWork) (place : Nat) : Bool :=
  match w.plan? place with
  | some p => !p.failed && !p.ready && (p.qp.outcome == .waiting || p.qp.outcome == .running)
  | none => false

/-- R360: PHYSICAL decomposition. -/
def State.physical (s : State) : Bool := s.cfg 0x7200 2 == 1

/-- R360: w under PHYSICAL decomposition, from the solvers in service at RefineStart and the QPs that start. -/
def FrameWork.width (w : FrameWork) : Nat :=
  if w.qpLanes != 0 then w.qpLanes
  else max 1 (min 4 (16 * w.qpSolvers / max 1 ((w.plans.filter (fun p => decide (p.pos < 64) && p.referenced && w.qpDue p.pos)).length)))

/-- The lanes that a waiting QP may take, none while it waits. R233, under VIRTUAL decomposition: its own while its solver is in service; else, in ascending order of the places that
wait so, one that is free and whose own QP has ended. R360, under PHYSICAL: the first w free lanes of the solvers in service, once every reference of the frame has ended and so P is
known (log entry 64). -/
def State.lanesFor (s : State) (i : Item) : List Nat :=
  match s.work? i.frame with
  | none => []
  | some w =>
    let busy := s.lanesBusy
    let free := (List.range 64).filter (fun l => s.solverIn (l / 16) && !busy.contains l)
    if s.physical then
      if w.plans.any (fun p => decide (p.pos < 64) && !p.referenced && !p.failed && !p.ready) || decide (free.length < w.width) then [] else free.take w.width
    else if s.solverIn (i.arg / 16) then (if free.contains i.arg then [i.arg] else [])
    else if s.disp.items.any (fun j => j.kind == .qpInstance && j.loc == .ready 17 && decide (j.arg < i.arg) && !s.solverIn (j.arg / 16)) then []
    else ((free.filter (fun l => !w.qpDue l)).take 1)

/-- A unit other than an engine can take an item: four lanes of the map builder (R120), the QP lanes (R233), one packet a stream, one command at the management processor,
one policy round. -/
def State.unitFree (s : State) (d : Nat) (i : Item) : Bool :=
  match d with
  | 16 => decide (s.unitLoad 16 < 4)
  | 17 => !(s.lanesFor i).isEmpty
  | 18 => match i.flow with
    | some n => s.ingressIn n && !(s.stream n).reloadDue && (s.atUnit 18 .streamPacket (fun j => j.flow == some n)).isNone
    | none => false
  | 19 => decide (s.unitLoad 19 < 1)
  | 20 => decide (s.unitLoad 20 < 1) && decide (0 < s.quadrantsIn)
  | _ => false

/-- A QP takes its lanes; under PHYSICAL decomposition the first one fixes w for the frame (R233, R360). -/
def State.takeLanes (s : State) (i : Item) (lanes : List Nat) : State :=
  let s : State := s.modPlan i.frame i.arg (fun p => { p with qp := { p.qp with lanes := lanes } })
  if s.physical then s.modWork i.frame (fun w => { w with qpLanes := lanes.length }) else s

/-- The lowest lane of a unit with no item in service. -/
def State.freeLane (s : State) (d : Nat) : Nat := ((List.range 64).find? (fun l => !s.disp.items.any (fun i => i.loc == .unit d && i.lane == l))).getD 0

/-- The map version an item is bound to at dispatch (R266): the run-ahead map's for a run-ahead item (R80). -/
def State.bindVersion (s : State) (i : Item) : Nat :=
  if !i.kind.readsMap then i.version
  else if i.spec then s.world.lastSpec
  else ((s.work? i.frame).map (·.version)).getD 0

/-- R24: the queued items of a Gallery's idle engines are looked at again, now that the ready lists have changed. -/
def State.stirEngines (s : State) (dispatcher : Nat) : State := if dispatcher < 16 then (galleryEngines dispatcher).foldl (fun s e => s.nextAtEngine e) s else s

/-- ITEM_ASSIGN: a dispatcher assigns its first assignable ready item to a unit with room (R24, R90, R270, R275). -/
def execItemAssign (t dispatcher : Nat) (s : State) : Host.Outcome State Fault Refusal :=
  let s : State := s.at t
  .next (
    if !s.works || !s.unitRuns dispatcher then s
    else
      let ready := s.disp.items.filter (fun i => i.loc == .ready dispatcher && s.inputsExist i.kind i.frame i.spec && s.mayServe dispatcher i)
      if dispatcher < 16 then
        match firstItem (ready.filter (fun i => (s.engineFor dispatcher i).isSome)) with
        | none => s.stirEngines dispatcher
        | some i =>
          match s.engineFor dispatcher i with
          | none => s.stirEngines dispatcher
          | some e =>
            let loc : ItemLoc := if (s.serving e).isNone then .service e else .queued e
            let version := s.bindVersion i
            ((s.modItem i.serial (fun i => { i with loc := loc, version := version })).count 0x7101 1 1).stirEngines dispatcher
      else
        match firstItem (ready.filter (s.unitFree dispatcher)) with
        | none => s
        | some i =>
          let lanes := if dispatcher == 17 then s.lanesFor i else []
          let lane := if dispatcher == 16 then s.freeLane dispatcher else lanes.headD i.lane
          let s : State := if dispatcher == 17 then s.takeLanes i lanes else s
          (s.modItem i.serial (fun i => { i with loc := .unit dispatcher, lane := lane })).count 0x7101 1 1)

/-! Retirement (R264) -/

/-- What follows an item's end, committed or cut off: its engine goes on with the next, and so does the work that waited for it. -/
def State.afterItem (s : State) (i : Item) : State :=
  let s : State := match i.loc.engine? with
    | some e => (if i.loc == .service e then s.modUnit e (fun u => { u with windows := 0, exps := [] }) else s).nextAtEngine e
    | none => s
  let s : State := match i.kind with
    | .candidateBlock =>
      (match s.work? i.frame with
       | some w => if w.blocks.any (fun r => r.firstId == i.arg && r.withdrawn && decide (r.beta < 4112)) then s.replayBlock i.frame i.arg else s
       | none => s).goRounds i.frame
    | .candidateSingle =>
      (match s.work? i.frame with
       | some w => s.startReevals i.frame w.laneOf
       | none => s).goRounds i.frame
    | .tileJob => s.feedTiles
    | .hostCommand => s.completeRecord i.arg
    | _ => s
  s.retireVersions

/-- ITEM_RETIRE: an item that has made its commit write is retired by its dispatcher (R264). -/
def execItemRetire (t serial : Nat) (s : State) : Host.Outcome State Fault Refusal :=
  let s : State := s.at t
  .next (
    match s.item? serial with
    | some i => if i.committed then ((s.dropItem serial).afterItem i).feedBacklog else s
    | none => s)

/-- ITEM_ADMISSION: central dispatch looks at the external part of the pool: full, it withholds credits and the episode is reported; with room, the episode ends (R282), after what waits from before, and what a
PRIMARY has mirrored is admitted (R443). A PFC pause follows the credits (R428). -/
def execItemAdmission (s : State) : Host.Outcome State Fault Refusal :=
  .next ((s.feedBacklog.takeDescriptor).2.admitMirrored).signalPause

/-! Leaving service and rejoining (R284 to R290) -/

/-- ENGINE_LEAVES_SERVICE: a faulted engine leaves service (R284, R285); an uncorrected error (cause 2) in its scratchpad (store 0) or program store (1) is counted (R326). -/
def execEngineLeavesService (engine : Nat) (cause : LeaveCause) (s : State) : Host.Outcome State Fault Refusal :=
  .next (
    if (s.engine engine).st != .inService && (s.engine engine).st != .draining then s
    else (if cause.cause == 2 && cause.store < 2 then s.uncorrected cause.store engine else s).engineOut engine cause.cause)

/-- GALLERY_LEAVES_SERVICE: a faulted Gallery leaves service (R284, R285); an uncorrected error (cause 2) in its tile-cache tags (store 6) is counted (R326). -/
def execGalleryLeavesService (gallery : Nat) (cause : LeaveCause) (s : State) : Host.Outcome State Fault Refusal :=
  .next (
    if (s.gallery gallery).st == .inService || (s.gallery gallery).st == .draining then
      ((if cause.cause == 2 && cause.store == 6 then s.uncorrected 6 gallery else s).galleryOut gallery cause.cause).recomputeBudget
    else s)

/-- ADMIN_OUT_WRITE: a write of AdminOutGalleries, or of AdminOutEngines at a Gallery; refused, it changes nothing (R287, R288). -/
def execAdminOutWrite (engines : Bool) (index : Nat) (mask : Nat) (s : State) : Host.Outcome State Fault Refusal :=
  .next (if engines && decide (16 ≤ index) then s else (s.adminOut engines index (mask % (if engines then 4294967296 else 65536))).getD s)

/-- DRAIN_COMPLETE: a draining unit whose items in flight have completed enters OUT_ADMIN (R287), or awaits its rejoin where its bit has been cleared meanwhile (R288). -/
def execDrainComplete (engine : Bool) (number : Nat) (s : State) : Host.Outcome State Fault Refusal :=
  .next (
    let into (kept : Bool) (u : ServiceUnit) : ServiceUnit := { u with st := if kept then .outAdmin else .rejoinPending, registered := none }
    if engine then
      (if (s.engine number).st != .draining || s.inFlightAt number != 0 then s
       else
        let g := number / 32
        let s : State := ((s.modEngine number (into (s.adminBit number))).remapLanes).endCourse number
        let last := !((galleryEngines g).any (fun x => (s.engine x).st == .inService || (s.engine x).st == .draining))
        (if last && (s.gallery g).st == .inService then s.galleryOut g 4 else s).recomputeBudget)
    else
      (if (s.gallery number).st != .draining || (galleryEngines number).any (fun e => s.inFlightAt e != 0) then s
       else
        let here := (galleryEngines number).filter (fun e => (s.engine e).st == .inService || (s.engine e).st == .draining)
        let s : State := s.modGallery number (into (s.adminGallery number))
        let s : State := here.foldl (fun s e => (s.modEngine e (fun u => { u with st := .outAdmin, cause := 7, registered := none })).endCourse e) s
        s.remapLanes.recomputeBudget))

/-- A unit that fails its BIST: it is counted and reported, and stays out (R288, R480). -/
def State.bistFailure (s : State) (unit : Nat) : State := (s.count 0x9301 3 1).raise 0x0A0A unit

/-- R289 step 1: the segments of a unit that awaits its rejoin: an engine's nine, and a Gallery's two of its tile cache and one of its stair unit (R477). -/
def rejoinSegments (engine : Bool) : Nat := if engine then 9 else 3

/-- The number of a unit among the rejoin tests. -/
def rejoinUnit (engine : Bool) (number : Nat) : Nat := if engine then number else 512 + number

/-- R289: a failure ends the rejoin: the unit stays out (R288). -/
def State.rejoinFails (s : State) (engine : Bool) (number : Nat) : State :=
  let s : State := if engine then s.modEngine number (fun u => u.out 3) else s.modGallery number (fun u => u.out 3)
  let s : State := { s with newel := { s.newel with rejoinTests := alErase (rejoinUnit engine number) s.newel.rejoinTests } }
  (s.bistFailure number).refuseRejoin number (if engine then s.engine number else s.gallery number)

/-- R289 step 1: a slice of a unit that awaits its rejoin runs its next segment, in slack. -/
def State.rejoinSlice (s : State) (engine : Bool) (number : Nat) (passed : Bool) : State :=
  let u := if engine then s.engine number else s.gallery number
  let n := alGetD (rejoinUnit engine number) 0 s.newel.rejoinTests
  let slack : Bool := match s.work? s.tb.curFrame with | some w => w.landed | none => true
  if u.st != .rejoinPending || u.registered.isSome || rejoinSegments engine ≤ n || !slack || s.tb.curTick + s.tb.period < s.tickTime.toNat + s.us 0x9300 2 then s
  else
    let s : State := s.count 0x9301 1 1
    if passed then { s with newel := { s.newel with rejoinTests := alSet (rejoinUnit engine number) (n + 1) s.newel.rejoinTests } }
    else s.rejoinFails engine number

/-- REJOIN_REGISTER: a unit that has passed its slices is zeroed, a Gallery's stair list with it, and loaded, and registers with its dispatcher; one whose program store's digest differs
from the bound program's stays out (R289). -/
def execRejoinRegister (engine : Bool) (number : Nat) (digestEqual : Bool) (s : State) : Host.Outcome State Fault Refusal :=
  .next (
    let u := if engine then s.engine number else s.gallery number
    if u.st != .rejoinPending || u.registered.isSome || alGetD (rejoinUnit engine number) 0 s.newel.rejoinTests < rejoinSegments engine then s
    else if digestEqual then
      let s : State := { s with newel := { s.newel with rejoinTests := alErase (rejoinUnit engine number) s.newel.rejoinTests } }
      let at' := s.tickTime.toNat
      if engine then (s.loadEngine number).modEngine number (fun u => { u with registered := some at' })
      else
        let s : State := ((galleryEngines number).filter (fun e => (s.engine e).cause == 7)).foldl State.loadEngine s
        let s : State := { s with frames := s.frames.map (fun w => { w with galleryLists := setAt w.galleryLists number ⟨[], 0⟩ }) }
        s.modGallery number (fun u => { u with registered := some at' })
    else s.rejoinFails engine number)

/-! Self-test (R476 to R481) -/

/-- The Hall banks of region 8 (R330, R477). -/
def State.hotBanks (s : State) : List Nat :=
  s.regionBanks 8

/-- A segment of a unit's test has passed; a pass that is complete begins the next course. -/
def State.segmentPassed (s : State) (unit segments : Nat) : State :=
  match alGet unit s.newel.courses with
  | none => s
  | some c =>
    let c' : TestCourse := if segments ≤ c.segment + 1 then ⟨0, s.time, 0⟩ else { c with segment := c.segment + 1 }
    ({ s with newel := { s.newel with courses := alSet unit c' s.newel.courses } }).clearSelfTest

/-- R288, R480: a Hall bank of region 8 that fails its test stays out until the next reset: it is Off, and no longer available to the layout of R330 (log entry 40). -/
def State.hallBankFails (s : State) (b : Nat) : State :=
  let s : State := { s with mem := { s.mem with banks := setAt s.mem.banks b .off } }
  let s : State := { s with boot := { s.boot with available := { s.boot.available with halls := clearBitNat s.boot.available.halls b } } }
  (((s.endCourse (1024 + b)).count 0x7101 0x0C 1).raise 0x0704 (1024 + b))

/-- R477: the end of an engine's slice: the next segment, or, after segment 8, the program store loaded anew; a failure, and a store whose digest then differs from the bound program's
(log entry 40), is a BIST failure (R480). -/
def State.engineSlice (s : State) (e : Nat) (r : SliceResult) : State :=
  let last : Bool := match alGet e s.newel.courses with | some c => decide (8 ≤ c.segment) | none => false
  if !r.passed then (s.bistFailure e).engineOut e 3
  else if !last then (s.segmentPassed e 9).nextAtEngine e
  else if r.digestEqual then ((s.loadEngine e).segmentPassed e 9).nextAtEngine e
  else ((s.loadEngine e).bistFailure e).engineOut e 3

/-- R477, R348, R349: the end of the slice in service at a bank: a Hall bank returns to region 8, or fails, and a stream-buffer bank is tested; the next bank slice follows. -/
def State.bankSlice (s : State) (u : Nat) (passed : Bool) : State :=
  let s : State := ({ s with newel := { s.newel with bankTest := none } }).count 0x9301 1 1
  let s : State :=
    if u < 4096 then (if passed then s.segmentPassed u 1 else (s.bistFailure u).hallBankFails (u - 1024))
    else
      let s : State := s.bankTested ((u - 4096) / 2) (u % 2) passed
      if passed then s else s.bistFailure u
  s.nextBankSlice s.tickTime.toNat

/-- SELF_TEST_SLICE: a slice runs its segment to its end: that in service at an engine, the next of an engine, or of Gallery g as unit 512 + g, that awaits its rejoin (R289), or that in
service at Hall bank b of region 8, as unit 1024 + b, or at bank i of stream buffer n, as unit 4096 + 2n + i (R477, R480, R348, R349; the unit numbers beyond the engines are log
entry 40's). -/
def execSelfTestSlice (t unit : Nat) (result : SliceResult) (s : State) : Host.Outcome State Fault Refusal :=
  let s : State := s.at t
  .next (
    if unit < 1024 then
      match s.servingKind unit .selfTest with
      | none => s.rejoinSlice (decide (unit < 512)) (unit % 512) result.passed
      | some i => ((s.dropItem i.serial).count 0x9301 1 1).engineSlice unit result
    else if (s.newel.bankTest.map (·.1)) == some unit then s.bankSlice unit result.passed
    else s)

/-- R479: a slice is abandoned at the guard of the next tick, and reported. -/
def State.abandonSlice (s : State) (unit : Nat) : State :=
  ((s.atTick (s.tb.curTick + s.tb.period - s.us 0x9300 2)).count 0x9301 2 1).raise 0x0A09 unit

/-- SLICE_ABANDON: a slice in service at T(N + 1) − SelfTestGuard is abandoned and rolled back: the scratchpad is zeroed and the program store loaded anew, or the bank returns; its segment
restarts in the next slack (R479). -/
def execSliceAbandon (slice : AbandonedSlice) (s : State) : Host.Outcome State Fault Refusal :=
  .next (
    if slice.unit < 512 then
      match s.servingKind slice.unit .selfTest with
      | none => s
      | some i =>
        let s : State := ((s.dropItem i.serial).abandonSlice slice.unit).loadEngine slice.unit
        if slice.digestEqual then s.nextAtEngine slice.unit else (s.bistFailure slice.unit).engineOut slice.unit 3
    else if (s.newel.bankTest.map (·.1)) == some slice.unit then ({ s with newel := { s.newel with bankTest := none } }).abandonSlice slice.unit
    else s)

/-- COVERAGE_OVERDUE: a unit's pass is not complete in its interval: it is reported, and at two intervals overdue sets cause SELF_TEST (R481, R465). -/
def execCoverageOverdue (t : Nat) (unit : Nat) (s : State) : Host.Outcome State Fault Refusal :=
  let s : State := s.at t
  .next (
    match alGet unit s.newel.courses with
    | none => s
    | some c =>
      let interval := s.cfg 0x9300 1
      let late (n : Nat) : Bool := decide (c.since + n * interval < s.time)
      let mark (s : State) (k : Nat) : State := { s with newel := { s.newel with courses := alSet unit { c with overdue := k } s.newel.courses } }
      if c.overdue == 0 && late 1 then
        let s : State := ((mark s 1).count 0x9301 4 1).raise 0x0A0B unit
        if late 3 then (mark s 2).setCause 6 else s
      else if c.overdue == 1 && late 3 then (mark s 2).setCause 6
      else s)

/-! Supervision (R467, R470) -/

/-- R470: a singular unit is cut off; a second cut-off within 1 s is a device fault. -/
def State.singularCut (s : State) (unit : Nat) : State :=
  let again := match alGet unit s.newel.singular with | some t => decide (s.time ≤ t + 1000000000) | none => false
  let s : State := { s with newel := { s.newel with singular := alSet unit s.time s.newel.singular } }
  if again then (s.count 0x9002 4 1).deviceFault 4 else s

/-- The tiles of a job that was cut off: each is unreadable (R194, R467). -/
def State.loseJob (s : State) (number : Nat) (spec : Bool) (j : Nat × Nat × Nat) : State :=
  let s : State := s.runTileJob number spec j
  s.modVersion number spec (fun v => { v with tiles := v.tiles.map (fun t =>
    if t.key.grid == j.1 && t.key.slice == j.2.1 && t.key.tile == j.2.2 && t.origin == v.number then { t with lost := true } else t) })

/-- R467: an item is cut off at its budget: it ends under R264, with the consequence of its kind. DESIGN CHOICE (log entry 38): a run or block cut off counts neither in PolicyRuns nor in
the checker's counters. -/
def State.cutOff (s : State) (i : Item) (domain : Nat) : State :=
  let s : State := s.count 0x9002 3 1
  let ended (s : State) : State := (s.dropItem i.serial).afterItem i
  match i.kind with
  | .candidateBlock => ended ((s.abandonBlock i.frame 0x0502 i.mark).disturb i.frame)
  | .candidateSingle =>
    let s : State := s.modWork i.frame (fun w => { w with reevals := modFirst (fun x => x.cid == i.arg) (fun x => { x with done := true }) w.reevals })
    ended ((s.abandonBlock i.frame 0x0502 i.mark).disturb i.frame)
  | .reference =>
    let s : State := s.raise 0x0A04 i.arg
    ended (match s.work? i.frame with
      | some w => (s.modPlan i.frame i.arg (fun p => { s.formUnrefined w p with unrefined := true })).present i.frame
      | none => s)
  | .recheck =>
    let s : State := ((s.raise 0x0A04 i.arg).modPlan i.frame i.arg (fun p => { p with verdict := some (i.version, (Config.openValue 3 s.draws).toNat % 255 + 1) })).draw.2
    let s : State := (s.count 0x6301 5 1).frameStatus i.frame 0x19
    ended (s.present i.frame)
  | .tileJob =>
    let s : State := (((s.loseJob i.version i.spec (argJob i.arg)).raise 0x0504 (i.arg % 256)).disturb i.frame).singularCut domain
    ended s
  | .qpInstance => ended ((s.raise 0x0A04 i.arg).endQp i.frame i.arg .numeric)
  | .streamPacket =>
    let n := i.lane
    let s : State := match (s.stream n).waiting.find? (fun p => p.journal == i.arg) with
      | none => s.breakPacket n
      | some p => s.openPacket n p [([], true, 0x0305)] [] false
    ended ((s.pump n).raise 0x0A04 n)
  | .hostCommand => ended ((s.raise 0x0A04 i.arg).setOutcome i.arg 0x0A04 0)
  | .selfTest =>
    match i.loc.engine? with
    | some e => ((s.dropItem i.serial).bistFailure e).engineOut e 3
    | none => s.dropItem i.serial
  | .policyRun => ended (s.policyFailed i.frame)

/-- ITEM_CUT_OFF: the Newel cuts off work in service that has exceeded its budget (R467). -/
def execItemCutOff (t : Nat) (what : CutOff) (s : State) : Host.Outcome State Fault Refusal :=
  let s : State := s.at t
  .next (
    match what with
    | .item serial domain =>
      (match s.item? serial with
       | some i => if !i.committed && (match i.loc with | .service _ | .unit _ => true | _ => false) then s.cutOff i domain else s
       | none => s)
    | .timeScaling place unit =>
      (match s.frames.find? (fun w => w.closed.isSome && !w.landed && w.plans.any (fun p => p.pos == place && p.ready && p.points.isNone && !p.failed)) with
       | none => s
       | some w =>
         let s : State := (s.count 0x9002 3 1).raise 0x0A04 unit
         let s : State := s.modPlan w.frame place (fun p => { p with failed := true })
         (s.present w.frame).singularCut unit)
    | .rebuild top =>
      if s.frames.any (fun w => w.rebuildDue) then
        let s : State := (s.count 0x9002 3 1).raise 0x0A04 62
        if top then s.singularCut 62 else s
      else s
    | .publication =>
      match s.publication? with
      | none => s
      | some w => ((s.count 0x9002 3 1).publicationFails w.frame).singularCut 96)

end Sys2Proof.Machine
end

