-- ==== Sys2Proof/Machine/PeerOps.lean ====
section
/-!
DEFINITION. Operations on peer ports and queue pairs (14_peer_links.md R427 to R430), and the loss of clients' connections (13_host_interface.md R420).
-/
namespace Sys2Proof.Machine
open Sys2Proof

/-- PortEnable of port p (R453). -/
def State.portEnabled (s : State) (p : Nat) : Bool := decide (p < 2) && s.cfgB (0x8601 + p) 1

/-- R427: every message of a queue pair that has been sent and not acknowledged is sent again, in order. -/
def State.resendAll (s : State) (n : Nat) : State :=
  let q := s.qp n
  (q.outstanding.filter (·.sent)).foldl (fun s m => s.send (.roceResend n m.number)) (s.setQp n { q with timer := s.now })

/-- R434: both queue pairs to a chip are re-established, and what they have not had acknowledged is sent again. -/
def State.reestablish (s : State) (c : Nat) : State :=
  [groupQp 0 c, groupQp 1 c].foldl (fun s n => (s.setQp n { s.qp n with retries := 0, error := false }).resendAll n) s

/-- A group message on another port. -/
def WireMsg.onPort (m : WireMsg) (p address : Nat) : WireMsg := match m with | .group d _ _ i b => .group d p address i b | m => m

/-- R430: a client's queue pair goes on on port p: what it has sent and not had acknowledged is sent again, in order, then what a pause of the old port had held back. -/
def State.qpMoves (s : State) (p n : Nat) : State :=
  let q := s.qp n
  let paused (m : QpMessage) : Bool := (s.port p).paused.testBit m.priority
  let s : State := s.setQp n { q with outstanding := q.outstanding.map (fun m => { m with sent := !paused m }), timer := s.now, retries := 0 }
  (q.outstanding.filter (fun m => !paused m)).foldl (fun s m => s.send (if m.sent then .roceResend n m.number else m.msg)) s

/-- R430: the standby port becomes active; what the old port has not had acknowledged is sent again on it, in order: the group's messages, the clients', and what a pause held back. -/
def State.failover (s : State) : State :=
  let old := s.group.activePort
  let new := 1 - old
  let s : State := { s with group := { s.group with activePort := new } }
  let s : State := (s.modPort new (fun p => { p with lastAck := s.now })).count 0x8605 4 1
  let one (s : State) (d : Nat) : State :=
    let q := s.qp (groupQp old d)
    let t := s.qp (groupQp new d)
    let paused (m : QpMessage) : Bool := (s.port new).paused.testBit m.priority
    let moved := q.outstanding.zipIdx.map (fun x => { x.1 with number := t.nextMessage + x.2, sent := !paused x.1 })
    let moved := moved.map (fun m => { m with msg := m.msg.onPort new (s.peerAddress new d) })
    let s : State := s.setQp (groupQp old d) { q with outstanding := [], retries := 0 }
    let s : State := s.setQp (groupQp new d) { t with nextMessage := t.nextMessage + moved.length, outstanding := t.outstanding ++ moved, timer := s.now }
    (moved.filter (·.sent)).foldl (fun s m => s.send m.msg) s
  let s : State := s.otherChips.foldl one s
  let s : State := ((s.group.qps.map (·.1)).filter (fun n => !(decide (0x100 ≤ n) && decide (n < 0x108)))).foldl (fun s n => s.qpMoves new n) s
  let held := (s.port old).held
  (held.foldl (fun s m => s.sendInput new m) (s.modPort old (fun x => { x with held := [] }))).raise 0x0901 new

/-- The link of a port is down (R430, R464): event 0x0902, and the standby port takes over from an active one. -/
def State.portDown (s : State) (p : Nat) : State :=
  if !(s.port p).up then s
  else
    let s : State := (s.modPort p (fun x => { x with up := false })).raise 0x0902 p
    if s.group.activePort == p && (s.port (1 - p)).up then s.failover else s

/-- R420: the connection of a queue pair's clients is lost: their rings enter RECOVERING. -/
def State.clientsRecover (s : State) (n : Nat) : State :=
  (s.qpClients n).foldl (fun s c =>
    (List.range 4).foldl (fun s k => match s.ring? (4 * c + k) with
      | some x => if x.st == .active || x.st == .draining then s.setRing (4 * c + k) { x with st := .recovering } else s
      | none => s) s) s

end Sys2Proof.Machine
end

