-- ==== Sys2Proof/Machine/Memory.lean ====
section
/-!
DEFINITION. Errors of the stores and of the Newel (11_memory_buffers.md R326 to R341, 15_safety.md R457, R464): CLOCK_MONITOR_WINDOW, NEWEL_LOCKSTEP_MISMATCH, NEWEL_CLK_FAILURE,
NEWEL_SRAM_ECC_ERROR, UNCORRECTED_HALL_ERROR, CORRECTED_ERROR_EVENT, CHANNEL_LOSS, JOURNAL_REREPLICATION_DONE and PATROL_SCRUB.
Stores are numbered 0 scratchpads, 1 program stores, 2 tile-cache data, 3 Hall, 4 proposal array, 5 GDDR6, 6 tile-cache tags.
-/
namespace Sys2Proof.Machine
open Sys2Proof

/-- A free choice among `n` alternatives. -/
def State.freeChoice (s : State) (site n : Nat) : Nat × State := let (k, s) := s.draw; ((Config.openValue site k).toNat % max 1 n, s)

/-! Corrected errors (R327) -/

/-- `n` words of a store are corrected: counted, and event 0x0801 raised at most once a second for the store. -/
def State.correctedErrors (s : State) (store n : Nat) : State :=
  if n == 0 || 7 ≤ store then s
  else
    let s : State := s.count (correctedCounter store).1 (correctedCounter store).2 n
    let due := match alGet store s.mem.corrected with | some t => decide (t + 1000000000 ≤ s.time) | none => true
    if due then ({ s with mem := { s.mem with corrected := alSet store s.time s.mem.corrected } }).raise 0x0801 store else s

/-- R336, R424, R426: an error that a link has corrected is counted: 7 a correctable error under AER, 8 and 9 a frame that RS-FEC has corrected on port 0 or 1, 10 an EDC retry. -/
def State.linkCorrected (s : State) (store : Nat) : State :=
  match store with
  | 7 => s.count 0x8402 0x0C 1
  | 8 | 9 => s.count 0x8605 5 1
  | 10 => s.count 0x8102 3 1
  | _ => s

/-- CORRECTED_ERROR_EVENT: a word of a store is corrected (R327). DESIGN CHOICE (log entry 56): the table having no row for an error that a link corrects, store numbers from 7 on stand
for them. -/
def execCorrectedErrorEvent (t store : Nat) (s : State) : Host.Outcome State Fault Refusal :=
  .next (if store < 7 then (s.at t).correctedErrors store 1 else (s.at t).linkCorrected store)

/-! Lost data (R194, R331, R341) -/

/-- The frame whose work an error strikes: the frame in flight that has not landed, or the frame in slack. -/
def State.struckFrame (s : State) : Nat :=
  match s.frames.find? (fun w => !w.landed) with
  | some w => w.frame
  | none => s.tb.curFrame

/-- The tiles a test picks out become unreadable in every version that names them. -/
def State.loseTiles (s : State) (p : Tile → Bool) : State :=
  { s with world := { s.world with versions := s.world.versions.map (fun v => { v with tiles := v.tiles.map (fun t => if p t then { t with lost := true } else t) }) } }

/-- R330, R331: the plan in the refinement area's place k of 66 is struck: it fails preparation. -/
def State.losePlan (s : State) (k : Nat) : State :=
  match s.frames.find? (fun w => !w.landed && !w.plans.isEmpty) with
  | none => s
  | some w =>
    match w.plans[k]? with
    | some p => ((s.modPlan w.frame p.pos (fun p => { p with failed := true })).present w.frame).disturb w.frame
    | none => s

/-- R149: the policy of the frame in hand fails, where it has one. -/
def State.strikePolicy (s : State) : State :=
  match s.frames.find? (fun w => !w.landed && w.closed.isNone && !w.policy.failed && w.policyBlocks != 0) with
  | some w =>
    let s : State := match s.disp.items.find? (fun i => i.kind == .policyRun && i.frame == w.frame) with
      | some i => s.dropItem i.serial
      | none => s
    s.policyFailed w.frame
  | none => s

/-- R330, R477: the region of a Hall bank; one under test is out of region 8. -/
def State.regionOf (s : State) (bank : Nat) : Option Nat :=
  if (s.newel.bankTest.map (·.1)) == some (1024 + bank) then none else (List.range 9).find? (fun r => (s.regionBanks r).contains bank)

/-- R328: the bank that a Hall address names, and the offset within it. -/
def hallBank (address : Nat) : Nat := bitsAt address 17 10
def hallOffset (address : Nat) : Nat := bitsAt address 0 17

/-- R328, R330: where in its region, in words of 64 bits, the word at a Hall address lies: banks of a region in ascending order. -/
def State.hallPlace (s : State) (r address : Nat) : Nat := 16384 * (s.regionBanks r).idxOf (hallBank address) + hallOffset address / 8

/-- What the Hall word at a place of a region holds, of `n` alternatives: an address always names the same word (R328); what a word holds is free (log entry 41). -/
def hallHolds (r place question n : Nat) : Nat := (Config.hallWord r place question).toNat % max 1 n

/-- R331: the closed list of the frame in hand is rebuilt from the block table (R208), where this chip closed it from one. -/
def State.rebuildClosed (s : State) : State :=
  match s.frames.find? (fun w => w.closed.isSome && !w.landed) with
  | none => s
  | some w =>
    if s.groupMode == 2 && s.group.role == 3 then s
    else
      let l := s.ownList { w with rebuildDue := true }
      s.modWork w.frame (fun w => { w with closed := w.closed.map (fun c => { c with
        places := l.places, tieCut := l.tieCut, validCount := l.validCount, corruptCount := l.corruptCount, continuation := l.continuation, minRisk := l.minRisk }) })

/-- R331: an instruction or constant of program slot `slot` is struck: an invocation in service that runs it faults, an engine's or a filter's (R316); which of them is free. -/
def State.strikeInvocation (s : State) (slot : Nat) : State :=
  let engines := if s.activeView.treadSlot.contains slot then s.disp.items.filter (fun i => (i.kind == .candidateBlock || i.kind == .candidateSingle) && i.inService) else []
  let filters := (List.range 128).filter (fun n => !(s.stream n).running.isEmpty && s.cfg (0x3100 + n) 4 == slot)
  let (k, s) : Nat × State := s.freeChoice 8 (engines.length + filters.length)
  match engines[k]? with
  | some i => (s.abandonItem ((i.loc.engine?).getD 0) i 0x0501).disturb i.frame
  | none => match filters[k - engines.length]? with | some n => (s.breakPacket n).disturb s.struckFrame | none => s

/-- R206, R331: the record in slot β of the table's half for a frame is struck: marked WITHDRAWN and rebuilt. The two frames in flight take the halves in turn (log entry 41). -/
def State.strikeRecord (s : State) (half beta : Nat) : State :=
  match s.frames.find? (fun w => !w.landed && w.frame % 2 == half && w.blocks.any (fun b => !b.withdrawn && b.beta == beta)) with
  | none => s
  | some w => ((s.withdrawBlocks w.frame (fun x => x.beta == beta)).issueMissing w.frame).goRounds w.frame

/-- R331: entry k of the directory of the version in slot j of region 4, a sealed version's or the run-ahead map's, is lost: its tile is unreadable there. -/
def State.strikeDirectory (s : State) (j k : Nat) : State :=
  match s.world.versions[j]? with
  | none => s
  | some v =>
    match v.tiles[k]? with
    | some t =>
      let frame := if s.frames.any (fun w => w.frame == v.frame && !w.landed) then v.frame else s.struckFrame
      (s.modVersion v.number v.spec (fun v => { v with tiles := v.tiles.map (fun u => if u.key == t.key then { u with lost := true } else u) })).disturb frame
    | none => s

/-- R331: a word of program data of a slot bound is struck: an instruction or constant, or a word of its tally. -/
def State.strikeProgram (s : State) (slot : Nat) (tally : Bool) : State :=
  if !tally then s.strikeInvocation slot
  else if s.mem.tallyLost.contains slot then s
  else { s with mem := { s.mem with tallyLost := s.mem.tallyLost ++ [slot] } }

/-- R331: an uncorrected error in the Hall word at an address, by the region that holds it (R328, R330). What the word holds within its region is free, and fixed by its place
(log entry 41). -/
def State.hallError (s : State) (address : Nat) : State :=
  match s.regionOf (hallBank address) with
  | none => s
  | some r =>
    let place := s.hallPlace r address
    let s : State := s.uncorrected 3 (hallBank address)
    match r with
    | 0 => s.deviceFault 3
    | 1 => s.strikeRecord (hallHolds 1 place 0 2) (hallHolds 1 place 1 4112)
    | 2 => s.rebuildClosed
    | 3 => s.losePlan (hallHolds 3 place 0 66)
    | 4 =>
      let j := hallHolds 4 place 0 s.world.versions.length
      s.strikeDirectory j (hallHolds 4 place 1 (((s.world.versions[j]?).map (·.tiles.length)).getD 0))
    | 5 | 6 => s.strikePolicy
    | 7 =>
      let slots := s.activeView.boundSlots
      match slots[hallHolds 7 place 0 slots.length]? with
      | some slot => s.strikeProgram slot (hallHolds 7 place 1 2 == 1)
      | none => s
    | _ => s

/-- UNCORRECTED_HALL_ERROR: an uncorrected error in the Hall word at an address (R328, R331). -/
def execUncorrectedHallError (t address : Nat) (s : State) : Host.Outcome State Fault Refusal := .next ((s.at t).hallError address)

/-! GDDR6 (R337 to R341) -/

/-- R337: the channel of an interleaved address. -/
def channelOf (a : Nat) : Nat := let g := a / 2048; (g + g / 32) % 32

/-- R337: the interleaved address stored on channel c at an offset. -/
def interleavedAt (c offset : Nat) : Nat := let r := offset / 2048; 2048 * (32 * r + (c + 32 * r - r) % 32) + offset % 2048

/-- R116: the bytes of a tile, and whether any lies where a test says. -/
def State.tileOn (s : State) (p : Nat → Bool) (t : Tile) : Bool :=
  let size := match s.layerType t.key.layer with | 1 => 8192 | 2 => 4096 | _ => 512
  (List.range ((size + 255) / 256)).any (fun k => p (256 * (t.addr + k)))

def State.channel (s : State) (c : Nat) : Channel := (s.mem.channels[c]?).getD ⟨false, 0, []⟩
def State.modChannel (s : State) (c : Nat) (f : Channel → Channel) : State := { s with mem := { s.mem with channels := modAt s.mem.channels c f } }

/-- The channels whose tails carry no journal area, ascending (R337): neither one named for a copy or the spare nor one that has taken a copy's role (R339). -/
def State.tailChannels (s : State) : List Nat :=
  (List.range 32).filter (fun c => (s.channel c).role == 0 && c != s.cfg 0x8100 2 && c != s.cfg 0x8100 3 && c != s.cfg 0x8100 4)

/-- R107, R341: the entries of a stream's source state: raster tiles, agents, segments and the ego record, counted on. -/
def Stream.entries (x : Stream) : Nat := x.tiles.length + x.agents.length + x.segments.length + (if x.ego.isSome then 1 else 0)

/-- The key of entry k. -/
def Stream.entryKey (x : Stream) (k : Nat) : LostKey :=
  match x.tiles[k]? with
  | some t => .tile t.tx t.ty
  | none =>
    match x.agents[k - x.tiles.length]? with
    | some a => .agent a.id
    | none => match x.segments[k - x.tiles.length - x.agents.length]? with | some g => .segment g.id | none => .ego

/-- R341: the entries of a stream's source state that a test picks out are lost: their keys are recorded, the layers it feeds stay stale, and event 0x080C says so. -/
def State.loseEntries (s : State) (n : Nat) (lost : Nat → Bool) : State :=
  let x := s.stream n
  let keys := ((List.range x.entries).filter lost).map x.entryKey
  if keys.isEmpty then s
  else
    let hold := if s.cfg (0x3100 + n) 1 == 2 then s.cfg (0x3100 + n) 0x0E else s.cfg (0x3100 + n) 8
    let s : State := s.modStream n (fun x => { x with
      tiles := x.tiles.filter (fun t => !keys.contains (.tile t.tx t.ty)), agents := x.agents.filter (fun a => !keys.contains (.agent a.id))
      segments := x.segments.filter (fun g => !keys.contains (.segment g.id)), ego := if keys.contains .ego then none else x.ego
      lostKeys := (x.lostKeys ++ keys).eraseDups, lostUntil := s.time + hold })
    (s.raise 0x080C n).disturb s.struckFrame

/-- R341: what a lost channel held of a stream's source state: whether each entry was there is free. -/
def State.loseSource (s : State) (n : Nat) : State :=
  let base := s.draws
  ({ s with draws := base + (s.stream n).entries }).loseEntries n (fun k => (Config.openValue 9 (base + k)).toNat.testBit 0)

/-- R341: what one 64-byte block held of it: an entry, or parts of two that lie side by side; every entry but the ego record fills a block and more (R105). Which is free. -/
def State.strikeSource (s : State) (n : Nat) : State :=
  let (k, s) : Nat × State := s.freeChoice 9 (s.stream n).entries
  let (two, s) : Nat × State := s.freeChoice 9 2
  s.loseEntries n (fun j => j == k || (two == 1 && j == k + 1))

def State.loseSources (s : State) : State := ((List.range 128).filter (fun n => s.cfg (0x3100 + n) 1 != 0)).foldl (fun s n => s.loseSource n) s

/-- R341: a model slot that was struck is INVALID. -/
def State.loseModel (s : State) (slot : Nat) : State :=
  { s with boot := { s.boot with models := modAt s.boot.models slot (fun m => if m.st == .valid then { m with st := .invalid } else m) } }

/-- R341: a part of the device region is struck: 0 the plan history, 1 the warm-start cache, 2 the library copy, 3 the staging buffers. -/
def State.loseDevice (s : State) (part : Nat) : State :=
  match part with
  | 0 => { s with pub := { s.pub with history := none } }
  | 1 => { s with pub := { s.pub with warm := [] } }
  | 2 => { s with mem := { s.mem with libraryUntil := s.now + 100000000 } }
  | _ => s

/-- Bytes of the device region, and of a channel's tail (R337). -/
def deviceRegion : Nat := 201326592
def tailSize : Nat := 268435456

/-- R340, R341: what channel c held is lost and remapped. -/
def State.loseChannelData (s : State) (c : Nat) : State :=
  let s : State := (s.loseTiles (s.tileOn (fun a => channelOf a == c))).loseSources
  let s : State := { s with world := { s.world with noShare := true } }
  let hit (s : State) (i : Nat) : Bool × State :=
    let m := s.model i
    if m.st != .valid then (false, s) else if 69632 ≤ m.image.length then (true, s) else let (k, s) := s.freeChoice 10 2; (k == 1, s)
  let s : State := (List.range 16).foldl (fun s i => let (b, s) := hit s i; if b then s.loseModel i else s) s
  match s.tailChannels.findIdx? (· == c) with
  | none => s
  | some k =>
    let s : State := if k == 0 then ((s.loseDevice 0).loseDevice 1).loseDevice 2 else s
    let lo := k * tailSize - deviceRegion
    let hi := (k + 1) * tailSize - deviceRegion
    let s : State := { s with host := { s.host with buffer := memClear lo hi s.host.buffer } }
    s.raiseFor s.tb.curFrame 0x0802 (s.openArg 0x0802) lo

/-- R338, R339, R463: the journal when a channel that carries one of its areas is lost. From then on the flags of the lost copy speak of the spare's, which takes its place. A mirror that is down
already makes it a second single-part fault before recovery (R414). -/
def State.loseJournal (s : State) (c : Nat) : State :=
  let role := (s.channel c).role
  let alive (r : Nat) : Bool := s.mem.channels.any (fun x => x.role == r && !x.lost)
  if role == 0 then s
  else if role == 3 then { s with mem := { s.mem with rereplicating := none } }
  else if !alive (3 - role) then ({ s with mem := { s.mem with rereplicating := none } }).deviceFault 2
  else
    let spare (j : JRec) : JRec := if role == 1 then { j with badA := false } else { j with badB := false }
    let s : State := (({ s with mem := { s.mem with rereplicating := if alive 3 then some role else none }, host := { s.host with journal := s.host.journal.map spare } } : State).raise 0x0805 c).setCause 3
    if s.group.mirrorDown then s.deviceFault 2 else s

/-- R340: a GDDR6 channel is lost and remapped; channels lost on a second device exhaust the spare. -/
def State.loseChannel (s : State) (c : Nat) : State :=
  if 32 ≤ c || (s.channel c).lost then s
  else
    let second := (s.mem.channels.zipIdx.any (fun x => x.1.lost && x.2 / 2 != c / 2))
    let s : State := ((s.modChannel c (fun x => { x with lost := true })).count 0x8102 4 1).raise 0x0804 c
    let s : State := (s.loseJournal c).loseChannelData c
    if second then (s.raise 0x0807 c).deviceFault 2 else s

/-- CHANNEL_LOSS: a controller reports its channel lost (R340). -/
def execChannelLoss (t channel : Nat) (s : State) : Host.Outcome State Fault Refusal := .next ((s.at t).loseChannel channel)

/-- JOURNAL_REREPLICATION_DONE: the spare takes the lost copy's role (R339). -/
def execJournalRereplicationDone (t : Nat) (s : State) : Host.Outcome State Fault Refusal :=
  let s : State := s.at t
  .next (
    match s.mem.rereplicating with
    | none => s
    | some role =>
      let channels := s.mem.channels.map (fun x => if x.role == role && x.lost then { x with role := 0 } else if x.role == 3 then { x with role := role } else x)
      let copied (j : JRec) : JRec := if role == 1 then { j with badA := j.badA || j.badB } else { j with badB := j.badA || j.badB }
      let s : State := { s with mem := { s.mem with channels := channels, rereplicating := none }, host := { s.host with journal := s.host.journal.map copied } }
      (((s.setObj 0x8100 4 0xFF).count 0x8102 5 1).raiseOpen s.tb.curFrame 0x0806).clearCause 3)

/-- R338: a block of a channel's journal area is struck: the record it held, which is free, cannot be read from that copy. -/
def State.strikeJournal (s : State) (c : Nat) : State :=
  let role := match (s.channel c).role, s.mem.rereplicating with | 3, some r => r | r, _ => r
  let (k, s) : Nat × State := s.freeChoice 14 (s.host.journal.length + 1)
  match s.host.journal[k]? with
  | none => s
  | some j =>
    let struck (j : JRec) : JRec := if role == 1 then { j with badA := true } else if role == 2 then { j with badB := true } else j
    { s with host := { s.host with journal := modFirst (fun x => x.id == j.id) struck s.host.journal } }

/-- R340: the blocks of a channel with an uncorrected error within one second, this one among them. -/
def State.badBlocks (s : State) (c block : Nat) : List (Nat × Nat) :=
  (block, s.time) :: (s.channel c).bad.filter (fun x => x.1 != block && decide (s.time ≤ x.2 + 1000000000))

/-- R341: what an uncorrected error in the 64-byte block at an offset below 896 MiB of channel c strikes; above the model store nothing. What a block of the map store that holds no
tile held, and what a block of the model store, of the device region or of the journal held, is free. -/
def State.strikeAt (s : State) (c offset : Nat) : State :=
  if offset < 671088640 then
    let a := interleavedAt c offset
    if a < s.cfg 0x3200 9 then
      let struck := s.tileOn (fun b => b / 256 == a / 256)
      if s.world.versions.any (fun v => v.tiles.any struck) then (s.loseTiles struck).disturb s.struckFrame
      else let (n, s) : Nat × State := s.freeChoice 11 129; if n < 128 && s.cfg (0x3100 + n) 1 != 0 then s.strikeSource n else s
    else if a < s.cfg 0x3200 9 + s.cfg 0x8100 1 then let (i, s) : Nat × State := s.freeChoice 12 17; if (s.model i).st == .valid then (s.loseModel i).disturb s.struckFrame else s
    else s
  else
    match s.tailChannels.findIdx? (· == c) with
    | none => s.strikeJournal c
    | some k =>
      let tail := k * tailSize + (offset - 671088640)
      if tail < deviceRegion then let (part, s) : Nat × State := s.freeChoice 13 4; if part < 3 then (s.loseDevice part).disturb s.struckFrame else s
      else s.raiseFor s.tb.curFrame 0x0802 (s.openArg 0x0802) (tail - deviceRegion)

/-- R340: what a lost channel held and the remap spare of the others holds now: interleaved space, and its tail where that carried no journal area. -/
def State.remappedSpan (s : State) (c : Nat) : Nat := if s.tailChannels.contains c then 939524096 else 671088640

/-- R340, R341: what an uncorrected error in 64-byte block b of a channel strikes (channel · 2^24 + offset / 64). A channel that is lost holds nothing; a block of the remap spare
holds a block of a lost channel, or nothing: which is free. -/
def State.strikeBlock (s : State) (block : Nat) : State :=
  let c := block / 16777216 % 32
  let offset := 64 * (block % 16777216)
  let lost := (List.range 32).filter (fun x => (s.channel x).lost)
  if lost.contains c then s
  else if offset < 939524096 then s.strikeAt c offset
  else if lost.isEmpty || 1006632960 ≤ offset then s
  else
    let (l, s) : Nat × State := s.freeChoice 14 (lost.length + 1)
    match lost[l]? with
    | none => s
    | some from' => let (b, s) : Nat × State := s.freeChoice 14 (s.remappedSpan from' / 64); s.strikeAt from' (64 * b)

/-- R340, R341: an uncorrected error in a block; the channel of more than 16 such blocks within one second is lost. -/
def State.gddrError (s : State) (block : Nat) : State :=
  let c := block / 16777216 % 32
  let s : State := ((s.uncorrected 5 c).modChannel c (fun x => { x with bad := s.badBlocks c block })).strikeBlock block
  if 16 < (s.channel c).bad.length then s.loseChannel c else s

/-- R326: an uncorrected error in a unit's store: an engine, Gallery or quadrant by its number, a Hall address, or a GDDR6 block. -/
def State.uncorrectedError (s : State) (store unit : Nat) : State :=
  match store with
  | 3 => s.hallError unit
  | 5 => s.gddrError unit
  | _ =>
    let s : State := s.uncorrected store unit
    match store with
    | 0 | 1 => s.engineOut unit 2
    | 4 => s.strikePolicy
    | 6 => if (s.gallery unit).st == .inService || (s.gallery unit).st == .draining then (s.galleryOut unit 2).recomputeBudget else s
    | _ => s

/-- What a read with check bits finds (R326, R336). -/
inductive EccOutcome where
  | clean | corrected | uncorrected
  deriving DecidableEq, Repr

/-- R326: an SRAM word of 64 data and 8 check bits with the bits given flipped: one is corrected, two are detected. R336: a GDDR6 block of 64 data and 4 check bytes: an error
confined to one byte is corrected, one confined to two bytes detected. Beyond that neither code promises anything: none. -/
def eccOutcome (store : Nat) (flips : List Nat) : Option EccOutcome :=
  match ((if store == 5 then flips.map (· / 8) else flips).eraseDups).length with
  | 0 => some .clean
  | 1 => some .corrected
  | 2 => some .uncorrected
  | _ => none

/-- What a scrub read finds; where the code promises nothing, the finding is free. -/
def State.scrubFinds (s : State) (store : Nat) (flips : List Nat) : EccOutcome × State :=
  match eccOutcome store flips with
  | some o => (o, s)
  | none => let (k, s) : Nat × State := s.freeChoice 15 3; (match k with | 0 => .clean | 1 => .corrected | _ => .uncorrected, s)

/-- PATROL_SCRUB: a scrub pass over a store reads the words in which one bit has flipped, and those in which several may have, each with its unit (an engine, Gallery or quadrant
by its number, a Hall address or a GDDR6 block): it repairs the words it corrects and finds the uncorrected ones (R326, R327, R336). -/
def execPatrolScrub (t store : Nat) (single : List (Nat × Nat)) (several : List (Nat × List Nat)) (s : State) : Host.Outcome State Fault Refusal :=
  .next (
    if 7 ≤ store then s.at t
    else (single.map (fun x => (x.1, [x.2])) ++ several).foldl (fun s x =>
      match s.scrubFinds store x.2 with
      | (.clean, s) => s
      | (.corrected, s) => s.correctedErrors store 1
      | (.uncorrected, s) => s.uncorrectedError store x.1) (s.at t))

/-! The clock monitor (R19, R464) and the Newel (R457) -/

/-- R15: the sources of the clock domains. -/
inductive ClockSource where
  | sysclkPll | sysclk | refclkEth | refclkPcie | newelClk | jtagTck
  deriving DecidableEq, Repr

/-- R15: the source of a domain. -/
def clockSource (d : Nat) : ClockSource :=
  if 77 ≤ d ∧ d ≤ 80 ∨ d = 83 ∨ d = 84 then .refclkEth
  else if d = 81 ∨ d = 82 then .refclkPcie
  else if 86 ≤ d ∧ d ≤ 88 then .newelClk
  else if d = 90 then .jtagTck
  else if d = 93 ∨ d = 99 then .sysclk
  else .sysclkPll

/-- R15: nominal frequencies in kHz, and whether the power manager throttles the domain (R17). JTAG_TCK comes from outside (log entry 13). -/
def nominalKhz (d : Nat) : Nat :=
  if d < 16 then 1000000 else if d < 48 then 1250000 else if d < 60 then 1000000 else if d < 62 then 500000 else if d < 63 then 1000000
  else if d < 65 then 1200000 else if d < 69 then 1000000 else if d < 77 then 800000 else if d < 81 then 402832 else if d < 83 then 500000
  else if d < 85 then 125000 else if d == 85 then 250000 else if d == 86 then 400000 else if d == 87 then 100000 else if d == 88 then 25000
  else if d == 89 then 500000 else if d == 90 then bitsAt (Config.openValue 22 0).toNat 0 21 else if d == 91 then 250000 else if d == 92 then 500000
  else if d == 93 then 100000 else if d == 94 then 1000000 else if d == 95 then 1250000 else if d == 96 then 1000000 else if d == 97 then 500000
  else if d == 98 then 500000 else 100000

def throttledDomain (d : Nat) : Bool := decide (d < 16) || (decide (48 ≤ d) && decide (d < 60)) || (decide (65 ≤ d) && decide (d < 69))

/-- R233, R360: QP solver q leaves service: a QP running on its lanes waits to start again from iterate 0, and S of a frame whose RefineStart is to come on the tick clock falls. -/
def State.loseSolver (s : State) (q : Nat) : State :=
  let struck (i : Item) : Bool :=
    i.loc == .unit 17 && !i.committed && ((((s.work? i.frame).bind (fun w => w.plan? i.arg)).map (fun p => p.qp.lanes.any (fun l => l / 16 == q))).getD false)
  let items := s.disp.items.filter struck
  let s : State := { s with frames := s.frames.map (fun w => if decide (s.tickTime ≤ ((w.tick + s.us 0x2014 1 : Nat) : Int)) then { w with qpSolvers := w.qpSolvers - 1 } else w) }
  items.foldl (fun s i =>
    (s.modItem i.serial (fun j => { j with loc := .ready 17, lane := j.arg })).modPlan i.frame i.arg (fun p =>
      { p with regularised := false, qp := { p.qp with outcome := .waiting, iterations := 0, pivots := 0, lanes := [], iterate := [] } })) s

/-- R464: the effect of a domain marked FAULT. -/
def State.domainFault (s : State) (d : Nat) : State :=
  let s : State := if d ≤ 59 || (69 ≤ d && d ≤ 76) then s.setCause 9 else s
  if d ≤ 15 then (if (s.gallery d).st == .inService || (s.gallery d).st == .draining then (s.galleryOut d 1).recomputeBudget else s)
  else if d ≤ 47 then s.loseChannel (d - 16)
  else if d ≤ 55 then
    (if s.disp.items.any (fun i => i.kind == .policyRun && i.loc == .unit 20) then s.strikePolicy else s).recomputeBudget
  else if d ≤ 59 then
    (s.loseSolver (d - 56)).recomputeBudget
  else if 69 ≤ d && d ≤ 76 then s
  else if 77 ≤ d && d ≤ 80 then s.portDown ((d - 77) / 2)
  else if d == 83 || d == 84 || d == 90 || d == 91 then s.raise 0x0A0E d
  else s.deviceFault 1

/-- R19: a frequency measured, in kHz, lies outside ±5 % of the domain's current frequency, which is nominal · (16 − s) / 16 for a throttled domain (R17). -/
def State.offFrequency (s : State) (d khz : Nat) : Bool :=
  let n := nominalKhz d * (16 - if throttledDomain d then s.power.step else 0)
  decide (320 * khz < 19 * n) || decide (21 * n < 320 * khz)

/-- R19: the domains counted: all but the monitor's own, and the debug domain only while JTAG_TRST_N is high. -/
def State.counted (s : State) (d : Nat) : Bool := s.newel.running && d != 88 && (d != 90 || s.newel.pins.jtagTrst)

/-- R18, R20: the Newel's domains stop. -/
def State.stopNewelClocks (s : State) : State :=
  { s with clocks := s.clocks.zipIdx.map (fun x => if clockSource x.2 == .newelClk then { x.1 with running := false } else x.1) }

/-- R20: a domain runs where the window measured a frequency; one that the window does not list runs on as before. -/
def State.runDomains (s : State) (window : ClockWindow) : State :=
  { s with clocks := s.clocks.zipIdx.map (fun x => match alGet x.2 window.measured with | some f => if s.counted x.2 then { x.1 with running := f != 0 } else x.1 | none => x.1) }

/-- CLOCK_MONITOR_WINDOW: a window of 10 µs ends; a domain outside its limits in two consecutive windows is marked FAULT (R19). A Newel that has stopped counts nothing. -/
def execClockMonitorWindow (t : Nat) (window : ClockWindow) (s : State) : Host.Outcome State Fault Refusal :=
  let s : State := ((s.at t).setPads (fun p => { p with jtagTrst := window.jtagTrst })).runDomains window
  let outside (d : Nat) : Bool := s.counted d && (match alGet d window.measured with | some f => s.offFrequency d f | none => false)
  let marked := (List.range 100).filter (fun d => outside d && (match s.clocks[d]? with | some c => c.outside && !c.fault | none => false))
  let s : State := { s with clocks := s.clocks.zipIdx.map (fun x => { x.1 with outside := outside x.2, fault := x.1.fault || marked.contains x.2 }) }
  .next (marked.foldl (fun s d => s.domainFault d) s)

/-- NEWEL_LOCKSTEP_MISMATCH: the Newel's cores differ (R457, R463). -/
def execNewelLockstepMismatch (t : Nat) (s : State) : Host.Outcome State Fault Refusal := .next ((s.at t).deviceFault 0)

/-- NEWEL_SRAM_ECC_ERROR: an uncorrected error in the Newel's SRAM (R457, R463). -/
def execNewelSramEccError (t : Nat) (s : State) : Host.Outcome State Fault Refusal := .next ((s.at t).deviceFault 7)

/-- NEWEL_CLK_FAILURE: NEWEL_CLK fails against the reference domain: its domains stop (R18, R20), and the island drives the pins, which no firmware then moves (R457; the cause by
R464, log entry 25). -/
def execNewelClkFailure (t : Nat) (s : State) : Host.Outcome State Fault Refusal :=
  let s : State := (s.at t).deviceFault 1
  .next (({ s with newel := { s.newel with running := false } } : State).stopNewelClocks)

end Sys2Proof.Machine
end

