-- ==== Sys2Proof/Machine/PowerCmd.lean ====
section
/-!
DEFINITION. The power manager (17_electrical.md R526 to R537): THROTTLE_EVALUATION, STEP_CHANGE, CORE_VOLTAGE_SETTLED, TEMPERATURE_SAMPLE and RAIL_EXCURSION.
-/
namespace Sys2Proof.Machine
open Sys2Proof

def State.modPower (s : State) (f : Power → Power) : State := { s with power := f s.power }

/-- R528: the 10 °C band of a junction temperature, 0 to 16 from −40 °C. -/
def tempBand (tj : F32) : Nat := (clampInt 0 16 ((f32Fix tj + 40 * fix32One) / (10 * fix32One))).toNat

/-- R528: V_0 in mV: of the junction temperature's band in the manufacturing area's table, between 0.72 and 0.80 V. -/
def State.stepZero (s : State) : Nat := min 800 (max 720 ((s.dict.part.voltages[tempBand s.power.tj]?).getD 780))

/-- R528: the core target of step k, as VOUT_COMMAND's count of the regulator's LSBs, rounded up. -/
def State.coreCommand (s : State) (k : Nat) : Nat :=
  ceilDiv ((if s.cfgB 0xB200 6 then max 700 (s.stepZero - 10 * k) else 800) * 2 ^ Config.voutExponent.toNat) 1000

/-- R528, R536: the core target of step k in V. -/
def State.coreTarget (s : State) (k : Nat) : F32 := f32OfRatio (s.coreCommand k : Int) (2 ^ Config.voutExponent.toNat)

/-- R537: ThrottledTime up to now. -/
def State.countThrottled (s : State) : State :=
  let ns := if s.power.step == 0 then s.power.throttledRest else s.power.throttledRest + (s.now - s.power.lastEval)
  (s.modPower (fun p => { p with lastEval := s.now, throttledRest := ns % 1000 })).count 0xB202 2 (ns / 1000)

/-- R534: the temperature demand for a junction temperature, given the demand in force. -/
def State.tempDemand (s : State) (now : Nat) (tj : F32) : Nat :=
  let start := f32Fix (s.cfgF 0xB200 1)
  let width := f32Fix (s.cfgF 0xB200 2)
  let x := f32Fix tj
  let want : Nat := if x < start then 0 else (clampInt 0 8 (1 + (x - start) / (max 1 width))).toNat
  if now ≤ want then want
  else
    let reached := start + ((now : Int) - 1) * width
    if x ≤ reached - 3 * fix32One then now - 1 else now

/-- R533, R534: a window of 1 ms ends with its power. -/
def State.endWindow (s : State) (r : PowerReading) : State :=
  let watts := f32Add (f32Mul r.coreAmps s.power.target) r.otherWatts
  let limit := s.cfgF 0xB200 4
  let past := f32Lt limit watts
  let low := f32Lt watts (f32Sub limit 0x41200000#32)
  s.modPower (fun p =>
    let n := if low then p.lowWindows + 1 else 0
    { p with power := watts, current := r.coreAmps, demandP := if past then min 8 (p.demandP + 1) else if 10 ≤ n then p.demandP - 1 else p.demandP,
             lowWindows := if 10 ≤ n then 0 else n })

/-- THROTTLE_EVALUATION: every 100 µs the demands are computed, and a step towards the larger is asked for (R534); `window` is a reading where a 1 ms window has ended.
A target that no longer fits the temperature's band is written again at the same step (R528). -/
def execThrottleEvaluation (t : Nat) (window : Option PowerReading) (s : State) : Host.Outcome State Fault Refusal :=
  let s : State := s.at t
  .next (
    if s.boot.coldHeld then s
    else
      let s : State := s.countThrottled
      let s : State := match window with | some r => s.endWindow r | none => s
      let s : State := s.modPower (fun p => { p with demandT := s.tempDemand p.demandT p.tj })
      if s.power.settling.isSome || s.power.wanted.isSome || s.power.tripped then s
      else
        let goal := max s.power.demandT s.power.demandP
        let k := s.power.step
        if k < goal then s.modPower (fun p => { p with wanted := some (k + 1) })
        else if goal < k then s.modPower (fun p => { p with wanted := some (k - 1) })
        else if s.coreTarget k != s.power.target then s.modPower (fun p => { p with wanted := some k })
        else s)

/-- R529: a voltage write, acknowledged or refused three times in a row. -/
def State.writeVoltage (s : State) (k : Nat) (acknowledged : Bool) : State :=
  if acknowledged then
    (s.modPower (fun p => { p with target := s.coreTarget k, writeFailed := false })).send (.voltage (s.cfg 0xB200 5) (s.coreCommand k))
  else (s.modPower (fun p => { p with writeFailed := true })).count 0xB202 4 1

/-- STEP_CHANGE: the step asked for: a higher step lowers the frequency and then the voltage; a lower step raises the voltage, and the frequency once it has settled (R529). -/
def execStepChange (t : Nat) (acknowledged : Bool) (s : State) : Host.Outcome State Fault Refusal :=
  let s : State := s.at t
  .next (
    match s.power.wanted with
    | none => s
    | some k =>
      let before := s.power.step
      let s : State := s.countThrottled.modPower (fun p => { p with wanted := none })
      if before ≤ k then
        let s : State := if before < k then (s.modPower (fun p => { p with step := k })).count 0xB202 1 1 else s
        s.writeVoltage k acknowledged
      else
        let s : State := s.writeVoltage k acknowledged
        if acknowledged then s.modPower (fun p => { p with settling := some (k, s.now) }) else s)

/-- CORE_VOLTAGE_SETTLED: READ_VOUT is within 5 mV of the target, or 100 µs have passed: the higher frequency is applied (R529). -/
def execCoreVoltageSettled (t : Nat) (s : State) : Host.Outcome State Fault Refusal :=
  let s : State := s.at t
  .next (
    match s.power.settling with
    | some (k, _) => s.countThrottled.modPower (fun p => { p with step := k, settling := none })
    | none => s)

/-- R536: the bits of two causes detected in the same sample; RAIL names the lower row. -/
def bothCauses (a b : Nat) : Nat :=
  let rail := if a % 16 == 0 then b % 16 else if b % 16 == 0 then a % 16 else min (a % 16) (b % 16)
  rail + 16 * ((a / 16) ||| (b / 16))

/-- R463, R536: a POWER_THERMAL fault: its first cause is kept, with any other of the same instant. -/
def State.powerFault (s : State) (cause : Nat) : State :=
  let s : State :=
    if !s.newel.faultCause.testBit 6 then s.modPower (fun p => { p with faultCause := cause, faultAt := s.now })
    else if s.power.faultAt == s.now then s.modPower (fun p => { p with faultCause := bothCauses p.faultCause cause })
    else s
  s.deviceFault 6

/-- The hottest of a list of temperatures, with its sensor: the lowest number among equals. -/
def hottestOf : List F32 → Nat → F32 × Nat → F32 × Nat
  | [], _, best => best
  | x :: xs, k, best => hottestOf xs (k + 1) (if f32Lt best.1 x then (x, k) else best)

/-- TEMPERATURE_SAMPLE: the sensors are read: the junction temperature, THERM_ALERT_N, and the two conditions that end operation (R533, R534). -/
def execTemperatureSample (t : Nat) (temps : List F32) (s : State) : Host.Outcome State Fault Refusal :=
  let s : State := s.at t
  .next (
    if s.boot.coldHeld then s
    else
      let ts := temps.take 32 ++ List.replicate (32 - temps.length) f32Zero
      let (tj, hot) : F32 × Nat := match ts with | [] => (f32Zero, 0) | x :: xs => hottestOf xs 1 (x, 0)
      let limit := s.cfgF 0xB200 3
      let alert : Bool := if s.power.alert then f32Lt (f32Sub limit 0x40400000#32) tj else f32Le limit tj
      let s : State := if alert && !s.power.alert then s.count 0xB202 3 1 else s
      let hotNow := f32Le 0x42FA0000#32 tj && s.power.step == 8
      let since : Option Nat := if hotNow then some (s.power.hotSince.getD s.now) else none
      let s : State := s.modPower (fun p => { p with temps := ts, tj := tj, hottest := hot, alert := alert, hotSince := since })
      let s : State := s.setPads (fun p => { p with thermAlert := alert })
      let junction : Bool := match since with | some m => decide (m + 100000 ≤ s.now) | none => false
      let trip := f32Le 0x43020000#32 tj
      let s : State := if trip then s.modPower (fun p => { p with tripped := true }) else s
      if junction || trip then s.powerFault (bitIf junction 6 + bitIf trip 7 + 256 * hot) else s)

/-- RAIL_EXCURSION: a rail has stayed outside its fault limits for 10 µs; rails are numbered as the rows of R526 from 1. VDDQ_G6 is only recorded while WARM_RST_N is low. -/
def execRailExcursion (t rail : Nat) (past : Bool) (s : State) : Host.Outcome State Fault Refusal :=
  let s : State := s.at t
  .next (
    if s.boot.coldHeld || rail == 0 || 7 ≤ rail then s
    else if rail == 3 && s.boot.warmHeld then ({ s with boot := { s.boot with excursion := true } }).count 0xB202 5 1
    else s.powerFault (rail + (if past then 32 else 16)))

end Sys2Proof.Machine
end

