-- ==== Sys2Proof/Machine/LiveView.lean ====
section
/-!
DEFINITION. The read-only objects that show the device's state: what a READ of each answers (R20, R33, R71, R216, R260, R291, R353 to R355, R363, R369, R385, R386, R424, R454,
R465, R487, R518 to R520, R538, R168, R324).
-/
namespace Sys2Proof.Machine
open Sys2Proof

def CommitState.code : CommitState → Nat
  | .idle => 0 | .staging => 1 | .checked => 2 | .pending => 3

/-- R33: the Status object. -/
def State.statusWord (s : State) : Nat :=
  bit01 s.boot.ready 0 + bit01 s.frameLock 1 + bit01 (s.newel.degraded != 0) 2 + bit01 s.newel.pins.safeState 3 + bit01 s.newel.pins.fault 4
    + bit01 (s.ctl.st != .idle) 5 + bit01 (s.ctl.st == .pending) 6

/-- R464: the domain is marked FAULT. -/
def State.clockFault (s : State) (d : Nat) : Bool := ((s.clocks[d]?).getD ClockDomain.initial).fault

/-- R20: the unit of the domain is out of service, for a clock fault (R464) among others, or powered down. -/
def State.domainGated (s : State) (d : Nat) : Bool :=
  if d < 16 then (s.gallery d).st != .inService && (s.gallery d).st != .draining
  else if d < 48 then (match s.mem.channels[d - 16]? with | some c => c.lost | none => false)
  else if d < 56 then !s.boot.available.quadrants.testBit (d - 48) || s.clockFault d
  else if d < 60 then !s.boot.available.solvers.testBit (d - 56) || s.clockFault d
  else if d < 62 then !s.boot.available.timeScalers.testBit (d - 60)
  else if 69 ≤ d ∧ d < 77 then !s.boot.available.ingress.testBit (d - 69) || s.clockFault d
  else clockSource d == .newelClk && s.newel.pins.floating

/-- R20: DomainState. A domain whose source has not locked since reset reads as at reset; after a thermal trip the throttled domains are stopped (R534). -/
def State.domainState (s : State) (d : Nat) : Nat :=
  match s.clocks[d]? with
  | none => 0
  | some c =>
    if !c.locked then bit01 c.fault 28
    else
      let step := if throttledDomain d then s.power.step else 0
      let gated := s.domainGated d
      let stopped := s.power.tripped && throttledDomain d
      bit01 (c.running && !gated && !stopped) 31 + bit01 (step != 0) 30 + bit01 gated 29 + bit01 c.fault 28 + step * 2 ^ 21 + nominalKhz d * (16 - step) / 16

def UnitState.code : UnitState → Nat
  | .inService => 0 | .outFault => 1 | .outAdmin => 2 | .draining => 3 | .rejoinPending => 4 | .unavailable => 5

/-- R291: GalleryState and EngineState. -/
def ServiceUnit.word (u : ServiceUnit) (count ready : Nat) : Nat :=
  u.st.code + 16 * u.cause + 256 * min count 63 + 2 ^ 16 * min u.faults 255 + 2 ^ 24 * min ready 255

def State.galleryWord (s : State) (g : Nat) : Nat :=
  (s.gallery g).word ((galleryEngines g).filter s.disp.engineIn).length (s.disp.items.filter (fun i => i.loc == .ready g)).length

def State.engineWord (s : State) (e : Nat) : Nat :=
  (s.engine e).word (s.disp.items.filter (fun i => i.loc.engine? == some e)).length 0

/-- R355: BufferState. -/
def BankState.code : BankState → Nat
  | .inService => 0 | .out => 1 | .test => 2

def StreamBuf.word (b : StreamBuf) : Nat := b.bank0.code + 4 * b.bank1.code + bit01 b.chain 4 + 256 * b.wordsHeld

def PeerStatus.code : PeerStatus → Nat
  | .absent => 0 | .joining => 1 | .present => 2 | .lost => 3 | .self => 4

/-- R454: a HELLO was heard on a port within PeerLossTimeout. -/
def State.helloRecent (s : State) (h : Option Nat) : Bool :=
  match h with
  | some t => decide (s.now ≤ t + s.us 0x8600 6)
  | none => false

/-- R454: PeerState. -/
def State.peerWord (s : State) (c : Nat) : Nat :=
  let p := s.peer c
  let out := match p.outFrame with | some f => f == s.tb.curFrame || f + 1 == s.tb.curFrame | none => false
  let role := if c == s.chip && s.groupMode != 0 then s.group.role else p.role
  p.st.code + 8 * (role % 8) + bit01 out 6 + bit01 (s.helloRecent p.hello0) 7 + bit01 (s.helloRecent p.hello1) 8 + 2 ^ 16 * min p.lossCount 65535

def Verdict.code : Verdict → Nat
  | .agree => 0 | .disagree => 1 | .incomplete => 2 | .noPlan => 3

def FwState.code : FwState → Nat
  | .empty => 0 | .writing => 1 | .verified => 2 | .active => 3 | .trial => 4 | .rejected => 5 | .invalid => 6

def State.slot (s : State) (k : Nat) : FwSlot := (s.boot.slots[k]?).getD ⟨.empty, 0, 0, [], 0, SettingsArea.initial⟩

/-- R519: SlotState. -/
def State.slotWord (s : State) (k : Nat) : Nat :=
  let x := s.slot k
  x.st.code + 16 * min x.attempts 15 + bit01 (s.boot.nextBoot == some k) 8 + bit01 x.area.retired 9 + 2 ^ 16 * x.securityVersion

def ResetKind.code : ResetKind → Nat
  | .powerOn => 0 | .pcie => 1 | .warm => 2

def ModelState.code : ModelState → Nat
  | .empty => 0 | .loading => 1 | .valid => 2 | .invalid => 3

def TbState.code : TbState → Nat
  | .acquiring => 0 | .locked => 1 | .holdover => 2 | .freeRun => 3

def ReplayState.code : ReplayState → Nat
  | .live => 0 | .entering => 1 | .replaying => 2 | .leaving => 3

/-- R168: a model descriptor. -/
def State.modelField (s : State) (m sub : Nat) : Nat :=
  let x := s.model m
  let h := modelHeader x.image
  if sub == 1 then x.st.code
  else if x.st != .valid then 0
  else match sub with
    | 2 => first64 x.measurement
    | 3 => h.parameters
    | 4 => h.inputFormat
    | 5 => h.proposals
    | 6 => h.steps
    | 7 => h.worstCycles
    | 8 => h.lixis
    | _ => h.signer

/-- R313, R324: the tally area of a program slot's active image. -/
def State.tallyBytes (s : State) (idx : Nat) : List Byte :=
  memReadBytes (alGetD idx [] s.boot.tallies) 0 (progHeader (s.cfgBytes idx 1)).tallyLength

/-- 0x1F00 to 0x1F03 and 0x2020. DESIGN CHOICE (log entry 17): ServoOffset and TickPhaseError beyond the range of an I32 wrap modulo 2^32. -/
def State.liveCommit (s : State) (idx sub : Nat) : Option Nat :=
  let c := s.ctl
  let b := s.tb
  match idx, sub with
  | 0x1001, 0 => some s.statusWord
  | 0x1F00, 1 => some c.st.code
  | 0x1F00, 2 => some (if c.st == .pending then c.target else 0)
  | 0x1F00, 4 => some c.owner
  | 0x1F00, 5 => some c.lastStatus
  | 0x1F01, 1 => some c.checkResult
  | 0x1F01, 2 => some c.checkedRev
  | 0x1F01, 3 => some c.failObject
  | 0x1F01, 4 => some c.failStage
  | 0x1F01, 5 => some c.failRule
  | 0x1F01, 6 => some (unsignedOf 32 c.margin)
  | 0x1F01, 7 => some c.checkFrame
  | 0x1F02, 0 => some c.activeSetId
  | 0x1F03, 1 => some ((c.activeSetId + 1) % u32Mod)
  | 0x1F03, 2 => some c.stagedRev
  | 0x2020, 1 => some (b.st.code + (match b.epochUsed with | some e => if e == s.cfg 0x2001 0 then 0 else 0x80 | none => 0))
  | 0x2020, 2 => some (unsignedOf 32 b.servoOffset)
  | 0x2020, 3 => some (unsignedOf 32 b.phaseError)
  | 0x2020, 4 => some b.curFrame
  | 0x2020, 5 => some b.curTick
  | 0x2020, 6 => some b.anchorFrame
  | 0x2020, 7 => some (unsignedOf 32 b.ppsIn)
  | 0x2020, 8 => some (b.gmId.getD 0)
  | 0x2020, 9 => some b.anchorTick.toNat
  | _, _ => none

/-- 0x6001, 0x6302, 0x7000, 0x7202 to 0x7205, 0x7211 and 0x7220. -/
def State.liveFrame (s : State) (idx sub : Nat) : Option Nat :=
  let l := s.pub.lastList
  let d := s.det
  match idx, sub with
  | 0x6001, 1 => some (fieldAt l 0 8)
  | 0x6001, 2 => some (bitsAt (fieldAt l 9 1) 0 7)
  | 0x6001, 3 => some (bitsAt (fieldAt l 10 1) 0 7)
  | 0x6001, 4 => some (fieldAt l 16 4)
  | 0x6001, 5 => some (bitsAt (fieldAt l 11 1) 0 3)
  | 0x6001, 6 => some (bitsAt (fieldAt l 12 1) 0 6)
  | 0x6001, 7 => some (bitsAt (fieldAt l 11 1) 4 4)
  | 0x6302, 1 => some s.pub.lastFrame
  | 0x6302, 2 => some s.pub.lastStatus
  | 0x6302, 3 => some s.pub.lastFrameStatus
  | 0x7000, 0x11 => some ((List.range 16).filter (fun g => (s.gallery g).st == .inService)).length
  | 0x7000, 0x12 => some s.disp.enginesIn.length
  | 0x7000, 0 => none
  | 0x7000, k => some (s.galleryWord (k - 1))
  | 0x7202, 1 => some d.stepCounter
  | 0x7202, 2 => some d.landingStep
  | 0x7204, 3 => some (match d.held with | some w => w.frame | none => 0)
  | 0x7205, 1 => some d.maskFrame
  | 0x7205, 2 => some d.mask
  | 0x7211, 1 => some d.last.frame
  | 0x7211, 2 => some d.last.step
  | 0x7211, 3 => some d.last.localDigest
  | 0x7211, 4 => some d.last.peerDigest
  | 0x7211, 5 => some d.last.peerMask
  | 0x7220, 2 => some d.replay.code
  | 0x7220, 3 => some (d.lastReplayed.getD 0)
  | _, _ => none

/-- 0x8001 to 0x9201. -/
def State.liveUnits (s : State) (idx sub : Nat) : Option Nat :=
  let n := s.newel
  match idx, sub with
  | 0x8001, 0x0A => some ((List.range 1024).filter (fun b => s.bankState b == .on)).length
  | 0x8001, 0 => none
  | 0x8001, k => some (match s.mem.regions[k - 1]? with | some (a, b) => a * 65536 + b | none => 0)
  | 0x8101, 0 => none
  | 0x8101, k => some (match s.mem.channels[k - 1]? with | some c => bit01 c.lost 0 + 4 * c.role | none => 0)
  | 0x8401, 1 => some s.host.linkSpeed
  | 0x8401, 2 => some s.host.linkWidth
  | 0x8401, 3 => some (s.journalUsed / 1024)
  | 0x8401, 4 => some (s.host.journal.filter (·.st != .retired)).length
  | 0x8604, 1 => some s.group.role
  | 0x8604, 2 => some s.group.activePort
  | 0x8604, 7 => some s.group.digest
  | 0x8604, 0 => none
  | 0x8604, k => some (s.peerWord (k - 3))
  | 0x9001, 1 => some n.degraded
  | 0x9001, 2 => some n.faultCause
  | 0x9001, 3 => some (bit01 n.pins.fault 0 + bit01 n.pins.safeState 1 + bit01 n.pins.planOk 2)
  | 0x9001, 4 => some n.safeFrame
  | 0x9101, 1 => some (unsignedOf 32 n.marginNow)
  | 0x9201, 1 => some n.streak
  | 0x9201, 2 => some n.clearCount
  | 0x9201, 3 => some n.lastVerdict.code
  | 0x9201, 4 => some n.lastFirstPoint
  | _, _ => none

/-- 0xA000 to 0xB203. -/
def State.liveBoot (s : State) (idx sub : Nat) : Option Nat :=
  let b := s.boot
  let p := s.power
  match idx, sub with
  | 0xA000, 2 => some (fieldAt (s.cfgBytes 0xA000 1) 4 4)
  | 0xA000, 3 => some b.stage
  | 0xA000, 4 => some b.status
  | 0xA000, 5 => some b.lastReset.code
  | 0xA000, 6 => some b.startupTime
  | 0xA000, 7 => some b.minSecurity
  | 0xA000, 8 => some (if b.unitRecord.isEmpty then 0 else sm3First64 b.unitRecord)
  | 0xA000, 9 => some (s.slot b.running).area.format
  | 0xA000, 0x0A => some b.storedBytes
  | 0xA000, 0x0B => some (b.converted + 65536 * b.defaulted)
  | 0xA100, 2 => some (s.slotWord 0)
  | 0xA100, 3 => some (s.slotWord 1)
  | 0xA100, 4 => some b.running
  | 0xA200, 3 => some b.reportSequence
  | 0xB100, 0 => none
  | 0xB100, k => if k ≤ 100 then some (s.domainState (k - 1)) else none
  | 0xB201, 1 => some p.tj.toNat
  | 0xB201, 2 => some p.hottest
  | 0xB201, 3 => some p.power.toNat
  | 0xB201, 4 => some p.target.toNat
  | 0xB201, 5 => some p.current.toNat
  | 0xB201, 6 => some p.step
  | 0xB201, 7 => some (bit01 (p.demandT != 0) 0 + bit01 (p.demandP != 0) 1 + bit01 p.alert 2)
  | 0xB201, 8 => some p.faultCause
  | 0xB203, 0 => none
  | 0xB203, k => some (match p.temps[k - 1]? with | some t => t.toNat | none => 0)
  | _, _ => none

/-- What a READ of an object's active copy answers. -/
def State.live (s : State) (idx sub : Nat) : Value :=
  let held := s.dict.activeVal idx sub
  let show' (x : Option Nat) : Value := match x with | some n => .num n | none => held
  if (idx == 0x6003) && sub == 0 then .blob s.pub.lastList
  else if idx == 0xA200 && sub == 2 then .blob s.boot.report
  else if isCounterIndex idx && sub == 0xFF then .num (alGetD idx 0 s.dict.saturated)
  else if idx < 0x3000 then show' (s.liveCommit idx sub)
  else if 0x7010 ≤ idx && idx < 0x7020 && sub != 0 then .num (s.engineWord (32 * (idx - 0x7010) + sub - 1))
  else if idx < 0x8000 then show' (s.liveFrame idx sub)
  else if 0x8200 ≤ idx && idx < 0x8280 && sub == 3 then .num (s.stream (idx - 0x8200)).buf.word
  else if idx < 0xA000 then show' (s.liveUnits idx sub)
  else if idx < 0xC000 then show' (s.liveBoot idx sub)
  else if idx < 0xE000 && sub == 0x0A then .blob (s.tallyBytes idx)
  else if 0xE000 ≤ idx && idx < 0xE010 && sub != 0 then .num (s.modelField (idx - 0xE000) sub)
  else held

/-- An object in the post-commit view (`staged`) or the active set, RO objects as they stand (R53). -/
def State.objVal (s : State) (staged : Bool) (idx sub : Nat) : Value :=
  match (if staged then alGet (objKey idx sub) s.dict.shadow else none) with
  | some v => v
  | none => s.live idx sub

end Sys2Proof.Machine
end

