-- ==== Sys2Proof/Machine/Determ.lean ====
section
/-!
DEFINITION. Entering and leaving replay (12_determinism.md R375): REPLAY_ENABLE_WRITE.
-/
namespace Sys2Proof.Machine
open Sys2Proof

/-- R375: a write of ReplayEnable. In RELAXED mode a write of 1 is refused (0x0725) and changes nothing. -/
def State.replayEnable (s : State) (on : Bool) : State :=
  if on && !s.strict then s
  else
    let s : State := s.setObj 0x7220 1 (if on then 1 else 0)
    let enter (r : ReplayState) : State := ({ s with det := { s.det with replay := r } }).signalStatus
    match on, s.det.replay with
    | true, .live => enter .entering
    | true, .leaving => enter .replaying
    | false, .entering => enter .live
    | false, .replaying => if s.det.run.isSome then enter .leaving else s.resumeLive s.tb.liveFrame
    | _, _ => s

/-- REPLAY_ENABLE_WRITE: ReplayEnable enters or leaves replay. -/
def execReplayEnableWrite (enable : Bool) (s : State) : Host.Outcome State Fault Refusal := .next (if s.works then s.replayEnable enable else s)

end Sys2Proof.Machine
end

