-- ==== Sys2Proof/Machine/RuleVm.lean ====
section
/-!
DEFINITION. Rule programs (02_dictionary.md R60 to R62): each operation, the loads' conversions, decoding, verification and a whole run.
-/
namespace Sys2Proof.Machine
open Sys2Proof

/-! Values -/

def i64Min : Int := -9223372036854775808
def i64Max : Int := 9223372036854775807
def fitsI64 (x : Int) : Bool := decide (i64Min ≤ x) && decide (x ≤ i64Max)

/-- The signed 64-bit value of the low 64 bits of an integer. -/
def wrapI64 (x : Int) : Int := signedOf 64 (unsignedOf 64 x)

/-- R60: a value × 2^16, truncated towards zero, from its fixed-point form with `k` more fraction bits; R62: none where it does not fit. -/
def floatToRule (fix : Int) (k : Nat) : Option Int :=
  let v := Int.tdiv fix ((2 ^ k : Nat) : Int)
  if fitsI64 v then some v else none

/-- R60, R62: what a load pushes for a value of a type; none where the rule fails. -/
def loadConvert (ty : ObjType) (v : Value) : Option Int :=
  match v with
  | .blob b => some b.length
  | .num n =>
    match ty with
    | .i32 => some (signedOf 32 n)
    | .f32 => let a : F32 := BitVec.ofNat 32 n; if f32Finite a then floatToRule (f32Fix a) 133 else none
    | .f64 => let a : F64 := BitVec.ofNat 64 n; if f64Finite a then floatToRule (f64Fix a) 1058 else none
    | _ => if n < 9223372036854775808 then some n else none

/-- R60, R62: the value a load pushes, from the post-commit view (LD) or the active set (LDACT). A WO object has no value to read: a free one. DESIGN CHOICE (log entry 27): LDACT of an
undefined object fails the program, as LD does. -/
def State.ruleLoad (s : State) (staged : Bool) (idx sub : Nat) : Option Int :=
  match objFind idx sub with
  | none => none
  | some r => if r.access == .wo then some (Config.openValue 21 (objKey idx sub)).toInt else loadConvert r.ty (s.objVal staged idx sub)

/-! Operations -/

/-- What an operation does. -/
inductive RuleResult where
  /-- The stack after it, and the bytes a jump skips. -/
  | go (stack : List Int) (skip : Nat)
  | pass
  | fail (code : Nat)
  /-- Its operands are not on the stack: no verified program comes here (R61). -/
  | absent
  deriving DecidableEq, Repr

/-- One operation of `len` bytes on the interpreter. After the end of a rule the next operation begins another; an operation a jump skips has no effect. -/
def State.ruleDo (s : State) (len : Nat) (f : List Int → RuleResult) : State :=
  let r := if s.rule.status == .running then s.rule else RuleVm.initial
  if r.skip != 0 then { s with rule := { r with skip := r.skip - len, opIndex := r.opIndex + 1 } }
  else
    match f r.stack with
    | .absent => s
    | .pass => { s with rule := { r with status := .passed, opIndex := r.opIndex + 1 } }
    | .fail code => { s with rule := { r with status := .failed code r.opIndex } }
    | .go stack skip => if 32 < stack.length then s else { s with rule := { r with stack := stack, skip := skip, opIndex := r.opIndex + 1 } }

/-- Pushes a value; without one the rule fails (R62). -/
def rulePush (x : Option Int) (st : List Int) : RuleResult := match x with | some v => .go (v :: st) 0 | none => .fail 0xFF

/-- Pops b, pops a and pushes f a b. -/
def ruleBin (f : Int → Int → Option Int) : List Int → RuleResult
  | b :: a :: st => rulePush (f a b) st
  | _ => .absent

/-- Pops a value and pushes another. -/
def ruleUn (f : Int → Option Int) : List Int → RuleResult
  | a :: st => rulePush (f a) st
  | _ => .absent

/-- R62: an exact result outside the signed 64-bit range fails the rule. -/
def checked (x : Int) : Option Int := if fitsI64 x then some x else none

/-- A bitwise operation on 64-bit values. -/
def ruleBits (f : BitVec 64 → BitVec 64 → BitVec 64) (a b : Int) : Option Int := some (f (BitVec.ofInt 64 a) (BitVec.ofInt 64 b)).toInt

/-- A shift by 0 to 63; the spec states no result for other counts (log entry 27): a free value. -/
def ruleShift (site : Nat) (f : Int → Nat → Int) (a b : Int) : Option Int :=
  if 0 ≤ b ∧ b ≤ 63 then some (f a b.toNat) else some (Config.openValue site (2 ^ 64 * unsignedOf 64 a + unsignedOf 64 b)).toInt

def ruleTest (f : Int → Int → Bool) (a b : Int) : Option Int := some (if f a b then 1 else 0)

def execRuleEnd (s : State) : Host.Outcome State Fault Refusal := .next (s.ruleDo 1 (fun _ => .pass))
def execPushi (imm : BitVec 32) (s : State) : Host.Outcome State Fault Refusal := .next (s.ruleDo 5 (rulePush (some imm.toInt)))
def execPushq (imm : BitVec 64) (s : State) : Host.Outcome State Fault Refusal := .next (s.ruleDo 9 (rulePush (some imm.toInt)))
def execLd (idx : BitVec 16) (sub : BitVec 8) (s : State) : Host.Outcome State Fault Refusal := .next (s.ruleDo 4 (rulePush (s.ruleLoad true idx.toNat sub.toNat)))
def execLdact (idx : BitVec 16) (sub : BitVec 8) (s : State) : Host.Outcome State Fault Refusal := .next (s.ruleDo 4 (rulePush (s.ruleLoad false idx.toNat sub.toNat)))
def execRuleAdd (s : State) : Host.Outcome State Fault Refusal := .next (s.ruleDo 1 (ruleBin (fun a b => checked (a + b))))
def execRuleSub (s : State) : Host.Outcome State Fault Refusal := .next (s.ruleDo 1 (ruleBin (fun a b => checked (a - b))))
def execRuleMul (s : State) : Host.Outcome State Fault Refusal := .next (s.ruleDo 1 (ruleBin (fun a b => checked (a * b))))
def execRuleDiv (s : State) : Host.Outcome State Fault Refusal := .next (s.ruleDo 1 (ruleBin (fun a b => if b == 0 then none else checked (Int.tdiv a b))))
def execRuleAnd (s : State) : Host.Outcome State Fault Refusal := .next (s.ruleDo 1 (ruleBin (ruleBits (· &&& ·))))
def execRuleOr (s : State) : Host.Outcome State Fault Refusal := .next (s.ruleDo 1 (ruleBin (ruleBits (· ||| ·))))
def execRuleXor (s : State) : Host.Outcome State Fault Refusal := .next (s.ruleDo 1 (ruleBin (ruleBits (· ^^^ ·))))
/-- SHL discards the bits shifted out, even when the sign changes (R62). -/
def execRuleShl (s : State) : Host.Outcome State Fault Refusal := .next (s.ruleDo 1 (ruleBin (ruleShift 20 (fun a n => wrapI64 (a * ((2 ^ n : Nat) : Int))))))
/-- SHR is arithmetic. -/
def execRuleShr (s : State) : Host.Outcome State Fault Refusal := .next (s.ruleDo 1 (ruleBin (ruleShift 23 (fun a n => a / ((2 ^ n : Nat) : Int)))))
def execRuleNeg (s : State) : Host.Outcome State Fault Refusal := .next (s.ruleDo 1 (ruleUn (fun a => checked (-a))))
def execRuleEq (s : State) : Host.Outcome State Fault Refusal := .next (s.ruleDo 1 (ruleBin (ruleTest (fun a b => a == b))))
def execRuleNe (s : State) : Host.Outcome State Fault Refusal := .next (s.ruleDo 1 (ruleBin (ruleTest (fun a b => a != b))))
def execRuleLt (s : State) : Host.Outcome State Fault Refusal := .next (s.ruleDo 1 (ruleBin (ruleTest (fun a b => decide (a < b)))))
def execRuleLe (s : State) : Host.Outcome State Fault Refusal := .next (s.ruleDo 1 (ruleBin (ruleTest (fun a b => decide (a ≤ b)))))
def execRuleNot (s : State) : Host.Outcome State Fault Refusal := .next (s.ruleDo 1 (ruleUn (fun a => some (if a == 0 then 1 else 0))))
def execRuleDup (s : State) : Host.Outcome State Fault Refusal :=
  .next (s.ruleDo 1 (fun st => match st with | a :: st => .go (a :: a :: st) 0 | [] => .absent))
def execRuleDrop (s : State) : Host.Outcome State Fault Refusal :=
  .next (s.ruleDo 1 (fun st => match st with | _ :: st => .go st 0 | [] => .absent))
def execRuleSwap (s : State) : Host.Outcome State Fault Refusal :=
  .next (s.ruleDo 1 (fun st => match st with | b :: a :: st => .go (a :: b :: st) 0 | _ => .absent))
def execRuleAssert (code : BitVec 8) (s : State) : Host.Outcome State Fault Refusal :=
  .next (s.ruleDo 2 (fun st => match st with | a :: st => if a == 0 then .fail code.toNat else .go st 0 | [] => .absent))
def execRuleJz (offset : BitVec 8) (s : State) : Host.Outcome State Fault Refusal :=
  .next (s.ruleDo 2 (fun st => match st with | a :: st => .go st (if a == 0 then offset.toNat else 0) | [] => .absent))

/-- The state after an operation, as exec gives it. -/
def State.ruleOp (i : Instr) (s : State) : State :=
  let o := match i with
    | .ruleEnd => execRuleEnd s
    | .pushi v => execPushi v s
    | .pushq v => execPushq v s
    | .ld i j => execLd i j s
    | .ldact i j => execLdact i j s
    | .ruleAdd => execRuleAdd s
    | .ruleSub => execRuleSub s
    | .ruleMul => execRuleMul s
    | .ruleDiv => execRuleDiv s
    | .ruleAnd => execRuleAnd s
    | .ruleOr => execRuleOr s
    | .ruleXor => execRuleXor s
    | .ruleShl => execRuleShl s
    | .ruleShr => execRuleShr s
    | .ruleNeg => execRuleNeg s
    | .ruleEq => execRuleEq s
    | .ruleNe => execRuleNe s
    | .ruleLt => execRuleLt s
    | .ruleLe => execRuleLe s
    | .ruleNot => execRuleNot s
    | .ruleDup => execRuleDup s
    | .ruleDrop => execRuleDrop s
    | .ruleSwap => execRuleSwap s
    | .ruleAssert c => execRuleAssert c s
    | .ruleJz n => execRuleJz n s
    | _ => .next s
  match o with
  | .next t => t
  | _ => s

/-! Bytecode -/

/-- R60: the operation at the head of the bytes and its length; none for a reserved opcode or immediate bytes missing. -/
def ruleDecode (b : List Byte) : Option (Instr × Nat) :=
  let one (i : Instr) : Option (Instr × Nat) := some (i, 1)
  let long (n : Nat) (i : Instr) : Option (Instr × Nat) := if n ≤ b.length then some (i, n) else none
  match b with
  | [] => none
  | op :: _ =>
    match op.toNat with
    | 0x00 => one .ruleEnd
    | 0x01 => long 5 (.pushi (BitVec.ofNat 32 (fieldAt b 1 4)))
    | 0x02 => long 9 (.pushq (BitVec.ofNat 64 (fieldAt b 1 8)))
    | 0x03 => long 4 (.ld (BitVec.ofNat 16 (fieldAt b 1 2)) (BitVec.ofNat 8 (fieldAt b 3 1)))
    | 0x04 => long 4 (.ldact (BitVec.ofNat 16 (fieldAt b 1 2)) (BitVec.ofNat 8 (fieldAt b 3 1)))
    | 0x10 => one .ruleAdd
    | 0x11 => one .ruleSub
    | 0x12 => one .ruleMul
    | 0x13 => one .ruleDiv
    | 0x14 => one .ruleAnd
    | 0x15 => one .ruleOr
    | 0x16 => one .ruleXor
    | 0x17 => one .ruleShl
    | 0x18 => one .ruleShr
    | 0x19 => one .ruleNeg
    | 0x20 => one .ruleEq
    | 0x21 => one .ruleNe
    | 0x22 => one .ruleLt
    | 0x23 => one .ruleLe
    | 0x24 => one .ruleNot
    | 0x28 => one .ruleDup
    | 0x29 => one .ruleDrop
    | 0x2A => one .ruleSwap
    | 0x30 => long 2 (.ruleAssert (BitVec.ofNat 8 (fieldAt b 1 1)))
    | 0x31 => long 2 (.ruleJz (BitVec.ofNat 8 (fieldAt b 1 1)))
    | _ => none

/-- The operations of a program with their byte offsets; none where some byte sequence is no operation. -/
def ruleOps : Nat → Nat → List Byte → Option (List (Nat × Instr))
  | 0, _, b => if b.isEmpty then some [] else none
  | n + 1, at', b =>
    if b.isEmpty then some []
    else
      match ruleDecode b with
      | none => none
      | some (i, len) => (ruleOps n (at' + len) (b.drop len)).map (fun ops => (at', i) :: ops)

/-- How many values an operation takes from the stack, and how many it leaves in their place. -/
def ruleEffect : Instr → Nat × Nat
  | .pushi _ | .pushq _ | .ld _ _ | .ldact _ _ => (0, 1)
  | .ruleAdd | .ruleSub | .ruleMul | .ruleDiv | .ruleAnd | .ruleOr | .ruleXor | .ruleShl | .ruleShr | .ruleEq | .ruleNe | .ruleLt | .ruleLe => (2, 1)
  | .ruleNeg | .ruleNot => (1, 1)
  | .ruleDup => (1, 2)
  | .ruleSwap => (2, 2)
  | .ruleDrop | .ruleAssert _ | .ruleJz _ => (1, 0)
  | _ => (0, 0)

/-- R61: follows every path through the operations. `reach` holds, by byte offset, the depths (as a bit mask) with which a path comes to it; `stop` is the program's length. -/
def rulePaths (starts : List Nat) (stop : Nat) : List (Nat × Instr) → List (Nat × Nat) → Bool
  | [], reach => alGetD stop 0 reach == 0
  | (at', i) :: rest, reach =>
    let mask := alGetD at' 0 reach
    if mask == 0 then rulePaths starts stop rest reach
    else
      let (need, put) := ruleEffect i
      let depths := (List.range 33).filter (fun d => mask.testBit d)
      let ok := depths.all (fun d => decide (need ≤ d) && decide (d + put ≤ 32 + need))
      let after := depths.foldl (fun a d => a ||| 2 ^ (d + put - need)) 0
      let join (k : Nat) (r : List (Nat × Nat)) : List (Nat × Nat) := alSet k (alGetD k 0 r ||| after) r
      let next := match rest with | (k, _) :: _ => k | [] => stop
      match i with
      | .ruleEnd => rulePaths starts stop rest reach
      | .ruleJz n => ok && starts.contains (next + n.toNat) && rulePaths starts stop rest (join (next + n.toNat) (join next reach))
      | _ => ok && rulePaths starts stop rest (join next reach)

/-- R61: the jumps of operations that no path reaches are tested too. -/
def ruleJumps (starts : List Nat) (stop : Nat) : List (Nat × Instr) → Bool
  | [] => true
  | (_, .ruleJz n) :: rest => starts.contains ((match rest with | (k, _) :: _ => k | [] => stop) + n.toNat) && ruleJumps starts stop rest
  | _ :: rest => ruleJumps starts stop rest

/-- R61: a program verifies. An empty slot holds no rule. -/
def ruleVerifies (b : List Byte) : Bool :=
  if b.isEmpty then true
  else
    match ruleOps b.length 0 b with
    | none => false
    | some ops =>
      let starts := ops.map (·.1)
      decide (ops.length ≤ 256) && decide (b.length ≤ 1024) && ruleJumps starts b.length ops && rulePaths starts b.length ops [(0, 1)]

/-- A run of a program's operations in order, until the rule passes or fails. -/
def State.ruleRun : List (Nat × Instr) → State → State
  | [], s => s
  | (_, i) :: rest, s =>
    let t := s.ruleOp i
    if t.rule.status == .running then ruleRun rest t else t

/-- CHECK runs the rule program of a slot: its failure's code and operation index, where it fails. -/
def State.ruleProgram (s : State) (b : List Byte) : Option (Nat × Nat) × State :=
  match ruleOps b.length 0 b with
  | none => (some (0xFF, 0), s)
  | some ops =>
    let t := ({ s with rule := RuleVm.initial }).ruleRun ops
    match t.rule.status with
    | .failed code op => (some (code, op), t)
    | _ => (none, t)

end Sys2Proof.Machine
end

