-- ==== Sys2Proof/Machine/Check.lean ====
section
/-!
DEFINITION. What CHECK tests (02_dictionary.md R53 to R55): dependent ranges (R28), the built-in rules of every chapter in the order of their assert codes
(R72, R129, R165, R197, R256, R325, R352, R383, R422, R451, R483, R517), the rule programs, resource fit (R54, R121) and budget fit (R55).
-/
namespace Sys2Proof.Machine
open Sys2Proof

/-! Exact values of FP32 objects -/

/-- The exact value of an F32 object × 2^149. -/
def View.fix (v : View) (idx sub : Nat) : Int := f32Fix (v.f idx sub)
/-- The exact value × 2^149 of an F32 object that is a multiple of a whole number. -/
def View.multiple (v : View) (idx sub n : Nat) : Bool := v.fix idx sub % ((n : Int) * fix32One) == 0

/-! Phases and streams -/

def View.phase (v : View) (k : Nat) : Nat × Nat := (v.num (0x2010 + k) 1, v.num (0x2010 + k) 2)
/-- The enabled streams of a view. -/
def View.streams (v : View) : List Nat := (List.range 128).filter (fun n => v.num (0x3100 + n) 1 != 0)
def View.kind (v : View) (n : Nat) : Nat := v.num (0x3100 + n) 1
def View.layerType (v : View) (l : Nat) : Nat := if l < 16 then v.num (0x3210 + l) 1 else 0

/-- No two elements of a list are equal. -/
def noRepeat {α : Type} [BEq α] : List α → Bool
  | [] => true
  | x :: xs => !xs.contains x && noRepeat xs

/-- R72: the phases. -/
def View.phaseRules (v : View) : List (Nat × Bool) :=
  let p := v.phase
  [(0x01, (p 0).1 == 0 && decide (100 ≤ (p 0).2)),
   (0x02, (List.range 8).all (fun k => decide ((p k).1 ≤ (p k).2)) && (p 1).1 == (p 0).2),
   (0x03, decide ((p 0).2 ≤ (p 2).1) && decide ((p 2).1 ≤ (p 3).1)),
   (0x04, (p 3).2 == (p 4).1),
   (0x05, (p 5).1 == (p 4).2),
   (0x06, (p 6).1 == (p 6).2 && decide ((p 5).2 + 300 ≤ (p 6).2)),
   (0x07, (p 7).1 == (p 6).1 && (p 7).2 == v.num 0x2000 0 && decide ((p 7).1 + 1000 ≤ (p 7).2)),
   (0x08, decide ((p 0).2 + v.num 0x1F00 3 < (p 6).1)),
   (0x09, decide (v.num 0x2003 1 < (p 0).2))]

/-- R129: streams, layers and scene channels. -/
def View.worldRules (v : View) : List (Nat × Bool) :=
  let ss := v.streams
  let target (n : Nat) : Nat := v.layerType (v.num (0x3100 + n) 5)
  let route := ss.filter (fun n => v.kind n == 3)
  let occ := (List.range 16).filter (fun l => v.layerType l == 1)
  [(0x10, (ss.filter (fun n => v.kind n == 5)).length == 1),
   (0x11, decide (route.length ≤ 1) && route.all (fun n => target n == 2)),
   (0x12, decide (1 ≤ occ.length) && decide (occ.length ≤ 4)),
   (0x13, ss.all (fun n => match v.kind n with | 1 => target n == 1 | 4 => target n == 2 | 6 => target n != 0 | _ => true)),
   (0x14, ss.all (fun n => !(v.blob (v.num (0x3100 + n) 4) 1).isEmpty && (progHeader (v.blob (v.num (0x3100 + n) 4) 1)).kind == 2)
            && noRepeat (ss.map (fun n => (v.num (0x3100 + n) 2, v.num (0x3100 + n) 3)))),
   (0x15, v.multiple 0x3200 7 8 && v.multiple 0x3200 8 32 && decide (v.fix 0x3200 7 ≤ v.fix 0x3200 8)),
   (0x16, (List.range (v.num 0x3220 1)).all (fun n => let c := v.num 0x3220 (n + 2); v.layerType (c / 256) != 0 && decide (c % 256 ≤ 32))),
   (0x17, ss.all (fun n => v.num (0x3100 + n) 2 != 1
            || (v.num (0x3100 + n) 3 != v.num 0x8400 3 && !(v.num (0x3100 + n) 3 == v.num 0x1010 1 && v.on 0x1010 6))))]

/-- R158: a library value is well formed. -/
def libraryFormOk (lib : List Byte) : Bool :=
  lib.isEmpty ||
    (decide (64 ≤ lib.length) && decide (fieldAt lib 0 4 ≤ 65536) && lib.length == 64 + 112 * fieldAt lib 0 4 && allZero (slice lib 8 56)
      && (List.range (fieldAt lib 0 4)).all (fun k =>
        let e := slice lib (64 + 112 * k) 112
        fieldAt e 0 4 / 2 == 0 && allZero (slice e 12 4)
          && (List.range 8).all (fun i => decide (fieldAt e (24 + 12 * i) 2 ≤ 128) && fieldAt e (26 + 12 * i) 2 == 0)))

/-- R165, rule 0x22: the sphere table. -/
def View.spheresOk (v : View) : Bool :=
  let count := v.num 0x4010 1
  let table := v.blob 0x4010 2
  let ents := (List.range count).map (fun k => slice table (16 * k) 16)
  let unit (e : List Byte) : Nat := fieldAt e 0 1
  let real (e : List Byte) (o : Nat) : Bool := f32Finite (BitVec.ofNat 32 (fieldAt e o 4))
  let inUnit (u : Nat) : Nat := (ents.filter (fun e => unit e == u)).length
  decide (16 * count ≤ table.length)
    && ents.all (fun e => allZero (slice e 1 3) && decide (unit e ≤ v.num 0x4000 2) && real e 4 && real e 8 && real e 12 && f32Lt f32Zero (BitVec.ofNat 32 (fieldAt e 12 4)))
    && decide (inUnit 0 ≤ 24) && decide (inUnit 1 ≤ 20) && decide (inUnit 2 ≤ 20)
    && (List.range (v.num 0x4000 2 + 1)).all (fun u => decide (0 < inUnit u))

/-- Candidates other than the special block's: policy and lattice, and those of the resampling rounds (R165 rule 0x23). -/
def View.candidates (v : View) (m : ModelSlot) : Nat × Nat :=
  let lib := v.blob 0x4200 2
  let policy := if v.on 0x4100 1 then (modelHeader m.image).proposals else 0
  let lattice := if v.on 0x4200 1 then ((List.range (libCount lib)).filter (fun k => (libEntry lib k).enabled)).length else 0
  (policy + lattice, natSum ((List.range (v.num 0x4300 1 - 1)).map (fun r => v.num 0x4300 (r + 3))))

/-- R451 rule 0xA2: the candidates that a split group may number, whatever its enables. -/
def View.splitCandidates (v : View) (m : ModelSlot) : Nat :=
  let lib := v.blob 0x4200 2
  let lattice := ((List.range (libCount lib)).filter (fun k => (libEntry lib k).enabled)).length
  (modelHeader m.image).proposals + lattice + 2 * natSum ((List.range (v.num 0x4300 1 - 1)).map (fun r => v.num 0x4300 (r + 3))) + 2

/-- R165, R197: proposal and checking. -/
def View.motionRules (v : View) (m : ModelSlot) : List (Nat × Bool) :=
  let h := modelHeader m.image
  let lib := v.blob 0x4200 2
  let (first, rounds) := v.candidates m
  let decel := if f32Eq (v.f 0x4000 0x1A) f32Zero then classDecel (v.num 0x4000 1) else v.f 0x4000 0x1A
  let us := f64OfRatio (v.num 0x4001 2) 1000000
  [(0x20, !v.on 0x4100 1 || (m.st == .valid && first64 m.measurement == v.num 0x4100 3)),
   (0x21, !v.on 0x4100 1 || (h.steps == v.num 0x4001 1 && h.channels == v.num 0x3220 1 && h.agentTokens == v.num 0x3220 0x22 && h.routeTokens == v.num 0x3220 0x23)),
   (0x22, v.spheresOk),
   (0x23, decide (first + rounds + 2 ≤ 262144)),
   (0x24, libraryFormOk lib && (lib.isEmpty || fieldAt lib 4 4 == v.num 0x4001 2)
            && (List.range (libCount lib)).all (fun k => decide (natSum ((libEntry lib k).segments.map (·.2.2)) ≤ v.num 0x4001 1))),
   (0x25, decide (fix32One * fix32One ≤ 2 * (v.fix 0x4000 0x0F * fix32One - v.fix 0x4000 0x10 * v.fix 0x4000 9))),
   (0x26, [3, 4, 5].all (fun k => v.num 0x4300 k % 64 == 0)),
   (0x27, decide (v.fix 0x4000 0x0B < 0) && decide (0 < v.fix 0x4000 0x0A) && decide (f32Fix decel ≤ -v.fix 0x4000 0x0B)),
   (0x30, (v.num 0x5010 0x13 == 0xFF || v.layerType (v.num 0x5010 0x13) == 3) && (v.num 0x5010 0x14 == 0xFF || v.layerType (v.num 0x5010 0x14) == 2)),
   (0x31, !v.on 0x5001 1 || (let b := v.blob (v.num 0x5001 2) 1; !b.isEmpty && (progHeader b).kind == 1)),
   (0x32, f64Le (f64Div (f64Mul (f64OfF32 (v.f 0x4000 0x0F)) (f64Mul us us)) (f64OfInt 8)) (f64OfF32 (v.f 0x5010 0x11)))]

/-- R256, R325: refinement and programs. -/
def View.refineRules (v : View) : List (Nat × Bool) :=
  let landing := (v.phase 6).1
  let reserve := v.num 0x6100 0x0F
  [(0x50, decide (v.num 0x6100 2 ≤ v.num 0x6000 1)),
   (0x51, decide (v.num 0x6200 2 ≤ v.num 0x4001 2)),
   (0x52, decide ((v.num 0x6200 1 - 1) * v.num 0x6200 2 ≤ v.num 0x4001 1 * v.num 0x4001 2)),
   (0x53, decide (v.fix 0x6200 4 ≤ v.fix 0x4000 0x0A) && decide (v.fix 0x6200 5 ≤ -v.fix 0x4000 0x0B)),
   (0x54, decide ((v.phase 4).1 + reserve < landing) && decide (landing < (v.phase 5).2 + reserve)),
   (0x60, v.num 0x7200 1 != 0 || v.boundSlots.all (fun i => !usesFpAtomic (v.blob i 1)))]

/-- R121: W, the stored size of one full version, and S, the source tiles of the raster streams. -/
def View.versionSize (v : View) : Nat :=
  natSum (v.layers.map (fun l => 512 * (match v.layerType l with | 1 => 8192 | 2 => 4096 | _ => 512) * (if v.sliced l then 33 else 1)))
def View.sourceSize (v : View) : Nat :=
  natSum (v.streams.map (fun n =>
    match v.kind n with
    | 1 => 1048576
    | 4 => 4194304
    | 6 => (match v.layerType (v.num (0x3100 + n) 5) with | 1 => 1048576 | 2 => 4194304 | _ => 524288)
    | _ => 0))

/-- R352, R383: stores and determinism. `staged` are the images held staged. -/
def View.memoryRules (v : View) (halls : Nat) (m : ModelSlot) (staged : List (List Byte)) : List (Nat × Bool) :=
  let h := modelHeader m.image
  let on := v.banksOn halls
  let model := if v.on 0x4100 1 then m.image.length else 0
  let devices := ([2, 3, 4].map (fun k => v.num 0x8100 k)).filter (fun c => c != 0xFF) |>.map (· / 2)
  [(0x70, (List.range 138).all (fun b => v.bankPower b == .on)),
   (0x71, decide (natSum (v.regionSizes staged h.proposals h.steps) + 64 ≤ on.length)),
   (0x72, decide (v.num 0x3200 9 + v.num 0x8100 1 ≤ 21474836480) && decide (model ≤ v.num 0x8100 1)),
   (0x73, noRepeat devices),
   (0x80, !v.on 0x7210 1 || (v.num 0x7200 1 == 0 && v.num 0x7200 2 == 0 && v.num 0x8600 1 == 1)),
   (0x81, !v.on 0x7204 1 || decide ((4 + v.num 0x2005 1) * v.versionSize + v.sourceSize ≤ v.num 0x3200 9))]

/-! Clients and rings (R422) -/

def View.clientAt (v : View) (c : Nat) : ClientCfg := clientEntry (v.blob 0x8400 1) c
def View.ringAt (v : View) (r : Nat) : RingCfg := ringEntry (v.blob 0x8400 2) r
/-- The enabled clients and rings of a view. -/
def View.clients (v : View) : List Nat := (List.range ((v.blob 0x8400 1).length / 32)).filter (fun c => (v.clientAt c).enabled)
def View.rings (v : View) : List Nat := (List.range ((v.blob 0x8400 2).length / 32)).filter (fun r => (v.ringAt r).enabled)

/-- R395: the bytes of host buffer space. -/
def hostBufferSize : Nat := 7232 * 1048576

/-- The bytes a ring takes. -/
def View.ringSpan (v : View) (r : Nat) : Nat × Nat := ((v.ringAt r).base, (v.ringAt r).base + ringEntrySize r * (v.ringAt r).size)

def spansApart : List (Nat × Nat) → Bool
  | [] => true
  | x :: xs => xs.all (fun y => decide (x.2 ≤ y.1) || decide (y.2 ≤ x.1)) && spansApart xs

def View.hostRules (v active : View) : List (Nat × Bool) :=
  let cs := v.clients
  let rs := v.rings
  let mask (c : Nat) : Nat := (v.clientAt c).opcodes
  let named := (v.streams.filter (fun n => v.num (0x3100 + n) 2 == 0)).map (fun n => v.num (0x3100 + n) 3)
  let inBuffer := (rs.filter (fun r => (v.ringAt r).inBuffer)).map v.ringSpan
  [(0x90, cs.all (fun c => rs.contains (4 * c) && rs.contains (4 * c + 1)
            && (rs.filter (fun r => r / 4 == c)).all (fun r =>
                 match (v.clientAt c).transport with | 0 => !(v.ringAt r).inBuffer | 1 => (v.ringAt r).inBuffer | _ => true))),
   (0x91, cs.all (fun c => mask c / 64 == 0 || mask c % 64 == 0)),
   (0x92, named.all (fun r => r % 4 == 0 && cs.contains (r / 4) && mask (r / 4) == 2) && noRepeat named && cs.all (fun c => !(mask c).testBit 1 || (mask c == 2 && named.contains (4 * c)))),
   (0x93, cs.all (fun c => decide ((v.clientAt c).transport < 2) || (mask c &&& 0x38) == 0)),
   (0x94, (active.rings.filter rs.contains).all (fun r =>
            let a := active.ringAt r
            let b := v.ringAt r
            a.base == b.base && a.inBuffer == b.inBuffer && a.size == b.size)),
   (0x95, inBuffer.all (fun x => decide (x.2 ≤ hostBufferSize)) && spansApart inBuffer),
   (0x96, v.num 0x8400 3 != v.num 0x1010 1)]

/-- R451, R483: the group and the sentry. -/
def View.groupRules (v : View) (m : ModelSlot) : List (Nat × Bool) :=
  let g := fun k => v.num 0x8600 k
  let ports := [0, 1].filter (fun p => v.on (0x8601 + p) 1)
  let others := (List.range 4).filter (fun c => c != g 2 && (g 4).testBit c)
  let sentry := (List.range 128).filter (fun n => (v.num 0x9200 2 + 2 ^ 64 * v.num 0x9200 3).testBit n)
  let interval : Int := v.num 0x6200 2
  [(0xA0, match g 1 with
      | 0 => g 2 == 0 && g 3 == 0
      | 1 => decide (g 2 ≤ 1) && (g 3 == 4 || g 3 == 5) && g 4 == 3
      | _ => g 3 == ([1, 2, 2, 3][g 2]?).getD 0xFF && g 4 == 15),
   (0xA1, g 1 == 0 || (v.num 0x2002 1 != 3 && !ports.isEmpty && others.all (fun c => ports.all (fun p => v.num 0x8603 (4 * p + c + 1) != 0)))),
   (0xA2, g 1 != 2 || decide (v.splitCandidates m ≤ 262144)),
   (0xA3, decide (g 8 + (v.phase 3).1 < (v.phase 4).1)),
   (0xA4, noRepeat [g 0x0C, g 0x0D, g 0x0E]),
   (0xB0, decide ((20 : Int) + 2 * (1000000 * v.fix 0x9200 4 / (interval * fix32One) + 1) + (v.phase 5).2 < (v.phase 6).1)),
   (0xB1, decide ((1000000 * v.fix 0x9200 4 + interval * fix32One) * v.fix 0x4000 9
            + 1000000 * fix32One * (v.fix 0x9200 0x0A + v.fix 0x9200 5 + v.fix 0x3200 7) ≤ 1000000 * 128 * fix32One * fix32One)),
   (0xB2, !v.on 0x9200 1 || (!sentry.isEmpty && sentry.all (fun n => v.kind n == 1 || v.kind n == 2))),
   (0xB3, decide (v.num 0x9300 2 + 50 + (v.phase 7).1 < (v.phase 7).2)),
   (0xB4, decide (v.fix 0x5010 0x11 ≤ v.fix 0x9200 5))]

/-! Keys (R517) -/

/-- R504, rule 0xC0: a staged key table follows the active one. -/
def keyTableFollows (new old : List Byte) : Bool :=
  new == old ||
    (decide (fieldAt old 4 4 < fieldAt new 4 4) && slice new 64 96 == slice old 64 96
      && keySigns old (fieldAt new 8 4) 5 (sm3 (new.take 3136)) (slice new 3136 64))

/-- The bytes of a value of a type that is not a block. -/
def typeSize : ObjType → Nat
  | .bool | .u8 => 1 | .u16 => 2 | .u32 | .i32 | .f32 => 4 | .u64 | .f64 | .time => 8 | .str | .dom => 0

/-- Rule 0xC3: the bytes of the stored objects in a view of the dictionary. -/
def Dict.storedSize (d : Dict) (staged : Bool) : Nat :=
  let fixed := natSum ((objRows.filter (fun r => r.access == .rws || (r.idx == 0x1F00 && r.sub == 3) || (r.idx == 0xA100 && r.sub == 7))).map
    (fun r => r.idxCount * r.subCount * typeSize r.ty))
  let keys := ((d.active ++ (if staged then d.shadow else [])).map (·.1) ++ [objKey 0x7201 0, objKey 0xA000 1]).eraseDups
  fixed + natSum (keys.map (fun k => if isStored (k / 256) (k % 256) then (d.val staged (k / 256) (k % 256)).toBytes.length else 0))

def State.keyRules (s : State) (v : View) (m : ModelSlot) : List (Nat × Bool) :=
  let table := v.blob 0xA000 1
  let roles := (List.range 31).map (fun k => keyRoles table (k + 1))
  [(0xC0, keyTableFollows table (s.cfgBytes 0xA000 1)),
   (0xC1, roles.any (·.testBit 5) && roles.any (·.testBit 1) && !roles.any (·.testBit 4)),
   (0xC2, v.boundSlots.all (fun i => (keyRoles table (progHeader (v.blob i 1)).signer).testBit 3)
            && (!v.on 0x4100 1 || (keyRoles table (modelHeader m.image).signer).testBit 2)),
   (0xC3, decide (s.dict.storedSize true ≤ 20971520))]

/-- The images held staged. -/
def State.stagedImages (s : State) : List (List Byte) :=
  (s.dict.shadow.filter (fun p => decide (0xC000 ≤ p.1 / 256) && decide (p.1 / 256 < 0xE000))).map (fun p => p.2.toBytes)

/-- Every built-in rule with its assert code, in order. -/
def State.builtInRules (s : State) (v : View) : List (Nat × Bool) :=
  let m := s.model (v.num 0x4100 2)
  v.phaseRules ++ v.worldRules ++ v.motionRules m ++ v.refineRules ++ v.memoryRules s.boot.available.halls m s.stagedImages ++ v.hostRules s.activeView
    ++ v.groupRules m ++ s.keyRules v m

/-! CHECK (R53) -/

/-- What CHECK finds: CheckResult, FailStage, FailObject, FailRule; all 0 for a pass. -/
structure CheckFound where
  result : Nat
  stage : Nat
  object : Nat
  rule : Nat
  deriving DecidableEq, Repr

/-- FailObject of a failure that no single object is named for in the spec: a free value by its code (log entry 28). -/
def openObject (code : Nat) : Nat := bitsAt (Config.openValue 25 code).toNat 0 32

/-- R28, R91, R130: the first object outside its dependent range. -/
def View.dependent (v : View) : Option Nat :=
  let bad := (List.range 128).find? (fun n =>
    let x := v.num (0x3100 + n) 3
    match v.num (0x3100 + n) 2 with
    | 0 => !decide (x ≤ 16383)
    | 1 => !(decide (1024 ≤ x) && decide (x ≤ 65535))
    | _ => !(decide (1 ≤ x) && decide (x ≤ 0xFFFFFF)))
  if v.num 0x2002 4 < v.num 0x2002 3 then some (objRef 0x2002 4) else bad.map (fun n => objRef (0x3100 + n) 3)

/-- The rule programs in slot order: the first that fails, with its slot, operation index and code. -/
def State.rulePrograms : List Nat → State → Option (Nat × Nat × Nat) × State
  | [], s => (none, s)
  | k :: ks, s =>
    let b := (s.dict.val true (0x1F10 + k) 0).toBytes
    if b.isEmpty then rulePrograms ks s
    else
      match s.ruleProgram b with
      | (some (code, op), t) => (some (k, op, code), t)
      | (none, t) => rulePrograms ks t

/-- R54: resource fit: what the view binds against what the device has, with the object each part is reported for. The Hall's regions and R352's 64 hot-tile banks, the
program store of 4,096 instructions (R324), and the map store (R121). Scratchpads, rings, clients, flows and stream buffers are of fixed size (R273, R304, R343, R396, R398):
they fit where an engine is in service. -/
def State.resources (s : State) (v : View) (staged : List (List Byte)) : List (Nat × Bool) :=
  let h := s.viewModel v
  [(objRef 0x8000 1, decide (natSum (v.regionSizes staged h.proposals h.steps) + 64 ≤ (v.banksOn s.boot.available.halls).length)),
   (objRef 0x7000 0x12, !s.disp.enginesIn.isEmpty)]
  ++ v.boundSlots.map (fun i => (objRef i 1, decide ((progHeader (v.blob i 1)).count ≤ 4096)))
  ++ [(objRef 0x3200 9, decide ((3 + v.num 0x2005 1) * v.versionSize + v.sourceSize ≤ v.num 0x3200 9))]

/-- R323: the count of a filter for a packet, in half-nanoseconds of the ingress clock. -/
def filterCharge (b : List Byte) : Nat := let x := progBound (progCode b); (x.cycles + x.tile * fixedCost 1 + x.hall * fixedCost 2) * 5 / 2

/-- R332: the longest verified budget of an item that can be in service over the Hall's banks at a tick, in half-nanoseconds. -/
def View.longestItem (v : View) (u : UnitsIn) : Nat :=
  ([4 * v.blockClocks 64, (v.policyCharge u).getD 0, 4 * fixedCost 4 * v.layers.length] ++ v.filterSlots.map (fun i => filterCharge (v.blob i 1))).foldl max 0

/-- R299, R332: what the frame of a commit is charged once: 1 µs for the reload where a bound program changes, and the wait where the layout moves. -/
def State.commitCharge (s : State) (v : View) : Nat :=
  let old := s.activeView
  let images (w : View) : List (List Byte) := w.treadSlot.map (fun i => w.blob i 1) ++ w.filterSlots.map (fun i => w.blob i 1)
  let h := s.viewModel v
  (if images v == images old then 0 else 2000)
    + (if v.regions s.boot.available.halls [] h.proposals h.steps == s.mem.regions then 0 else old.longestItem (s.unitsIn old))

/-- R53: the tests of CHECK on the post-commit view, with the smallest margin where budget fit has been evaluated. -/
def State.checkView (s : State) : CheckFound × Option Int × State :=
  let v := s.stagedView
  match v.dependent with
  | some o => (⟨0x0104, 2, o, 0⟩, none, s)
  | none =>
    match (s.builtInRules v).find? (fun r => !r.2) with
    | some (code, _) =>
      let obj := if code == 0x22 then objRef 0x4010 2 else if code == 0x24 then objRef 0x4200 2 else openObject code
      (⟨0x0106, 3, obj, 0xFF000000 + 256 * code⟩, none, s)
    | none =>
      match s.rulePrograms (List.range 32) with
      | (some (slot, op, code), t) => (⟨0x0106, 3, openObject (256 + slot), slot * 16777216 + op * 65536 + code * 256⟩, none, t)
      | (none, t) =>
        match (s.resources v s.stagedImages).find? (fun r => !r.2) with
        | some (obj, _) => (⟨0x0106, 4, obj, 0⟩, none, t)
        | none =>
          let m := clampInt (-2147483648) 2147483647 (v.margin (s.unitsIn v) (s.commitCharge v))
          (if m < 0 then ⟨0x0106, 5, openObject 512, 0⟩ else ⟨0, 0, 0, 0⟩, some m, t)

/-- The report that CHECK leaves (R59). -/
def State.recordCheck (s : State) (f : CheckFound) (margin : Option Int) : State :=
  { s with ctl := { s.ctl with checkResult := f.result, checkedRev := s.ctl.stagedRev, failObject := f.object, failStage := f.stage, failRule := f.rule,
                               margin := margin.getD s.ctl.margin, checkFrame := s.tb.curFrame } }

end Sys2Proof.Machine
end

