-- ==== Sys2Proof/Machine/Values.lean ====
section
/-!
DEFINITION. Types and ranges of dictionary values (02_dictionary.md R27, R28), and their bytes.
-/
namespace Sys2Proof.Machine
open Sys2Proof

/-- R27: the code of a type. -/
def ObjType.code : ObjType → Nat
  | .bool => 1 | .u8 => 2 | .u16 => 3 | .u32 => 4 | .u64 => 5 | .i32 => 6 | .f32 => 7 | .f64 => 8 | .str => 9 | .dom => 10 | .time => 11

/-- The type's values have a fixed size. -/
def ObjType.fixed : ObjType → Bool
  | .str | .dom => false
  | _ => true

/-- The bytes of a value of a type, and a value from its bytes (R27, R5). -/
def valueBytes (ty : ObjType) : Value → List Byte
  | .blob b => b
  | .num n => leBytes (typeSize ty) n

def valueOf (ty : ObjType) (b : List Byte) : Value := if ty.fixed then .num (leNat b) else .blob b

/-- The bytes are as many as the type's encoding has (R27). -/
def sizeOk (ty : ObjType) (b : List Byte) : Bool :=
  if ty.fixed then b.length == typeSize ty else if ty == .str then decide (b.length ≤ 255) else decide (b.length ≤ 16777216)

/-- R269: the least and greatest level of a class. -/
def classRange (cls : Nat) : Nat × Nat := if cls < 2 then (0, 0) else if cls < 6 then (0, 4) else if cls < 8 then (5, 6) else (7, 7)

/-- A value within one of the intervals. -/
def inIntervals (intervals : List (Nat × Nat)) (n : Nat) : Bool := intervals.any (fun p => decide (p.1 ≤ n) && decide (n ≤ p.2))

/-- R42: a DOM's length lies in its object's range. -/
def ObjRow.lengthOk (r : ObjRow) (n : Nat) : Bool :=
  match r.range with
  | .bytes least most => decide (least ≤ n) && decide (n ≤ most)
  | _ => decide (n ≤ 16777216)

/-- R28: a value of the right type lies in its object's range. -/
def ObjRow.rangeOk (r : ObjRow) (sub : Nat) (v : Value) : Bool :=
  let n := v.toNum
  let finite := match r.ty with | .f32 => f32Finite (BitVec.ofNat 32 n) | .f64 => f64Finite (BitVec.ofNat 64 n) | .bool => decide (n ≤ 1) | _ => true
  finite && (match r.range with
    | .any => true
    | .nats ps => inIntervals ps n
    | .floats ps => ps.any (fun p => f32Le (BitVec.ofNat 32 p.1) (BitVec.ofNat 32 n) && f32Le (BitVec.ofNat 32 n) (BitVec.ofNat 32 p.2))
    | .bytes least most => decide (least ≤ v.toBytes.length) && decide (v.toBytes.length ≤ most)
    | .twoBit => (List.range 16).all (fun k => bitsAt n (2 * k) 2 != 3)
    | .channel => decide (bitsAt n 8 8 ≤ 15) && decide (bitsAt n 0 8 ≤ 32)
    | .mac => decide (n < 2 ^ 48) && !n.testBit 40
    | .classLevel => let c := classRange (sub - 1); decide (c.1 ≤ n) && decide (n ≤ c.2))

end Sys2Proof.Machine
end

