-- ==== Sys2Proof/Machine/Flash.lean ====
section
/-!
DEFINITION. The settings log and the boot header (16_startup_security.md R498, R499, R506 to R508, R512 to R514): SETTINGS_SAVE, STORED_DOM_LOAD, FIRMWARE_ACTIVATE and FIRMWARE_CONFIRM.
-/
namespace Sys2Proof.Machine
open Sys2Proof

def State.modBoot (s : State) (f : Boot → Boot) : State := { s with boot := f s.boot }
def State.modSlot (s : State) (k : Nat) (f : FwSlot → FwSlot) : State := s.modBoot (fun b => { b with slots := modAt b.slots k f })

/-! Identity (R501) -/

/-- The labels ZHV-IDENTITY and ZHV-SETTINGS. -/
def identityLabel : List Byte := [0x5A#8, 0x48#8, 0x56#8, 0x2D#8, 0x49#8, 0x44#8, 0x45#8, 0x4E#8, 0x54#8, 0x49#8, 0x54#8, 0x59#8]
def settingsLabel : List Byte := [0x5A#8, 0x48#8, 0x56#8, 0x2D#8, 0x53#8, 0x45#8, 0x54#8, 0x54#8, 0x49#8, 0x4E#8, 0x47#8, 0x53#8]

/-- R501: the identity private key of a secret, in [1, n − 2], and its settings key. DEDUCED: the secret comes first in the derivation's input, then the label (log entry 66). -/
def identityScalar (secret : Nat) : Nat := sm2Scalar (beNat (sm2Kdf32 (beBytes 32 secret ++ identityLabel)))
def settingsKey (secret : Nat) : List Byte := sm2Kdf32 (beBytes 32 secret ++ settingsLabel)

def State.settingsKey (s : State) : List Byte := Sys2Proof.Machine.settingsKey s.newel.secret

/-- R46, R515: the device's signature of a digest, with the random number of a draw. -/
def State.identitySign (s : State) (draw : Nat) (digest : List Byte) : List Byte :=
  sm2Sign (identityScalar s.newel.secret) (sm2Scalar (Config.signatureScalar draw).toNat) digest

/-! The boot header (R499) -/

def FwState.ofCode (n : Nat) : FwState := (([.empty, .writing, .verified, .active, .trial, .rejected, .invalid] : List FwState)[n]?).getD .invalid

/-- R510: any reset during a firmware transfer leaves the slot INVALID. -/
def FwSlot.interrupted (x : FwSlot) : FwSlot := if x.st == .writing then { x with st := .invalid } else x

/-- R499: a header's HMAC and digest under a settings key. -/
def headerMac (key : List Byte) (minSecurity sequence : Nat) : List Byte := hmacSm3 key (leBytes 2 minSecurity ++ leBytes 8 sequence)
def headerDigest (slots : List (Nat × Nat)) (next : Option Nat) (minSecurity sequence : Nat) (mac : List Byte) : List Byte :=
  (sm3 (Config.headerImage slots next minSecurity sequence ++ mac)).take 16

/-- R499: the boot header of the slots' states, with its digest and its HMAC. -/
def Boot.header (b : Boot) (key : List Byte) (sequence : Nat) : BootHeader :=
  let slots := b.slots.map (fun x => (x.st.code, x.attempts))
  let mac := headerMac key b.minSecurity sequence
  { slots := slots, next := b.nextBoot, minSecurity := b.minSecurity, sequence := sequence, digest := headerDigest slots b.nextBoot b.minSecurity sequence mac, mac := mac }

/-- R499: a copy is valid: its HMAC and its digest match. -/
def BootHeader.valid (h : BootHeader) (key : List Byte) : Bool :=
  h.mac == headerMac key h.minSecurity h.sequence && h.digest == headerDigest h.slots h.next h.minSecurity h.sequence h.mac

/-- R499: the older copy, by its write sequence. -/
def Boot.olderCopy (b : Boot) : Nat :=
  let q (k : Nat) : Nat := ((b.headers[k]?).map (·.sequence)).getD 0
  if q 0 ≤ q 1 then 0 else 1

/-- R499: the older copy of the boot header is rewritten on both devices, with the next write sequence. -/
def State.headerWrite (s : State) : State :=
  s.modBoot (fun b => let q := (b.headerSequence + 1) % 2 ^ 64; { b with headerSequence := q, headers := modAt b.headers b.olderCopy (fun _ => b.header s.settingsKey q) })

/-- R499: the ROM uses the valid copy with the higher write sequence; `bad` are copies it cannot read. Where neither is valid, which the spec leaves open, the slots stand as they
were (DESIGN CHOICE, log entry 50). -/
def State.headerRead (s : State) (bad : List Nat) : State :=
  let ok (k : Nat) : Option BootHeader := (s.boot.headers[k]?).bind (fun h => if !bad.contains k && h.valid s.settingsKey then some h else none)
  let best : Option BootHeader := match ok 0, ok 1 with
    | some a, some b => if a.sequence < b.sequence then some b else some a
    | some a, none => some a
    | none, b => b
  match best with
  | none => s
  | some h =>
    let void : BootHeader := ⟨[], none, 0, 0, [], []⟩
    s.modBoot (fun b => { b with
      slots := b.slots.zipIdx.map (fun x => match h.slots[x.2]? with | some y => ({ x.1 with st := FwState.ofCode y.1, attempts := y.2 } : FwSlot).interrupted | none => x.1)
      nextBoot := h.next, minSecurity := h.minSecurity, headerSequence := h.sequence, headers := b.headers.zipIdx.map (fun x => if (ok x.2).isSome then x.1 else void) })

/-! The settings log (R506, R507) -/

/-- The value of an entry as it is stored: with the width of the object's type. -/
def storedValue (key : Nat) : Value → List Byte
  | .blob b => b
  | .num n => leBytes (match objFind (key / 256) (key % 256) with | some r => typeSize r.ty | none => 8) n

/-- R506: the length of an entry in bytes: 24 of header, and the value or the commit's 40, to a multiple of 4. -/
def LogEntry.size : LogEntry → Nat
  | .object _ key _ v => 24 + 4 * ceilDiv (storedValue key v).length 4
  | .stagedDom _ _ _ b => 24 + 4 * ceilDiv b.length 4
  | .commit .. => 64

/-- R506: bytes 0 to 23 of an entry of format 0x04. -/
def LogEntry.header (e : LogEntry) : List Byte :=
  let (kind, sequence, key, ty) : Nat × Nat × Nat × Nat := match e with
    | .object q k ty _ => (1, q, k, ty) | .stagedDom q k ty _ => (2, q, k, ty) | .commit q .. => (3, q, 0, 0)
  leBytes 4 0x5A534531 ++ leBytes 1 kind ++ leBytes 1 4 ++ leBytes 2 0 ++ leBytes 4 e.size ++ leBytes 8 sequence ++ leBytes 2 (key / 256) ++ leBytes 1 (key % 256) ++ leBytes 1 ty

/-- R506: an entry of format 0x04. The staged entries a commit names have no place in its layout (log entry 50). -/
def LogEntry.front (e : LogEntry) : List Byte :=
  match e with
  | .object _ k _ v => padTo 4 (e.header ++ storedValue k v)
  | .stagedDom _ _ _ b => padTo 4 (e.header ++ b)
  | .commit _ setId count _ _ => e.header ++ leBytes 4 setId ++ leBytes 4 count
def LogEntry.bytes (e : LogEntry) : List Byte := match e with | .commit _ _ _ _ mac => e.front ++ mac | _ => e.front

/-- R506: the bytes of a log of format 0x04. -/
def logBytes (log : List LogEntry) : List Byte := log.flatMap LogEntry.bytes

/-- R506: the HMAC of a commit entry over the entries since the previous commit, and its own bytes before the HMAC. -/
def commitMac (key : List Byte) (since : List LogEntry) (e : LogEntry) : List Byte := hmacSm3 key (logBytes since ++ e.front)

/-- R506: a commit entry after the entries `since` the previous one. -/
def commitEntry (key : List Byte) (since : List LogEntry) (sequence setId : Nat) (keeps : List Nat) : LogEntry :=
  .commit sequence setId since.length keeps (commitMac key since (.commit sequence setId since.length keeps []))

/-- The entries of a log since its last commit entry. -/
def openEntries (log : List LogEntry) : List LogEntry := (log.reverse.takeWhile (fun e => match e with | .commit .. => false | _ => true)).reverse

/-- R507: the size of a log half. -/
def settingsHalf : Nat := 25165824

/-- R507, R508: the log replayed up to its last commit entry whose HMAC verifies: the values and the ActiveSetId of that set; none without one. `since` are the entries since the
previous commit entry, `waiting` the staged DOM entries that none has named: such an entry counts once a commit entry names it. -/
def replayLog (key : List Byte) : List LogEntry → List LogEntry → List LogEntry → Option (ObjMap × Nat) → Option (ObjMap × Nat)
  | [], _, _, found => found
  | .commit q setId n keeps mac :: rest, since, waiting, found =>
    if commitMac key since (.commit q setId n keeps []) != mac then found
    else
      let base : ObjMap := match found with | some f => f.1 | none => []
      let set := (waiting ++ since).foldl (fun (m : ObjMap) e => match e with
        | .object _ k _ v => alSet k v m
        | .stagedDom j k _ b => if keeps.contains j then alSet k (.blob b) m else m
        | .commit .. => m) base
      replayLog key rest [] ((waiting ++ since).filter (fun e => match e with | .stagedDom j _ _ _ => !keeps.contains j | _ => false)) (some (set, setId))
  | e :: rest, since, waiting, found => replayLog key rest (since ++ [e]) waiting found

def SettingsArea.load (a : SettingsArea) (key : List Byte) : Option (ObjMap × Nat) := if a.retired then none else replayLog key a.log [] [] none

/-- The type code of the object under a key. -/
def keyType (k : Nat) : Nat := match objFind (k / 256) (k % 256) with | some r => r.ty.code | none => 0

/-- R507: the entries of a complete set: its values, then its commit entry. -/
def wholeSet (key : List Byte) (sequence : Nat) (set : ObjMap × Nat) : List LogEntry :=
  let objects : List LogEntry := set.1.zipIdx.map (fun x => .object (sequence + 1 + x.2) x.1.1 (keyType x.1.1) x.1.2)
  objects ++ [commitEntry key objects (sequence + 1 + set.1.length) set.2 []]

/-- R507: entries are added to an area; when its half fills, the newest complete set, with the entries not yet named by a commit entry, is copied into the other half first. -/
def SettingsArea.append (a : SettingsArea) (key : List Byte) (more : List LogEntry) : SettingsArea :=
  let size := natSum (more.map LogEntry.size)
  if a.used + size ≤ settingsHalf then { a with log := a.log ++ more, used := a.used + size, sequence := a.sequence + more.length }
  else
    let set : List LogEntry := match a.load key with | some m => wholeSet key a.sequence m | none => []
    let log := set ++ openEntries a.log ++ more
    { a with log := log, half := 1 - a.half, used := natSum (log.map LogEntry.size), sequence := a.sequence + set.length + more.length }

/-- The settings area of the running slot, changed. -/
def State.modArea (s : State) (f : SettingsArea → SettingsArea) : State := s.modSlot s.boot.running (fun x => { x with area := f x.area })

/-- R507: a DOM value received whole by BLOCK WRITE with SHADOW goes into the log as a staged DOM entry. -/
def State.logStagedDom (s : State) (key : Nat) (b : List Byte) : State :=
  s.modArea (fun a => a.append s.settingsKey [.stagedDom (a.sequence + 1) key (keyType key) b])

/-- R31, R507: the save that is due: the changed objects that the log does not hold staged, then the commit entry. -/
def State.saveSettings (s : State) : State :=
  match s.dict.unsaved with
  | none => s
  | some (vals, setId) =>
    let a := (s.slot s.boot.running).area
    let changed := (((vals ++ s.dict.saved).map (·.1)).eraseDups).filter (fun k => alGet k vals != alGet k s.dict.saved)
    let staged (k : Nat) : Option Nat := a.log.reverse.findSome? (fun e => match e with
      | .stagedDom q j _ b => if j == k && alGet k vals == some (.blob b) then some q else none
      | _ => none)
    let keeps := changed.filterMap staged
    let objects : List LogEntry := (changed.filter (fun k => (staged k).isNone)).zipIdx.map (fun x =>
      .object (a.sequence + 1 + x.2) x.1 (keyType x.1) ((alGet x.1 vals).getD (s.dict.default (x.1 / 256) (x.1 % 256))))
    let s : State := s.modArea (fun a => a.append s.settingsKey (objects ++ [commitEntry s.settingsKey (openEntries a.log ++ objects) (a.sequence + 1 + objects.length) setId keeps]))
    let s : State := { s with dict := { s.dict with saved := vals, savedSetId := setId, unsaved := none } }
    s.modBoot (fun b => { b with storedBytes := s.dict.storedSize false })

/-- SETTINGS_SAVE: the changed stored objects and a commit entry are in the flash (R31, R507). -/
def execSettingsSave (s : State) : Host.Outcome State Fault Refusal := .next (if s.boot.coldHeld || s.boot.warmHeld then s else s.saveSettings)

/-! Loading (R508, R513) -/

/-- R513: what a conversion keeps of a value: an object this firmware defines, in its range. -/
def convertible (k : Nat) (v : Value) : Bool :=
  match objFind (k / 256) (k % 256) with
  | some r => r.rangeOk (k % 256) v
  | none => false

/-- R509: the formats an image reads, and the format it writes. -/
def imageReads (image : List Byte) (format : Nat) : Bool := (fieldAt image 21 1).testBit (format - 1)

/-- R513: the first boot of a TRIAL slot converts the settings of the other slot's area into its own. -/
def State.convertSettings (s : State) (set : ObjMap × Nat) : State :=
  let kept := set.1.filter (fun p => convertible p.1 p.2)
  let lost := set.1.filter (fun p => (objFind (p.1 / 256) (p.1 % 256)).isSome && !convertible p.1 p.2)
  let format := fieldAt (s.slot s.boot.running).image 20 1
  let s : State := s.modArea (fun _ => ({ SettingsArea.initial with format := format }).append s.settingsKey (wholeSet s.settingsKey 0 (kept, set.2)))
  let s : State := { s with dict := { s.dict with saved := kept, savedSetId := set.2 } }
  (s.modBoot (fun b => { b with converted := kept.length, defaulted := lost.length })).raiseOpen s.tb.curFrame 0x0B0C

/-- R508, R513: the saved set is found: in the running slot's area, or by conversion; else every stored object takes its default, with event 0x0B0A. -/
def State.findSaved (s : State) (own other : Bool) : State :=
  let x := s.slot s.boot.running
  let y := s.slot (1 - s.boot.running)
  let s : State := s.modBoot (fun b => { b with converted := 0, defaulted := 0 })
  match (if own then x.area.load s.settingsKey else none) with
  | some (set, setId) => { s with dict := { s.dict with saved := set, savedSetId := setId, unsaved := none } }
  | none =>
    let from' := if x.st == .trial && x.attempts == 1 && other && imageReads x.image y.area.format then y.area.load s.settingsKey else none
    match from' with
    | some set => s.convertSettings set
    | none =>
      let s : State := { s with dict := { s.dict with saved := [], savedSetId := 0, unsaved := none } }
      let s : State := if x.area.retired then s.modArea (fun a => { SettingsArea.initial with format := a.format }) else s
      s.raiseOpen s.tb.curFrame 0x0B0A

/-- The dictionary's active values when the stored objects other than DOMs have been loaded; values that are not stored stay. -/
def Dict.loadFixed (d : Dict) : Dict :=
  let kept := d.active.filter (fun p => !isStored (p.1 / 256) (p.1 % 256))
  (d.saved.filter (fun p => !isDomKey p.1)).foldl (fun d p => d.setActive (p.1 / 256) (p.1 % 256) p.2) { d with active := kept, shadow := [] }

/-- R508: the stored DOM objects are loaded, and take effect as at a commit: images, rings, program stores, and the sessions of keys that no longer stand. -/
def State.loadDoms (s : State) : State :=
  let before := s
  let doms := s.dict.saved.filter (fun p => isDomKey p.1 && (alGet p.1 s.dict.active).isNone)
  let s : State := { s with dict := doms.foldl (fun d p => d.setActive (p.1 / 256) (p.1 % 256) p.2) s.dict }
  let s : State := s.modBoot (fun b => { b with domsLoaded := true, storedBytes := s.dict.storedSize false })
  let s : State := (doms.filter (fun p => decide (0xC000 ≤ p.1 / 256) && decide (p.1 / 256 ≤ 0xDFFF) && p.1 % 256 == 1)).foldl (fun s p => s.installImage (p.1 / 256)) s
  let tread := s.treadImage
  let s : State := { s with disp := { s.disp with units := s.disp.units.map (fun u => { u with program := tread, reloadDue := false }) } }
  let s : State := (List.range 128).foldl (fun s n => s.modStream n (fun x => { x with program := s.filterImage n, reloadDue := false })) s
  (((s.applyRings before).closeByCommit before (doms.map (·.1))).layHall).signalStatus

/-- STORED_DOM_LOAD: after READY, the stored DOM objects are in place (R508). -/
def execStoredDomLoad (t : Nat) (s : State) : Host.Outcome State Fault Refusal :=
  let s : State := s.at t
  .next (if s.boot.ready && !s.boot.domsLoaded then s.loadDoms else s)

/-! The boot header (R511, R512) -/

/-- R511: FirmwareActivate names the next boot slot; it is refused (0x0B08) unless the slot is VERIFIED and not running. -/
def State.activate (s : State) (slot : Nat) : Option State :=
  if slot < 2 && (s.slot slot).st == .verified && slot != s.boot.running then some (s.modBoot (fun b => { b with nextBoot := some slot })).headerWrite else none

/-- R512, R514: FirmwareConfirm makes the running TRIAL slot ACTIVE; it is refused (0x0B0E) otherwise. -/
def State.confirm (s : State) : Option State :=
  let k := s.boot.running
  if (s.slot k).st != .trial then none
  else
    let s : State := s.modSlot k (fun x => { x with st := .active, attempts := 0 })
    let s : State := s.modSlot (1 - k) (fun x => if x.st == .active then { x with st := .verified, area := { x.area with retired := true } } else x)
    some (s.modBoot (fun b => { b with minSecurity := max b.minSecurity ((s.slot k).securityVersion) })).headerWrite

/-- FIRMWARE_ACTIVATE: a slot is marked as the next to boot. -/
def execFirmwareActivate (slot : Nat) (s : State) : Host.Outcome State Fault Refusal := .next (if s.boot.ready then (s.activate slot).getD s else s)

/-- FIRMWARE_CONFIRM: the running TRIAL slot becomes ACTIVE. -/
def execFirmwareConfirm (s : State) : Host.Outcome State Fault Refusal := .next (if s.boot.ready then s.confirm.getD s else s)

end Sys2Proof.Machine
end

