-- ==== Sys2Proof/Machine/Startup.lean ====
section
/-!
DEFINITION. Resets and start-up (16_startup_security.md R491 to R516, 15_safety.md R461 to R463, 17_electrical.md R524 to R527): POWER_ON_RESET, COLD_RESET_ASSERT, PWR_GOOD_FALL,
VDD_AON_LOSS, VDD_NEWEL_LOSS, WARM_RST_N_ASSERT, WARM_RST_N_RELEASE and ATTESTATION_REPORT_BUILD.
-/
namespace Sys2Proof.Machine
open Sys2Proof

/-- R503: the record's masks. -/
def availabilityOf (record : List Byte) : Availability :=
  { galleries := fieldAt record 12 2, quadrants := fieldAt record 14 1, solvers := bitsAt (fieldAt record 15 1) 0 4, timeScalers := bitsAt (fieldAt record 15 1) 4 2,
    ingress := fieldAt record 16 1, engines := fieldAt record 32 64, halls := fieldAt record 96 128, digest := sm3First64 record }

/-- R493: the start-up register of configuration space. -/
def Boot.startupRegister (b : Boot) : Nat := bitIf b.ready 0 + bitIf b.warm 1 + bitIf b.stopped 2 + 256 * b.stage + 65536 * b.status

/-- R492 step 3: configuration requests are answered with Retry Status: until step 2 of a cold sequence has ended, or where it stopped before. -/
def Boot.retries (b : Boot) : Bool := b.coldHeld || (b.stopped && !b.warm && decide (b.stage ≤ 2))

/-! Resets held -/

/-- R491, R496: power-on or PCIe reset is asserted: all but the flash devices is lost. The model's own records (events, messages, draws, images) go on. -/
def State.coldHold (s : State) (kind : ResetKind) (floating : Bool) : State :=
  let b := s.boot
  { State.reset with
    now := s.now, pending := s.pending, events := s.events, wire := s.wire, draws := s.draws
    det := { Determinism.initial with images := s.det.images }
    newel := { Newel.initial with running := !floating, pins := { Pins.initial with floating := floating, jtagTrst := s.newel.pins.jtagTrst } }
    boot := { Boot.initial with lastReset := kind, slots := b.slots.map FwSlot.interrupted, running := b.running, nextBoot := b.nextBoot, minSecurity := b.minSecurity,
                                headerSequence := b.headerSequence, headers := b.headers, areas := b.areas } }

/-- COLD_RESET_ASSERT: POR_N or PERST_N is asserted. Pads that float go on floating until the release. -/
def execColdResetAssert (t : Nat) (pcie : Bool) (s : State) : Host.Outcome State Fault Refusal :=
  let s : State := s.at t
  .next (s.coldHold (if pcie then .pcie else .powerOn) s.newel.pins.floating)

/-- PWR_GOOD_FALL: treated as POR_N asserted (R527). -/
def execPwrGoodFall (t : Nat) (s : State) : Host.Outcome State Fault Refusal :=
  let s : State := s.at t
  .next (s.coldHold .powerOn s.newel.pins.floating)

/-- VDD_AON_LOSS: below 1.62 V the device is held in power-on reset, and its pads float (R524, R526). -/
def execVddAonLoss (t : Nat) (s : State) : Host.Outcome State Fault Refusal := .next ((s.at t).coldHold .powerOn true)

/-- VDD_NEWEL_LOSS: the Newel stops; the pads float to the fault levels of the board's pull-downs (R462, R524, R526). -/
def execVddNewelLoss (t : Nat) (s : State) : Host.Outcome State Fault Refusal :=
  let s : State := s.at t
  .next (({ s with newel := { s.newel with running := false, pins := { s.newel.pins with fault := true, safeState := true, planOk := false, floating := true } } }).stopNewelClocks).signalStatus

/-- What a warm reset keeps of the host port (R392, R415, R495): the link, the vectors, the rings' control blocks, the journal and the host buffer. -/
def HostPort.warm (h : HostPort) : HostPort :=
  { HostPort.initial with
    rings := h.rings.map (fun p => (p.1, { p.2 with held := [], lost := 0, unsignalled := 0, firstUnsignalled := 0 }))
    journal := (h.journal.filter (fun j => !j.waitsMirror)).map (fun j => { j with outcome := none, ready := false })
    nextJournal := h.nextJournal, linkSpeed := h.linkSpeed, linkWidth := h.linkWidth, linkBelow := h.linkBelow, busMaster := h.busMaster, statusShown := h.statusShown
    bars := h.bars, msix := h.msix, buffer := h.buffer }

/-- R461: while WARM_RST_N is low the Newel runs on, SAFE_STATE_N asserted and PLAN_OK low, with what has latched. -/
def Newel.warm (n : Newel) : Newel :=
  { Newel.initial with
    secret := n.secret, booted := true, running := n.running, faultCause := n.faultCause, faultHeld := n.faultCause != 0
    degraded := (if n.degraded.testBit 3 then 8 else 0) + (if n.degraded.testBit 9 then 512 else 0)
    pins := { n.pins with ready := false, safeState := if n.running then true else n.pins.safeState, planOk := if n.running then false else n.pins.planOk, ppsOut := 0, ticks := 0 } }

/-- R491, R492, R495: WARM_RST_N is low: SRAM is lost, and the active set is the last saved set. -/
def State.warmHold (s : State) : State :=
  let b := s.boot
  let d : Dict := { Dict.initial with saved := s.dict.saved, savedSetId := s.dict.savedSetId, part := s.dict.part }
  { State.reset with
    now := s.now, pending := s.pending, events := s.events, wire := s.wire, draws := s.draws
    dict := d.loadFixed
    ctl := { CommitCtl.initial with activeSetId := s.dict.savedSetId }
    host := s.host.warm
    mem := { Memory.initial with channels := s.mem.channels, rereplicating := s.mem.rereplicating }
    newel := s.newel.warm
    clocks := s.clocks
    power := s.power
    group := { Group.initial with ports := s.group.ports.map (fun p => { p with paused := 0 }) }
    det := { Determinism.initial with stepCounter := s.det.stepCounter, images := s.det.images }
    boot := { b with
      ready := false, stage := 0, status := 0, warm := true, stopped := false, lastReset := .warm, warmHeld := true, excursion := false,
      slots := b.slots.map FwSlot.interrupted, available := if b.unitRecord.isEmpty then b.available else availabilityOf b.unitRecord, domsLoaded := false, nonce := none, report := [], reportSequence := 0, models := Boot.initial.models, tallies := [] } }

/-- WARM_RST_N_ASSERT: GDDR6 is held in self-refresh (R342) and the Newel runs on (R461). Before the first READY of a cold sequence, that sequence is to run again from step 4 (R496);
the reset of this kind has come last either way (R491). -/
def execWarmRstNAssert (t : Nat) (s : State) : Host.Outcome State Fault Refusal :=
  let s : State := s.at t
  .next (
    if s.boot.coldHeld || s.boot.warmHeld then s
    else if s.newel.booted then s.warmHold
    else s.modBoot (fun b => { b with warmHeld := true, lastReset := .warm }))

/-! The boot chain (R500 to R503, R512) -/

/-- R498: where each flash device holds its contents: offset and size of the boot header, the manufacturing area, the firmware slot and the settings area. -/
def flashLayout : List (Nat × Nat) := [(0x0000000, 0x10000), (0x0010000, 0x10000), (0x0020000, 0x400000), (0x0420000, 0x3000000)]

/-- R502: what the vendor root key signs of a manufacturing area. DESIGN CHOICE: in the order in which R502 lists it, under R5 (log entry 66). -/
def Part.signed (p : Part) : List Byte :=
  leBytes 64 (leNat p.rootKey) ++ leBytes 8 p.serial ++ p.macs.flatMap (leBytes 6) ++ leBytes 2 p.subsystemVendor ++ leBytes 2 p.subsystemId ++ p.helper ++ p.identityKey ++ p.endorsement
    ++ p.record ++ p.voltages.flatMap (leBytes 2)

/-- R500 step 1: the area's vendor root key matches the ROM's digest, and its signature verifies. -/
def Part.accepted (p : Part) (romDigest : List Byte) : Bool := sm3 p.rootKey == romDigest && sm2Verify p.rootKey (sm3 p.signed) p.signature

/-- R502: the endorsement verifies under the vendor root key, over the serial number and the identity public key. -/
def Part.endorsed (p : Part) : Bool := sm2Verify p.rootKey (sm3 (leBytes 8 p.serial ++ p.identityKey)) p.endorsement

/-- R503: the record's signature by the vendor root key verifies, over its first 224 bytes. -/
def Part.recordSigned (p : Part) : Bool := sm2Verify p.rootKey (sm3 (p.record.take 224)) (slice p.record 224 64)

/-- R503: the record is accepted; its reserved bits are zero (R11). -/
def Part.recordOk (p : Part) : Bool :=
  let a := availabilityOf p.record
  p.recordSigned && fieldAt p.record 0 4 == 0x5A554131 && fieldAt p.record 4 8 == p.identityDigest && a.timeScalers == 3 && a.galleries != 0
    && bitsAt (fieldAt p.record 15 1) 6 2 == 0 && allZero (slice p.record 17 15)
    && (List.range 138).all (fun b => a.halls.testBit b)

/-- R500 step 1: the manufacturing area used: flash device A's, or B's where A's fails its checks. -/
def BootFacts.area (f : BootFacts) : Option Part :=
  if f.areaA.accepted f.romDigest then some f.areaA else if f.areaB.accepted f.romDigest then some f.areaB else none

/-- R512: TrialBootLimit as the running slot's settings hold it. -/
def State.trialLimit (s : State) : Nat :=
  match (s.slot s.boot.running).area.load s.settingsKey with
  | some (set, _) => (match alGet (objKey 0xA100 7) set with | some v => v.toNum | none => (objDefault 0xA100 7).toNum)
  | none => (objDefault 0xA100 7).toNum

/-- R512: the ROM chooses the slot to boot. An activated slot that is VERIFIED no longer, since a new image was begun in it, keeps its state, with which it does not boot. -/
def State.chooseSlot (s : State) : Nat × State :=
  let trial (k : Nat) (s : State) : Nat × State := (k, (s.modSlot k (fun x => { x with st := .trial, attempts := x.attempts + 1 })).headerWrite)
  match s.boot.nextBoot with
  | some k =>
    let s : State := s.modBoot (fun b => { b with nextBoot := none })
    if (s.slot k).st == .verified then trial k s else (k, (s.modSlot k (fun x => { x with attempts := x.attempts + 1 })).headerWrite)
  | none =>
    match [s.boot.running, 1 - s.boot.running].find? (fun k => (s.slot k).st == .trial) with
    | some k =>
      if (s.slot k).attempts < s.trialLimit then trial k s
      else (1 - k, ((s.modSlot k (fun x => { x with st := .rejected })).headerWrite).raiseOpen 0 0x0B09)
    | none => (if (s.slot 0).st == .active then 0 else if (s.slot 1).st == .active then 1 else s.boot.running, s)

/-- R500 step 4, R509: the image of a slot verifies with the slot-0 key of the authorised-key table; that of the image the device was made with, whose bytes the model does not
hold, is a fact of the reset. -/
def State.imageVerifies (s : State) (f : BootFacts) (k : Nat) : Bool :=
  let b := (s.slot k).image
  (if k == 0 then f.imageA else f.imageB) && (b.isEmpty || sm2Verify (keyPublic (s.cfgBytes 0xA000 1) 0) (sm3 (b.take (b.length - 64))) (b.drop (b.length - 64)))

/-- R500 step 4, R514: an image may be booted. -/
def State.bootable (s : State) (f : BootFacts) (k : Nat) : Bool :=
  let x := s.slot k
  s.imageVerifies f k && x.st != .empty && x.st != .writing && x.st != .invalid && decide (s.boot.minSecurity ≤ x.securityVersion)

/-- R500 step 4: the slot that boots; none where both fail. A slot that fails is marked INVALID. -/
def State.bootSlot (s : State) (f : BootFacts) : Option Nat × State :=
  let fail (k : Nat) (s : State) : State := if (s.slot k).st == .empty then s else (s.modSlot k (fun x => { x with st := .invalid })).headerWrite
  let (k, s) := s.chooseSlot
  if s.bootable f k then (some k, s)
  else
    let s : State := fail k s
    if s.bootable f (1 - k) then (some (1 - k), s) else (none, fail (1 - k) s)

/-- R33, R509: the version objects of the image that runs. -/
def State.showFirmware (s : State) : State :=
  let image := (s.slot s.boot.running).image
  if image.isEmpty then s
  else
    let v := fieldAt image 16 4
    (s.setObj 0x100A 0 v).setObj 0x1018 3 (0x00B00000 + bitsAt v 16 16)

/-! Steps of the sequences (R492, R494) -/

/-- The sequence stops at a step. -/
def State.stopAt (s : State) (stage status : Nat) : State :=
  (s.modBoot (fun b => { b with stage := stage, status := status, stopped := true })).setPins (fun p => { p with fault := true, safeState := true, planOk := false })

/-- Step 7: the units of the availability record that pass their BIST enter service; the others stay out, those that fail it for good (R288, R480, R503). -/
def State.bist (s : State) (f : BootFacts) : State :=
  let a := s.boot.available
  let has (e : Nat) : Bool := a.engines.testBit e && a.galleries.testBit (e / 32)
  let passes (e : Nat) : Bool := has e && !f.failedEngines.contains e
  let goes (g : Nat) : Bool := a.galleries.testBit g && !f.failedGalleries.contains g && (galleryEngines g).any passes
  let engine (e : Nat) : ServiceUnit :=
    if !has e then ⟨.unavailable, 6, 0, none⟩ else if !passes e then ⟨.outFault, 3, 1, none⟩ else if goes (e / 32) then ⟨.inService, 0, 0, none⟩ else ⟨.outFault, 7, 0, none⟩
  let gallery (g : Nat) : ServiceUnit :=
    if !a.galleries.testBit g then ⟨.unavailable, 6, 0, none⟩ else if f.failedGalleries.contains g then ⟨.outFault, 3, 1, none⟩ else if goes g then ⟨.inService, 0, 0, none⟩
    else ⟨.outFault, 4, 1, none⟩
  let s : State := { s with disp := { s.disp with engines := (List.range 512).map engine, galleries := (List.range 16).map gallery } }
  let bad := (List.range 512).filter (fun e => has e && !passes e)
  let badG := (List.range 16).filter (fun g => a.galleries.testBit g && !goes g)
  let s : State := bad.foldl (fun s e => ((((s.count 0x9301 3 1).raise 0x0A0A e).count 0x7101 9 1).raise 0x0701 e).refuseRejoin e (engine e)) s
  let s : State := badG.foldl (fun s g =>
    let s : State := if f.failedGalleries.contains g then (s.count 0x9301 3 1).raise 0x0A0A g else s
    ((s.count 0x7101 0x0A 1).raise 0x0702 g).refuseRejoin g (gallery g)) s
  s.remapLanes

def State.anyGallery (s : State) : Bool := s.disp.galleries.any (fun u => u.st == .inService)

/-- Step 8: the stored objects other than DOMs are loaded, and what they configure takes effect (R30, R330, R338, R431, R508). -/
def State.loadStored (s : State) (f : BootFacts) : State :=
  let s : State := s.findSaved f.areaReadable f.otherReadable
  let s : State := { s with dict := s.dict.loadFixed, ctl := { s.ctl with activeSetId := s.dict.savedSetId } }
  let s : State := s.modBoot (fun b => { b with storedBytes := s.dict.storedSize false })
  (s.layHall).applyGroup

/-- R338, R339: the journal channels of the loaded set; an area on a lost channel has lost its copy. -/
def State.placeJournal (s : State) : State :=
  let role (c : Nat) : Nat := if c == s.cfg 0x8100 2 then 1 else if c == s.cfg 0x8100 3 then 2 else if c == s.cfg 0x8100 4 then 3 else 0
  let s : State := { s with mem := { s.mem with channels := s.mem.channels.zipIdx.map (fun x => { x.1 with role := role x.2 }) } }
  ((List.range 32).filter (fun c => (s.channel c).lost)).foldl (fun s c => s.loseJournal c) s

/-- The self-test courses of the units in service begin (R481). -/
def State.beginCourses (s : State) : State :=
  let s : State := s.disp.enginesIn.foldl (fun s e => s.beginCourse e) s
  s.hotBanks.foldl (fun s b => s.beginCourse (1024 + b)) s

/-- The last step: READY (R493), FAULT_N released unless a fault is latched, the start-up hold (R461), and the timebase in reset's end (R64). -/
def State.enterReady (s : State) (f : BootFacts) : State :=
  let s : State := s.startTimebase
  let s : State := { s with now := s.now + 1000 * f.elapsed }
  let s : State := s.skipTicks
  let s : State := s.modBoot (fun b => { b with ready := true, stage := 9, status := 0, startupTime := f.elapsed })
  let s : State := { s with newel := { s.newel with booted := true, faultHeld := false, startHold := true } }
  let s : State := s.setPads (fun p => { p with ready := true })
  let s : State := s.setPins (fun p => { p with fault := s.newel.faultCause != 0, safeState := true, planOk := false })
  s.driveSafe.beginCourses.signalStatus

/-- R497: the magic of the journal's header. -/
def journalMagic : Nat := 0x5A4A4831

/-- R340: channels of more than one device have failed to train. -/
def BootFacts.manyLost (f : BootFacts) : Bool := decide (1 < ((f.untrained.map (· / 2)).eraseDups).length)

/-- Steps 4 to 9 of the cold sequence. -/
def State.coldFrom4 (s : State) (f : BootFacts) : State :=
  if f.manyLost then s.stopAt 4 0x0B10
  else
    let s : State := f.untrained.foldl (fun s c => s.loseChannel c) s
    if !f.sramZeroed then s.stopAt 5 0x0B10
    else if !f.gddrZeroed then s.stopAt 6 0x0B10
    else
      let s : State := (s.modBoot (fun b => { b with journalHeader := some (journalMagic, s.dict.part.identityDigest) })).bist f
      if !s.anyGallery then s.stopAt 7 0x0B10
      else ((s.loadStored f).placeJournal).enterReady f

/-- R15: whether start-up finds a source locked. -/
def BootFacts.sourceLocked (f : BootFacts) : ClockSource → Bool
  | .sysclkPll => f.pllLocked | .sysclk => f.sysclk | .refclkEth => f.refEth | .refclkPcie => f.refPcie | .newelClk => f.newelClk | .jtagTck => f.jtagTck

/-- The cold sequence (R492, R500). -/
def State.coldSequence (s : State) (f : BootFacts) : State :=
  if !f.pllLocked then s.stopAt 1 0x0B10
  else
    let s : State := { s with clocks := s.clocks.zipIdx.map (fun x => ⟨f.sourceLocked (clockSource x.2), f.sourceLocked (clockSource x.2), false, false⟩) }
    let s : State := s.modBoot (fun b => { b with areas := [f.areaA, f.areaB] })
    match f.area with
    | none => s.stopAt 2 0x0B02
    | some area =>
      if 1100 < f.bitErrors || sm2Public (identityScalar f.secret) != area.identityKey then s.stopAt 2 0x0B01
      else if !area.recordOk then s.stopAt 2 0x0B02
      else
        let s : State := { s with dict := { s.dict with part := area }, newel := { s.newel with secret := f.secret } }
        let s : State := s.modBoot (fun b => { b with unitRecord := area.record, available := availabilityOf area.record })
        match (s.headerRead f.badHeaders).bootSlot f with
        | (none, s) => s.stopAt 2 0x0B0F
        | (some k, s) => ((s.modBoot (fun b => { b with running := k })).showFirmware).coldFrom4 f

/-- POWER_ON_RESET: the later of POR_N and PERST_N is released (R491). -/
def execPowerOnReset (t : Nat) (pcie : Bool) (facts : BootFacts) (s : State) : Host.Outcome State Fault Refusal :=
  let s : State := s.at t
  .next (
    if !s.boot.coldHeld then s
    else
      let s : State := s.modBoot (fun b => { b with coldHeld := false, warmHeld := false, lastReset := if pcie then .pcie else .powerOn })
      ({ s with newel := { s.newel with running := true, pins := { s.newel.pins with floating := false } } }).coldSequence facts)

/-! The warm sequence -/

/-- R338, R415: a record can be read: from copy A, or from copy B where copy A is lost or has an uncorrected block. -/
def State.readableRecord (s : State) (j : JRec) : Bool :=
  let alive (r : Nat) : Bool := s.mem.channels.any (fun x => x.role == r && !x.lost)
  (alive 1 && !j.badA) || (alive 2 && !j.badB)

/-- R497: the journal, where it is valid; rings of clients with records are in RECOVERING. Otherwise every ring starts anew (R400). A record that neither copy gives is lost
(log entry 41). -/
def State.recoverJournal (s : State) : State :=
  if s.boot.journalHeader == some (journalMagic, s.dict.part.identityDigest) && !s.boot.excursion then
    let s : State := { s with host := { s.host with journal := s.host.journal.filter s.readableRecord } }
    let live := s.host.journal.filter (fun j => j.st != .retired)
    let clients := ((live.filter (·.isDescriptor)).map (·.owner)).eraseDups
    let rings := s.host.rings.map (fun p => if clients.contains (p.1 / 4) && (p.2.st == .active || p.2.st == .draining) then (p.1, { p.2 with st := .recovering }) else p)
    { s with host := { s.host with rings := rings, recovery := !live.isEmpty } }
  else ({ s with host := { s.host with journal := [], rings := [] } }).raiseOpen 0 0x0B0B

/-- R415, R508: until the stored tables are loaded, a recovered ring goes by its entries in them, a draining one by those it had before. -/
def State.keepTables (s : State) : State :=
  let saved (sub : Nat) : List Byte := match alGet (objKey 0x8400 sub) s.dict.saved with | some v => v.toBytes | none => []
  let keep (p : Nat × Ring) : Nat × Ring := (p.1, { p.2 with kept := some (p.2.kept.getD ⟨ringEntry (saved 2) p.1, clientEntry (saved 1) (p.1 / 4)⟩) })
  { s with host := { s.host with rings := s.host.rings.map keep } }

/-- The warm sequence (R494). -/
def State.warmSequence (s : State) (f : BootFacts) : State :=
  if !s.imageVerifies f s.boot.running then s.stopAt 1 0x0B10
  else if f.manyLost then s.stopAt 2 0x0B10
  else
    let s : State := (f.untrained.foldl (fun s c => s.loseChannel c) s).showFirmware
    if !f.sramZeroed then s.stopAt 3 0x0B10
    else
      let s : State := s.recoverJournal.bist f
      if !s.anyGallery then s.stopAt 4 0x0B10
      else
        let s : State := (s.loadStored f).keepTables
        let s : State := if s.mem.channels.any (fun c => c.role == 3) then s else s.setObj 0x8100 4 0xFF
        s.enterReady f

/-- R463, R465, R19: what the release of WARM_RST_N clears: every device fault but NEWEL_LOCKSTEP and NEWEL_MEMORY, the marks of the clock domains, and cause CLOCK. -/
def State.clearWarm (s : State) : State :=
  let left := (if s.newel.faultCause.testBit 0 then 1 else 0) + (if s.newel.faultCause.testBit 7 then 128 else 0)
  ({ s with
    newel := { s.newel with faultCause := left, faultHeld := s.newel.pins.fault }
    clocks := s.clocks.map (fun c => { c with fault := false, outside := false }) } : State).dropCauses (2 ^ 9)

/-- WARM_RST_N_RELEASE: the warm sequence runs; a cold sequence that has not reached READY runs again from step 4 (R496). -/
def execWarmRstNRelease (t : Nat) (facts : BootFacts) (s : State) : Host.Outcome State Fault Refusal :=
  let s : State := s.at t
  .next (
    if !s.boot.warmHeld || s.boot.coldHeld then s
    else
      let s : State := s.modBoot (fun b => { b with warmHeld := false })
      if s.newel.booted then s.clearWarm.warmSequence facts
      else (s.modBoot (fun b => { b with stopped := false })).coldFrom4 facts)

/-! Attestation (R515, R516) -/

/-- R500: the measurement of the image that runs. -/
def State.firmwareMeasurement (s : State) : List Byte :=
  let image := (s.slot s.boot.running).image
  if image.isEmpty then leBytes 32 Config.firmwareMeasurement.toNat else sm3 (image.take (image.length - 64))

/-- An entry of the report: its kind, flags, slot and measurement. -/
def reportEntry (kind : Nat) (bound staged : Bool) (slot : Nat) (measurement : List Byte) : List Byte :=
  leBytes 1 kind ++ leBytes 1 (bit01 bound 0 + bit01 staged 1) ++ leBytes 2 slot ++ leBytes 4 0 ++ measurement

/-- The entries, by kind and slot. -/
def State.reportEntries (s : State) : List (List Byte) :=
  let bound := s.activeView.boundSlots
  let models := (List.range 16).filterMap (fun m =>
    let x := s.model m
    if x.st == .valid || x.st == .invalid then some (reportEntry 1 (s.cfgB 0x4100 1 && s.cfg 0x4100 2 == m) false m x.measurement) else none)
  let programs (kind base : Nat) : List (List Byte) := (List.range 256).filterMap (fun k =>
    let i := base + k
    let active := s.cfgBytes i 1
    let staged := match alGet (objKey i 1) s.dict.shadow with | some v => v.toBytes | none => []
    if active.isEmpty && staged.isEmpty then none
    else some (reportEntry kind (bound.contains i) (!staged.isEmpty) i (progMeasurement (if active.isEmpty then staged else active))))
  models ++ programs 2 0xC000 ++ programs 3 0xD000

/-- R516: the report for a nonce. -/
def State.attestation (s : State) (nonce : List Byte) (sequence draw : Nat) : List Byte :=
  let x := s.slot s.boot.running
  let entries := s.reportEntries
  let body := leBytes 4 0x5A415431 ++ leBytes 2 1 ++ leBytes 2 entries.length ++ leBytes 4 (328 + 40 * entries.length + 64) ++ leBytes 4 sequence ++ slice nonce 0 16
    ++ leBytes 8 s.dict.part.serial ++ leBytes 8 s.tb.curFrame ++ leBytes 8 s.time ++ leBytes 2 (s.cfg 0x1009 0) ++ leBytes 1 s.boot.running
    ++ leBytes 1 (if x.st == .trial then 4 else 3) ++ leBytes 4 (s.cfg 0x100A 0) ++ leBytes 2 x.securityVersion ++ leBytes 2 s.boot.minSecurity ++ leBytes 4 s.ctl.activeSetId
    ++ s.firmwareMeasurement ++ leBytes 32 (Config.newelMeasurement x.image).toNat ++ sm3 (s.cfgBytes 0xA000 1) ++ sm3 s.boot.unitRecord
    ++ leBytes 64 (leNat s.dict.part.identityKey) ++ leBytes 64 (leNat s.dict.part.endorsement) ++ entries.flatten
  body ++ s.identitySign draw (sm3 body)

/-- ATTESTATION_REPORT_BUILD: the report for the last nonce written replaces the one before (R515). -/
def execAttestationReportBuild (t : Nat) (s : State) : Host.Outcome State Fault Refusal :=
  let s : State := s.at t
  .next (
    match s.boot.nonce with
    | none => s
    | some nonce =>
      let sequence := (s.boot.reportSequence + 1) % u32Mod
      let (k, s) := s.draw
      let report := s.attestation nonce sequence k
      s.modBoot (fun b => { b with nonce := none, report := report, reportSequence := sequence }))

end Sys2Proof.Machine
end

