-- ==== Sys2Proof/Machine/Odp.lean ====
section
/-!
DEFINITION. The Opertex Dictionary Protocol (02_dictionary.md R38 to R58, 16_startup_security.md R510): messages, sessions, and the commands READ to ABORT, SUBSCRIBE, SETUP_REQUEST, CLOSE,
KEEP_ALIVE, SESSION_IDLE_TIMEOUT, KEEP_ALIVE_TIMER, SUBSCRIPTION_NOTICE and COUNTER_CLEAR.
-/
namespace Sys2Proof.Machine
open Sys2Proof

/-! Messages (R39) -/

/-- The header of a message. `reserved` holds FLAGS [7:3] in its low 5 bits and the header's reserved field above them. -/
def odpHeader (version kind opcode flags session xid counter status length reserved : Nat) : List Byte :=
  leBytes 1 version ++ leBytes 1 kind ++ leBytes 1 opcode ++ leBytes 1 (flags % 8 + 8 * (reserved % 32)) ++ leBytes 4 session ++ leBytes 4 xid ++ leBytes 8 counter
    ++ leBytes 2 status ++ leBytes 2 length ++ leBytes 8 (reserved / 32)

/-- The bytes of a message that its tag covers. -/
def OdpMsg.signed (m : OdpMsg) (kind opcode : Nat) : List Byte :=
  odpHeader m.version kind opcode m.flags m.session m.xid m.counter m.status m.length m.reserved ++ m.payload

/-- A message from its bytes: KIND, OPCODE and the rest. Setup messages carry no tag. -/
def odpParse (tr : Transport) (b : List Byte) : Nat × Nat × OdpMsg :=
  let kind := fieldAt b 1 1
  let tagged := kind != 3 && kind != 4
  let body := if tagged then b.length - 64 else b.length - 32
  (kind, fieldAt b 2 1,
   { transport := tr, source := 0, version := fieldAt b 0 1, flags := fieldAt b 3 1 % 8, session := fieldAt b 4 4, xid := fieldAt b 8 4, counter := fieldAt b 12 8, status := fieldAt b 20 2,
     length := fieldAt b 22 2, reserved := fieldAt b 3 1 / 8 + 32 * fieldAt b 24 8, payload := (b.drop 32).take body, tag := if tagged then (b.drop 32).drop body else [] })

/-- R39: what 0x010E refuses: a wrong VERSION, a reserved KIND or OPCODE, a LENGTH that disagrees with the datagram, a reserved field that is not zero. DESIGN CHOICE (log entry 19): of a
client, KIND 1, 2 and 4, which only the device sends, are refused so too. -/
def OdpMsg.malformed (m : OdpMsg) (kind opcode : Nat) : Bool :=
  m.version != 1 || m.reserved != 0 || m.status != 0 || m.length != m.payload.length || !([0, 3, 5, 6].contains kind) || (kind == 0 && (opcode == 0 || decide (9 < opcode)))

/-! Sessions -/

def State.session? (s : State) (id : Nat) : Option Session := s.odp.sessions.find? (fun x => x.id == id)
def State.modSession (s : State) (id : Nat) (f : Session → Session) : State := { s with odp := { s.odp with sessions := modFirst (fun x => x.id == id) f s.odp.sessions } }

/-- R38: the transport takes ODP; the management port where it is up (R464). -/
def State.odpEnabled (s : State) (tr : Transport) : Bool :=
  match tr with
  | .mgmt => !s.mgmtDown
  | .ring _ => true
  | .mailbox _ => s.cfgB 0x1010 5
  | .peer _ => s.cfgB 0x1010 6

/-- A message of a session, with its counter and tag (R40, R47). -/
def State.odpSend (s : State) (x : Session) (kind opcode flags xid status : Nat) (payload : List Byte) : List Byte × State :=
  let body := odpHeader 1 kind opcode flags x.id xid x.txCounter status payload.length 0 ++ payload
  (body ++ hmacSm3 x.key body, s.modSession x.id (fun x => { x with txCounter := x.txCounter + 1, sent := s.now }))

/-- A response with a status and a payload. -/
def respOf (opcode status : Nat) (payload : List Byte) : OdpResp := ⟨opcode, 0, status, payload⟩

/-! References and values (R41) -/

structure ObjRef where
  idx : Nat
  sub : Nat
  ty : Nat
  deriving DecidableEq, Repr

def refOf (b : List Byte) : ObjRef := ⟨fieldAt b 0 2, fieldAt b 2 1, fieldAt b 3 1⟩
def refBytes (idx sub : Nat) (r : ObjRow) : List Byte := leBytes 2 idx ++ leBytes 1 sub ++ leBytes 1 r.ty.code

/-- R32, R41: the row that a request's reference names, or its refusal. `dom` is whether the operation is a block operation; `any` accepts every type. -/
def resolve (r : ObjRef) (dom any : Bool) : Except Nat ObjRow :=
  if 0xF000 ≤ r.idx then .error 0x0102
  else match objFind r.idx r.sub with
  | none => .error 0x0101
  | some row => if row.ty.code != r.ty || (!any && (row.ty == .dom) != dom) then .error 0x0103 else .ok row

/-- The copy of an object that a READ shows: the shadow copy of an RWS object on request (R29). -/
def State.copyOf (s : State) (shadow : Bool) (row : ObjRow) (idx sub : Nat) : Value := s.objVal (shadow && row.access == .rws) idx sub

/-! READ, BLOCK READ, SUBSCRIBE -/

/-- READ (R36, R41). -/
def State.odpRead (s : State) (flags : Nat) (p : List Byte) : OdpResp × State :=
  let r := refOf p
  if p.length != 4 then (respOf 1 0x010E [], s)
  else match resolve r false (flags.testBit 1) with
  | .error e => (respOf 1 e [], s)
  | .ok row =>
    let one (sub : Nat) (row : ObjRow) : List Byte :=
      let v := valueBytes row.ty (s.copyOf (flags.testBit 0) row r.idx sub)
      refBytes r.idx sub row ++ leBytes 2 v.length ++ v
    if flags.testBit 1 then
      (respOf 1 0 ((List.range 256).flatMap (fun sub => match objFind r.idx sub with
        | some row => if row.ty == .dom || row.access == .wo then [] else one sub row
        | none => [])), s)
    else if row.access == .wo then (respOf 1 0x0102 [], s)
    else (respOf 1 0 (one r.sub row), s)

/-- BLOCK READ (R41, R508); of a Tally with a word lost, 0x0802 (R331). DESIGN CHOICE (log entry 19): an offset beyond the value's end answers 0x0104. -/
def State.odpBlockRead (s : State) (flags : Nat) (p : List Byte) : OdpResp × State :=
  let r := refOf p
  if p.length != 8 then (respOf 3 0x010E [], s)
  else match resolve r true false with
  | .error e => (respOf 3 e [], s)
  | .ok row =>
    let shadow := flags.testBit 0 && (alGet (objKey r.idx r.sub) s.dict.shadow).isSome
    if row.access == .wo then (respOf 3 0x0102 [], s)
    else if !s.boot.domsLoaded && isStored r.idx r.sub && !shadow then (respOf 3 0x0B12 [], s)
    else if r.sub == 0x0A && s.mem.tallyLost.contains r.idx then (respOf 3 0x0802 [], s)
    else
      let b := (s.copyOf (flags.testBit 0) row r.idx r.sub).toBytes
      let o := fieldAt p 4 4
      if b.length < o then (respOf 3 0x0104 [], s)
      else
        let seg := (b.drop o).take 1024
        (⟨3, if b.length ≤ o + seg.length then 4 else 0, 0, leBytes 4 o ++ leBytes 4 b.length ++ seg⟩, s)

/-- SUBSCRIBE (R43). DESIGN CHOICE (log entry 19): a WO object is refused with 0x0102. -/
def State.odpSubscribe (s : State) (x : Session) (p : List Byte) : OdpResp × State :=
  let r := refOf p
  if p.length != 6 then (respOf 9 0x010E [], s)
  else match resolve r false true with
  | .error e => (respOf 9 e [], s)
  | .ok row =>
    let n := fieldAt p 4 2
    let others := x.subs.filter (fun y => !(y.idx == r.idx && y.sub == r.sub))
    if row.access == .wo then (respOf 9 0x0102 [], s)
    else if n != 0 && decide (256 ≤ others.length) then (respOf 9 0x0104 [], s)
    else
      let subs := if n == 0 then others else others ++ [⟨r.idx, r.sub, n, some (s.live r.idx r.sub), none⟩]
      (respOf 9 0 (leBytes 2 subs.length), s.modSession x.id (fun x => { x with subs := subs }))

/-! WRITE -/

/-- What a WRITE of an accepted value does; a status other than 0 is a refusal of the object's own (R35, R287, R348, R375, R511, R512). -/
def State.writeObj (s : State) (idx sub n : Nat) : Nat × State :=
  let plain := s.setObj idx sub n
  if isCounterIndex idx && sub == 0xFE then (0, { s with dict := s.dict.clearCounters idx n })
  else if idx == 0x7003 then (match s.adminOut false 0 n with | some t => (0, t) | none => (0x0708, s))
  else if idx == 0x7004 then (match s.adminOut true (sub - 1) n with | some t => (0, t) | none => (0x0708, s))
  else if idx == 0x7220 then (if n != 0 && !s.strict then (0x0725, s) else (0, s.replayEnable (n != 0)))
  else if 0x8200 ≤ idx ∧ idx < 0x8280 then (0, if n != 0 then s.flushBuffer (idx - 0x8200) else s)
  else if idx == 0xA100 && sub == 5 then (match s.activate n with | some t => (0, t) | none => (0x0B08, s))
  else if idx == 0xA100 && sub == 6 then (match s.confirm with | some t => (0, t) | none => (0x0B0E, s))
  else (0, if isStored idx sub then plain.dueSave else plain)

/-- The value of a WRITE or STAGE against its object (R28): a refusal, or the value. DESIGN CHOICE (log entry 19): a length that does not fit the type answers 0x0103. -/
def valueIn (row : ObjRow) (sub : Nat) (b : List Byte) : Except Nat Value :=
  if !sizeOk row.ty b then .error 0x0103
  else
    let v := valueOf row.ty b
    if row.rangeOk sub v then .ok v else .error 0x0104

/-- The payload of a WRITE or STAGE has its form (R41): the value length agrees, and the reserved field is zero. -/
def writeForm (p : List Byte) : Bool := decide (8 ≤ p.length) && fieldAt p 6 2 == 0 && fieldAt p 4 2 == p.length - 8

/-- WRITE (R29, R41). -/
def State.odpWrite (s : State) (p : List Byte) : OdpResp × State :=
  let r := refOf p
  if !writeForm p then (respOf 2 0x010E [], s)
  else match resolve r false false with
  | .error e => (respOf 2 e [], s)
  | .ok row =>
    if row.access != .rw && row.access != .wo then (respOf 2 0x0102 [], s)
    else match valueIn row r.sub (p.drop 8) with
    | .error e => (respOf 2 e [], s)
    | .ok v => let (e, t) := s.writeObj r.idx r.sub v.toNum; (respOf 2 e [], t)

/-! STAGE, CHECK, COMMIT, ABORT (R52 to R56) -/

/-- R52: who may act on the staged set: a refusal, or the state with an ownerless set claimed. -/
def State.gate (s : State) (x : Session) : Except Nat State :=
  if s.ctl.st != .idle && s.ctl.owner != 0 && s.ctl.owner != x.id then .error 0x0105
  else if s.ctl.st == .pending then .error 0x010A
  else .ok (if s.ctl.st != .idle && s.ctl.owner == 0 then { s with ctl := { s.ctl with owner := x.id } } else s)

/-- R52: one more object is staged. -/
def State.stageValue (s : State) (x : Session) (idx sub : Nat) (v : Value) : Nat × State :=
  let key := objKey idx sub
  if 4096 ≤ s.dict.shadow.length && (alGet key s.dict.shadow).isNone then (0x0113, s)
  else
    let rev := if s.ctl.st == .idle then 1 else (s.ctl.stagedRev + 1) % u32Mod
    (0, { s with dict := { s.dict with shadow := alSet key v s.dict.shadow }, ctl := { s.ctl with st := .staging, owner := x.id, stagedRev := rev } })

/-- STAGE. -/
def State.odpStage (s : State) (x : Session) (p : List Byte) : OdpResp × State :=
  let r := refOf p
  if !writeForm p then (respOf 5 0x010E [], s)
  else match resolve r false false with
  | .error e => (respOf 5 e [], s)
  | .ok row =>
    match s.gate x with
    | .error e => (respOf 5 e [], s)
    | .ok s =>
      if row.access != .rws then (respOf 5 0x0102 [], s)
      else match valueIn row r.sub (p.drop 8) with
      | .error e => (respOf 5 e [], s)
      | .ok v =>
        let (e, s) := s.stageValue x r.idx r.sub v
        (respOf 5 e (if e == 0 then leBytes 4 s.ctl.stagedRev else []), s)

/-- CHECK (R53). -/
def State.odpCheck (s : State) (x : Session) (p : List Byte) : OdpResp × State :=
  if !p.isEmpty then (respOf 6 0x010E [], s)
  else match s.gate x with
  | .error e => (respOf 6 e [], s)
  | .ok s =>
    let (f, margin, s) := s.checkView
    let s : State := s.recordCheck f margin
    let rev := s.ctl.stagedRev
    let s : State :=
      if f.result == 0 then { s with ctl := { s.ctl with st := .checked, owner := x.id } }
      else if s.ctl.st == .checked then { s with ctl := { s.ctl with st := .staging } }
      else s
    (respOf 6 (if f.result == 0 then 0 else 0x0106) (leBytes 2 f.result ++ leBytes 4 rev), s)

/-- R56: the commit cut-off of frame K has passed, on the tick clock. -/
def State.pastCutOff (s : State) (k : Nat) : Bool :=
  let cut : Int := s.tickOf (k - 1) + (s.us 0x2016 1 : Int) - (s.us 0x1F00 3 : Int)
  decide (cut < (s.now : Int) + s.tb.tickOffset)

/-- R56, R66: the status of a COMMIT for frame K: in FREE_RUN every COMMIT is refused. In replay, K names a frame not yet replayed (R376).
DESIGN CHOICE (log entry 19): before the timebase has ever locked, no frame has a tick and a COMMIT answers 0x0107. -/
def State.commitStatus (s : State) (x : Session) (k rev : Nat) : Nat :=
  let replaying := s.det.replay == .replaying || s.det.replay == .leaving
  if s.tb.st == .freeRun then 0x0107
  else if s.ctl.st != .idle && s.ctl.owner != 0 && s.ctl.owner != x.id then 0x0105
  else if s.ctl.st == .pending then 0x010A
  else if s.ctl.st != .checked then 0x0108
  else if rev != s.ctl.checkedRev then 0x0109
  else if s.tb.curFrame + 65536 < k then 0x0104
  else if (s.tb.ticked && decide (k ≤ s.tb.curFrame)) then 0x0107
  else if !replaying && (!s.tb.everLocked || s.pastCutOff k) then 0x0107
  else 0

/-- COMMIT. -/
def State.odpCommit (s : State) (x : Session) (p : List Byte) : OdpResp × State :=
  if p.length != 12 then (respOf 7 0x010E [], s)
  else
    let k := fieldAt p 0 8
    let e := s.commitStatus x k (fieldAt p 8 4)
    let owned : Nat := if e != 0x0105 && (s.ctl.st == .checked || s.ctl.st == .staging) && s.ctl.owner == 0 then x.id else s.ctl.owner
    let s : State := { s with ctl := { s.ctl with lastStatus := e, owner := owned } }
    if e == 0 then
      (respOf 7 0 (leBytes 8 k ++ leBytes 4 ((s.ctl.activeSetId + 1) % u32Mod)), { s with ctl := { s.ctl with st := .pending, target := k } })
    else (respOf 7 e [], if e == 0x0107 then s.count 0x1020 6 1 else s)

/-- ABORT (R52). -/
def State.odpAbort (s : State) (x : Session) (p : List Byte) : OdpResp × State :=
  if !p.isEmpty then (respOf 8 0x010E [], s)
  else if s.ctl.st == .idle then (respOf 8 0 [], s)
  else if s.ctl.owner != 0 && s.ctl.owner != x.id then (respOf 8 0x0105 [], s)
  else if s.ctl.st == .pending && (s.pastCutOff s.ctl.target && (s.det.replay == .live || s.det.replay == .entering)) then (respOf 8 0x0110 [], s)
  else (respOf 8 0 [], { s.dropStaged with mem := { s.mem with waking := [] } })

/-! BLOCK WRITE (R42, R510, R515) -/

def State.xfer? (s : State) (x : Session) (key : Nat) : Option BlockXfer := s.ctl.transfers.find? (fun t => t.session == x.id && t.key == key)

/-- A transfer goes on with the bytes received, or ends. -/
def State.setXfer (s : State) (x : Session) (key : Nat) (t : Option BlockXfer) : State :=
  let rest := s.ctl.transfers.filter (fun t => !(t.session == x.id && t.key == key))
  { s with ctl := { s.ctl with transfers := match t with | some t => rest ++ [t] | none => rest } }

/-- R42: a segment against its transfer: a refusal, or all the bytes received with it. -/
def takeSegment (row : ObjRow) (t : Option BlockXfer) (offset total : Nat) (seg : List Byte) : Except Nat (List Byte) :=
  match t with
  | none =>
    if offset != 0 then .error 0x010F
    else if !row.lengthOk total then .error 0x0104
    else if total < seg.length then .error 0x010F
    else .ok seg
  | some t => if offset != t.got.length || total != t.total || total < t.got.length + seg.length then .error 0x010F else .ok (t.got ++ seg)

/-- The fields of entry k of a table are within range (0x0104). R398: a RoCEv2 client that is enabled is bound to a queue pair, 1 to 0x00FF_FFFF. R399: a ring that is enabled has a size of 64 to 65,536 entries, a vector other than 0 and its entry 0
at a multiple of 4,096. -/
def tableEntryOk (rings : Bool) (b : List Byte) (k : Nat) : Bool :=
  if rings then
    let r := ringEntry b k
    !r.enabled || (decide (r.size ≤ 65536) && r.vector != 0 && r.base % 4096 == 0)
  else
    let c := clientEntry b k
    !c.enabled || c.transport != 1 || (decide (1 ≤ c.binding) && decide (c.binding ≤ 0xFFFFFF))

/-- R11, R398, R399: the reserved bits of every entry of a client table, or of a ring table, are zero. -/
def tableReservedOk (rings : Bool) (b : List Byte) : Bool :=
  (List.range (b.length / 32)).all (fun k =>
    let e := slice b (32 * k) 32
    let w := fieldAt e 0 4
    if rings then bitsAt w 6 2 == 0 && bitsAt w 19 13 == 0 && allZero (e.drop 18) else bitsAt w 3 5 == 0 && bitsAt w 16 16 == 0 && allZero (e.drop 20))

/-- R11, R504: a staged key table has its magic, every entry its SLOT, and every reserved field is zero. -/
def keyTableFormOk (b : List Byte) : Bool :=
  fieldAt b 0 4 == 0x5A4B5431 && allZero (slice b 12 52) &&
    (List.range 32).all (fun i => let e := slice b (64 + 96 * i) 96; fieldAt e 0 1 == i && fieldAt e 1 1 == 0 && bitsAt (fieldAt e 2 2) 6 10 == 0 && allZero (slice e 4 28))

/-- R61, R158, R298, R11: the tests of a staged value of its own, when it is whole: a refusal, or 0. The verifier's result is recorded in StagedVerify.
DESIGN CHOICE (log entry 66): a malformed key table is refused with 0x0B04, the one malformed-input status of its chapter's family. -/
def State.verifyDom (s : State) (idx sub : Nat) (b : List Byte) : Nat × State :=
  if 0xC000 ≤ idx ∧ idx < 0xE000 then
    if b.isEmpty then (0, s.setObj idx 9 0)
    else
      let (code, at') := verifyProgram (if idx < 0xD000 then .tread else .filter) (s.cfgBytes 0xA000 1) ((s.dict.val true 0x7200 1).toNum == 0) b
      (if code == 0 then 0 else 0x0113, s.setObj idx 9 (code * 2 ^ 24 + at' * 2 ^ 12))
  else if 0x1F10 ≤ idx ∧ idx < 0x1F30 then (if ruleVerifies b then 0 else 0x0113, s)
  else if idx == 0x4200 then (if libraryFormOk b then 0 else 0x0405, s)
  else if idx == 0xA000 then (if keyTableFormOk b then 0 else 0x0B04, s)
  else if idx == 0x8400 && (sub == 1 || sub == 2) then
    (if !tableReservedOk (sub == 2) b then 0x0204 else if (List.range (b.length / 32)).all (tableEntryOk (sub == 2) b) then 0 else 0x0104, s)
  else (0, s)

/-- R509, R510: the header of a firmware image, when block 0 is complete. -/
def firmwareHeaderOk (b : List Byte) (total : Nat) : Bool :=
  let n := fieldAt b 14 2
  fieldAt b 0 4 == 0x5A465731 && fieldAt b 4 2 == 1 && fieldAt b 8 4 == 0x14600 && decide (1 ≤ n) && decide (n ≤ 1018) && fieldAt b 22 4 == 0
    && allZero (slice b 26 4070) && total == 20544 + 4096 * n

/-- R509, R11: the unused entries of the check table are zero. -/
def checkTableOk (b : List Byte) : Bool := let n := fieldAt b 14 2; allZero (slice b (4096 + 16 * n) (16384 - 16 * n))

/-- R509: the check value of content block i. -/
def blockCheck (b : List Byte) (i : Nat) : Bool := (sm3 (leBytes 4 i ++ slice b (20480 + 4096 * i) 4096)).take 16 == slice b (4096 + 16 * i) 16

/-- R510: the first content block completed by bytes `lo` to `hi` whose check value does not match. -/
def badBlock (b : List Byte) (lo hi : Nat) : Option Nat :=
  let n := fieldAt b 14 2
  (List.range n).find? (fun i => decide (lo < 20480 + 4096 * (i + 1)) && decide (20480 + 4096 * (i + 1) ≤ hi) && !blockCheck b i)

/-- R510, R514: the image is whole: the slot's new state and the answer. -/
def State.acceptFirmware (s : State) (b : List Byte) : Nat × State :=
  let k := 1 - s.boot.running
  let put (st : FwState) : State := (s.modSlot k (fun x => { x with st := st, attempts := 0, securityVersion := fieldAt b 6 2, image := b })).headerWrite
  if !keySigns (s.cfgBytes 0xA000 1) 0 4 (sm3 (b.take (b.length - 64))) (b.drop (b.length - 64)) then (0x0B06, put .invalid)
  else if fieldAt b 6 2 < s.boot.minSecurity || s.cfg 0x1009 0 < fieldAt b 12 2 then (0x0B07, put .invalid)
  else (0, put .verified)

/-- R510: the blocks that `n` bytes reach are erased; whether the erasure has come that far, where it is not known to have, is free. -/
def State.erasedTo (s : State) (n : Nat) : Bool × State :=
  let k := 1 - s.boot.running
  let blocks := ceilDiv n 4096
  if blocks ≤ (s.slot k).erased then (true, s)
  else
    let (d, s) : Nat × State := s.freeChoice 26 2
    if d == 0 then (true, s.modSlot k (fun y => { y with erased := blocks })) else (false, s)

/-- R510: a segment of a firmware image, after the tests of R42: the answer, the bytes received, and the transfer that goes on. -/
def State.firmwareSegment (s : State) (x : Session) (key total before : Nat) (got : List Byte) (last : Bool) : OdpResp × State :=
  let answer (e n : Nat) (t : Option BlockXfer) (s : State) : OdpResp × State := (respOf 4 e (leBytes 4 n), s.setXfer x key t)
  let s : State := if before == 0 then (s.modSlot (1 - s.boot.running) (fun y => { y with st := .writing, image := [], securityVersion := 0, erased := 0 })).headerWrite else s
  let (erased, s) := s.erasedTo got.length
  if !erased then answer 0x0B05 before (if before == 0 then none else some ⟨x.id, key, total, got.take before⟩) s
  else if before < 4096 && 4096 ≤ got.length && !firmwareHeaderOk got total then answer 0x0B04 0 none s
  else if before < 20480 && 20480 ≤ got.length && !checkTableOk got then answer 0x0B04 0 none s
  else match badBlock got before got.length with
  | some i => let n := 20480 + 4096 * i; answer 0x0B03 n (some ⟨x.id, key, total, got.take n⟩) s
  | none =>
    if !last then answer 0 got.length (some ⟨x.id, key, total, got⟩) s
    else if got.length != total || got.length < 4096 then answer 0x010F 0 none s
    else let (e, s) := s.acceptFirmware got; answer e got.length none s

/-- A whole value written without SHADOW: an attestation nonce, the one such object besides the firmware image. -/
def State.writeNonce (s : State) (b : List Byte) : State := s.modBoot (fun y => { y with nonce := some b })

/-- R42, R507: a whole value written with SHADOW is verified and staged. -/
def State.stageDom (s : State) (x : Session) (r : ObjRef) (b : List Byte) : Nat × State :=
  let (e, s) := s.verifyDom r.idx r.sub b
  if e != 0 then (e, s)
  else
    let (e, s) := s.stageValue x r.idx r.sub (.blob b)
    (e, if e == 0 && isStored r.idx r.sub then s.logStagedDom (objKey r.idx r.sub) b else s)

/-- BLOCK WRITE. DESIGN CHOICE (log entry 19): SHADOW to a WO DOM is refused with 0x0102. -/
def State.odpBlockWrite (s : State) (x : Session) (flags : Nat) (p : List Byte) : OdpResp × State :=
  let r := refOf p
  let key := objKey r.idx r.sub
  let shadow := flags.testBit 0
  if p.length < 12 || 1036 < p.length then (respOf 4 0x010E [], s)
  else match resolve r true false with
  | .error e => (respOf 4 e [], s)
  | .ok row =>
    if (row.access == .rws) != shadow || !(row.access == .rws || row.access == .wo) then (respOf 4 0x0102 [], s)
    else match (if shadow then s.gate x else .ok s) with
    | .error e => (respOf 4 e [], s)
    | .ok s =>
      let total := fieldAt p 8 4
      let t := s.xfer? x key
      match takeSegment row t (fieldAt p 4 4) total (p.drop 12) with
      | .error e => (respOf 4 e (leBytes 4 0), s.setXfer x key none)
      | .ok got =>
        let before : Nat := match t with | some t => t.got.length | none => 0
        if r.idx == 0xA100 then s.firmwareSegment x key total before got (flags.testBit 2)
        else if !flags.testBit 2 then (respOf 4 0 (leBytes 4 got.length), s.setXfer x key (some ⟨x.id, key, total, got⟩))
        else
          let s : State := s.setXfer x key none
          if got.length != total then (respOf 4 0x010F (leBytes 4 0), s)
          else if shadow then let (e, s) := s.stageDom x r got; (respOf 4 e (leBytes 4 got.length), s)
          else (respOf 4 0 (leBytes 4 got.length), s.writeNonce got)

/-! Requests (R44, R49) -/

/-- R49: a request runs, or is refused to a READER. -/
def State.odpRun (s : State) (x : Session) (opcode flags : Nat) (p : List Byte) : OdpResp × State :=
  if !x.roles.testBit 1 && !([1, 3, 9].contains opcode) then (respOf opcode 0x0102 [], s)
  else match opcode with
  | 1 => s.odpRead flags p
  | 2 => s.odpWrite p
  | 3 => s.odpBlockRead flags p
  | 4 => s.odpBlockWrite x flags p
  | 5 => s.odpStage x p
  | 6 => s.odpCheck x p
  | 7 => s.odpCommit x p
  | 8 => s.odpAbort x p
  | _ => s.odpSubscribe x p

/-- A request's answer: the kept one, a refusal under R44, or its execution, which is kept. -/
def State.odpRequest (s : State) (x : Session) (opcode flags xid : Nat) (p : List Byte) : OdpResp × State :=
  match x.kept.find? (fun k => k.1 == xid) with
  | some k => (k.2, s.count 0x1020 4 1)
  | none =>
    if !x.kept.isEmpty && x.kept.all (fun k => seqAfter xid k.1) then (respOf opcode 0x010D [], s)
    else
      let (r, s) := (s.count 0x1020 1 1).odpRun x opcode flags p
      (r, s.modSession x.id (fun x => let kept := x.kept ++ [(xid, r)]; { x with kept := kept.drop (kept.length - 64) }))

/-! Setup (R46 to R48) -/

/-- SETUP: the response, which carries no tag, and the session opened. -/
def State.odpSetup (s : State) (tr : Transport) (opcode : Nat) (m : OdpMsg) : List Byte × State :=
  let refuse (e : Nat) : List Byte := odpHeader 1 4 opcode 0 0 m.xid 0 e 0 0
  let keyId := fieldAt m.payload 0 4
  let table := s.cfgBytes 0xA000 1
  let roles := keyRoles table keyId
  if m.malformed 3 opcode || m.session != 0 || m.payload.length != 148 then (refuse 0x010E, s)
  else if (!roles.testBit 0 && !roles.testBit 1) || decide (s.cfg 0x1010 2 ≤ s.odp.sessions.length) then (refuse 0x010B, s.count 0x1020 5 1)
  else if !sm2Verify (keyPublic table keyId) (sm3 ((m.signed 3 opcode).take 116)) (slice m.payload 84 64) then (refuse 0x010C, s.count 0x1020 5 1)
  else
    let (k, s) := s.draw
    let id := s.odp.nextId
    let nonce := leBytes 16 (Config.deviceNonce k).toNat
    let clientNonce := slice m.payload 4 16
    let secret := sm2Scalar (Config.deviceSecret k).toNat
    let key := sm2Kdf32 (sm2SharedX secret (slice m.payload 20 64) ++ clientNonce ++ nonce)
    let body := odpHeader 1 4 opcode 0 id m.xid 0 0 148 0 ++ leBytes 4 id ++ nonce ++ sm2Public secret
    let x : Session := { id := id, keyId := keyId, roles := roles, key := key, transport := tr, rxCounter := 0, txCounter := 1, failedTags := 0, heard := s.now, sent := s.now, subs := [],
                         noticeNo := 0, kept := [] }
    (body ++ s.identitySign k (sm3 (body ++ clientNonce)),
     { s with odp := { sessions := s.odp.sessions ++ [x], nextId := if id == 4294967295 then 1 else id + 1 } })

/-! The server -/

/-- R40: the tag and the counter are tested before anything else; the answer is the session with the message accepted. -/
def State.odpAccept (s : State) (kind opcode : Nat) (m : OdpMsg) : Option Session × State :=
  match s.session? m.session with
  | none => (none, s)
  | some x =>
    if x.heard + s.cfg 0x1010 3 < s.now then (none, s.endSession x.id)
    else if hmacSm3 x.key (m.signed kind opcode) != m.tag then
      let s : State := s.count 0x1020 2 1
      (none, if 16 ≤ x.failedTags + 1 then s.endSession x.id else s.modSession x.id (fun x => { x with failedTags := x.failedTags + 1 }))
    else if m.counter ≤ x.rxCounter then (none, (s.modSession x.id (fun x => { x with failedTags := 0 })).count 0x1020 3 1)
    else
      let s : State := s.modSession x.id (fun x => { x with failedTags := 0, rxCounter := m.counter, heard := s.now })
      (s.session? x.id, s)

/-- One message: the bytes of its answer, where it has one. -/
def State.odpProcess (s : State) (tr : Transport) (kind opcode : Nat) (m : OdpMsg) : Option (List Byte) × State :=
  if !s.boot.ready || !s.odpEnabled tr then (none, s)
  else if kind == 3 then let (b, s) := s.odpSetup tr opcode m; (some b, s)
  else match s.odpAccept kind opcode m with
  | (none, s) => (none, s)
  | (some x, s) =>
    if m.malformed kind opcode then let (b, s) := s.odpSend x 1 opcode 0 m.xid 0x010E []; (some b, s)
    else if kind == 5 then (none, s.endSession x.id)
    else if kind == 6 then (none, s)
    else
      let (r, s) := s.odpRequest x opcode m.flags m.xid m.payload
      match s.session? x.id with
      | some x => let (b, s) := s.odpSend x 1 r.opcode r.flags m.xid r.status r.payload; (some b, s)
      | none => (none, s)

/-- R419: a message is placed in a channel's response area, and the channel's vector signalled. -/
def State.placeMailbox (s : State) (c : Nat) (b : List Byte) : State :=
  let s : State := { s with host := { s.host with mailboxes := modAt s.host.mailboxes c (fun x => { x with resp := b, placed := (x.placed + 1) % 65536 }) } }
  match s.host.mailboxes[c]? with
  | some x => s.send (.msix x.vector)
  | none => s

/-- A message leaves by a transport. -/
def State.odpDeliver (s : State) (tr : Transport) (b : List Byte) : State :=
  match tr with
  | .mailbox c => s.placeMailbox c b
  | .peer p => s.sendInput p (.odp tr b)
  | .mgmt => s.sendMgmt (.odp tr b)
  | .ring _ => s.send (.odp tr b)

/-- One message from outside, and its answer. -/
def State.odpMessage (s : State) (t kind opcode : Nat) (m : OdpMsg) : State :=
  match (s.at t).odpProcess m.transport kind opcode m with
  | (some b, s) => s.odpDeliver m.transport b
  | (none, s) => s

/-! The commands -/

/-- READ (R41). -/
def execRead (t : Nat) (m : OdpMsg) (s : State) : Host.Outcome State Fault Refusal := .next (s.odpMessage t 0 1 m)
/-- WRITE (R41). -/
def execWrite (t : Nat) (m : OdpMsg) (s : State) : Host.Outcome State Fault Refusal := .next (s.odpMessage t 0 2 m)
/-- BLOCK_READ (R41). -/
def execBlockRead (t : Nat) (m : OdpMsg) (s : State) : Host.Outcome State Fault Refusal := .next (s.odpMessage t 0 3 m)
/-- BLOCK_WRITE (R41, R42). -/
def execBlockWrite (t : Nat) (m : OdpMsg) (s : State) : Host.Outcome State Fault Refusal := .next (s.odpMessage t 0 4 m)
/-- STAGE (R41, R52). -/
def execStage (t : Nat) (m : OdpMsg) (s : State) : Host.Outcome State Fault Refusal := .next (s.odpMessage t 0 5 m)
/-- CHECK (R41, R53). -/
def execCheck (t : Nat) (m : OdpMsg) (s : State) : Host.Outcome State Fault Refusal := .next (s.odpMessage t 0 6 m)
/-- COMMIT (R41, R56). -/
def execCommit (t : Nat) (m : OdpMsg) (s : State) : Host.Outcome State Fault Refusal := .next (s.odpMessage t 0 7 m)
/-- ABORT (R41, R52). -/
def execAbort (t : Nat) (m : OdpMsg) (s : State) : Host.Outcome State Fault Refusal := .next (s.odpMessage t 0 8 m)
/-- SUBSCRIBE (R41, R43). -/
def execSubscribe (t : Nat) (m : OdpMsg) (s : State) : Host.Outcome State Fault Refusal := .next (s.odpMessage t 0 9 m)
/-- SETUP_REQUEST (R46). Its OPCODE is 0. -/
def execSetupRequest (t : Nat) (m : OdpMsg) (s : State) : Host.Outcome State Fault Refusal := .next (s.odpMessage t 3 0 m)
/-- CLOSE (R50). -/
def execClose (t : Nat) (m : OdpMsg) (s : State) : Host.Outcome State Fault Refusal := .next (s.odpMessage t 5 0 m)
/-- KEEP_ALIVE (R39, R50). -/
def execKeepAlive (t : Nat) (m : OdpMsg) (s : State) : Host.Outcome State Fault Refusal := .next (s.odpMessage t 6 0 m)

/-- SESSION_IDLE_TIMEOUT: no valid message for OdpIdleTimeout: the session ends (R50). -/
def execSessionIdleTimeout (session : Nat) (s : State) : Host.Outcome State Fault Refusal :=
  .next (
    match s.session? session with
    | some x => ({ s with now := max s.now (x.heard + s.cfg 0x1010 3) }).endSession session
    | none => s)

/-- KEEP_ALIVE_TIMER: an idle session is sent a keep-alive every OdpKeepAlive (R39, R51). -/
def execKeepAliveTimer (session : Nat) (s : State) : Host.Outcome State Fault Refusal :=
  .next (
    match s.session? session with
    | some x =>
      let s : State := { s with now := max s.now (max x.heard x.sent + s.cfg 0x1010 4) }
      let (b, s) := s.odpSend x 6 0 0 0 0 []
      s.odpDeliver x.transport b
    | none => s)

/-- SUBSCRIPTION_NOTICE: the value of a subscribed object has changed, at least an interval after the last notice (R43). A DOM is too long for a notice, which then carries no value. -/
def execSubscriptionNotice (session idx sub : Nat) (s : State) : Host.Outcome State Fault Refusal :=
  .next (
    match s.session? session, objFind idx sub with
    | some x, some row =>
      match x.subs.find? (fun y => y.idx == idx && y.sub == sub) with
      | some y =>
        let v := s.live idx sub
        let due := match y.lastFrame with | some f => decide (f + y.interval ≤ s.tb.curFrame) | none => true
        if y.last == some v || !due then s
        else
          let payload := refBytes idx sub row ++ leBytes 4 x.noticeNo ++ leBytes 8 s.tb.curFrame ++ (if row.ty == .dom then [] else valueBytes row.ty v)
          let s : State := s.modSession session (fun x => { x with noticeNo := (x.noticeNo + 1) % u32Mod
                                                                   subs := modFirst (fun z => z.idx == idx && z.sub == sub) (fun z => { z with last := some v, lastFrame := some s.tb.curFrame }) x.subs })
          let (b, s) := s.odpSend ((s.session? session).getD x) 2 0 0 0 0 payload
          s.odpDeliver x.transport b
      | none => s
    | _, _ => s)

/-- COUNTER_CLEAR: a write of ClearMask (R35). -/
def execCounterClear (idx mask : Nat) (s : State) : Host.Outcome State Fault Refusal :=
  .next (if isCounterIndex idx then { s with dict := s.dict.clearCounters idx mask } else s)

end Sys2Proof.Machine
end

