-- ==== Sys2Proof/Machine/HostRings.lean ====
section
/-!
DEFINITION. The host interface's rings and registers (13_host_interface.md R390 to R407, R416, R419 to R421): DOORBELL, DESCRIPTOR_FETCH, DESCRIPTOR_ACCEPT, INTERRUPT_MODERATION_TIMER,
APERTURE_BASE_WRITE, RECOVERY_CONTROL, REQ_LEN, the commands of RoCEv2 and UDP clients, LINK_TRAINED and BUS_MASTER_ENABLE_WRITE.
-/
namespace Sys2Proof.Machine
open Sys2Proof

/-! Doorbells (R402) -/

/-- R402: a doorbell moves a ring's index, or is ignored and counted. -/
def State.ringDoorbell (s : State) (r v : Nat) : State :=
  match s.ring? r with
  | none => s
  | some x =>
    let size := (s.ringCfg r).size
    let far := if r % 4 == 0 then (v + u32Mod - x.consumer) % u32Mod else (x.producer + u32Mod - v) % u32Mod
    let back := seqAfter v (if r % 4 == 0 then x.producer else x.consumer)
    if x.st == .disabled then s
    else if decide (size < far) || back then ((s.setRing r { x with lastStatus := 0x0201 }).count 0x8402 4 1).raise 0x0201 r
    else if r % 4 == 0 then s.setRing r { x with producer := v }
    else
      let s : State := s.setRing r { x with consumer := v }
      if r % 4 == 2 then State.drainEvents 512 r s else s

/-- DOORBELL: a PCIe client writes a ring's doorbell. -/
def execDoorbell (t ring value : Nat) (s : State) : Host.Outcome State Fault Refusal :=
  let s : State := s.at t
  .next (if s.works && (s.ringClient ring).transport == 0 then s.ringDoorbell ring value else s)

/-! Fetching and refusal (R405, R406) -/

/-- R405: a submit ring's next descriptor may be fetched, but for the room that central dispatch and the journal need. One descriptor of a ring is in hand at a time. -/
def State.mayFetch (s : State) (r : Nat) : Bool :=
  let c := r / 4
  match s.ring? r with
  | some x =>
    s.accepts && !s.faulted && s.host.busMaster && !s.host.recovery && r % 4 == 0 && x.st == .active && x.producer != x.consumer
      && !s.host.fetched.any (fun f => f.ring == r)
      && !s.host.journal.any (fun j => j.waitsMirror && j.isDescriptor && j.owner == c)
      && decide (2 + x.outstanding ≤ s.ringRoom (r + 1))
  | none => false

/-- R371, R372: a candidate ID that a REGENERATE may carry: one with its reserved bits zero, or 0xFFFF_FFFF for a whole step where the kind allows it. -/
def regenerateIdOk (what cid : Nat) : Bool := if cid == 0xFFFFFFFF then what == 0 || what == 5 else bitsAt cid 18 8 == 0

/-- R401, R406: reserved bits are zero, CLIENT is the ring's owner, OPCODE is defined, and the lengths and fields of the opcode are in range. -/
def Desc.wellFormed (d : Desc) (owner : Nat) : Bool :=
  let b := d.specific
  let len := d.payloadLength
  d.reserved == 0 && d.client == owner && (match d.opcode with
    | 0 => len == 0 && allZero b
    | 1 => decide (1 ≤ len) && decide (len ≤ 32768) && allZero b
    | 2 => decide (1 ≤ len) && decide (len ≤ 1472) && decide (1472 ≤ fieldAt b 8 4) && allZero (b.drop 12)
    | 3 => decide (fieldAt b 0 1 < 16) && allZero (b.drop 1)
    | 4 => decide (len ≤ 82048) && decide (0xC000 ≤ fieldAt b 0 2) && decide (fieldAt b 0 2 < 0xE000) && (objFind (fieldAt b 0 2) 1).isSome && allZero (slice b 2 2) && allZero (b.drop 8)
    | 5 => decide (fieldAt b 16 1 < 4) && allZero (slice b 17 3)
    | 6 => decide (fieldAt b 10 1 ≤ 5) && allZero (slice b 11 1) && allZero (b.drop 20) && regenerateIdOk (fieldAt b 10 1) (fieldAt b 16 4)
    | 7 => decide (fieldAt b 8 1 ≤ 3) && allZero (b.drop 9)
    | _ => false)

/-- The tests of R406 in order: the status of the first that fails, and ORIGINAL_COMPLETED. -/
def State.testDesc (s : State) (r : Nat) (x : Ring) (d : Desc) (payloadOk : Bool) : Option (Nat × Bool) :=
  let original := !s.host.journal.any (fun j => j.isDescriptor && j.owner == r / 4 && j.sequence == d.sequence && j.st != .retired)
  if !d.wellFormed (r / 4) then some (0x0204, false)
  else if !(s.clientCfg (r / 4)).opcodes.testBit d.opcode then some (0x0205, false)
  else if x.seqSet && seqAfter d.sequence x.nextSeq then some (0x0203, original)
  else if x.seqSet && d.sequence != x.nextSeq then some (0x0202, false)
  else if d.opcode == 1 && !payloadOk then some (0x0206, false)
  else none

/-- A refused descriptor (R406): its REFUSED record, and CONSUMER. -/
def State.refuseDesc (s : State) (r : Nat) (d : Desc) (status : Nat) (original : Bool) : State :=
  let s : State := match s.ring? r with
    | some x => s.setRing r { x with consumer := (x.consumer + 1) % u32Mod, lastStatus := status }
    | none => s
  let s : State := s.ringPush (r + 1) (completionBytes d.sequence d.client 3 d.userTag status 0 s.tb.curFrame false original) false
  let s : State := s.count 0x8402 2 1
  if status == 0x0206 then s.count 0x8402 9 1 else s

/-- A fetched descriptor is tested: refused, or held for its acceptance. -/
def State.takeDesc (s : State) (r : Nat) (d : Desc) (payload : List Byte) (payloadOk : Bool) : State :=
  match s.ring? r with
  | none => s
  | some x =>
    match s.testDesc r x d payloadOk with
    | some (status, original) => s.refuseDesc r d status original
    | none => { s with host := { s.host with fetched := s.host.fetched ++ [⟨r, x.consumer, d, payload, payloadOk⟩] } }

/-- Bytes a client has written to host buffer space, through BAR4 or by a RoCEv2 WRITE, since the device last looked. -/
def State.hostWrote (s : State) (address : Nat) (bytes : List Byte) : State :=
  { s with host := { s.host with buffer := memWriteBytes s.host.buffer address bytes } }

/-- The payload of a descriptor that carries one, from host memory or host buffer space. -/
def State.payloadOf (s : State) (d : Desc) (payload : List Byte) (readOk : Bool) : List Byte × Bool × State :=
  let p := slice payload 0 d.payloadLength
  if !([1, 2, 3, 4, 5].contains d.opcode) then ([], true, s)
  else if d.devicePayload then
    if d.payloadAddress + d.payloadLength ≤ hostBufferSize then (p, true, s.hostWrote d.payloadAddress p) else ([], false, s)
  else (p, readOk, s)

/-- DESCRIPTOR_FETCH: the descriptor at a submit ring's CONSUMER is fetched and tested. `bytes` and `payload` are what the client has written at the ring's entry and at the payload's
address, in host memory or host buffer space; `readOk` is false where a read of the payload in host memory fails. -/
def execDescriptorFetch (t ring : Nat) (bytes payload : List Byte) (readOk : Bool) (s : State) : Host.Outcome State Fault Refusal :=
  let s : State := s.at t
  .next (
    if !s.mayFetch ring || decide (1 < (s.ringClient ring).transport) then s
    else
      let (room, s) := s.takeRoom 0
      if !room then s
      else
        let rc := s.ringCfg ring
        let at' := match s.ring? ring with | some x => rc.base + 64 * (x.consumer % rc.size) | none => 0
        let entry := slice bytes 0 64
        let s : State := if rc.inBuffer then s.hostWrote at' entry else s
        let d := descOf entry
        let (p, ok, s) := s.payloadOf d payload readOk
        s.takeDesc ring d p ok)

/-- DESCRIPTOR_ACCEPT: the oldest fetched descriptor is admitted, journaled, stamped and accepted (R407); a stream packet whose ring no enabled stream names any more is refused (R124). -/
def execDescriptorAccept (t : Nat) (s : State) : Host.Outcome State Fault Refusal :=
  let s : State := s.at t
  .next (
    match s.host.fetched with
    | [] => s
    | f :: rest =>
      if !s.accepts then s
      else if f.desc.opcode == 1 && (s.streamBy 0 f.ring).isNone then ({ s with host := { s.host with fetched := rest } }).refuseDesc f.ring f.desc 0x0205 false
      else
        let (ok, s) := s.takeRoom (if f.desc.opcode == 1 then f.payload.length else 0)
        if !ok then s
        else
          let s : State := { s with host := { s.host with fetched := rest } }
          s.acceptRecord
            { id := s.host.nextJournal, st := .accepted, isDescriptor := true, owner := f.desc.client, submitIndex := f.index, sequence := f.desc.sequence, stamp := s.time,
              completionIndex := 0, desc := some f.desc, payload := f.payload, payloadOk := f.payloadOk, completion := [], outcome := none, replayed := false, badA := false, badB := false, waitsMirror := false,
              ready := false })

/-! Registers and timers -/

/-- INTERRUPT_MODERATION_TIMER: MOD_TIME has passed since the first entry of a ring that has not been signalled (R399). -/
def execInterruptModerationTimer (t ring : Nat) (s : State) : Host.Outcome State Fault Refusal :=
  let s : State := s.at t
  .next (
    match s.ring? ring with
    | some x =>
      let rc := s.ringCfg ring
      if 0 < x.unsignalled && decide (x.firstUnsignalled + 1000 * rc.modTime ≤ s.now) then (s.setRing ring { x with unsignalled := 0 }).send (.msix rc.vector) else s
    | none => s)

/-- R395: a BAR4 access through the window: what lies beyond the end of host buffer space reads zero and takes no write, and ApertureMisses counts the access. -/
def State.bar4Access (s : State) (x : Bar4Access) : State :=
  let beyond (o n : Nat) : Bool := decide (hostBufferSize < s.host.apertureBase + o + n)
  match x with
  | .read o n => if beyond o n then s.count 0x8402 0x0A 1 else s
  | .write o b =>
    let s := s.hostWrote (s.host.apertureBase + o) (b.take (hostBufferSize - (s.host.apertureBase + o)))
    if beyond o b.length then s.count 0x8402 0x0A 1 else s

/-- APERTURE_BASE_WRITE: a multiple of 2 MiB moves the BAR4 window; any other value is discarded (R395). The BAR4 accesses that arrived before it went through the window as it was; before
READY they and the write are discarded (R392). -/
def execApertureBaseWrite (w : ApertureWrite) (s : State) : Host.Outcome State Fault Refusal :=
  .next (
    if !s.boot.ready then s
    else
      let s : State := w.before.foldl State.bar4Access s
      if w.value % 2097152 == 0 then { s with host := { s.host with apertureBase := w.value } } else s)

/-- R416 step 1: a COMPLETING record is written again unless the host has consumed it, and retired. -/
def State.resumeCompleting (s : State) (j : JRec) : State :=
  let r := 4 * j.owner + 1
  let s : State := match s.ring? r with
    | some x =>
      if seqAfter j.completionIndex x.consumer then s
      else (s.setRing r { x with entries := alSet (j.completionIndex % (s.ringCfg r).size) j.completion x.entries }).deliverEntry r j.completionIndex j.completion
    | none => s
  ((s.modRecord j.id (fun j => { j with st := .retired })).mirror { j with st := .retired }).2

/-- R416: RESUME. The ACCEPTED records wait their turn for descriptors (State.feedBacklog); the rings of a client whose connection is in error stay halted (R420). -/
def State.resume (s : State) : State :=
  let s : State := ((s.host.journal.filter (fun j => j.st == .completing)).foldl State.resumeCompleting s)
  let live := s.host.journal.any (·.unqueued)
  let s : State := ({ s with host := { s.host with recovery := false } }).feedBacklog
  let s : State := if live then s.raiseOpen s.tb.curFrame 0x020E else s
  let cut (r : Nat) : Bool := (s.ringClient r).transport == 1 && (s.qp (s.ringClient r).binding).error
  let s : State := (s.host.rings.map (·.1)).foldl (fun s r => if cut r then s else s.ringResumes r (s.ringReturns r)) s
  s.trimJournal.signalStatus

/-- RECOVERY_CONTROL: 0x1 written while RECOVERY is set resumes work. -/
def execRecoveryControl (t value : Nat) (s : State) : Host.Outcome State Fault Refusal :=
  let s : State := s.at t
  .next (if s.works && s.host.recovery && value == 1 then s.resume else s)

/-- REQ_LEN: the request in a mailbox channel is submitted and answered (R419). `vector` is what the host has written to the channel's VECTOR before; with no length the host has written
that alone. -/
def execReqLen (t channel : Nat) (length : Option Nat) (bytes : List Byte) (vector : Option Nat) (s : State) : Host.Outcome State Fault Refusal :=
  let s : State := s.at t
  .next (
    if !s.works then s
    else
      let s : State := match vector with
        | some v => { s with host := { s.host with mailboxes := modAt s.host.mailboxes channel (fun x => { x with vector := v }) } }
        | none => s
      match length with
      | none => s
      | some n =>
        let (kind, opcode, m) := odpParse (.mailbox channel) (bytes.take n)
        match s.odpProcess (.mailbox channel) kind opcode m with
        | (some b, s) => s.placeMailbox channel b
        | (none, s) => s)

/-! RoCEv2 clients (R420) -/

/-- R11: a record of a client with a non-zero reserved field is refused: LAST_STATUS of the ring it concerns. -/
def State.refuseReserved (s : State) (r : Nat) : State :=
  match s.ring? r with
  | some x => s.setRing r { x with lastStatus := 0x0204 }
  | none => s

/-- ROCE_DOORBELL: a WRITE with immediate on a client's queue pair rings its submit doorbell. -/
def execRoceDoorbell (t qp ring value : Nat) (s : State) : Host.Outcome State Fault Refusal :=
  let s : State := s.at t
  .next (if s.works && ring % 4 == 0 && (s.qpClients qp).contains (ring / 4) then s.ringDoorbell ring value else s)

/-- ROCE_CONSUMER_SEND: a SEND on a client's queue pair carries a consumer doorbell, refused where the body's reserved bytes are not zero (R11). -/
def execRoceConsumerSend (t qp ring : Nat) (body : ConsumerBody) (s : State) : Host.Outcome State Fault Refusal :=
  let s : State := s.at t
  .next (if s.works && ring % 4 != 0 && (s.qpClients qp).contains (ring / 4) then (if body.reserved == 0 then s.ringDoorbell ring body.value else s.refuseReserved ring) else s)

/-! UDP clients (R421) -/

/-- A datagram is dropped and counted. -/
def State.refuseDatagram (s : State) (client : Nat) : State := (s.count 0x8402 0x0B 1).raise 0x020F client

/-- R11: the reserved bytes of a datagram's header are zero. -/
def UdpDatagram.reservedOk (d : UdpDatagram) : Bool := allZero (slice d.bytes 24 8)

/-- R421: a valid datagram of a client: its counter, its session and its source are kept, and its consumer index acknowledges records, unless the header is refused (R11). -/
def State.udpHeard (s : State) (c : Nat) (d : UdpDatagram) : State :=
  let consumer := fieldAt d.bytes 20 4
  let u := s.udpClient c
  let u : UdpClient := { u with rxCounter := fieldAt d.bytes 12 8, source := some d.source, session := fieldAt d.bytes 8 4 }
  if d.reservedOk then (s.setUdp c { u with unacked := u.unacked.filter (fun p => !seqAfter p.index consumer) }).ringDoorbell (4 * c + 1) consumer
  else (s.setUdp c u).refuseReserved (4 * c + 1)

/-- R397: the transport of a client's datagrams: 2 by the peer ports, 3 by the management port. -/
def UdpDatagram.transport (d : UdpDatagram) : Nat := if d.port < 2 then 2 else 3

/-- R421: a datagram stands: it came by the client's transport, has the protocol's header and the kind expected, and the tag, the counter and the key of its session are right. -/
def State.datagramOk (s : State) (kind : Nat) (d : UdpDatagram) : Bool :=
  let b := d.bytes
  let c := fieldAt b 4 2
  let cc := s.clientCfg c
  let u := s.udpClient c
  let session := fieldAt b 8 4
  decide (64 ≤ b.length) && fieldAt b 0 4 == 0x5A524431 && fieldAt b 6 1 == kind && cc.enabled && cc.transport == d.transport && !(d.transport == 3 && s.mgmtDown)
    && (match s.session? session with
        | some x =>
          hmacSm3 x.key (b.take (b.length - 32)) == b.drop (b.length - 32) && x.keyId == cc.binding && !(u.session == session && decide (fieldAt b 12 8 ≤ u.rxCounter))
        | none => false)

/-- UDP_DESCRIPTOR_DATAGRAM: a client's datagram brings one descriptor with its payload inline, which is taken at once, or dropped where none may be fetched: the client sends it again. -/
def execUdpDescriptorDatagram (t : Nat) (d : UdpDatagram) (s : State) : Host.Outcome State Fault Refusal :=
  let s : State := s.at t
  .next (
    let c := fieldAt d.bytes 4 2
    if !s.works then s
    else if !s.datagramOk 0 d then s.refuseDatagram c
    else
      let s : State := s.udpHeard c d
      let ring := 4 * c
      let rung : State := match s.ring? ring with
        | some x => s.setRing ring { x with producer := (x.consumer + 1) % u32Mod }
        | none => s
      if !rung.mayFetch ring then s
      else
        let (room, s) := s.takeRoom 0
        if !room then s
        else
          let s : State := match s.ring? ring with
            | some x => s.setRing ring { x with producer := (x.consumer + 1) % u32Mod }
            | none => s
          let desc := descOf (slice d.bytes 32 64)
          let inline := (d.bytes.drop 96).take (d.bytes.length - 128)
          if !d.reservedOk || desc.payloadAddress != 0 || desc.devicePayload || decide (d.bytes.length < 128) || (desc.payloadLength != inline.length && decide (desc.opcode ≤ 5)) then s.refuseDesc ring desc 0x0204 false
          else s.takeDesc ring desc inline true)

/-- UDP_ACKNOWLEDGEMENT: a client's acknowledgement retires the records that it has consumed. -/
def execUdpAcknowledgement (t : Nat) (d : UdpDatagram) (s : State) : Host.Outcome State Fault Refusal :=
  let s : State := s.at t
  .next (
    let c := fieldAt d.bytes 4 2
    if !s.works then s else if !s.datagramOk 1 d then s.refuseDatagram c else s.udpHeard c d)

/-- Groups of at most 40 records. -/
def fortyEach : Nat → List (List Byte) → List (List (List Byte))
  | 0, _ => []
  | n + 1, rs => if rs.isEmpty then [] else rs.take 40 :: fortyEach n (rs.drop 40)

/-- A record not acknowledged is due to be sent (again): it has not been sent in the last 10 ms. -/
def UdpRecord.due (r : UdpRecord) (now : Nat) : Bool := match r.sent with | some u => decide (u + 10000000 ≤ now) | none => true

/-- UDP_RECORD_RESEND: records not acknowledged that were last sent 10 ms ago or more, and those that could not be sent, go out, up to 40 a datagram (R421). -/
def execUdpRecordResend (t client : Nat) (s : State) : Host.Outcome State Fault Refusal :=
  let s : State := s.at t
  .next (
    let u := s.udpClient client
    let due := u.unacked.filter (fun r => r.due s.now)
    if !s.works || due.isEmpty || !s.udpReaches client then s
    else
      let s : State := s.setUdp client { u with unacked := u.unacked.map (fun r => if r.due s.now then { r with sent := some s.now } else r) }
      (fortyEach due.length (due.map (·.bytes))).foldl (fun s rs => s.sendRecords client rs) s)

/-! The PCIe function -/

/-- LINK_TRAINED: the link trains to a rate (1 to 4: 2.5, 5.0, 8.0, 16.0 GT/s) and a width; below 8.0 GT/s or narrower than ×2 it is flagged and reported (R390). -/
def execLinkTrained (t speed width : Nat) (s : State) : Host.Outcome State Fault Refusal :=
  let s : State := s.at t
  .next (
    if s.boot.coldHeld then s
    else
      let below := decide (speed < 3) || decide (width < 2)
      let s : State := { s with host := { s.host with linkSpeed := speed, linkWidth := width, linkBelow := below } }
      (if below then s.raiseOpen s.tb.curFrame 0x0209 else s).signalStatus)

/-- What the host writes to the configuration space: the BAR assignments; and to the MSI-X table, which lies in BAR0 and takes no write before READY (R392, R393). -/
def State.configWrites (s : State) (w : ConfigWrite) : State :=
  let bars := w.bars.foldl (fun xs p => setAt xs p.1 p.2) s.host.bars
  let msix := if s.boot.ready then w.msix.foldl (fun m p => memWriteBytes m p.1 (p.2.take (32768 - p.1))) s.host.msix else s.host.msix
  { s with host := { s.host with bars := bars, msix := msix } }

/-- BUS_MASTER_ENABLE_WRITE: Bus Master Enable allows or stops the fetching of descriptors (R405); configuration requests are answered with Retry Status until step 2 of a cold
sequence has ended (R492). -/
def execBusMasterEnableWrite (t : Nat) (w : ConfigWrite) (s : State) : Host.Outcome State Fault Refusal :=
  let s : State := s.at t
  .next (if s.boot.retries then s else let s : State := s.configWrites w; { s with host := { s.host with busMaster := w.enable } })

end Sys2Proof.Machine
end

