-- ==== Sys2Proof/Machine/HostCmds.lean ====
section
/-!
DEFINITION. The opcodes of submit descriptors (13_host_interface.md R401, R410; 05_proposal.md R145; 12_determinism.md R371 to R377): NOP, STREAM_DATA, DICTIONARY, LOAD_MODEL,
LOAD_PROGRAM, REPLAY, REGENERATE and DUMP. Each acts when its item is in service, and makes the item's commit write.
-/
namespace Sys2Proof.Machine
open Sys2Proof

/-- A host command in service: its item, and its journal record with the descriptor. -/
structure HostCmd where
  item : Item
  desc : Desc
  payload : List Byte
  payloadOk : Bool
  deriving DecidableEq, Repr

/-- The payload with which a host command runs: as it was fetched, or, for one that RESUME or a takeover runs again, as it is read again, in host buffer space or host memory (R411). -/
def State.runPayload (s : State) (j : JRec) (d : Desc) (run : HostRun) : List Byte × Bool :=
  if !j.replayed then (j.payload, j.payloadOk)
  else if d.devicePayload then
    (if d.payloadAddress + d.payloadLength ≤ hostBufferSize then (memReadBytes s.host.buffer d.payloadAddress d.payloadLength, true) else ([], false))
  else (slice run.payload 0 d.payloadLength, run.readOk)

/-- The host command of an opcode in service for a journal record. -/
def State.hostCmd (s : State) (run : HostRun) (opcode : Nat) : Option HostCmd :=
  let inService (i : Item) : Bool := match i.loc with | .service _ | .unit _ => true | _ => false
  match s.disp.items.find? (fun i => i.kind == .hostCommand && i.arg == run.record && !i.committed && inService i), s.record? run.record with
  | some i, some j =>
    match j.desc with
    | some d => let (p, ok) := s.runPayload j d run; if d.opcode == opcode then some ⟨i, d, p, ok⟩ else none
    | none => none
  | _, _ => none

/-- The commit write of a host command, with its STATUS and RESULT_LENGTH (R264, R410). -/
def State.endHost (s : State) (c : HostCmd) (status length : Nat) : State :=
  let s : State := if status == 0x0206 then s.count 0x8402 9 1 else s
  (s.setOutcome c.item.arg status length).commitItem c.item.serial

/-- A host command whose payload has been read, or 0x0206 (R410). -/
def State.withPayload (s : State) (c : HostCmd) (f : State → State) : State := if c.payloadOk then f s else s.endHost c 0x0206 0

/-- R410: a result is written to host memory or host buffer space; 0x0207 where it cannot be. `wrote` says whether a write to host memory succeeds. -/
def State.writeResult (s : State) (c : HostCmd) (wrote : Bool) (address : Nat) (b : List Byte) (status : Nat) : State :=
  if !c.desc.devicePayload && !wrote then s.endHost c 0x0207 0
  else if !c.desc.devicePayload then (s.send (.hostWrite address b)).endHost c status b.length
  else if address + b.length ≤ hostBufferSize then (s.hostWrote address b).endHost c status b.length
  else s.endHost c 0x0207 0

/-- NOP: does nothing but complete. -/
def execNop (record : Nat) (s : State) : Host.Outcome State Fault Refusal :=
  .next (match s.hostCmd ⟨record, true, [], true⟩ 0 with | some c => s.endHost c 0 0 | none => s)

/-- STREAM_DATA: the packet of the descriptor, in service at its stream's ingress processor, runs through the stream's filter. -/
def execStreamData (record : Nat) (s : State) : Host.Outcome State Fault Refusal :=
  .next (
    match s.atUnit 18 .streamPacket (fun i => i.arg == record), s.record? record with
    | some i, some j => if j.isDescriptor then s.filterPacket i.lane i else s
    | _, _ => s)

/-- DICTIONARY: one ODP request; its response goes to the response address, and a message ODP drops completes with 0x0210. -/
def execDictionary (t : Nat) (run : HostRun) (s : State) : Host.Outcome State Fault Refusal :=
  let s : State := s.at t
  .next (
    match s.hostCmd run 2 with
    | none => s
    | some c =>
      s.withPayload c (fun s =>
        let tr : Transport := .ring (4 * c.desc.client)
        let (kind, opcode, m) := odpParse tr c.payload
        match s.odpProcess tr kind opcode m with
        | (some b, s) => s.writeResult c run.wrote (fieldAt c.desc.specific 0 8) b 0
        | (none, s) => s.endHost c 0x0210 0))

/-! LOAD_MODEL (R144, R145) -/

/-- R145 check 1, but for the operations of the body. -/
def modelFormOk (b : List Byte) : Bool :=
  let h := modelHeader b
  let body := (b.drop 128).take (b.length - 192)
  decide (192 ≤ b.length) && h.magic == 0x5A4D4431 && h.version == 1 && decide (h.inputFormat ≤ 3) && decide (h.weightFormat ≤ 4) && decide (1 ≤ h.parameters)
    && decide (h.parameters ≤ 2147483648) && f32Finite h.inputScale && f32Lt f32Zero h.inputScale && (h.inputFormat == 3 || h.inputScale == f32One)
    && decide (64 ≤ h.proposals) && decide (h.proposals ≤ 16384) && h.proposals % 64 == 0 && decide (1 ≤ h.steps) && decide (h.steps ≤ 128) && decide (h.channels ≤ 32)
    && decide (h.agentTokens ≤ 4096) && decide (h.routeTokens ≤ 512) && allZero (slice b 44 4) && allZero (slice b 88 40) && h.bodyLength == body.length && h.bodyDigest == sm3 body

/-- R145: the checks of an image, in order. -/
def State.modelStatus (s : State) (b : List Byte) (operationsKnown : Bool) : Nat :=
  if !(modelFormOk b && operationsKnown) then 0x0402
  else if !keySigns (s.cfgBytes 0xA000 1) (modelHeader b).signer 2 (sm3 (b.take (b.length - 64))) (b.drop (b.length - 64)) then 0x0401
  else 0

/-- R145: the slot is bound by the active set, or by a staged set that has passed CHECK. -/
def State.modelBound (s : State) (slot : Nat) : Bool :=
  let binds (staged : Bool) : Bool := (s.dict.val staged 0x4100 1).toNum != 0 && (s.dict.val staged 0x4100 2).toNum == slot
  binds false || ((s.ctl.st == .checked || s.ctl.st == .pending) && binds true)

def State.setModel (s : State) (slot : Nat) (x : ModelSlot) : State := { s with boot := { s.boot with models := setAt s.boot.models slot x } }

/-- LOAD_MODEL: a model image goes into a slot; `operationsKnown` is whether its body names no operation outside R142. -/
def execLoadModel (run : HostRun) (operationsKnown : Bool) (s : State) : Host.Outcome State Fault Refusal :=
  .next (
    match s.hostCmd run 3 with
    | none => s
    | some c =>
      let slot := fieldAt c.desc.specific 0 1
      let held := natSum (s.boot.models.zipIdx.map (fun x => if x.2 == slot then 0 else x.1.image.length))
      if s.modelBound slot then s.endHost c 0x0403 0
      else if s.cfg 0x8100 1 < held + c.desc.payloadLength then s.endHost c 0x080D 0
      else s.withPayload c (fun s =>
        let e := s.modelStatus c.payload operationsKnown
        let s : State := s.setModel slot (if e == 0 then ⟨.valid, c.payload, sm3 (c.payload.take (c.payload.length - 64))⟩ else ⟨.invalid, [], []⟩)
        s.signalStatus.endHost c e 0))

/-! LOAD_PROGRAM -/

/-- R410: the outcome of a BLOCK WRITE with SHADOW of a program image by a session. -/
def State.loadProgram (s : State) (session idx : Nat) (b : List Byte) : Nat × State :=
  match s.session? session, objFind idx 1 with
  | some x, some row =>
    if !x.roles.testBit 1 then (0x0105, s)
    else match s.gate x with
    | .error e => (e, s)
    | .ok s => if !row.lengthOk b.length then (0x0104, s) else s.stageDom x ⟨idx, 1, 10⟩ b
  | _, _ => (0x0105, s)

/-- LOAD_PROGRAM: a program image is staged for a session. -/
def execLoadProgram (t : Nat) (run : HostRun) (s : State) : Host.Outcome State Fault Refusal :=
  let s : State := s.at t
  .next (
    match s.hostCmd run 4 with
    | none => s
    | some c =>
      s.withPayload c (fun s =>
        let (e, s) := s.loadProgram (fieldAt c.desc.specific 4 4) (fieldAt c.desc.specific 0 2) c.payload
        s.endHost c e 0))

/-! REPLAY (R375 to R377) -/

/-- R376: the entries of a packet log: (stream, stamp, packet). What runs past the payload's end is no entry. -/
def logEntries : Nat → List Byte → List (Nat × Nat × List Byte)
  | 0, _ => []
  | n + 1, b =>
    let len := fieldAt b 4 4
    if b.length < 16 + len then [] else (fieldAt b 0 1, fieldAt b 8 8, slice b 16 len) :: logEntries n (b.drop (16 + 8 * ceilDiv len 8))

/-- R11: the reserved bytes of a packet log's entries are zero. -/
def logReservedOk : Nat → List Byte → Bool
  | 0, _ => true
  | n + 1, b =>
    let len := fieldAt b 4 4
    decide (b.length < 16 + len) || (allZero (slice b 1 3) && logReservedOk n (b.drop (16 + 8 * ceilDiv len 8)))

/-- R376, R377: a replayed frame begins at its tick: carried state, commit, and its packets. -/
def State.beginReplay (s : State) (record n tick : Nat) (load : Option Carried) (packets : List (Nat × Nat × List Byte)) : State :=
  let s : State := match load with | some c => s.dropRunAhead.loadCarried c | none => s
  let s : State := s.modTb (fun b => { b with curFrame := n, curTick := tick, ticked := true })
  let s : State := ({ s with det := { s.det with unpaced := true, run := some ⟨n, tick, record, packets⟩ } }).finishOld n
  let set := s.ctl.activeSetId
  let s : State := (if s.ctl.st == .pending then s.beginFilters else s).commitAt n
  let s : State := if s.ctl.activeSetId == set then s.enterService tick else s
  let s : State := ((s.remapLanes.releaseDue tick).groupTick).beginFrame n
  s.feedBacklog

/-- REPLAY: one replayed frame starts; the command completes when the frame lands. `checkpoint` is the image at the checkpoint address. -/
def execReplay (run : HostRun) (checkpoint : List Byte) (s : State) : Host.Outcome State Fault Refusal :=
  .next (
    match s.hostCmd run 5 with
    | none => s
    | some c =>
      let b := c.desc.specific
      let n := fieldAt b 0 8
      let flags := fieldAt b 16 1
      let stale : Bool := match s.det.lastReplayed with | some m => decide (n ≤ m) | none => false
      if s.det.run.isSome then s
      else if !s.strict || s.det.replay != .replaying then s.endHost c 0x0725 0
      else if stale then s.endHost c 0x0726 0
      else s.withPayload c (fun s =>
        let packets := logEntries (fieldAt b 20 4) c.payload
        if !logReservedOk (fieldAt b 20 4) c.payload then s.endHost c 0x0204 0
        else if flags.testBit 1 then
          match s.imageOf checkpoint with
          | some k => s.beginReplay run.record n (fieldAt b 8 8) (some k) packets
          | none => s.endHost c 0x0206 0
        else s.beginReplay run.record n (fieldAt b 8 8) (if flags.testBit 0 then some Carried.clear else none) packets))

/-! REGENERATE (R371 to R374) -/

/-- The frame a REGENERATE names, with the state that holds its active set: the current frame, or the held one. -/
def State.regenFrame (s : State) (frame : Nat) : Option (FrameWork × State) :=
  match s.work? frame with
  | some w => if frame == s.tb.curFrame then some (w, s) else none
  | none => none

def State.heldFrame (s : State) (frame : Nat) : Option (FrameWork × State) :=
  match s.det.held with
  | some w => if w.frame == frame then some (w, { s with dict := { s.dict with active := s.det.heldSet } }) else none
  | none => none

/-- The FIRST_IDs of the blocks of a round of a frame (R137, R162). -/
def State.roundIds (s : State) (w : FrameWork) (round : Nat) : List Nat :=
  if round == 0 then (if s.runsSpecial then [mkCid s.cidChipField 0 3 0] else []) ++ s.firstIds 0 0 (64 * w.policyBlocks) ++ s.firstIds 0 1 w.applicable.length
  else match w.rounds[round]?, w.rounds[round - 1]? with
    | some _, some p => (match p.snapshot with
      | some es => if (s.elitesOf es).isEmpty then [] else s.firstIds round 2 (s.resampleCount round)
      | none => [])
    | _, _ => []

/-- R361: the step is one of the phase's index space; a β that no block of the frame has taken is an absent step (R267). -/
def stepExists (phase round index : Nat) : Bool :=
  match phase with
  | 0 | 6 => round == 0 && index == 0
  | 1 | 2 => round == 0 && decide (index < 256)
  | 3 => decide (round < 4) && decide (index < 4112)
  | 4 => round == 0 && decide (index < 64)
  | 5 => round == 0 && decide (index < 66)
  | _ => false

/-- R373: the policy output of the frame has been overwritten: region 6 holds those of two frames (R330). -/
def State.policyGone (s : State) (w : FrameWork) : Bool :=
  decide (w.frame + 2 < s.tb.curFrame) || s.frames.any (fun x => decide (w.frame + 2 ≤ x.frame) && x.policy.started)

/-- The runs of a block's candidates against the frame's final sealed version. -/
def State.regenRuns (s : State) (w : FrameWork) (firstId : Nat) : List CandRun :=
  let c := s.checkEnv s.treadImage w.frame w.version false
  let tally := s.tallyOf c.tallySlot
  checkAll c ((s.blockIds w firstId).map (s.expandCandidate w)) tally

/-- R156, R372: a candidate record, and the pose records of n steps; those after a rejecting step read as zero (R155). -/
def Expansion.bytes (e : Expansion) (n : Nat) : List Byte :=
  leBytes 4 e.cid ++ leBytes 1 (bitIf (decide (0 < e.clampCount)) 0 + bitIf e.stopped 1) ++ leBytes 1 e.limitCode ++ leBytes 2 e.limitStep ++ leBytes 2 e.clampCount
    ++ List.replicate 6 0#8 ++ ((e.poses.flatMap (fun p => p.words.flatMap (fun x => leBytes 4 x.toNat))) ++ List.replicate (32 * (n + 1)) 0#8).take (32 * (n + 1))

/-- R206: the record of a block as the runs give it; its flags and withdrawn entries are those of the record in the table. -/
def State.regenRecord (s : State) (w : FrameWork) (firstId : Nat) (runs : List CandRun) (old : BlockRec) : BlockRec :=
  let kept := (runs.map (·.entry)).filter Entry.kept
  let list := bestOf s.compatible s.stairK kept
  let entries := list.entries.map (fun e => { e with withdrawn := old.entries.any (fun x => x.cid == e.cid && x.withdrawn) })
  { old with version := w.version, firstId := firstId, entries := entries, tieCut := list.tieCut, count := runs.length, rejected := runs.length - kept.length,
             signature := runs.foldl (fun m r => m ||| r.probe.groups) 0 }

/-- R372: the bytes of a result of kind 1 to 5; none where the block has no such content. -/
def State.regenerate (s : State) (w : FrameWork) (what round firstId cid : Nat) : Option (List Byte) :=
  let runs := s.regenRuns w firstId
  match what with
  | 1 => some ((s.controlsOf w cid).flatMap Control.bytes)
  | 2 => some ((s.expandCandidate w cid).bytes (s.cfg 0x4001 1))
  | 3 => (runs.find? (fun r => r.entry.cid == cid && !r.faulted)).map (fun r => r.entry.bytes ++ leBytes 32 (runs.foldl (fun m r => m ||| r.probe.groups) 0))
  | 4 =>
    let key := scgKey (s.cfgBytes 0x7201 0) w.frame
    some ((List.range (s.cfg 0x4001 1)).flatMap (fun k => (scgWords key w.frame round cid k).flatMap (fun x => leBytes 4 x.toNat)))
  | _ => (w.blocks.find? (fun r => r.firstId == firstId && decide (r.beta < 4112))).bind (fun old =>
      if runs.any (·.faulted) then none else let r := s.regenRecord w firstId runs old; some (r.header ++ r.entries.flatMap Entry.bytes))

/-- R137, R138: the word is a candidate ID of a round. -/
def cidOf (round cid : Nat) : Bool :=
  cidRound cid == round && bitsAt cid 18 8 == 0 && (match cidSource cid with | 2 => decide (1 ≤ round) | 3 => round == 0 && decide (cidOrdinal cid < 2) | _ => round == 0)

/-- R373: the ID of a REGENERATE descriptor for a CHECK step is no candidate ID of the round named, or is wanting where the kind of result is one candidate's. -/
def regenIdBad (b : List Byte) : Bool :=
  let what := fieldAt b 10 1
  let cid := fieldAt b 16 4
  fieldAt b 8 1 == 3 && (if cid == 0xFFFFFFFF then decide (1 ≤ what) && decide (what ≤ 4) else !cidOf (fieldAt b 9 1) cid)

/-- R371 to R374: the answer to a REGENERATE: a status with no result, or the result with 0x0000 or 0x0727. `s` holds the frame's active set. -/
def State.regenAnswer (s : State) (w : FrameWork) (b : List Byte) : Except Nat (Nat × List Byte) :=
  let phase := fieldAt b 8 1
  let round := fieldAt b 9 1
  let what := fieldAt b 10 1
  let index := fieldAt b 12 4
  let cid := fieldAt b 16 4
  let first? := (s.roundIds w round).find? (fun i => s.betaOf w i == index)
  let outside : Bool := match first? with | some i => cid != 0xFFFFFFFF && phase == 3 && !(s.blockIds w i).contains cid | none => false
  let policy : Bool := phase == 3 && (match first? with | some i => cidSource i == 0 | none => false) && what != 0
  if outside then .error 0x0723
  else if policy && s.policyGone w then .error 0x0722
  else if !stepExists phase round index || (what != 0 && phase != 3) || (what == 4 && round == 0) then .error 0x0723
  else if what == 0 then .ok (0, leBytes 8 (s.stepDigest w.frame phase round index))
  else
    match first?.bind (fun first => s.regenerate w what round first cid) with
    | none => .error 0x0723
    | some out =>
      let old := (w.blocks.find? (fun r => some r.firstId == first? && decide (r.beta < 4112))).map (·.version)
      let earlier := !s.strict && (match s.version? w.version false with | some v => v.urgent | none => false) && (match old with | some n => n != w.version | none => false)
      .ok (if earlier then 0x0727 else 0, out)

/-- REGENERATE: an intermediate of the current or the held frame is computed again and written to the result buffer. -/
def execRegenerate (run : HostRun) (s : State) : Host.Outcome State Fault Refusal :=
  .next (
    match s.hostCmd run 6 with
    | none => s
    | some c =>
      let b := c.desc.specific
      let frame := fieldAt b 0 8
      let s' : State := s.count 0x7212 6 1
      if regenIdBad b then s'.endHost c 0x0723 0
      else match (s.regenFrame frame).orElse (fun _ => s.heldFrame frame) with
      | none => s'.endHost c 0x0721 0
      | some (w, view) =>
        match view.regenAnswer w b with
        | .error e => s'.endHost c e 0
        | .ok (status, out) => if c.desc.payloadLength < out.length then s'.endHost c 0x0724 0 else s'.writeResult c run.wrote c.desc.payloadAddress out status)

/-! DUMP (R410) -/

/-- R117: the directory of a version: an entry for each layer in use, grid, slice and tile. -/
def State.directoryBytes (s : State) (v : Version) : List Byte :=
  let b := s.buildCfg
  let entry (l g sl t : Nat) : List Byte :=
    let own := sl == 32 || (b.layer l).sliced
    match v.tiles.find? (fun x => x.key == ⟨l, g, if own then sl else 32, t⟩) with
    | some x =>
      let e := x.entry (s.layerType l) x.addr
      e.take 12 ++ leBytes 4 (fieldAt e 12 4 + bitIf (!own) 2)
    | none => List.replicate 16 0#8
  b.inUse.flatMap (fun l => (List.range 2).flatMap (fun g => (List.range 33).flatMap (fun sl => (List.range 256).flatMap (fun t => entry l g sl t))))

/-- R410: the header of a dump. -/
def dumpHeader (what frame steps length : Nat) : List Byte :=
  leBytes 4 0x5A444D31 ++ leBytes 1 what ++ List.replicate 3 0#8 ++ leBytes 8 frame ++ leBytes 8 steps ++ leBytes 4 length ++ List.replicate 4 0#8

/-- The body of a dump of a frame other than a carried state; none where it is not available. -/
def State.dumpBody (s : State) (what frame : Nat) : Option (List Byte) :=
  match s.heldFrame frame with
  | some (w, view) =>
    (match what with
     | 1 => w.closed.map (fun l => l.bytes)
     | 2 => some (((w.blocks.filter (fun r => decide (r.beta < 4112))).mergeSort (fun x y => decide (x.beta ≤ y.beta))).flatMap (fun r => r.header ++ r.entries.flatMap Entry.bytes))
     | _ => (s.version? w.version false).map (fun v => view.directoryBytes v ++ v.bytes))
  | none => if what == 1 && !s.pub.lastList.isEmpty && fieldAt s.pub.lastList 0 8 == frame then some s.pub.lastList else none

/-- A dump is written, or refused where the result buffer is too short. -/
def State.writeDump (s : State) (c : HostCmd) (wrote : Bool) (what frame steps : Nat) (body : List Byte) : State :=
  if c.desc.payloadLength < 32 + body.length then s.endHost c 0x020B 0
  else s.writeResult c wrote c.desc.payloadAddress (dumpHeader what frame steps body.length ++ body) 0

/-- DUMP: the carried state of a coming frame, taken at its seal, or a record of the held or last frame. -/
def execDump (run : HostRun) (s : State) : Host.Outcome State Fault Refusal :=
  .next (
    match s.hostCmd run 7 with
    | none => s
    | some c =>
      let frame := fieldAt c.desc.specific 0 8
      let what := fieldAt c.desc.specific 8 1
      if what == 0 then
        match s.det.dumps.find? (fun x => x.1 == run.record) with
        | some (_, steps, image) => ({ s with det := { s.det with dumps := s.det.dumps.filter (fun x => x.1 != run.record) } }).writeDump c run.wrote 0 frame steps image
        | none => if frame ≤ s.tb.curFrame then s.endHost c 0x020A 0 else s
      else match s.dumpBody what frame with
        | some body => s.writeDump c run.wrote what frame s.det.stepCounter body
        | none => s.endHost c 0x020A 0)

end Sys2Proof.Machine
end

