-- ==== Sys2Proof/Machine/Peer.lean ====
section
/-!
DEFINITION. Peer links and chip groups (14_peer_links.md R426 to R450): the messages of a group, the loss and return of chips, ports, queue pairs and congestion.
-/
namespace Sys2Proof.Machine
open Sys2Proof

/-! Reception (R433, R434, R437) -/

/-- R433: a payload's length agrees with its kind; `steps` is StepCount. -/
def groupLengthOk (steps kind n : Nat) : Bool :=
  decide (n ≤ 65536) && match kind with
  | 1 => n == 32
  | 2 => decide (16 ≤ n)
  | 3 => n == 64
  | 6 => n == 128 || n == 128 + 8 * steps
  | 7 => n == 16
  | 8 => n == 24
  | 9 => decide (192 ≤ n)
  | 0x0A => n == 8
  | 0x0B => n == 1
  | _ => decide (1 ≤ n)

/-- R437: what receivers do not discard from a chip that is out of step. -/
def keptOutOfStep (kind : Nat) : Bool := [1, 6, 9, 0x0A, 0x0B].contains kind

/-- R11, R433: the reserved bytes of a HELLO, and the bits of its port states that name nothing (log entry 48), are zero. -/
def helloOk (b : List Byte) : Bool := allZero (b.drop 14) && bitsAt (fieldAt b 13 1) 2 2 == 0

/-- R434: a message's header and length are right, and its reserved fields zero. -/
def State.groupForm (s : State) (kind : Nat) (m : GroupMsg) : Bool :=
  m.reserved == 0 && m.length == m.payload.length && m.receiver == s.chip && groupLengthOk (s.cfg 0x4001 1) kind m.payload.length && (kind != 1 || helloOk m.payload)

/-- R434: a message that is malformed or skips a SEQUENCE. -/
def State.groupMalformed (s : State) (sender : Nat) : State := (s.raise 0x0909 sender).reestablish sender

/-- R437, R438: the chip whose message it is: the map chain relays the WORLD chip's. -/
def State.originOf (s : State) (kind sender : Nat) : Nat :=
  if kind == 2 || kind == 3 then ((List.range 4).find? (fun c => c != s.chip && (s.peer c).role == 1)).getD sender else sender

/-- R434, R447, R450: a message is accepted, or discarded; a chip that had been LOST or ABSENT is heard again and enters JOINING. DESIGN CHOICE (log entry 48): a chip that this one has not
heard since its own reset is taken at any SEQUENCE, and one that has been LOST either goes on or begins anew at 1. -/
def State.groupAccept (s : State) (kind : Nat) (m : GroupMsg) : Bool × State :=
  if s.groupMode == 0 || !s.works || !s.otherChips.contains m.sender then (false, s)
  else
    let s : State := s.count 0x8605 2 1
    let p := s.peer m.sender
    let again := p.st == .lost || p.st == .absent
    let anew := p.st == .lost && m.sequence == 1 && 1 ≤ p.rxSeq
    let first := p.st == .absent && p.heard.isNone
    if !anew && !first && decide (m.sequence ≤ p.rxSeq) then (false, s.count 0x8605 3 1)
    else if !s.groupForm kind m || (!anew && !first && m.sequence != p.rxSeq + 1) then (false, s.groupMalformed m.sender)
    else
      let rejoin : Rejoin := if first then .own else if anew then .theirs else .both
      let s : State := s.modPeer m.sender (fun p =>
        { p with rxSeq := m.sequence, heard := some s.now, st := if again then .joining else p.st, joinSince := if again then s.now else p.joinSince,
                 rejoin := if again then rejoin else p.rejoin })
      (keptOutOfStep kind || (s.peer (s.originOf kind m.sender)).outFrame != some m.frame, s)

/-- A group message acts where it is accepted. -/
def State.groupTake (s : State) (t kind : Nat) (m : GroupMsg) (f : State → State) : State :=
  match (s.at t).groupAccept kind m with
  | (true, s) => f s
  | (false, s) => s

/-- R433: a segment joins those before it; at LAST the whole payload is there. -/
def State.assemble (s : State) (kind : Nat) (m : GroupMsg) : Option (List Byte) × State :=
  let key := 16 * m.sender + kind
  let got := (if m.segment == 0 then [] else (alGet key s.group.parts).getD []) ++ m.payload
  if m.last then (some got, { s with group := { s.group with parts := alErase key s.group.parts } })
  else (none, { s with group := { s.group with parts := alSet key got s.group.parts } })

/-! HELLO (R436, R437, R449) -/

/-- R437: the reference chip finds a chip in step or out of step for the current frame. -/
def State.judgeStep (s : State) (m : GroupMsg) (tick : Nat) : State :=
  if !(s.group.role == 3 || s.group.role == 4) || m.frame != s.tb.curFrame || !s.tb.ticked then s
  else
    let p := s.peer m.sender
    let bad := m.digest != s.group.digest || decide (s.cfg 0x8600 0x0A < ((tick : Int) - (s.tb.curTick : Int)).natAbs)
    if bad then
      let s : State := if p.outFrame == some m.frame then s else s.count 0x8605 7 1
      let s : State := if p.outOfStep then s else s.raise 0x0903 m.sender
      (s.modPeer m.sender (fun p => { p with outOfStep := true, outFrame := some m.frame })).setCause 8
    else s.modPeer m.sender (fun p => { p with outOfStep := false })

/-- R437: the reference chip's HELLO says which chips it has found out of step for its frame: bit 4 + c of the port states (log entry 48). -/
def State.hearFindings (s : State) (m : GroupMsg) : State :=
  let reference : Bool := fieldAt m.payload 12 1 == (if s.groupMode == 1 then 4 else 3)
  if !reference || s.group.role == 3 || s.group.role == 4 then s
  else
    let out := fieldAt m.payload 13 1 / 16
    (List.range 4).foldl (fun s c =>
      if c == m.sender then s
      else if out.testBit c then s.modPeer c (fun p => { p with outOfStep := true, outFrame := some m.frame })
      else s.modPeer c (fun p => { p with outOfStep := false })) s

/-- R449, R450: two PRIMARYs of a pair meet: the chip that has begun anew returns as STANDBY; where both ran on, the one with the higher number. -/
def State.meetPrimary (s : State) (m : GroupMsg) (role : Nat) : State :=
  let yields : Bool := match (s.peer m.sender).rejoin with | .own => true | .theirs => false | .both => decide (m.sender < s.chip)
  if s.groupMode == 1 && s.group.role == 4 && role == 4 && yields then { s with group := { s.group with takeAtTick := some 5 } } else s

/-- HELLO: a chip is heard, with its role; two PRIMARYs meet (R449), or a returned chip finds its role taken (R450). -/
def execHello (t : Nat) (m : GroupMsg) (s : State) : Host.Outcome State Fault Refusal :=
  .next (s.groupTake t 1 m (fun s =>
    let tick := fieldAt m.payload 0 8
    let role := fieldAt m.payload 12 1
    let s : State := s.modPeer m.sender (fun p =>
      { p with role := role, last := some ⟨m.frame, tick, m.digest, fieldAt m.payload 8 4⟩,
               hello0 := if m.port == 0 then some s.now else p.hello0, hello1 := if m.port == 1 then some s.now else p.hello1 })
    let s : State := s.meetPrimary m role
    let s : State := if s.groupMode == 2 && role != 2 && s.group.role == role && s.cfg 0x8600 3 == role then ({ s with group := { s.group with role := 0xFF } }).roleChanged else s
    ((s.hearFindings m).judgeStep m tick).clearPeers))

/-- HELLO_TIMER: each PeerHelloInterval a HELLO goes to every chip on both ports (R436); the reference chip's carries what it has found out of step (R437). -/
def execHelloTimer (t : Nat) (s : State) : Host.Outcome State Fault Refusal :=
  let s : State := s.at t
  .next (
    let due : Bool := match s.group.helloSent with | some u => decide (u + s.us 0x8600 5 ≤ s.now) | none => true
    if s.groupMode == 0 || !s.works || !due then s
    else
      let ports := (List.range 2).filter (fun p => (s.port p).up && s.portEnabled p)
      let reference : Bool := s.group.role == 3 || s.group.role == 4
      let out := natSum ((List.range 4).map (fun c => bitIf (reference && (s.peer c).outFrame == some s.tb.curFrame) (4 + c)))
      let states := natSum ((List.range 2).map (fun p => bitIf (s.port p).up p)) + out
      let payload := leBytes 8 s.tb.curTick ++ leBytes 4 s.ctl.activeSetId ++ leBytes 1 s.group.role ++ leBytes 1 states ++ List.replicate 18 0#8
      let s : State := { s with group := { s.group with helloSent := some s.now } }
      ports.foldl (fun s p => s.otherChips.foldl (fun s d => s.sendOn p d 1 true 0 s.tb.curFrame 0 payload) s) s)

/-! Versions and scenes (R438 to R440) -/

/-- The values of a tile from its content (R116). -/
def tileContentValues (type : Nat) (b : List Byte) : List Nat :=
  match type with
  | 1 => (List.range 4096).map (fun k => fieldAt b (2 * k) 2)
  | 2 => b.map (·.toNat)
  | _ => b.flatMap (fun x => (List.range 8).map (fun k => if x.getLsbD k then 1 else 0))

/-- R438: the tiles that MAP_SEGMENTs carry, each written to the map store. -/
def State.tilesOf (s : State) : Nat → Nat → List Byte → List Tile
  | 0, _, _ => []
  | fuel + 1, next, b =>
    if b.length < 16 then []
    else
      let key := tileKeyOf (fieldAt b 0 4)
      let type := s.layerType key.layer
      let n := tileSize type
      let flags := fieldAt b 12 4
      if n == 0 || b.length < 16 + n then []
      else
        { key := key, addr := (Config.tileAddress next).toNat, origin := fieldAt b 4 4, spec := flags.testBit 0, kept := flags.testBit 1, unknown := flags.testBit 3,
          values := tileContentValues type ((b.drop 16).take n), lost := false } :: tilesOf s fuel (next + 1) (b.drop (16 + n))

/-- MAP_SEGMENT: kept until its version's record comes, and relayed to the next chip of the chain. -/
def execMapSegment (t : Nat) (m : GroupMsg) (s : State) : Host.Outcome State Fault Refusal :=
  .next (s.groupTake t 2 m (fun s =>
    let key := 16 * m.sender + 2
    let got := (if m.segment == 0 then [] else (alGet key s.group.parts).getD []) ++ m.payload
    let s : State := { s with group := { s.group with parts := alSet key got s.group.parts } }
    match s.nextInChain with
    | some d => s.sendGroup d 2 m.last m.segment m.frame m.version m.payload
    | none => s))

/-- The start state of a version record. The fields that the record does not hold, acceleration, curvature and articulation, are free, and the same for the same frame and start (R364). -/
def startOf (b : List Byte) : StartState :=
  let tail (k : Nat) : F32 := Config.startTail (slice b 8 8 ++ slice b 24 24) k
  { x := BitVec.ofNat 64 (fieldAt b 24 8), y := BitVec.ofNat 64 (fieldAt b 32 8), heading := f64OfF32 (BitVec.ofNat 32 (fieldAt b 40 4)), speed := BitVec.ofNat 32 (fieldAt b 44 4),
    accel := tail 0, curvature := tail 1, art1 := tail 2, art2 := tail 3 }

/-- R438: the version of a record, over the tiles held and those received. -/
def State.receivedVersion (s : State) (b : List Byte) (start : StartState) (fresh : List Tile) : Version :=
  let frame := fieldAt b 8 8
  let flags := fieldAt b 20 4
  let spec := flags.testBit 0
  let run := s.world.versions.find? (fun v => v.spec && v.frame == frame)
  let base : List Tile := match (if spec || flags.testBit 1 then s.newest else run.orElse (fun _ => s.newest)) with | some v => v.tiles | none => []
  let kept := (base.filter (fun t => !fresh.any (fun u => u.key == t.key))).map (fun t => if t.spec && !spec then { t with kept := true } else t)
  let landing := match s.work? frame with | some w => w.tick + s.us 0x2016 1 | none => s.tb.curTick + s.tb.period + s.us 0x2016 1
  { number := fieldAt b 0 4, spec := spec, parent := if flags.testBit 4 then some (fieldAt b 4 4) else none, frame := frame, mapFrame := fieldAt b 16 2, staleLayers := fieldAt b 18 2,
    urgent := flags.testBit 1, egoStale := flags.testBit 2, reinitialised := flags.testBit 3, sealTime := fieldAt b 48 8, tilesNew := fieldAt b 56 4,
    inputs := { frame := frame, landing := landing, start := start, tiles := [], agents := [], segments := [] }, tiles := kept ++ fresh, jobs := [], ready := true, deltaStamp := none }

/-- R465: STALE_INPUT as a sealed version's stale layers give it. -/
def State.judgeStale (s : State) (layers : Nat) : State := if (layers &&& s.cfg 0x5010 0x12) != 0 then s.setCause 7 else s.clearCause 7

/-- R438: a sealed version is map-ready on a receiver: its frame's work opens, and the run-ahead blocks meet their commit point (R82). DESIGN CHOICE
(log entry 48): a receiver counts neither VersionsSealed nor LayerStaleFrames. -/
def State.openReceived (s : State) (v : Version) (changed : List TileKey) : State :=
  match s.work? v.frame with
  | none => s
  | some w =>
    let ran := s.world.versions.any (fun x => x.spec && x.frame == v.frame)
    let s : State := { s with world := { s.world with reversioned := changed, lastVersion := v.number, comparing := false } }
    let s : State := if s.closes then s.sentrySeal v.frame v.mapFrame v.sealTime v.inputs.landing v.inputs.start else s
    let s : State := (((s.openWork v.frame v.number v.inputs.start v.reinitialised false).reportContinuation v.frame).judgeStale v.staleLayers).showVersion v
    let s : State := s.plansWaiting v.frame
    if ran && w.speculative then (match s.work? v.frame with | some w => s.commitPoint w | none => s)
    else (s.settleItems.issueMissing v.frame).goRounds v.frame

/-- R438: a run-ahead map is map-ready on a receiver. -/
def State.openRunAhead (s : State) (v : Version) : State :=
  if s.frames.any (fun w => w.speculative || w.frame == v.frame) then s
  else
    let s : State := { s with frames := s.frames ++ [{ FrameWork.fresh v.frame (s.tb.curTick + s.tb.period) with release := some (s.tb.curTick + s.us 0x2017 1) }] }
    let s : State := { s with world := { s.world with lastSpec := v.number, specScene := none, reversioned := [], compare := [], comparing := false } }
    ((s.openWork v.frame v.number v.inputs.start false true).issueMissing v.frame).goRounds v.frame

/-- A version record is received: the version is published (R21, R438). -/
def State.takeVersion (s : State) (m : GroupMsg) : State :=
  let key := 16 * m.sender + 2
  let bytes := (alGet key s.group.parts).getD []
  let fresh := State.tilesOf s (bytes.length / 16 + 1) s.world.nextTile bytes
  let v := s.receivedVersion m.payload (startOf m.payload) fresh
  let s : State := { s with group := { s.group with parts := alErase key s.group.parts }
                            world := { s.world with nextTile := s.world.nextTile + fresh.length, versions := s.world.versions ++ [v] } }
  let s : State :=
    if v.spec then s.openRunAhead v
    else if v.urgent then
      (((((({ s with world := { s.world with lastVersion := v.number } }).meetUrgent v).judgeStale v.staleLayers).showVersion v).settleItems).issueMissing v.frame).goRounds v.frame
    else s.openReceived v (fresh.map (·.key))
  s.retireVersions

/-- VERSION: ends a version; the record is relayed along the chain. -/
def execVersion (t : Nat) (m : GroupMsg) (s : State) : Host.Outcome State Fault Refusal :=
  .next (s.groupTake t 3 m (fun s =>
    let s : State := match s.nextInChain with
      | some d => s.sendGroup d 3 true 0 m.frame m.version m.payload
      | none => s
    if s.groupMode == 2 && !s.buildsMaps then s.takeVersion m else s))

/-- SCENE: a segment of the scene tensor, complete at LAST (R440). -/
def execScene (t : Nat) (m : GroupMsg) (s : State) : Host.Outcome State Fault Refusal :=
  .next (s.groupTake t 4 m (fun s =>
    match s.assemble 4 m with
    | (some b, s) => (match s.work? m.frame with | some w => s.sceneDone m.frame w.speculative b 0 | none => s)
    | (none, s) => s))

/-- SUBSTITUTE_VERSION: at RecheckStart a REFINER that holds no version of the frame seals its newest one, every layer in use stale (R439). -/
def execSubstituteVersion (s : State) : Host.Outcome State Fault Refusal :=
  .next (
    match s.work? s.tb.curFrame, s.newest with
    | some w, some v =>
      if s.groupMode != 2 || s.group.role != 3 || w.sealed || w.landed || v.frame == w.frame then s
      else
        let s : State := s.atTick (w.tick + s.us 0x2015 1)
        let landing := w.tick + s.us 0x2016 1
        let number := (s.world.lastVersion + 1) % u32Mod
        let start := (s.planStart w.frame landing).getD v.inputs.start
        let layers := natSum (s.buildCfg.inUse.map (2 ^ ·))
        let v' : Version := { v with
          number := number, parent := some v.number, frame := w.frame, staleLayers := layers, urgent := false, sealTime := s.time, tilesNew := 0,
          inputs := { v.inputs with frame := w.frame, landing := landing, start := start } }
        let s : State := { s with world := { s.world with versions := s.world.versions ++ [v'], lastVersion := number } }
        let s : State := ((((s.showVersion v').count 0x3301 1 1).count 0x3301 5 (if layers == 0 then 0 else 1)).count 0x8605 9 1).raiseOpen w.frame 0x090A
        let s : State := (s.judgeStale layers).sentrySeal w.frame v.mapFrame s.time landing start
        (((s.openWork w.frame number start false false).plansWaiting w.frame).goRounds w.frame).retireVersions
    | _, _ => s)

/-! Lists and plans (R441, R442) -/

/-- A control from its bytes. -/
def controlAt (b : List Byte) (o : Nat) : Control := ⟨BitVec.ofNat 32 (fieldAt b o 4), BitVec.ofNat 32 (fieldAt b (o + 4) 4)⟩

/-- LIST: a proposer's closed list, and no other chip's, waits for the merge of its frame; after it, it is discarded (R219). -/
def execList (t : Nat) (m : GroupMsg) (s : State) : Host.Outcome State Fault Refusal :=
  .next (s.groupTake t 5 m (fun s =>
    match s.assemble 5 m with
    | (none, s) => s
    | (some b, s) =>
      let l := closedOf b
      let n := s.cfg 0x4001 1
      let seqs := b.drop (96 + 16 * l.k)
      let whole : Bool := b.length == 96 + 16 * l.k + 8 * n * l.k
      let controls := (List.range l.k).map (fun p => (List.range n).map (fun k => controlAt seqs (8 * (n * p + k))))
      let late : Bool := match s.work? m.frame with | some w => w.closed.isSome | none => decide (m.frame < s.tb.curFrame)
      if !whole then s.groupMalformed m.sender
      else if s.groupMode != 2 || s.group.role != 3 || late || !s.proposer m.sender then s
      else
        let others := s.group.lists.filter (fun x => decide (s.tb.curFrame ≤ x.list.frame + 1) && !(x.chip == m.sender && x.list.frame == l.frame))
        { s with group := { s.group with lists := others ++ [⟨m.sender, l, controls⟩] } }))

/-- PLAN: what the REFINER has published enters the plan history of chips 0 and 1, where a frame that has landed here without it stands as one that published NONE; after the next
frame's seal it comes too late (R442). -/
def execPlan (t : Nat) (m : GroupMsg) (s : State) : Host.Outcome State Fault Refusal :=
  .next (s.groupTake t 6 m (fun s =>
    match s.assemble 6 m with
    | (none, s) => s
    | (some b, s) =>
      let frame := fieldAt b 32 8
      let status := fieldAt b 40 1
      let seq := b.drop 128
      let controls := (List.range (seq.length / 8)).map (fun k => controlAt seq (8 * k))
      let late : Bool := match s.work? (frame + 1) with | some w => w.sealed | none => decide (frame + 1 < s.tb.curFrame)
      let published := if status == 3 then none else some controls
      let landed : Option History := s.pub.history.filter (fun h => h.frame == frame)
      let known : Option State := match landed, s.work? frame with
        | some h, _ => some { s with pub := { s.pub with history := some { h with controls := published } } }
        | none, some w => some (s.remember w published)
        | none, none => none
      match known with
      | some s =>
        if s.groupMode != 2 || late then s
        else
          { s with
            group := { s.group with plan := some ⟨frame, b.take 128, controls⟩ }
            pub := { s.pub with lastStatus := status, history := s.pub.history.map (fun h => { h with landing := fieldAt b 64 8 }) } }
      | none => s))

/-! Lock-step messages -/

/-- DIGEST: a phase digest of the peer is compared with this chip's (R379). -/
def execDigest (t : Nat) (m : GroupMsg) (s : State) : Host.Outcome State Fault Refusal := .next (s.groupTake t 7 m (fun s => s.digestFrom m.frame m.payload))

/-- BISECT: a level of the divergence search (R381). -/
def execBisect (t : Nat) (m : GroupMsg) (s : State) : Host.Outcome State Fault Refusal := .next (s.groupTake t 8 m (fun s => s.bisectFrom m.frame m.payload))

/-! The mirrored journal (R443, R444) -/

/-- The record is that of another mirrored message. -/
def JRec.sameAs (a b : JRec) : Bool :=
  a.isDescriptor == b.isDescriptor && a.owner == b.owner && a.submitIndex == b.submitIndex && a.sequence == b.sequence && a.stamp == b.stamp

/-- MIRROR: a journal record, or a change of its state, is stored and acknowledged, a packet of the PRIMARY being applied first (State.admitMirrored); a retired one is given up. An
acknowledgement covers every earlier message, so none goes out while an earlier record waits. -/
def execMirror (t : Nat) (m : GroupMsg) (s : State) : Host.Outcome State Fault Refusal :=
  .next (s.groupTake t 9 m (fun s =>
    let j := jrecOf s.host.nextJournal m.payload
    let mine (x : MirrorRec) : Bool := x.chip == m.sender && x.record.sameAs j
    let waits : Bool := s.group.mirrored.any (fun x => x.ackDue.isSome && x.chip == m.sender)
    let old := s.group.mirrored.find? (fun x => x.chip == m.sender && x.record.sameAs j)
    let s : State := match old with
      | some x =>
        let kept : List MirrorRec :=
          if j.st == .retired then s.group.mirrored.filter (fun y => !mine y)
          else modFirst mine (fun y => { y with record := { j with id := x.record.id, outcome := x.record.outcome } }) s.group.mirrored
        { s with group := { s.group with mirrored := kept } }
      | none =>
        if j.st == .retired then s
        else { s with group := { s.group with mirrored := s.group.mirrored ++ [⟨m.sender, j, some (m.frame, m.sequence)⟩] }, host := { s.host with nextJournal := s.host.nextJournal + 1 } }
    if old.isNone && j.st != .retired then (s.admitMirrored).signalPause
    else if waits then s
    else s.sendGroup m.sender 0x0A true 0 m.frame 0 (leBytes 8 m.sequence)))

/-- MIRROR_ACK: the acceptances that waited for the records it covers go on (R443). -/
def execMirrorAck (t : Nat) (m : GroupMsg) (s : State) : Host.Outcome State Fault Refusal :=
  .next (s.groupTake t 0x0A m (fun s =>
    let n := fieldAt m.payload 0 8
    let covered := s.group.mirrorSent.filter (fun p => decide (p.1 ≤ n))
    let s : State := { s with group := { s.group with mirrorSent := s.group.mirrorSent.filter (fun p => !decide (p.1 ≤ n)) } }
    covered.foldl (fun s p => match s.record? p.2 with
      | some j => if j.waitsMirror then s.finishAccept j.id else s
      | none => s) s))

/-- R444: the mirror target is lost: acceptance goes on with one copy. Where the journal runs on one copy of its own, it is a second single-part fault before recovery (R414, R463). -/
def State.mirrorLost (s : State) (c : Nat) : State :=
  let waiting := s.host.journal.filter (fun j => j.waitsMirror)
  let s : State := { s with group := { s.group with mirrorSent := [], mirrorDown := true } }
  let s : State := (s.raise 0x0908 c).setCause 3
  let s : State := if s.journalSingle then s.deviceFault 2 else s
  waiting.foldl (fun s j => s.finishAccept j.id) s

/-! Roles (R447 to R450) -/

/-- TAKEOVER: a chip announces a new role. -/
def execTakeover (t : Nat) (m : GroupMsg) (s : State) : Host.Outcome State Fault Refusal :=
  .next (s.groupTake t 0x0B m (fun s => s.modPeer m.sender (fun p => { p with role := fieldAt m.payload 0 1 })))

/-- CHECKPOINT: the carried state of the rejoining STANDBY, loaded when it has arrived whole (R450). -/
def execCheckpoint (t : Nat) (m : GroupMsg) (s : State) : Host.Outcome State Fault Refusal :=
  .next (s.groupTake t 0x0C m (fun s =>
    match s.assemble 0x0C m with
    | (some b, s) => (match s.imageOf b with | some c => if s.groupMode == 1 && s.group.role == 5 then s.dropRunAhead.loadCarried c else s | none => s)
    | (none, s) => s))

/-- A packet of a record is still on its way to the map builder. -/
def State.packetPending (s : State) (id : Nat) : Bool :=
  s.world.streams.any (fun x => x.waiting.any (fun p => p.journal == id) || x.buf.packets.any (fun p => p.journal == id) || x.held.any (fun p => p.journal == id))

/-- R448: a new PRIMARY completes one mirrored record: it joins the journal, and is written, replayed, completed, or left to the map builder. -/
def State.takeMirrored (s : State) (j : JRec) : State :=
  let packet : Bool := match j.desc with | some d => d.opcode == 1 | none => true
  let s : State := { s with host := { s.host with journal := s.host.journal ++ [{ j with ready := packet }] } }
  match j.st with
  | .completing => s.resumeCompleting j
  | .accepted => if !packet || s.packetPending j.id then s else s.completeRecord j.id
  | .retired => s

/-- R448: the gratuitous ARP announcement of the ServiceAddress, on the active port. -/
def State.announce (s : State) : State :=
  if s.cfg 0x8600 0x0F == 0 then s else s.send (.arp s.group.activePort (s.cfg 0x8600 0x0F))

/-- R448: the STANDBY becomes PRIMARY at once. A record it has not acknowledged was not accepted (R407), and is given up. -/
def State.becomePrimary (s : State) : State :=
  let s : State := (s.takeRole 4).announce
  let records := (s.group.mirrored.filter (fun m => m.ackDue.isNone)).map (·.record)
  let s : State := { s with group := { s.group with mirrored := [] } }
  let replayed := records.any (fun j => j.st == .accepted && (match j.desc with | some d => d.opcode != 1 | none => false))
  let s : State := (records.foldl State.takeMirrored s).feedBacklog
  if replayed then s.raiseOpen s.tb.curFrame 0x020E else s

/-- PEER_LOSS: no valid message for PeerLossTimeout: the chip is declared LOST, and its role is made up for (R447, R448). -/
def execPeerLoss (t chip : Nat) (s : State) : Host.Outcome State Fault Refusal :=
  let s : State := s.at t
  .next (
    let p := s.peer chip
    let silent : Bool := match p.heard with | some h => decide (h + s.us 0x8600 6 ≤ s.now) | none => false
    if s.groupMode == 0 || !s.works || !s.otherChips.contains chip || !(p.st == .present || p.st == .joining) || !silent then s
    else
      let mirrors := s.mirrorTarget == some chip
      let s : State := s.modPeer chip (fun p => { p with st := .lost, lossCount := min 65535 (p.lossCount + 1) })
      let s : State := ((s.count 0x8605 0x0A 1).raise 0x0905 chip).setCause 8
      let s : State := if mirrors then s.mirrorLost chip else s
      if s.groupMode == 1 && s.group.role == 5 && p.role == 4 then s.becomePrimary
      else if s.groupMode == 2 && p.role == 3 && s.chip == 0 then { s with group := { s.group with takeAtTick := some 3 } }
      else s)

/-! Ports (R428, R430) -/

/-- PORT_FAILOVER: no acknowledgement for PortFailTimeout on the active port while messages are outstanding: traffic moves to the standby port. -/
def execPortFailover (t : Nat) (s : State) : Host.Outcome State Fault Refusal :=
  let s : State := s.at t
  .next (
    let a := s.group.activePort
    if s.works && (s.port (1 - a)).up && s.portBusy a && decide ((s.port a).lastAck + s.us 0x8600 7 ≤ s.now) then s.failover else s)

/-- PORT_LINK_DOWN: event 0x0902; from the active port traffic moves to the standby port. -/
def execPortLinkDown (t port : Nat) (s : State) : Host.Outcome State Fault Refusal := .next ((s.at t).portDown port)

/-- PORT_LINK_UP: the port's link is trained: it is standby, or takes over from an active port that is down. -/
def execPortLinkUp (t port : Nat) (s : State) : Host.Outcome State Fault Refusal :=
  let s : State := s.at t
  .next (
    if !s.portEnabled port || (s.port port).up then s
    else
      let s : State := s.modPort port (fun p => { p with up := true, lastAck := s.now })
      if s.group.activePort != port && !(s.port s.group.activePort).up then s.failover else s)

/-- Messages of a priority that a pause held back on a port go out, in order: those of its queue pairs, and at InputPriority what else waits. -/
def State.resumePriority (s : State) (p priority : Nat) : State :=
  let s : State := ((s.group.qps.map (·.1)).filter (fun n => s.qpPort n == p)).foldl (fun s n =>
    let q := s.qp n
    let held := q.outstanding.filter (fun m => !m.sent && m.priority == priority)
    let timer := if held.isEmpty || q.outstanding.any (·.sent) then q.timer else s.now
    let s : State := s.setQp n { q with outstanding := q.outstanding.map (fun m => if m.priority == priority then { m with sent := true } else m), timer := timer }
    held.foldl (fun s m => s.send m.msg) s) s
  if priority == s.cfg 0x8600 0x0C then (s.port p).held.foldl (fun s m => s.send m) (s.modPort p (fun x => { x with held := [] })) else s

/-- PFC_PAUSE: a pause of a priority other than 7 is honoured until it is lifted (R428). -/
def execPfcPause (t port priority : Nat) (pause : Bool) (s : State) : Host.Outcome State Fault Refusal :=
  let s : State := s.at t
  .next (
    if 7 ≤ priority then s
    else if pause then s.modPort port (fun p => { p with paused := p.paused ||| 2 ^ priority })
    else (s.modPort port (fun p => { p with paused := clearBitNat p.paused priority })).resumePriority port priority)

/-! Queue pairs (R427, R429) -/

/-- CNP: a congestion notification halves the queue pair's rate, to no less than 1 Gb/s (whole bits a second, log entry 49). -/
def execCnp (t qp : Nat) (s : State) : Host.Outcome State Fault Refusal :=
  let s : State := s.at t
  .next (
    if !s.works || !s.qpKnown qp then s
    else
      let q := s.qp qp
      (s.setQp qp { q with rate := max 1000000000 (q.rate / 2), lastCnp := some s.now, lastRaise := s.now }).count 0x8605 6 1)

/-- ECN_CE_PACKET: answered with a congestion notification, at most one a queue pair in 50 µs. -/
def execEcnCePacket (t qp : Nat) (s : State) : Host.Outcome State Fault Refusal :=
  let s : State := s.at t
  .next (
    let q := s.qp qp
    let due : Bool := match q.cnpSent with | some u => decide (u + 50000 ≤ s.now) | none => true
    if s.works && s.qpKnown qp && due then (s.setQp qp { q with cnpSent := some s.now }).send (.cnp qp) else s)

/-- RATE_RECOVERY_TIMER: 55 µs without a notification raise the rate by 5 Gb/s, up to the full rate. -/
def execRateRecoveryTimer (t qp : Nat) (s : State) : Host.Outcome State Fault Refusal :=
  let s : State := s.at t
  .next (
    let q := s.qp qp
    if q.rate < fullRate && decide (q.lastRaise + 55000 ≤ s.now) then s.setQp qp { q with rate := min fullRate (q.rate + 5000000000), lastRaise := s.now } else s)

/-- ROCE_ACK: messages up to a number are acknowledged. -/
def execRoceAck (t qp message : Nat) (s : State) : Host.Outcome State Fault Refusal :=
  let s : State := s.at t
  .next (
    if !s.works || !s.qpKnown qp then s
    else
      let q := s.qp qp
      let s : State := s.setQp qp { q with outstanding := q.outstanding.filter (fun m => !decide (m.number ≤ message)), timer := s.now, retries := 0 }
      s.modPort (s.qpPort qp) (fun p => { p with lastAck := s.now }))

/-- ROCE_ACK_TIMEOUT: 65.5 µs after a message without an acknowledgement, the queue pair sends again what is not acknowledged, up to seven times; then its connection is in error
(R420). -/
def execRoceAckTimeout (t qp : Nat) (s : State) : Host.Outcome State Fault Refusal :=
  let s : State := s.at t
  .next (
    let q := s.qp qp
    if !s.works || !s.qpKnown qp || q.error || !q.outstanding.any (·.sent) || decide (s.now < q.timer + 65500) then s
    else if q.retries < 7 then (s.setQp qp { q with retries := q.retries + 1 }).resendAll qp
    else (s.setQp qp { q with error := true }).clientsRecover qp)

/-- ROCE_CONNECTION_REESTABLISHED: the rings of the queue pair's clients leave RECOVERING, unless a journal recovery holds them, and what is not acknowledged goes out again. -/
def execRoceConnectionReestablished (t qp : Nat) (s : State) : Host.Outcome State Fault Refusal :=
  let s : State := s.at t
  .next (
    if !s.works || !s.qpKnown qp then s
    else
      let s : State := s.setQp qp { s.qp qp with retries := 0, error := false }
      let rings := (s.qpClients qp).flatMap (fun c => [4 * c, 4 * c + 1, 4 * c + 2, 4 * c + 3])
      let s : State := if s.host.recovery then s else rings.foldl (fun s r => s.ringResumes r (s.ringReturns r)) s
      s.resendAll qp)

end Sys2Proof.Machine
end

