-- ==== Sys2Proof/Machine/Dispatch.lean ====
section
/-!
DEFINITION. Which meaning each command has: one arm for each constructor of Instr.
-/
namespace Sys2Proof.Machine
open Sys2Proof

def exec (i : Instr) (s : State) : Host.Outcome State Fault Refusal :=
  match i with
  | .read t m => Sys2Proof.Machine.execRead t m s
  | .write t m => Sys2Proof.Machine.execWrite t m s
  | .blockRead t m => Sys2Proof.Machine.execBlockRead t m s
  | .blockWrite t m => Sys2Proof.Machine.execBlockWrite t m s
  | .stage t m => Sys2Proof.Machine.execStage t m s
  | .check t m => Sys2Proof.Machine.execCheck t m s
  | .commit t m => Sys2Proof.Machine.execCommit t m s
  | .abort t m => Sys2Proof.Machine.execAbort t m s
  | .subscribe t m => Sys2Proof.Machine.execSubscribe t m s
  | .setupRequest t m => Sys2Proof.Machine.execSetupRequest t m s
  | .close t m => Sys2Proof.Machine.execClose t m s
  | .keepAlive t m => Sys2Proof.Machine.execKeepAlive t m s
  | .sessionIdleTimeout session => Sys2Proof.Machine.execSessionIdleTimeout session s
  | .keepAliveTimer session => Sys2Proof.Machine.execKeepAliveTimer session s
  | .subscriptionNotice session idx sub => Sys2Proof.Machine.execSubscriptionNotice session idx sub s
  | .counterClear idx mask => Sys2Proof.Machine.execCounterClear idx mask s
  | .ruleEnd => Sys2Proof.Machine.execRuleEnd s
  | .pushi imm => Sys2Proof.Machine.execPushi imm s
  | .pushq imm => Sys2Proof.Machine.execPushq imm s
  | .ld idx sub => Sys2Proof.Machine.execLd idx sub s
  | .ldact idx sub => Sys2Proof.Machine.execLdact idx sub s
  | .ruleAdd => Sys2Proof.Machine.execRuleAdd s
  | .ruleSub => Sys2Proof.Machine.execRuleSub s
  | .ruleMul => Sys2Proof.Machine.execRuleMul s
  | .ruleDiv => Sys2Proof.Machine.execRuleDiv s
  | .ruleAnd => Sys2Proof.Machine.execRuleAnd s
  | .ruleOr => Sys2Proof.Machine.execRuleOr s
  | .ruleXor => Sys2Proof.Machine.execRuleXor s
  | .ruleShl => Sys2Proof.Machine.execRuleShl s
  | .ruleShr => Sys2Proof.Machine.execRuleShr s
  | .ruleNeg => Sys2Proof.Machine.execRuleNeg s
  | .ruleEq => Sys2Proof.Machine.execRuleEq s
  | .ruleNe => Sys2Proof.Machine.execRuleNe s
  | .ruleLt => Sys2Proof.Machine.execRuleLt s
  | .ruleLe => Sys2Proof.Machine.execRuleLe s
  | .ruleNot => Sys2Proof.Machine.execRuleNot s
  | .ruleDup => Sys2Proof.Machine.execRuleDup s
  | .ruleDrop => Sys2Proof.Machine.execRuleDrop s
  | .ruleSwap => Sys2Proof.Machine.execRuleSwap s
  | .ruleAssert code => Sys2Proof.Machine.execRuleAssert code s
  | .ruleJz offset => Sys2Proof.Machine.execRuleJz offset s
  | .sync t m => Sys2Proof.Machine.execSync t m s
  | .announce t m => Sys2Proof.Machine.execAnnounce t m s
  | .pdelayReq t m => Sys2Proof.Machine.execPdelayReq t m s
  | .pdelayReqIssue t => Sys2Proof.Machine.execPdelayReqIssue t s
  | .syncTimeout t => Sys2Proof.Machine.execSyncTimeout t s
  | .holdoverLimit => Sys2Proof.Machine.execHoldoverLimit s
  | .ppsIn t => Sys2Proof.Machine.execPpsIn t s
  | .ppsOut => Sys2Proof.Machine.execPpsOut s
  | .frameTick => Sys2Proof.Machine.execFrameTick s
  | .programReload ingress number => Sys2Proof.Machine.execProgramReload ingress number s
  | .settingsSave => Sys2Proof.Machine.execSettingsSave s
  | .seal => Sys2Proof.Machine.execSeal s
  | .runaheadTileCompare => Sys2Proof.Machine.execRunaheadTileCompare s
  | .runaheadCommitPoint => Sys2Proof.Machine.execRunaheadCommitPoint s
  | .tileJob lane => Sys2Proof.Machine.execTileJob lane s
  | .mapReady => Sys2Proof.Machine.execMapReady s
  | .sceneTensorEmit => Sys2Proof.Machine.execSceneTensorEmit s
  | .buildEndPromotion => Sys2Proof.Machine.execBuildEndPromotion s
  | .streamPacketArrivalUdp t destination bytes => Sys2Proof.Machine.execStreamPacketArrivalUdp t destination bytes s
  | .streamPacketArrivalRoce t r bytes => Sys2Proof.Machine.execStreamPacketArrivalRoce t r bytes s
  | .filterInvocation stream => Sys2Proof.Machine.execFilterInvocation stream s
  | .streamReadStart stream => Sys2Proof.Machine.execStreamReadStart stream s
  | .packetApply stream flips => Sys2Proof.Machine.execPacketApply stream flips s
  | .streamBankReturn stream bank => Sys2Proof.Machine.execStreamBankReturn stream bank s
  | .flush stream => Sys2Proof.Machine.execFlush stream s
  | .urgentDelta stream => Sys2Proof.Machine.execUrgentDelta stream s
  | .urgentVersionSeal => Sys2Proof.Machine.execUrgentVersionSeal s
  | .policyRun failAfter => Sys2Proof.Machine.execPolicyRun failAfter s
  | .expanderWindowFill engine => Sys2Proof.Machine.execExpanderWindowFill engine s
  | .candidateBlock engine => Sys2Proof.Machine.execCandidateBlock engine s
  | .ialu rd ra rb pred fn => Sys2Proof.Machine.execIalu rd ra rb pred fn s
  | .icmp rd ra rb pred fn => Sys2Proof.Machine.execIcmp rd ra rb pred fn s
  | .falu rd ra rb pred fn => Sys2Proof.Machine.execFalu rd ra rb pred fn s
  | .fcmp rd ra rb pred fn => Sys2Proof.Machine.execFcmp rd ra rb pred fn s
  | .valu rd ra rb pred fn => Sys2Proof.Machine.execValu rd ra rb pred fn s
  | .plog rd ra rb pred fn => Sys2Proof.Machine.execPlog rd ra rb pred fn s
  | .bswap32 rd ra pred => Sys2Proof.Machine.execBswap32 rd ra pred s
  | .bswap16 rd ra pred => Sys2Proof.Machine.execBswap16 rd ra pred s
  | .crc32c rd ra rb pred fn => Sys2Proof.Machine.execCrc32c rd ra rb pred fn s
  | .addi rd ra imm => Sys2Proof.Machine.execAddi rd ra imm s
  | .ori rd ra imm => Sys2Proof.Machine.execOri rd ra imm s
  | .andi rd ra imm => Sys2Proof.Machine.execAndi rd ra imm s
  | .lui rd imm => Sys2Proof.Machine.execLui rd imm s
  | .bfx rd ra pos widthLess1 => Sys2Proof.Machine.execBfx rd ra pos widthLess1 s
  | .ldwS rd ra imm => Sys2Proof.Machine.execLdwS rd ra imm s
  | .stwS rd ra imm => Sys2Proof.Machine.execStwS rd ra imm s
  | .vldS rd ra imm => Sys2Proof.Machine.execVldS rd ra imm s
  | .vstS rd ra imm => Sys2Proof.Machine.execVstS rd ra imm s
  | .ldwT rd ra imm => Sys2Proof.Machine.execLdwT rd ra imm s
  | .ldwH rd ra imm => Sys2Proof.Machine.execLdwH rd ra imm s
  | .atomAddI32 ra rb pred => Sys2Proof.Machine.execAtomAddI32 ra rb pred s
  | .atomAddI64 ra rb pred => Sys2Proof.Machine.execAtomAddI64 ra rb pred s
  | .atomAddU16q7s ra rb pred => Sys2Proof.Machine.execAtomAddU16q7s ra rb pred s
  | .atomAddF32 ra rb pred => Sys2Proof.Machine.execAtomAddF32 ra rb pred s
  | .poseSphere rd ra pred => Sys2Proof.Machine.execPoseSphere rd ra pred s
  | .poseAxle rd ra pred => Sys2Proof.Machine.execPoseAxle rd ra pred s
  | .query rd ra rb pred => Sys2Proof.Machine.execQuery rd ra rb pred s
  | .lookup rd ra rb pred => Sys2Proof.Machine.execLookup rd ra rb pred s
  | .acc ra pred fn => Sys2Proof.Machine.execAcc ra pred fn s
  | .merit ra pred => Sys2Proof.Machine.execMerit ra pred s
  | .scg rd rb pred => Sys2Proof.Machine.execScg rd rb pred s
  | .br pred inv offset => Sys2Proof.Machine.execBr pred inv offset s
  | .loop rs body bound => Sys2Proof.Machine.execLoop rs body bound s
  | .yield pred => Sys2Proof.Machine.execYield pred s
  | .reject ra pred code => Sys2Proof.Machine.execReject ra pred code s
  | .galleryMerge gallery beta => Sys2Proof.Machine.execGalleryMerge gallery beta s
  | .topStairMerge => Sys2Proof.Machine.execTopStairMerge s
  | .listRebuild => Sys2Proof.Machine.execListRebuild s
  | .candidateSingle engine => Sys2Proof.Machine.execCandidateSingle engine s
  | .selectionClose => Sys2Proof.Machine.execSelectionClose s
  | .reference engine => Sys2Proof.Machine.execReference engine s
  | .qpInstance place => Sys2Proof.Machine.execQpInstance place s
  | .qpIteration place => Sys2Proof.Machine.execQpIteration place s
  | .solverStop => Sys2Proof.Machine.execSolverStop s
  | .timeScaling place => Sys2Proof.Machine.execTimeScaling place s
  | .recheck engine => Sys2Proof.Machine.execRecheck engine s
  | .sentryCheck place => Sys2Proof.Machine.execSentryCheck place s
  | .sentryPacket => Sys2Proof.Machine.execSentryPacket s
  | .landing => Sys2Proof.Machine.execLanding s
  | .publicationFailure => Sys2Proof.Machine.execPublicationFailure s
  | .slackStart => Sys2Proof.Machine.execSlackStart s
  | .release t slot generation => Sys2Proof.Machine.execRelease t slot generation s
  | .dispatcherTick t tick => Sys2Proof.Machine.execDispatcherTick t tick s
  | .loadRanking => Sys2Proof.Machine.execLoadRanking s
  | .steal gallery => Sys2Proof.Machine.execSteal gallery s
  | .itemAssign t dispatcher => Sys2Proof.Machine.execItemAssign t dispatcher s
  | .itemRetire t serial => Sys2Proof.Machine.execItemRetire t serial s
  | .itemAdmission => Sys2Proof.Machine.execItemAdmission s
  | .engineLeavesService engine cause => Sys2Proof.Machine.execEngineLeavesService engine cause s
  | .galleryLeavesService gallery cause => Sys2Proof.Machine.execGalleryLeavesService gallery cause s
  | .adminOutWrite engines index mask => Sys2Proof.Machine.execAdminOutWrite engines index mask s
  | .drainComplete engine number => Sys2Proof.Machine.execDrainComplete engine number s
  | .rejoinRegister engine number passed => Sys2Proof.Machine.execRejoinRegister engine number passed s
  | .selfTestSlice t unit result => Sys2Proof.Machine.execSelfTestSlice t unit result s
  | .sliceAbandon slice => Sys2Proof.Machine.execSliceAbandon slice s
  | .coverageOverdue t unit => Sys2Proof.Machine.execCoverageOverdue t unit s
  | .itemCutOff t what => Sys2Proof.Machine.execItemCutOff t what s
  | .clockMonitorWindow t window => Sys2Proof.Machine.execClockMonitorWindow t window s
  | .newelLockstepMismatch t => Sys2Proof.Machine.execNewelLockstepMismatch t s
  | .uncorrectedHallError t address => Sys2Proof.Machine.execUncorrectedHallError t address s
  | .correctedErrorEvent t store => Sys2Proof.Machine.execCorrectedErrorEvent t store s
  | .channelLoss t channel => Sys2Proof.Machine.execChannelLoss t channel s
  | .journalRereplicationDone t => Sys2Proof.Machine.execJournalRereplicationDone t s
  | .doorbell t ring value => Sys2Proof.Machine.execDoorbell t ring value s
  | .descriptorFetch t ring bytes payload readOk => Sys2Proof.Machine.execDescriptorFetch t ring bytes payload readOk s
  | .descriptorAccept t => Sys2Proof.Machine.execDescriptorAccept t s
  | .nop record => Sys2Proof.Machine.execNop record s
  | .streamData record => Sys2Proof.Machine.execStreamData record s
  | .dictionary t run => Sys2Proof.Machine.execDictionary t run s
  | .loadModel run operationsKnown => Sys2Proof.Machine.execLoadModel run operationsKnown s
  | .loadProgram t run => Sys2Proof.Machine.execLoadProgram t run s
  | .replay run checkpoint => Sys2Proof.Machine.execReplay run checkpoint s
  | .regenerate run => Sys2Proof.Machine.execRegenerate run s
  | .dump run => Sys2Proof.Machine.execDump run s
  | .interruptModerationTimer t ring => Sys2Proof.Machine.execInterruptModerationTimer t ring s
  | .apertureBaseWrite value => Sys2Proof.Machine.execApertureBaseWrite value s
  | .recoveryControl t value => Sys2Proof.Machine.execRecoveryControl t value s
  | .reqLen t channel length bytes vector => Sys2Proof.Machine.execReqLen t channel length bytes vector s
  | .roceDoorbell t qp ring value => Sys2Proof.Machine.execRoceDoorbell t qp ring value s
  | .roceConsumerSend t qp ring body => Sys2Proof.Machine.execRoceConsumerSend t qp ring body s
  | .udpDescriptorDatagram t d => Sys2Proof.Machine.execUdpDescriptorDatagram t d s
  | .udpAcknowledgement t d => Sys2Proof.Machine.execUdpAcknowledgement t d s
  | .udpRecordResend t client => Sys2Proof.Machine.execUdpRecordResend t client s
  | .linkTrained t speed width => Sys2Proof.Machine.execLinkTrained t speed width s
  | .hello t m => Sys2Proof.Machine.execHello t m s
  | .helloTimer t => Sys2Proof.Machine.execHelloTimer t s
  | .mapSegment t m => Sys2Proof.Machine.execMapSegment t m s
  | .version t m => Sys2Proof.Machine.execVersion t m s
  | .scene t m => Sys2Proof.Machine.execScene t m s
  | .list t m => Sys2Proof.Machine.execList t m s
  | .plan t m => Sys2Proof.Machine.execPlan t m s
  | .digest t m => Sys2Proof.Machine.execDigest t m s
  | .digestFinal frame phase round => Sys2Proof.Machine.execDigestFinal frame phase round s
  | .digestMissing frame phase round => Sys2Proof.Machine.execDigestMissing frame phase round s
  | .bisect t m => Sys2Proof.Machine.execBisect t m s
  | .mirror t m => Sys2Proof.Machine.execMirror t m s
  | .mirrorAck t m => Sys2Proof.Machine.execMirrorAck t m s
  | .takeover t m => Sys2Proof.Machine.execTakeover t m s
  | .checkpoint t m => Sys2Proof.Machine.execCheckpoint t m s
  | .peerLoss t chip => Sys2Proof.Machine.execPeerLoss t chip s
  | .portFailover t => Sys2Proof.Machine.execPortFailover t s
  | .cnp t qp => Sys2Proof.Machine.execCnp t qp s
  | .ecnCePacket t qp => Sys2Proof.Machine.execEcnCePacket t qp s
  | .rateRecoveryTimer t qp => Sys2Proof.Machine.execRateRecoveryTimer t qp s
  | .substituteVersion => Sys2Proof.Machine.execSubstituteVersion s
  | .replayEnableWrite value => Sys2Proof.Machine.execReplayEnableWrite value s
  | .powerOnReset t pcie facts => Sys2Proof.Machine.execPowerOnReset t pcie facts s
  | .warmRstNAssert t => Sys2Proof.Machine.execWarmRstNAssert t s
  | .warmRstNRelease t facts => Sys2Proof.Machine.execWarmRstNRelease t facts s
  | .pwrGoodFall t => Sys2Proof.Machine.execPwrGoodFall t s
  | .storedDomLoad t => Sys2Proof.Machine.execStoredDomLoad t s
  | .firmwareActivate slot => Sys2Proof.Machine.execFirmwareActivate slot s
  | .firmwareConfirm => Sys2Proof.Machine.execFirmwareConfirm s
  | .attestationReportBuild t => Sys2Proof.Machine.execAttestationReportBuild t s
  | .throttleEvaluation t window => Sys2Proof.Machine.execThrottleEvaluation t window s
  | .stepChange t acknowledged => Sys2Proof.Machine.execStepChange t acknowledged s
  | .temperatureSample t temps => Sys2Proof.Machine.execTemperatureSample t temps s
  | .railExcursion t rail high => Sys2Proof.Machine.execRailExcursion t rail high s
  | .coldResetAssert t pcie => Sys2Proof.Machine.execColdResetAssert t pcie s
  | .newelClkFailure t => Sys2Proof.Machine.execNewelClkFailure t s
  | .newelSramEccError t => Sys2Proof.Machine.execNewelSramEccError t s
  | .vddNewelLoss t => Sys2Proof.Machine.execVddNewelLoss t s
  | .vddAonLoss t => Sys2Proof.Machine.execVddAonLoss t s
  | .patrolScrub t store single several => Sys2Proof.Machine.execPatrolScrub t store single several s
  | .coreVoltageSettled t => Sys2Proof.Machine.execCoreVoltageSettled t s
  | .portLinkDown t port => Sys2Proof.Machine.execPortLinkDown t port s
  | .portLinkUp t port => Sys2Proof.Machine.execPortLinkUp t port s
  | .pfcPause t port priority pause => Sys2Proof.Machine.execPfcPause t port priority pause s
  | .roceAck t qp message => Sys2Proof.Machine.execRoceAck t qp message s
  | .roceAckTimeout t qp => Sys2Proof.Machine.execRoceAckTimeout t qp s
  | .roceConnectionReestablished t qp => Sys2Proof.Machine.execRoceConnectionReestablished t qp s
  | .busMasterEnableWrite t enable => Sys2Proof.Machine.execBusMasterEnableWrite t enable s

end Sys2Proof.Machine
end

