-- ==== Sys2Proof/Machine/HostSpace.lean ====
section
/-!
DEFINITION. What a host sees of the PCIe function: configuration space (R389, R492, R493) and reads of BAR0, BAR2 and BAR4 (R392 to R395, R402, R403, R250, R419). No row of the table
is a read; these are the values that one returns in a state.
-/
namespace Sys2Proof.Machine
open Sys2Proof

/-! Configuration space -/

/-- R389: what the function supports. -/
structure FunctionIdentity where
  vendor : Nat
  device : Nat
  revision : Nat
  classCode : Nat
  msixVectors : Nat
  maxPayload : Nat
  maxReadRequest : Nat
  aer : Bool
  tenBitTags : Bool
  virtualFunctions : Nat
  flr : Bool
  aspm : Bool
  ats : Bool
  intx : Bool
  msi : Bool
  deriving DecidableEq, Repr

/-- R389: the configuration identity. -/
def pcieFunction : FunctionIdentity :=
  { vendor := 0x1F7D, device := 0x4600, revision := 0xB0, classCode := 0x120000, msixVectors := 2048, maxPayload := 512, maxReadRequest := 4096, aer := true, tenBitTags := true,
    virtualFunctions := 0, flr := false, aspm := false, ats := false, intx := false, msi := false }

/-- The answer to a configuration read: Configuration Request Retry Status, or a 32-bit value. -/
inductive ConfigReply where
  | retry
  | value (w : Nat)
  deriving DecidableEq, Repr

/-- R389, R492, R493: a configuration read at a multiple of 4. PRESUMED (log entry 68): the places of the identity, the BARs and a capability's header are those of the PCIe Base
Specification; the capabilities whose places the spec does not give read zero. -/
def State.configRead (s : State) (offset : Nat) : ConfigReply :=
  if s.boot.retries then .retry
  else
    let f := pcieFunction
    let bar (k : Nat) : Nat := (s.host.bars[k]?).getD 0
    .value (match offset with
      | 0x00 => f.vendor + 65536 * f.device
      | 0x04 => bitIf s.host.busMaster 2
      | 0x08 => f.revision + 256 * f.classCode
      | 0x10 => bar 0 % u32Mod + 4
      | 0x14 => bar 0 / u32Mod
      | 0x18 => bar 1 % u32Mod + 4
      | 0x1C => bar 1 / u32Mod
      | 0x20 => bar 2 % u32Mod + 12
      | 0x24 => bar 2 / u32Mod
      | 0x2C => s.dict.part.subsystemVendor + 65536 * s.dict.part.subsystemId
      | 0x400 => 0x0001000B
      | 0x404 => 0x00C10001
      | 0x408 => s.boot.startupRegister
      | _ => 0)

/-! The BARs -/

/-- The byte at `a` of pieces at their addresses; zero where none has it (R393). -/
def byteAt (pieces : List (Nat × List Byte)) (a : Nat) : Byte :=
  match pieces.find? (fun p => decide (p.1 ≤ a) && decide (a < p.1 + p.2.length)) with
  | some p => (p.2[a - p.1]?).getD 0#8
  | none => 0#8

/-- R394: the device registers; RECOVERY_CONTROL is write-only. -/
def State.deviceRegisters (s : State) : List (Nat × List Byte) :=
  [(0x000, leBytes 4 s.hostStatus), (0x008, leBytes 8 s.tb.curFrame), (0x010, leBytes 8 s.host.apertureBase)]

/-- R402: a read of a doorbell returns the last value accepted. -/
def State.doorbellValue (s : State) (r : Nat) : Nat := match s.ring? r with | some x => if r % 4 == 0 then x.producer else x.consumer | none => 0

/-- A byte of BAR0; the PBA shows no vector pending, for each is signalled at once. -/
def State.bar0Byte (s : State) (a : Nat) : Byte :=
  if a < 0x10000 then byteAt s.deviceRegisters a
  else if a < 0x18000 then memRead (a - 0x10000) s.host.msix
  else if 0x100000 ≤ a && a < 0x140000 then byteAt [(0, leBytes 4 (s.doorbellValue ((a - 0x100000) / 16)))] (a % 16)
  else 0#8

/-- R403: a ring's control block. -/
def Ring.control (x : Ring) : List Byte :=
  let st : Nat := match x.st with | .disabled => 0 | .active => 1 | .draining => 2 | .recovering => 3
  leBytes 4 x.producer ++ leBytes 4 x.consumer ++ leBytes 4 x.nextSeq ++ leBytes 2 (bitIf x.seqSet 0 + 2 * st) ++ leBytes 2 x.lastStatus ++ leBytes 4 x.outstanding ++ List.replicate 44 0#8

/-- R419: what a mailbox channel returns: the response area, RESP_LEN and VECTOR. -/
def Mailbox.bytes (m : Mailbox) : List (Nat × List Byte) := [(0x800, slice m.resp 0 1472), (0xFF4, leBytes 2 m.resp.length ++ leBytes 2 m.placed), (0xFF8, leBytes 4 m.vector)]

/-- A byte of BAR2: the control blocks, the result slots in use (R250) and the mailbox. -/
def State.bar2Byte (s : State) (a : Nat) : Byte :=
  if a < 0x100000 then (match s.ring? (a / 64) with | some x => byteAt [(0, x.control)] (a % 64) | none => 0#8)
  else if a < 0x120000 then
    (let k := (a - 0x100000) / 8192
     if k < s.cfg 0x6300 1 then (match s.pub.slots[k]? with | some x => byteAt [(0, x.bytes)] (a % 8192) | none => 0#8) else 0#8)
  else if a < 0x128000 then (match s.host.mailboxes[(a - 0x120000) / 4096]? with | some m => byteAt m.bytes (a % 4096) | none => 0#8)
  else 0#8

/-- R395: a byte of BAR4, in host buffer space through the window; beyond its end, zero. -/
def State.bar4Byte (s : State) (a : Nat) : Byte := if s.host.apertureBase + a < hostBufferSize then memRead (s.host.apertureBase + a) s.host.buffer else 0#8

/-- R392: `n` bytes read from a BAR (0, 2 or 4): all ones until READY. -/
def State.barRead (s : State) (bar a n : Nat) : List Byte :=
  (List.range n).map (fun k =>
    if !s.boot.ready then 0xFF#8
    else match bar with
      | 0 => s.bar0Byte (a + k)
      | 2 => s.bar2Byte (a + k)
      | 4 => s.bar4Byte (a + k)
      | _ => 0#8)

end Sys2Proof.Machine
end

