-- ==== Sys2Proof/Safety.lean ====
section
/-!
DEFINITION. What a safe run is: a run that never stops. A stop would be a refusal by name; the device has no fault of its own that ends a run. And the words in which the
statements speak of a state: what an instruction's registers are, what a command changed.
-/
namespace Sys2Proof
open Machine

/-- `k` steps from a state all answer a next state. -/
def Safe (k : Nat) (s : State) : Prop := ∃ t, core.run k s = .next t

/-! What an event or a message may change -/

/-- R427, R428: what a message sent may change of the group's state: queue pairs and ports, in which it may wait or stay outstanding. -/
abbrev Machine.Group.links (g h : Group) : Group := { g with qps := h.qps, ports := h.ports }

/-- R34, R417: `t` is `s` but for the event and counter records, and what the events wrote and sent. -/
abbrev Noted (s t : State) : Prop := t = { s with dict := t.dict, host := t.host, group := s.group.links t.group, events := t.events, wire := t.wire }

/-! Engine programs -/

/-- R301: the registers of an invocation have the numbers and the lanes the spec gives them; `first` keeps g0 to g7. -/
abbrev Shaped (v : Invocation) : Prop :=
  v.g.length = 64 ∧ v.first.length = 8 ∧ v.v.length = 16 ∧ (∀ x ∈ v.v, x.length = 8) ∧ v.p.length = 8 ∧ v.acc.length = 32

/-- An instruction can run: its invocation runs, its registers are whole, and the word is one the verifier lets run. -/
abbrev Runs (s : State) (i : Instr) : Prop := s.eng.status = .running ∧ Shaped s.eng ∧ i.wf = true

/-- R301, R310: `t` is `s` with `r` in general register `rd` (a write of g0 is discarded), gone on to the next instruction; nothing else differs. -/
abbrev WroteG (s t : State) (rd : Nat) (r : Word) : Prop :=
  (∀ x, t.eng.getG x = if x = rd ∧ rd ≠ 0 then r else s.eng.getG x) ∧ (s.eng.loops = [] → t.eng.pc = s.eng.pc + 1)
    ∧ t = { s with eng := { s.eng with g := t.eng.g, pc := t.eng.pc, loops := t.eng.loops } }

/-- `t` is `s` with the bit `x` in predicate `rd`, gone on to the next instruction; nothing else differs. -/
abbrev WroteP (s t : State) (rd : Nat) (x : Bool) : Prop :=
  (∀ k, k < 8 → t.eng.getP k = if k = rd then x else s.eng.getP k) ∧ (s.eng.loops = [] → t.eng.pc = s.eng.pc + 1)
    ∧ t = { s with eng := { s.eng with p := t.eng.p, pc := t.eng.pc, loops := t.eng.loops } }

/-- `t` is `s` with the lanes `x` in vector register `rd`, gone on to the next instruction; nothing else differs. -/
abbrev WroteV (s t : State) (rd : Nat) (x : List Word) : Prop :=
  (∀ k, k < 16 → t.eng.getV k = if k = rd then x else s.eng.getV k) ∧ (s.eng.loops = [] → t.eng.pc = s.eng.pc + 1)
    ∧ t = { s with eng := { s.eng with v := t.eng.v, pc := t.eng.pc, loops := t.eng.loops } }

/-- `t` is `s` gone on to the next instruction; nothing else differs. -/
abbrev WentOn (s t : State) : Prop :=
  (s.eng.loops = [] → t.eng.pc = s.eng.pc + 1) ∧ t = { s with eng := { s.eng with pc := t.eng.pc, loops := t.eng.loops } }

/-- The environment that the invocation in hand reads. -/
abbrev envOf (s : State) : EngEnv := s.engEnv s.eng.frame s.eng.version s.eng.specMap

/-! The frame cycle -/

/-- R128: the version's scene tensor is due: the version is ready, no delta, the one of its frame's work, and not emitted yet. -/
abbrev SceneDue (s : State) (v : Version) : Bool :=
  v.ready && !v.urgent && s.mapRuns && s.frames.any (fun w => w.frame == v.frame && w.version == v.number && w.speculative == v.spec && !w.landed)
    && (match (if v.spec then s.world.specScene else s.world.scene) with | some x => x.frame != v.frame | none => true)

/-! Selection -/

/-- R202, R207: a list holds the best `k` of some entries, in order. -/
abbrev BestOf (compatible : Bool) (k : Nat) (all out : List Entry) : Prop :=
  out.length = min k all.length ∧ out.Pairwise (fun a b => b.ahead compatible a = false) ∧ (∀ e ∈ out, e ∈ all) ∧ ∀ e ∈ all, e ∉ out → ∀ x ∈ out, e.ahead compatible x = false

/-- R171: what the checking of the expansions in an engine's windows gives for an item. -/
abbrev runsOf (s : State) (engine : Nat) (i : Item) : List CandRun :=
  let u := (s.disp.units[engine]?).getD EngineUnit.initial
  let c := s.checkEnv u.program i.frame i.version i.spec
  checkAll c u.exps (s.tallyOf c.tallySlot)

/-! The host interface -/

/-- R264, R410: a host command's item has made its commit write with a status and a result length. -/
abbrev HostDone (t : State) (record : Nat) (c : HostCmd) (status length : Nat) : Prop :=
  (∃ j, t.record? record = some j ∧ j.outcome = some (status, length)) ∧ ∃ i ∈ t.disp.items, i.serial = c.item.serial ∧ i.committed = true

/-- R410: a result has been written where the descriptor asks for it: to host memory, or to host buffer space. -/
abbrev ResultWritten (s t : State) (c : HostCmd) (address : Nat) (b : List Byte) : Prop :=
  (c.desc.devicePayload = false → WireMsg.hostWrite address b ∈ t.wire.drop s.wire.length) ∧
  (c.desc.devicePayload = true → memReadBytes t.host.buffer address b.length = b)

/-- R402: a value written to a doorbell is in range. -/
abbrev DoorbellOk (s : State) (r v : Nat) (x : Ring) : Prop :=
  if r % 4 = 0 then (v + 2 ^ 32 - x.consumer) % 2 ^ 32 ≤ (s.ringCfg r).size ∧ seqAfter v x.producer = false
  else (x.producer + 2 ^ 32 - v) % 2 ^ 32 ≤ (s.ringCfg r).size ∧ seqAfter v x.consumer = false

/-! The whole machine -/

/-- A processor's registers have their numbers and lanes, and its memories are in their canonical form. -/
abbrev RegistersWhole (v : Invocation) : Prop := Shaped v ∧ memWf v.tally = true ∧ memWf v.mem = true

/-- The stores the model keeps as tables and memories are in their canonical form: each table's keys rise, a memory lists no zero byte, and every processor's registers are whole. -/
abbrev StoresInOrder (s : State) : Prop :=
  alSorted s.dict.active = true ∧ alSorted s.dict.shadow = true ∧ alSorted s.dict.saved = true ∧ alSorted s.dict.saturated = true ∧ (∀ x, s.dict.unsaved = some x → alSorted x.1 = true) ∧
    alSorted s.newel.courses = true ∧ memWf s.host.buffer = true ∧ memWf s.host.msix = true ∧ (∀ x ∈ s.boot.tallies, memWf x.2 = true) ∧ (∀ x ∈ s.world.streams, memWf x.working = true) ∧
    RegistersWhole s.eng ∧ alSorted s.processors = true ∧ ∀ x ∈ s.processors, RegistersWhole x.2

/-- The numbers that name work items, journal records and plans name one each, and the next ones are not yet taken. -/
abbrev NumbersUnique (s : State) : Prop :=
  (s.disp.items.map (·.serial)).Nodup ∧ (∀ i ∈ s.disp.items, i.serial < s.disp.nextSerial) ∧
    (s.host.journal.map (·.id) ++ s.group.mirrored.map (·.record.id)).Nodup ∧ (∀ j ∈ s.host.journal, j.id < s.host.nextJournal) ∧
    (∀ m ∈ s.group.mirrored, m.record.id < s.host.nextJournal) ∧ ∀ w ∈ s.frames, (w.plans.map (·.pos)).Nodup

/-! Dictionary messages -/

/-- R39, R40: a message is heard: the device is ready, its transport takes ODP, its session is open and not idle too long, its tag is right, its counter is new, and it has
its form. -/
abbrev Heard (s : State) (t kind opcode : Nat) (m : OdpMsg) (x : Session) : Prop :=
  s.boot.ready = true ∧ s.odpEnabled m.transport = true ∧ s.session? m.session = some x ∧ max s.now t ≤ x.heard + s.cfg 0x1010 3
    ∧ m.tag = hmacSm3 x.key (m.signed kind opcode) ∧ x.rxCounter < m.counter ∧ m.malformed kind opcode = false

/-- R40: the state with the message heard. -/
abbrev heardAt (s : State) (t : Nat) (m : OdpMsg) (x : Session) : State :=
  (s.at t).modSession x.id (fun y => { y with failedTags := 0, rxCounter := m.counter, heard := max s.now t })

/-- R44, R49: the request is new, and its session may make it. -/
abbrev Asked (s : State) (t opcode : Nat) (m : OdpMsg) (x : Session) : Prop :=
  Heard s t 0 opcode m x ∧ (∀ k ∈ x.kept, k.1 ≠ m.xid) ∧ (x.kept = [] ∨ ∃ k ∈ x.kept, seqAfter m.xid k.1 = false)
    ∧ (x.roles.testBit 1 = true ∨ opcode = 1 ∨ opcode = 3 ∨ opcode = 9)

/-- The state in which a new request runs: heard, and counted (R44). -/
abbrev askedAt (s : State) (t : Nat) (m : OdpMsg) (x : Session) : State := (heardAt s t m x).count 0x1020 1 1

/-- R39, R44: a request is answered: its response is kept, the oldest of 65 dropped, and sent with the session's counter and tag. -/
abbrev answered (s : State) (id : Nat) (m : OdpMsg) (r : OdpResp) : State :=
  match s.session? id with
  | none => s
  | some y =>
    let body := odpHeader 1 1 r.opcode r.flags id m.xid y.txCounter r.status r.payload.length 0 ++ r.payload
    (s.modSession id (fun y => { y with kept := (y.kept ++ [(m.xid, r)]).drop (y.kept.length - 63), txCounter := y.txCounter + 1, sent := s.now })).odpDeliver
      m.transport (body ++ hmacSm3 y.key body)

/-- R41: the reference of a request names a row, with its type. -/
abbrev Names (m : OdpMsg) (row : ObjRow) : Prop :=
  (refOf m.payload).idx < 0xF000 ∧ objFind (refOf m.payload).idx (refOf m.payload).sub = some row ∧ row.ty.code = (refOf m.payload).ty

/-- R52: a session may act on the staged set. -/
abbrev MayStage (s : State) (x : Session) : Prop := s.ctl.st = .idle ∨ (s.ctl.st ≠ .pending ∧ (s.ctl.owner = x.id ∨ s.ctl.owner = 0))

/-- R52: a staged set without an owner is taken by the session that acts on it. -/
abbrev takenBy (s : State) (x : Session) : State := if s.ctl.st ≠ .idle ∧ s.ctl.owner = 0 then { s with ctl := { s.ctl with owner := x.id } } else s

/-- R29: an object whose WRITE only stores its value: none of those whose WRITE is an operation of the device. -/
abbrev StoresOnly (idx sub : Nat) : Prop :=
  ¬(isCounterIndex idx = true ∧ sub = 0xFE) ∧ idx ≠ 0x7003 ∧ idx ≠ 0x7004 ∧ idx ≠ 0x7220 ∧ ¬(0x8200 ≤ idx ∧ idx < 0x8280) ∧ ¬(idx = 0xA100 ∧ (sub = 5 ∨ sub = 6))

/-- The 11 messages of a session with their KIND and OPCODE (R39, R41). -/
abbrev odpCommands (t : Nat) (m : OdpMsg) : List (Instr × Nat × Nat) :=
  [(.read t m, 0, 1), (.write t m, 0, 2), (.blockRead t m, 0, 3), (.blockWrite t m, 0, 4), (.stage t m, 0, 5), (.check t m, 0, 6), (.commit t m, 0, 7), (.abort t m, 0, 8),
   (.subscribe t m, 0, 9), (.close t m, 5, 0), (.keepAlive t m, 6, 0)]

/-! Chip groups -/

/-- R434: the chip has not been heard since this one's reset, or, LOST, it begins its messages anew. -/
abbrev firstHeard (p : Peer) : Prop := p.st = .absent ∧ p.heard = none
abbrev beginsAnew (p : Peer) (m : GroupMsg) : Prop := p.st = .lost ∧ m.sequence = 1 ∧ 1 ≤ p.rxSeq

/-- R433, R434, R437: a group message is accepted: it comes from another chip of the group, has its form, follows the last one (or its chip is heard for the first time, or anew), and is not
withheld because its chip is out of step. -/
abbrev Taken (s : State) (kind : Nat) (m : GroupMsg) (p : Peer) : Prop :=
  s.groupMode ≠ 0 ∧ s.works = true ∧ s.otherChips.contains m.sender = true ∧ s.group.peers[m.sender]? = some p ∧ s.groupForm kind m = true ∧
    (firstHeard p ∨ beginsAnew p m ∨ m.sequence = p.rxSeq + 1) ∧ (keptOutOfStep kind = true ∨ (s.peer (s.originOf kind m.sender)).outFrame ≠ some m.frame)

/-- R434, R447, R450: the state with the message heard; a chip that had been lost or absent is JOINING. -/
abbrev takenAt (s : State) (t : Nat) (m : GroupMsg) (p : Peer) : State :=
  ((s.at t).count 0x8605 2 1).modPeer m.sender (fun p' =>
    if p.st = .lost ∨ p.st = .absent then
      { p' with rxSeq := m.sequence, heard := some (max s.now t), st := .joining, joinSince := max s.now t
                rejoin := if p.st = .absent ∧ p.heard = none then .own else if p.st = .lost ∧ m.sequence = 1 ∧ 1 ≤ p.rxSeq then .theirs else .both }
    else { p' with rxSeq := m.sequence, heard := some (max s.now t) })

/-- R433: what a message's segments have brought of their kind. -/
abbrev gathered (s : State) (kind : Nat) (m : GroupMsg) : List Byte := (if m.segment = 0 then [] else (alGet (16 * m.sender + kind) s.group.parts).getD []) ++ m.payload

/-- R441: a list's payload is as long as its places and their sequences. -/
abbrev ListWhole (s : State) (b : List Byte) : Prop := b.length = 96 + 16 * (closedOf b).k + 8 * s.cfg 0x4001 1 * (closedOf b).k

/-- The 12 group messages with their KIND. -/
abbrev groupCommands (t : Nat) (m : GroupMsg) : List (Instr × Nat) :=
  [(.hello t m, 1), (.mapSegment t m, 2), (.version t m, 3), (.scene t m, 4), (.list t m, 5), (.plan t m, 6), (.digest t m, 7), (.bisect t m, 8), (.mirror t m, 9), (.mirrorAck t m, 10),
   (.takeover t m, 11), (.checkpoint t m, 12)]

/-! Rule programs -/

/-- R60: the rule goes on with a stack, and with the bytes that a jump skips. -/
abbrev ruleWent (s : State) (st : List Int) (skip : Nat) : State := { s with rule := { s.rule with stack := st, skip := skip, opIndex := s.rule.opIndex + 1 } }

/-- R60, R62: the rule fails with a code at the operation in hand. -/
abbrev ruleFailed (s : State) (code : Nat) : State := { s with rule := { s.rule with status := .failed code s.rule.opIndex } }

/-- A rule is running and no jump skips the operation; its stack is whole. -/
abbrev RuleAt (s : State) (st : List Int) : Prop := s.rule.status = .running ∧ s.rule.skip = 0 ∧ s.rule.stack = st ∧ st.length ≤ 32

/-- A value of 64 signed bits. -/
abbrev Int64 (a : Int) : Prop := -2 ^ 63 ≤ a ∧ a < 2 ^ 63

/-- R62: the exact result is pushed where it fits 64 signed bits; otherwise the rule fails with 0xFF. -/
abbrev rulePushed (s : State) (st : List Int) (x : Int) : State := if -2 ^ 63 ≤ x ∧ x < 2 ^ 63 then ruleWent s (x :: st) 0 else ruleFailed s 0xFF

/-! Start-up -/

/-- R500, R501: the identity public key of a manufacturing area is that of the secret. -/
abbrev IdentityMatches (f : BootFacts) (a : Part) : Prop := sm2Public (identityScalar f.secret) = a.identityKey

/-- R500, R503: what the ROM checks of the manufacturing area, the identity and the unit-availability record is in order. -/
abbrev RomOk (f : BootFacts) (a : Part) : Prop :=
  f.pllLocked = true ∧ f.area = some a ∧ f.bitErrors ≤ 1100 ∧ IdentityMatches f a ∧ a.recordOk = true

/-- R499 to R501: the state in which the ROM chooses the slot: the manufacturing area and the secret known, and the boot header read. -/
abbrev headerKnown (s : State) (f : BootFacts) (a : Part) : State :=
  ({ s with dict := { s.dict with part := a }, newel := { s.newel with secret := f.secret } } : State).headerRead f.badHeaders

/-- R500 step 4, R511, R512: both slots hold an image that may be booted, and the boot header names slots. -/
abbrev SlotsOk (s : State) (f : BootFacts) (a : Part) : Prop :=
  let r := headerKnown s f a
  r.boot.slots.length = 2 ∧ r.boot.running < 2 ∧ (∀ k, r.boot.nextBoot = some k → k < 2) ∧ r.bootable f 0 = true ∧ r.bootable f 1 = true

/-- R492 step 7: a Gallery of the record and one of its engines pass their BIST. -/
abbrev GalleryPasses (a : Availability) (f : BootFacts) : Prop :=
  ∃ g e, g < 16 ∧ e / 32 = g ∧ a.galleries.testBit g = true ∧ g ∉ f.failedGalleries ∧ a.engines.testBit e = true ∧ e ∉ f.failedEngines

/-- R492, R494: a sequence has stopped at a step with a status; READY stays as it was. -/
abbrev StoppedAt (s u : State) (stage status : Nat) : Prop :=
  u.boot.stage = stage ∧ u.boot.status = status ∧ u.boot.stopped = true ∧ u.boot.ready = s.boot.ready ∧
    (u.newel.running = true → u.newel.pins.fault = true ∧ u.newel.pins.safeState = true ∧ u.newel.pins.planOk = false)

/-- R459, R461, R492, R493: READY is reached after `elapsed` µs: shown in the register and on the pin, with the start-up hold (SAFE_STATE_N on a chip that publishes); FAULT_N is released unless a fault is latched. -/
abbrev AtReady (u : State) (elapsed : Nat) : Prop :=
  u.boot.ready = true ∧ u.boot.stage = 9 ∧ u.boot.status = 0 ∧ u.boot.startupTime = elapsed ∧ u.newel.booted = true ∧ u.newel.startHold = true ∧
    u.newel.pins.ready = true ∧ (u.newel.pins.safeState = true ↔ u.publishes = true ∨ u.newel.faultCause ≠ 0) ∧ u.newel.pins.planOk = false ∧ (u.newel.pins.fault = true ↔ u.newel.faultCause ≠ 0) ∧
    u.ctl.activeSetId = u.dict.savedSetId ∧ u.dict.shadow = []

/-- R499: the two copies of the boot header once the older has been rewritten with the next write sequence. -/
abbrev nextHeaders (key : List Byte) (b : Boot) : List BootHeader := modAt b.headers b.olderCopy (fun _ => b.header key ((b.headerSequence + 1) % 2 ^ 64))

/-- R537: the nanoseconds that the device has run throttled, and that ThrottledTime does not yet count, at instant `t`. -/
abbrev throttledNs (s : State) (t : Nat) : Nat := if s.power.step = 0 then s.power.throttledRest else s.power.throttledRest + (max s.now t - s.power.lastEval)

/-! Events and time -/

/-- An event with a code has been raised between two states. -/
abbrev Raised (s t : State) (code : Nat) : Prop := ∃ e ∈ t.events.drop s.events.length, e.code = code

/-- R417, R465: `t` is `s` but for its time, its timebase, the safety processor, the event and counter records, and what the events wrote and sent. -/
abbrev TimeOnly (s t : State) : Prop :=
  t = { s with now := t.now, tb := t.tb, newel := t.newel, dict := t.dict, host := t.host, group := s.group.links t.group, events := t.events, wire := t.wire }

end Sys2Proof
end

