-- ==== Sys2Proof/Certificates/Slice0/Obligations.lean ====
section
/-!
DEFINITION. The statements for the provers: what the commands of each family do, what they leave unchanged, and what every step keeps.
-/
open Sys2Proof Sys2Proof.Machine

/-- R29, R36, R41, R43: READ, BLOCK READ and SUBSCRIBE answer with the object's value, a segment of it, or the session's number of subscriptions. READ and BLOCK READ change
nothing else. -/
def Obligations.ReadsAnswerWithTheObject : Prop :=
  ∀ (s : State) (t : Nat) (m : OdpMsg) (x : Session) (row : ObjRow), Names m row →
    let r := refOf m.payload
    let s1 := askedAt s t m x
    let shown := fun (sub : Nat) (row : ObjRow) =>
      let v := valueBytes row.ty (s1.copyOf (m.flags.testBit 0) row r.idx sub)
      refBytes r.idx sub row ++ leBytes 2 v.length ++ v
    let block := (s1.copyOf (m.flags.testBit 0) row r.idx r.sub).toBytes
    let at' := fieldAt m.payload 4 4
    let segment := (block.drop at').take 1024
    let interval := fieldAt m.payload 4 2
    let others := x.subs.filter (fun y => !(y.idx == r.idx && y.sub == r.sub))
    let subs := if interval = 0 then others else others ++ [⟨r.idx, r.sub, interval, some (s1.live r.idx r.sub), none⟩]
    (Asked s t 1 m x → m.payload.length = 4 → m.flags.testBit 1 = false → row.ty ≠ .dom → row.access ≠ .wo →
      exec (.read t m) s = .next (answered s1 x.id m ⟨1, 0, 0, shown r.sub row⟩)) ∧
    (Asked s t 1 m x → m.payload.length = 4 → m.flags.testBit 1 = true →
      exec (.read t m) s = .next (answered s1 x.id m ⟨1, 0, 0, (List.range 256).flatMap (fun sub =>
        match objFind r.idx sub with
        | some row => if row.ty = .dom ∨ row.access = .wo then [] else shown sub row
        | none => [])⟩)) ∧
    (Asked s t 3 m x → m.payload.length = 8 → row.ty = .dom → row.access ≠ .wo → s.boot.domsLoaded = true → (r.sub = 0x0A → r.idx ∉ s.mem.tallyLost) → at' ≤ block.length →
      exec (.blockRead t m) s = .next (answered s1 x.id m ⟨3, if at' + segment.length = block.length then 4 else 0, 0, leBytes 4 at' ++ leBytes 4 block.length ++ segment⟩)) ∧
    (Asked s t 9 m x → m.payload.length = 6 → row.access ≠ .wo → (interval = 0 ∨ others.length < 256) →
      exec (.subscribe t m) s = .next (answered (s1.modSession x.id (fun y => { y with subs := subs })) x.id m ⟨9, 0, 0, leBytes 2 subs.length⟩))

/-- R29, R31, R41, R42, R52: WRITE and STAGE store their value, and BLOCK WRITE keeps its segments and stages the whole value at the last. -/
def Obligations.WritesAndStagesTakeEffect : Prop :=
  ∀ (s : State) (t : Nat) (m : OdpMsg) (x : Session) (row : ObjRow), Names m row →
    let r := refOf m.payload
    let key := objKey r.idx r.sub
    let s1 := askedAt s t m x
    (∀ v, Asked s t 2 m x → writeForm m.payload = true → row.ty ≠ .dom → (row.access = .rw ∨ row.access = .wo) → valueIn row r.sub (m.payload.drop 8) = .ok v →
      let w := s1.writeObj r.idx r.sub v.toNum
      exec (.write t m) s = .next (answered w.2 x.id m ⟨2, 0, w.1, []⟩) ∧
      (StoresOnly r.idx r.sub →
        let stored := { s1 with dict := s1.dict.setActive r.idx r.sub (.num v.toNum) }
        w = (0, if isStored r.idx r.sub then stored.dueSave else stored)) ∧
      (isCounterIndex r.idx = true → r.sub = 0xFE → w = (0, { s1 with dict := s1.dict.clearCounters r.idx v.toNum }))) ∧
    (∀ v, Asked s t 5 m x → writeForm m.payload = true → row.ty ≠ .dom → row.access = .rws → valueIn row r.sub (m.payload.drop 8) = .ok v → MayStage s1 x →
      s1.dict.shadow.length < 4096 →
      let rev := if s1.ctl.st = .idle then 1 else (s1.ctl.stagedRev + 1) % 2 ^ 32
      exec (.stage t m) s = .next (answered { s1 with dict := { s1.dict with shadow := alSet key v s1.dict.shadow }
                                                      ctl := { s1.ctl with st := .staging, owner := x.id, stagedRev := rev } } x.id m ⟨5, 0, 0, leBytes 4 rev⟩)) ∧
    (∀ got, Asked s t 4 m x → 12 ≤ m.payload.length → m.payload.length ≤ 1036 → row.ty = .dom → row.access = .rws → r.idx ≠ 0xA100 → m.flags.testBit 0 = true → MayStage s1 x →
      takeSegment row (s1.xfer? x key) (fieldAt m.payload 4 4) (fieldAt m.payload 8 4) (m.payload.drop 12) = .ok got →
      (m.flags.testBit 2 = false →
        exec (.blockWrite t m) s = .next (answered ((takenBy s1 x).setXfer x key (some ⟨x.id, key, fieldAt m.payload 8 4, got⟩)) x.id m ⟨4, 0, 0, leBytes 4 got.length⟩)) ∧
      (m.flags.testBit 2 = true → got.length = fieldAt m.payload 8 4 → (((takenBy s1 x).setXfer x key none).verifyDom r.idx r.sub got).1 = 0 → s1.dict.shadow.length < 4096 →
        ∃ t', exec (.blockWrite t m) s = .next t' ∧ t'.dict.shadow = alSet key (.blob got) s1.dict.shadow ∧ t'.ctl.st = .staging ∧ t'.ctl.owner = x.id
          ∧ (∀ y ∈ t'.ctl.transfers, ¬(y.session = x.id ∧ y.key = key))))

/-- R52 to R59: CHECK records what it found and moves the set to CHECKED or back, COMMIT makes a checked set PENDING for its frame, and ABORT drops the staged set. -/
def Obligations.TheCommitMachineMoves : Prop :=
  ∀ (s : State) (t : Nat) (m : OdpMsg) (x : Session),
    let s1 := askedAt s t m x
    (Asked s t 6 m x → m.payload = [] → MayStage s1 x →
      let f := (takenBy s1 x).checkView
      let c := f.2.2.ctl
      let rec' : CommitCtl := { c with checkResult := f.1.result, checkedRev := c.stagedRev, failObject := f.1.object, failStage := f.1.stage, failRule := f.1.rule
                                       margin := f.2.1.getD c.margin, checkFrame := f.2.2.tb.curFrame }
      let moved : CommitCtl := if f.1.result = 0 then { rec' with st := .checked, owner := x.id } else if c.st = .checked then { rec' with st := .staging } else rec'
      exec (.check t m) s = .next (answered { f.2.2 with ctl := moved } x.id m ⟨6, 0, if f.1.result = 0 then 0 else 0x0106, leBytes 2 f.1.result ++ leBytes 4 c.stagedRev⟩)) ∧
    (∀ k rev, Asked s t 7 m x → m.payload.length = 12 → fieldAt m.payload 0 8 = k → fieldAt m.payload 8 4 = rev →
      s1.ctl.st = .checked → (s1.ctl.owner = x.id ∨ s1.ctl.owner = 0) → s1.tb.st ≠ .freeRun → rev = s1.ctl.checkedRev → k ≤ s1.tb.curFrame + 65536 →
      s1.tb.ticked = true → s1.det.replay = .live → s1.tb.everLocked = true →
      (s1.tb.curFrame < k → s1.pastCutOff k = false →
        exec (.commit t m) s = .next (answered { s1 with ctl := { s1.ctl with lastStatus := 0, owner := x.id, st := .pending, target := k } } x.id m
          ⟨7, 0, 0, leBytes 8 k ++ leBytes 4 ((s1.ctl.activeSetId + 1) % 2 ^ 32)⟩)) ∧
      ((k ≤ s1.tb.curFrame ∨ s1.pastCutOff k = true) →
        exec (.commit t m) s = .next (answered (({ s1 with ctl := { s1.ctl with lastStatus := 0x0107, owner := x.id } } : State).count 0x1020 6 1) x.id m ⟨7, 0, 0x0107, []⟩))) ∧
    (Asked s t 8 m x → m.payload = [] →
      (s1.ctl.st = .idle → exec (.abort t m) s = .next (answered s1 x.id m ⟨8, 0, 0, []⟩)) ∧
      (s1.ctl.st ≠ .idle → (s1.ctl.owner = x.id ∨ s1.ctl.owner = 0) → (s1.ctl.st ≠ .pending ∨ s1.pastCutOff s1.ctl.target = false) →
        exec (.abort t m) s = .next (answered { s1 with dict := { s1.dict with shadow := [] }, ctl := { s1.ctl with st := .idle, target := 0, owner := 0, stagedRev := 0 }
                                                        mem := { s1.mem with waking := [] } } x.id m ⟨8, 0, 0, []⟩)) ∧
      (s1.ctl.st ≠ .idle → s1.ctl.owner ≠ 0 → s1.ctl.owner ≠ x.id → exec (.abort t m) s = .next (answered s1 x.id m ⟨8, 0, 0x0105, []⟩)) ∧
      (s1.ctl.st = .pending → (s1.ctl.owner = x.id ∨ s1.ctl.owner = 0) → s1.pastCutOff s1.ctl.target = true → s1.det.replay = .live →
        exec (.abort t m) s = .next (answered s1 x.id m ⟨8, 0, 0x0110, []⟩)))

/-- R40: a message of a session whose tag fails is counted and dropped, the sixteenth in a row closes the session, and one whose counter is not new is counted and dropped. -/
def Obligations.UnprovenMessagesAreDropped : Prop :=
  ∀ (s : State) (t : Nat) (m : OdpMsg) (x : Session), ∀ p ∈ odpCommands t m,
    s.boot.ready = true → s.odpEnabled m.transport = true → s.session? m.session = some x → max s.now t ≤ x.heard + s.cfg 0x1010 3 →
    (m.tag ≠ hmacSm3 x.key (m.signed p.2.1 p.2.2) → x.failedTags + 1 < 16 →
      exec p.1 s = .next (((s.at t).count 0x1020 2 1).modSession x.id (fun y => { y with failedTags := y.failedTags + 1 }))) ∧
    (m.tag ≠ hmacSm3 x.key (m.signed p.2.1 p.2.2) → 16 ≤ x.failedTags + 1 → exec p.1 s = .next (((s.at t).count 0x1020 2 1).endSession x.id)) ∧
    (m.tag = hmacSm3 x.key (m.signed p.2.1 p.2.2) → m.counter ≤ x.rxCounter →
      exec p.1 s = .next (((s.at t).modSession x.id (fun y => { y with failedTags := 0 })).count 0x1020 3 1))

/-- R44: the responses to the last 64 transaction IDs are kept; a request with a kept ID gets that response again and is not executed, and one whose ID precedes them all is
refused with 0x010D. -/
def Obligations.RepeatedRequestsAreNotExecutedAgain : Prop :=
  ∀ (s : State) (t : Nat) (m : OdpMsg) (x : Session), ∀ p ∈ odpCommands t m, p.2.1 = 0 → Heard s t 0 p.2.2 m x →
    (∀ k, x.kept.find? (fun k => k.1 == m.xid) = some k →
      let s1 := (heardAt s t m x).count 0x1020 4 1
      let body := odpHeader 1 1 k.2.opcode k.2.flags x.id m.xid x.txCounter k.2.status k.2.payload.length 0 ++ k.2.payload
      exec p.1 s = .next ((s1.modSession x.id (fun y => { y with txCounter := y.txCounter + 1, sent := s1.now })).odpDeliver m.transport (body ++ hmacSm3 x.key body))) ∧
    (x.kept ≠ [] → (∀ k ∈ x.kept, k.1 ≠ m.xid ∧ seqAfter m.xid k.1 = true) →
      let s1 := heardAt s t m x
      let body := odpHeader 1 1 p.2.2 0 x.id m.xid x.txCounter 0x010D 0 0
      exec p.1 s = .next ((s1.modSession x.id (fun y => { y with txCounter := y.txCounter + 1, sent := s1.now })).odpDeliver m.transport (body ++ hmacSm3 x.key body))) ∧
    (∀ r, x.kept.length ≤ 64 → ∀ y, (answered (askedAt s t m x) x.id m r).session? x.id = some y → y.kept.length ≤ 64 ∧ (m.xid, r) ∈ y.kept)

/-- R43, R46 to R51: sessions open, close, expire and are kept alive, and a changed value raises a notice. -/
def Obligations.SessionsOpenAndEnd : Prop :=
  ∀ (s : State) (t : Nat) (m : OdpMsg) (x : Session),
    (∀ key, s.boot.ready = true → s.odpEnabled m.transport = true → m.malformed 3 0 = false → m.session = 0 → m.payload.length = 148 →
      key = fieldAt m.payload 0 4 → (keyRoles (s.cfgBytes 0xA000 1) key).testBit 0 ∨ (keyRoles (s.cfgBytes 0xA000 1) key).testBit 1 →
      s.odp.sessions.length < s.cfg 0x1010 2 →
      sm2Verify (keyPublic (s.cfgBytes 0xA000 1) key) (sm3 ((m.signed 3 0).take 116)) (slice m.payload 84 64) = true →
      ∃ t' y, exec (.setupRequest t m) s = .next t' ∧ t'.odp.sessions = s.odp.sessions ++ [y] ∧ y.id = s.odp.nextId ∧ y.keyId = key ∧ y.roles = keyRoles (s.cfgBytes 0xA000 1) key
        ∧ y.transport = m.transport ∧ y.rxCounter = 0 ∧ y.txCounter = 1 ∧ y.kept = [] ∧ y.subs = []
        ∧ t' = { s with now := max s.now t, odp := t'.odp, draws := s.draws + 1, wire := t'.wire, group := s.group.links t'.group, host := t'.host }) ∧
    (Heard s t 5 0 m x → exec (.close t m) s = .next ((heardAt s t m x).endSession x.id)) ∧
    (Heard s t 6 0 m x → exec (.keepAlive t m) s = .next (heardAt s t m x)) ∧
    (∀ id, s.session? id = some x →
      (∃ t', exec (.sessionIdleTimeout id) s = .next t' ∧ t'.now = max s.now (x.heard + s.cfg 0x1010 3) ∧ t'.odp.sessions = s.odp.sessions.filter (fun y => y.id != id)
        ∧ (s.ctl.owner = id → s.ctl.st = .pending → t'.ctl.st = .pending ∧ t'.ctl.owner = 0 ∧ t'.dict = s.dict)
        ∧ (s.ctl.owner = id → s.ctl.st ≠ .pending → t'.ctl.st = .idle ∧ t'.dict.shadow = [])
        ∧ t' = { s with now := t'.now, odp := t'.odp, ctl := t'.ctl, dict := t'.dict }) ∧
      (let n := max s.now (max x.heard x.sent + s.cfg 0x1010 4)
       let body := odpHeader 1 6 0 0 x.id 0 x.txCounter 0 0 0
       exec (.keepAliveTimer id) s
        = .next ((({ s with now := n } : State).modSession x.id (fun y => { y with txCounter := y.txCounter + 1, sent := n })).odpDeliver x.transport (body ++ hmacSm3 x.key body))) ∧
      (∀ idx sub row y, objFind idx sub = some row → x.subs.find? (fun y => y.idx == idx && y.sub == sub) = some y → y.last ≠ some (s.live idx sub) →
        (∀ f, y.lastFrame = some f → f + y.interval ≤ s.tb.curFrame) →
        let payload := refBytes idx sub row ++ leBytes 4 x.noticeNo ++ leBytes 8 s.tb.curFrame ++ (if row.ty = .dom then [] else valueBytes row.ty (s.live idx sub))
        let body := odpHeader 1 2 0 0 x.id 0 x.txCounter 0 payload.length 0 ++ payload
        let seen := modFirst (fun (z : Subscription) => z.idx == idx && z.sub == sub) (fun z => { z with last := some (s.live idx sub), lastFrame := some s.tb.curFrame }) x.subs
        exec (.subscriptionNotice id idx sub) s
          = .next ((s.modSession x.id (fun z => { z with noticeNo := (z.noticeNo + 1) % 2 ^ 32, subs := seen, txCounter := z.txCounter + 1, sent := s.now })).odpDeliver x.transport
              (body ++ hmacSm3 x.key body))))

/-- R35: a write of ClearMask zeroes the counters whose bits it holds, with their sticky bits, and no other value. -/
def Obligations.ClearMaskZeroesItsCounters : Prop :=
  ∀ (s : State) (idx mask : Nat), isCounterIndex idx = true → alSorted s.dict.active = true → alSorted s.dict.saturated = true →
    ∃ t, exec (.counterClear idx mask) s = .next t ∧ t = { s with dict := { s.dict with active := t.dict.active, saturated := t.dict.saturated } } ∧
      (∀ n, 1 ≤ n → n ≤ 64 → mask.testBit (n - 1) = true → t.dict.activeVal idx n = objDefault idx n ∧ (alGetD idx 0 t.dict.saturated).testBit (n - 1) = false) ∧
      (∀ n, 1 ≤ n → n ≤ 64 → mask.testBit (n - 1) = false → (alGetD idx 0 t.dict.saturated).testBit (n - 1) = (alGetD idx 0 s.dict.saturated).testBit (n - 1)) ∧
      (∀ i n, n < 256 → ¬(i = idx ∧ 1 ≤ n ∧ n ≤ 64 ∧ mask.testBit (n - 1) = true) → t.dict.activeVal i n = s.dict.activeVal i n) ∧
      (∀ i, i ≠ idx → alGetD i 0 t.dict.saturated = alGetD i 0 s.dict.saturated)

/-- R60, R62: the arithmetic, bitwise and shift operations pop b, pop a and push a op b, and NEG negates the top; an exact result outside 64 signed bits or a division by zero
fails the rule with 0xFF. -/
def Obligations.RuleArithmeticPushesTheExactResult : Prop :=
  ∀ (s : State) (a b : Int) (st : List Int), Int64 a → Int64 b →
    (RuleAt s (b :: a :: st) →
      let bits := fun (x : BitVec 64) => ruleWent s (x.toInt :: st) 0
      exec .ruleAdd s = .next (rulePushed s st (a + b)) ∧ exec .ruleSub s = .next (rulePushed s st (a - b)) ∧ exec .ruleMul s = .next (rulePushed s st (a * b)) ∧
      exec .ruleDiv s = .next (if b = 0 then ruleFailed s 0xFF else rulePushed s st (Int.tdiv a b)) ∧
      exec .ruleAnd s = .next (bits (BitVec.ofInt 64 a &&& BitVec.ofInt 64 b)) ∧ exec .ruleOr s = .next (bits (BitVec.ofInt 64 a ||| BitVec.ofInt 64 b)) ∧
      exec .ruleXor s = .next (bits (BitVec.ofInt 64 a ^^^ BitVec.ofInt 64 b)) ∧
      (0 ≤ b → b ≤ 63 → exec .ruleShl s = .next (bits (BitVec.ofInt 64 a <<< b.toNat)) ∧ exec .ruleShr s = .next (bits ((BitVec.ofInt 64 a).sshiftRight b.toNat)))) ∧
    (RuleAt s (a :: st) → exec .ruleNeg s = .next (rulePushed s st (-a)))

/-- R60: the tests push 1 or 0, the pushes their immediate, and DUP, DROP and SWAP handle the stack. -/
def Obligations.RuleTestsAndStackOperations : Prop :=
  ∀ (s : State) (a b : Int) (st : List Int),
    (RuleAt s (b :: a :: st) →
      exec .ruleEq s = .next (ruleWent s ((if a = b then 1 else 0) :: st) 0) ∧ exec .ruleNe s = .next (ruleWent s ((if a = b then 0 else 1) :: st) 0) ∧
      exec .ruleLt s = .next (ruleWent s ((if a < b then 1 else 0) :: st) 0) ∧ exec .ruleLe s = .next (ruleWent s ((if a ≤ b then 1 else 0) :: st) 0) ∧
      exec .ruleSwap s = .next (ruleWent s (a :: b :: st) 0)) ∧
    (RuleAt s (a :: st) →
      exec .ruleNot s = .next (ruleWent s ((if a = 0 then 1 else 0) :: st) 0) ∧ exec .ruleDrop s = .next (ruleWent s st 0) ∧
      (st.length < 31 → exec .ruleDup s = .next (ruleWent s (a :: a :: st) 0))) ∧
    (RuleAt s st → st.length < 32 →
      (∀ v, exec (.pushi v) s = .next (ruleWent s (v.toInt :: st) 0)) ∧ (∀ v, exec (.pushq v) s = .next (ruleWent s (v.toInt :: st) 0)))

/-- R60, R62: the loads push the post-commit or the active value, converted by its type; END passes the rule, ASSERT of 0 fails it with its code, and JZ of 0 skips its bytes. -/
def Obligations.RuleLoadsAndControl : Prop :=
  ∀ (s : State) (st : List Int),
    (∀ (ld : Instr × Bool) (idx : BitVec 16) (sub : BitVec 8), ld = (.ld idx sub, true) ∨ ld = (.ldact idx sub, false) → RuleAt s st → st.length < 32 →
      (objFind idx.toNat sub.toNat = none → exec ld.1 s = .next (ruleFailed s 0xFF)) ∧
      (∀ row, objFind idx.toNat sub.toNat = some row → row.access ≠ .wo →
        (∀ b, s.objVal ld.2 idx.toNat sub.toNat = .blob b → exec ld.1 s = .next (ruleWent s (b.length :: st) 0)) ∧
        (∀ n, s.objVal ld.2 idx.toNat sub.toNat = .num n →
          (row.ty ∈ [.bool, .u8, .u16, .u32, .u64, .time] → exec ld.1 s = .next (if n < 2 ^ 63 then ruleWent s ((n : Int) :: st) 0 else ruleFailed s 0xFF)) ∧
          (row.ty = .i32 → exec ld.1 s = .next (ruleWent s ((BitVec.ofNat 32 n).toInt :: st) 0)) ∧
          (row.ty = .f32 → exec ld.1 s = .next (if f32Finite (BitVec.ofNat 32 n) then rulePushed s st (Int.tdiv (f32Fix (BitVec.ofNat 32 n) * 2 ^ 16) (2 ^ 149)) else ruleFailed s 0xFF)) ∧
          (row.ty = .f64 → exec ld.1 s = .next (if f64Finite (BitVec.ofNat 64 n) then rulePushed s st (Int.tdiv (f64Fix (BitVec.ofNat 64 n) * 2 ^ 16) (2 ^ 1074)) else ruleFailed s 0xFF))))) ∧
    (RuleAt s st → exec .ruleEnd s = .next { s with rule := { s.rule with status := .passed, opIndex := s.rule.opIndex + 1 } }) ∧
    (∀ a c, RuleAt s (a :: st) → exec (.ruleAssert c) s = .next (if a = 0 then ruleFailed s c.toNat else ruleWent s st 0)) ∧
    (∀ a n, RuleAt s (a :: st) → exec (.ruleJz n) s = .next (ruleWent s st (if a = 0 then n.toNat else 0)))

/-- R65, R66, R68: a Sync of the followed port and domain sets the timebase to the grandmaster's time; in LOCKED a small offset moves the tick clock with it and a large one, or
another grandmaster, enters HOLDOVER; otherwise the tick clock keeps its course, and the sixteenth small offset in a row with the tick phase within the threshold enters LOCKED. -/
def Obligations.SyncDisciplinesTheTimebase : Prop :=
  ∀ (s : State) (t : Nat) (m : SyncMsg),
    (s.followsGptp m.source m.domain = false → exec (.sync t m) s = .next (s.at t)) ∧
    (s.followsGptp m.source m.domain = true →
      let off : Int := ((s.at t).time : Int) - m.origin
      let other := ∃ g, s.tb.gmId = some g ∧ g ≠ m.grandmaster
      ∃ t', exec (.sync t m) s = .next t' ∧ TimeOnly s t' ∧ t'.tb.gmId = some m.grandmaster ∧ t'.tb.servoOffset = off ∧ t'.tb.lastSync = max s.now t ∧
        t'.tb.tbOffset = s.tb.tbOffset - off ∧
        (s.tb.st = .locked → ¬other → off.natAbs ≤ s.cfg 0x2002 4 → t'.tb.st = .locked ∧ t'.tb.tickOffset = s.tb.tickOffset - off ∧ t'.events = s.events) ∧
        (s.tb.st = .locked → (other ∨ s.cfg 0x2002 4 < off.natAbs) →
          t'.tb.st = .holdover ∧ t'.tb.tickOffset = s.tb.tickOffset ∧ t'.tb.holdoverSince = max s.now t ∧ Raised s t' 0x0381 ∧ t'.newel.degraded.testBit 2 = true) ∧
        (s.tb.st = .holdover ∨ s.tb.st = .freeRun → s.tb.everLocked = true →
          t'.tb.tickOffset = s.tb.tickOffset ∧
          (off.natAbs ≤ s.cfg 0x2002 3 → ¬other → 15 ≤ s.tb.goodSyncs → (s.tb.tickOffset - t'.tb.tbOffset).natAbs ≤ s.cfg 0x2002 3 → t'.tb.st = .locked ∧ Raised s t' 0x0380) ∧
          (s.cfg 0x2002 3 < off.natAbs → t'.tb.st = s.tb.st ∧ t'.tb.goodSyncs = 0)) ∧
        (s.tb.st = .acquiring → s.tb.everLocked = false → off.natAbs ≤ s.cfg 0x2002 3 → ¬other → 15 ≤ s.tb.goodSyncs →
          t'.tb.st = .locked ∧ t'.tb.everLocked = true ∧ t'.tb.anchorFrame = 0 ∧ t'.tb.anchorTick = (s.cfg 0x2001 0 : Int)
          ∧ t'.tb.nextFrame = some (t'.frameFrom 0 ((t'.time : Int) + 1000000)))) 

/-- R65 to R67: Announce of another grandmaster and a Sync timeout enter HOLDOVER, HOLDOVER ends in FREE_RUN, peer-delay messages are answered and issued, and the pulse inputs and
outputs are measured and driven. -/
def Obligations.HoldoverPeerDelayAndPulses : Prop :=
  ∀ (s : State) (t : Nat) (m : GptpMsg),
    (s.followsGptp m.source m.domain = false → exec (.announce t m) s = .next (s.at t) ∧ exec (.pdelayReq t m) s = .next (s.at t)) ∧
    (s.followsGptp m.source m.domain = true →
      (∃ t', exec (.announce t m) s = .next t' ∧ TimeOnly s t' ∧ t'.tb.gmId = some m.value ∧
        (s.tb.st = .locked → (∃ g, s.tb.gmId = some g ∧ g ≠ m.value) → t'.tb.st = .holdover ∧ Raised s t' 0x0381) ∧
        ((s.tb.gmId = none ∨ s.tb.gmId = some m.value) → t' = { s.at t with tb := { s.tb with gmId := some m.value } })) ∧
      exec (.pdelayReq t m) s = .next { s.at t with wire := s.wire ++ [.gptp m.source .pdelayResp m.value (s.at t).time, .gptp m.source .pdelayRespFollowUp m.value (s.at t).time] }) ∧
    (s.followsGptp s.source (s.cfg 0x2002 2) = true →
      exec (.pdelayReqIssue t) s = .next { s.at t with wire := s.wire ++ [.gptp s.source .pdelayReq s.tb.pdelaySeq (s.at t).time]
                                                       tb := { s.tb with pdelaySeq := (s.tb.pdelaySeq + 1) % 65536 } }) ∧
    (s.source ≠ 3 → ∃ t', exec (.syncTimeout t) s = .next t' ∧ TimeOnly s t' ∧ t'.tb.goodSyncs = 0 ∧
      (s.tb.st = .locked → t'.tb.st = .holdover ∧ t'.tb.holdoverSince = max s.now t ∧ Raised s t' 0x0381 ∧ t'.newel.degraded.testBit 2 = true)
      ∧ (s.tb.st ≠ .locked → t' = { s.at t with tb := { s.tb with goodSyncs := 0 } })) ∧
    (s.tb.st = .holdover → ∃ t', exec .holdoverLimit s = .next t' ∧ t'.now = max s.now (s.tb.holdoverSince + s.cfg 0x2002 5) ∧ t'.tb = { s.tb with st := .freeRun } ∧
      Raised s t' 0x0382 ∧ t'.frameLock = false ∧
      (s.ctl.st = .pending → t'.ctl = { s.ctl with st := .checked, target := 0 } ∧ t'.mem = { s.mem with waking := [] } ∧ Raised s t' 0x0111) ∧
      (s.ctl.st ≠ .pending → t'.ctl = s.ctl ∧ t'.mem = s.mem) ∧ TimeOnly { s with ctl := t'.ctl, mem := t'.mem } t') ∧
    (s.tb.st ≠ .holdover → exec .holdoverLimit s = .next s) ∧
    (∃ d : Int, exec (.ppsIn t) s = .next { s.at t with tb := { s.tb with ppsIn := d } } ∧ -500000000 < d ∧ d ≤ 500000000 ∧ ((s.at t).time : Int) % 1000000000 = d % 1000000000) ∧
    (∃ t', exec .ppsOut s = .next t' ∧ t'.newel = { s.newel with pins := { s.newel.pins with ppsOut := s.newel.pins.ppsOut + 1 } } ∧
      t'.now = max s.now ((s.nextSecond * 1000000000 : Nat) - s.tb.tbOffset).toNat ∧ t'.tb = { s.tb with lastPps := some t'.now } ∧
      t' = { s with now := t'.now, tb := t'.tb, newel := t'.newel })

/-- R57, R58, R67 to R69, R92: the tick makes the scheduled frame current, slews or steps the tick clock, and commits or cancels the pending set. -/
def Obligations.TheTickBeginsItsFrame : Prop :=
  ∀ (s : State) (n : Nat),
    (s.works = false ∨ s.tb.nextFrame = none → exec .frameTick s = .next s) ∧
    (s.works = true → s.det.replay ≠ .replaying → s.det.replay ≠ .leaving → s.tb.nextFrame = some n → s.tb.st ≠ .acquiring → s.tb.everLocked = true →
      alSorted s.dict.active = true → alSorted s.dict.shadow = true →
      let lim : Int := s.us 0x2002 6
      ∃ t, exec .frameTick s = .next t ∧ t.tb.ticked = true ∧ t.tb.nextFrame = some (t.tb.curFrame + 1) ∧ t.newel.pins.ticks = s.newel.pins.ticks + 1 ∧
        (s.tb.renumber = false → s.tb.phaseError.natAbs ≤ s.us 0x2002 7 →
          t.tb.curFrame = n ∧ t.tb.curTick = (s.tickOf n).toNat ∧ t.tb.tickOffset = s.tb.tickOffset - max (-lim) (min lim s.tb.phaseError)) ∧
        (s.tb.renumber = false → s.us 0x2002 7 < s.tb.phaseError.natAbs → n ≤ t.tb.curFrame ∧ t.tb.tickOffset = s.tb.tbOffset ∧ Raised s t 0x0383) ∧
        (s.ctl.st = .pending → s.ctl.target = t.tb.curFrame →
          t.ctl.st = .idle ∧ t.ctl.activeSetId = (s.ctl.activeSetId + 1) % 2 ^ 32 ∧ t.dict.shadow = [] ∧
          ∀ i j row, i < 0xC000 → j < 256 → objFind i j = some row → row.access = .rws → t.dict.activeVal i j = s.dict.val true i j) ∧
        (s.ctl.st = .pending → s.ctl.target < t.tb.curFrame → t.ctl = { s.ctl with st := .checked, target := 0 } ∧ t.dict.shadow = s.dict.shadow ∧ Raised s t 0x0111) ∧
        (s.ctl.st ≠ .pending ∨ t.tb.curFrame < s.ctl.target → t.ctl = s.ctl ∧ t.dict.shadow = s.dict.shadow) ∧
        (s.ctl.st ≠ .pending → (∀ i ∈ s.disp.items, i.kind ≠ .candidateBlock ∧ i.kind ≠ .candidateSingle) → t.eng = s.eng) ∧ t.rule = s.rule ∧ t.power = s.power ∧ t.clocks = s.clocks)

/-- R31, R299, R507: an idle engine or ingress processor takes the bound image, and a save puts every stored object and the set's ID into the flash. -/
def Obligations.ReloadsAndSettingsSaves : Prop :=
  ∀ (s : State) (n : Nat),
    (∀ u, s.disp.units[n]? = some u → u.reloadDue = true → s.serving n = none →
      exec (.programReload false n) s = .next { s with disp := { s.disp with units := s.disp.units.set n { u with program := s.treadImage, reloadDue := false } } }) ∧
    (∀ x, n < 128 → s.world.streams[n]? = some x → x.reloadDue = true → x.running = [] →
      exec (.programReload true n) s = .next { s with world := { s.world with streams := s.world.streams.set n { x with program := s.filterImage n, reloadDue := false } } }) ∧
    (∀ vals id, s.boot.coldHeld = false → s.boot.warmHeld = false → s.dict.unsaved = some (vals, id) →
      ∃ t, exec .settingsSave s = .next t ∧ t.dict.saved = vals ∧ t.dict.savedSetId = id ∧ t.dict.unsaved = none ∧ t.dict.active = s.dict.active ∧
        t = { s with dict := t.dict, boot := t.boot })

/-- R77 to R81, R92, R118: the seal numbers a version for the current frame, fixes its Landing and seal instants, and takes every packet held for frames up to it. -/
def Obligations.TheSealFixesTheFramesInputs : Prop :=
  ∀ (s : State) (w : FrameWork),
    s.work? s.tb.curFrame = some w → s.mapRuns = true → alSorted s.dict.active = true →
    (w.sealed = true → exec .seal s = .next s) ∧
    (w.sealed = false → (s.det.unpaced = true → s.inputsPending = false) → s.regionBusy 4 = false →
      let number := (s.world.lastVersion + 1) % 2 ^ 32
      ∃ t w' v, exec .seal s = .next t ∧ t.work? s.tb.curFrame = some w' ∧ w'.sealed = true ∧ w'.speculative = false ∧ w'.version = number ∧
        t.world.lastVersion = number ∧ t.cfg 0x3300 3 = number ∧
        v ∈ t.world.versions ∧ v.number = number ∧ v.spec = false ∧ v.urgent = false ∧ v.frame = s.tb.curFrame ∧ v.sealTime = w.tick + s.us 0x2010 2 ∧
        v.inputs.landing = w.tick + s.us 0x2016 1 ∧ v.inputs.start = w'.start ∧ v.reinitialised = w'.reinitialised ∧ v.tiles = [] ∧
        (∀ n, n < 128 → ∀ p ∈ (t.stream n).held, s.tb.curFrame < p.frame) ∧
        t.tb = s.tb ∧ t.ctl = s.ctl ∧ t.eng = s.eng ∧ t.mem = s.mem ∧ t.pub = s.pub ∧ t.boot = s.boot)

/-- R101, R124, R413: a datagram goes to the stream of its destination port and a RoCEv2 packet to the stream of its queue pair; other ports drop, and an unknown queue pair is answered
with a NAK. A stream packet that is accepted gets a journal record, waits at its stream's ingress processor, and is a work item. -/
def Obligations.StreamPacketsAreAccepted : Prop :=
  ∀ (s : State) (t port : Nat) (r : RoceRequest) (bytes : List Byte),
    (s.udpStream port = none ∨ s.accepts = false ∨ s.frameFits bytes.length = false → exec (.streamPacketArrivalUdp t port bytes) s = .next (s.at t)) ∧
    (s.accepts = false ∨ (r.supported = true ∧ s.streamBy 2 r.qp = none ∧ s.qpKnown r.qp = true) → exec (.streamPacketArrivalRoce t r bytes) s = .next (s.at t)) ∧
    (s.accepts = true → (r.supported = false ∨ (s.streamBy 2 r.qp = none ∧ s.qpKnown r.qp = false)) →
      let held := (s.port s.group.activePort).paused.testBit (s.cfg 0x8600 0x0C)
      ∃ u, exec (.streamPacketArrivalRoce t r bytes) s = .next u ∧ u.group.naks = s.group.naks + 1 ∧
        (held = false → u = { s.at t with group := { s.group with naks := s.group.naks + 1 }, wire := s.wire ++ [.roceNak r.qp] }) ∧
        (held = true → s.group.activePort < s.group.ports.length → u.wire = s.wire ∧ (u.port s.group.activePort).held = (s.port s.group.activePort).held ++ [.roceNak r.qp])) ∧
    (∀ c ∈ [(Instr.streamPacketArrivalUdp t port bytes, s.udpStream port, s.frameFits bytes.length), (Instr.streamPacketArrivalRoce t r bytes, s.streamBy 2 r.qp, r.supported)], ∀ n,
      c.2.1 = some n → c.2.2 = true → s.accepts = true → n < s.world.streams.length → s.streamRecovers n = false → s.withholds = false →
      s.journalRoom bytes.length = true → s.mirrorTarget = none → (∀ j ∈ s.host.journal, j.id ≠ s.host.nextJournal) →
      ∃ u j p i, exec c.1 s = .next u ∧ j ∈ u.host.journal ∧ j.id = s.host.nextJournal ∧ j.st = .accepted ∧
        (u.stream n).waiting = (s.stream n).waiting ++ [p] ∧ p.bytes = bytes ∧ p.journal = j.id ∧
        u.disp.items = s.disp.items ++ [i] ∧ i.kind = .streamPacket ∧ i.flow = some n ∧ i.arg = j.id ∧
        u.tb = s.tb ∧ u.eng = s.eng ∧ u.mem = s.mem ∧ u.ctl = s.ctl)

/-- R302, R305, R316, R343 to R350: a packet runs through its filter into the stream buffer, the map builder begins and reads the oldest, a flush discards all, and a bank returns. -/
def Obligations.PacketsPassThroughTheStreamBuffer : Prop :=
  ∀ (s : State) (n : Nat), n < 128 → n < s.world.streams.length →
    (∀ i p, s.atUnit 18 .streamPacket (fun i => i.flow == some n) = some i → (s.stream n).waiting.find? (fun p => p.journal == i.arg) = some p → (s.stream n).buf.packets = [] →
      (s.stream n).running = [] → (s.stream n).reloadDue = false →
      let v := s.filterRun n (s.stream n) p
      let ws := packetWords v.output (match v.status with | .yielded => none | .ended _ => some 0x0301 | _ => some 0x0305)
      ws.length ≤ (s.stream n).buf.room →
      ∃ t q, exec (.filterInvocation n) s = .next t ∧ (t.stream n).buf.packets = [q] ∧ q.payload = p.bytes ∧ q.journal = p.journal ∧ q.stamp = p.stamp ∧ q.complete = true ∧
        q.words.map (fun x => (x.lanes.take x.used, x.trunc, x.cause)) = ws ∧ (v.status = .yielded → q.words.flatMap (fun x => x.lanes.take x.used) = v.output) ∧
        (∀ x ∈ q.words, x.lanes.length = 8 ∧ x.poisoned = false ∧ x.poison = false) ∧
        (∀ b, v.status = .ended b → ∃ x ∈ q.words, x.trunc = true ∧ x.cause = 0x0301) ∧
        (t.stream n).working = v.mem ∧ (t.stream n).running = [] ∧ (∀ r ∈ (t.stream n).waiting, r.journal ≠ p.journal) ∧
        (∀ m, m ≠ n → t.stream m = s.stream m) ∧ t.tb = s.tb ∧ t.engUnit = 512 + n ∧ t.eng = v ∧ t.mem = s.mem) ∧
    (∀ p rest, s.throttledRun = true → (s.stream n).buf.packets = p :: rest →
      (((s.stream n).buf.chain = true ∨ p.complete = true ∨ s.cfg (0x8200 + n) 1 ≤ p.words.length) →
        exec (.streamReadStart n) s = .next (s.modBuf n (fun b => { b with packets := { p with readStarted := true, read := p.read ++ p.words, words := [] } :: rest }))) ∧
      (∀ flips, p.readStarted = true → p.complete = true →
        ∃ t, exec (.packetApply n flips) s = .next t ∧ (t.stream n).buf.packets = rest ∧
          ((∃ h, (t.stream n).held = (s.stream n).held ++ [h] ∧ h.journal = p.journal ∧ h.payload = p.payload ∧ t.world.deltaDue = s.world.deltaDue) ∨
           (p.afterSeal = true ∧ p.frame = pendingFrame ∧ (t.stream n).held = (s.stream n).held ∧
             ∃ h, t.world.deltaDue = s.world.deltaDue ++ [(n, h)] ∧ h.journal = p.journal ∧ h.urgent = true)) ∧
          (∀ m, m ≠ n → t.stream m = s.stream m) ∧ t.eng = s.eng ∧ t.frames = s.frames) ∧
      (∀ flips, p.readStarted = true → p.complete = false →
        ∃ t, exec (.packetApply n flips) s = .next t ∧ (t.stream n).buf.packets = { p with read := readWords flips (p.read ++ p.words), words := [] } :: rest ∧
          (t.stream n).held = (s.stream n).held ∧ (∀ m, m ≠ n → t.stream m = s.stream m) ∧ t.eng = s.eng ∧ t.frames = s.frames)) ∧
    (∃ t, exec (.flush n) s = .next t ∧ (t.stream n).buf.packets = [] ∧ (t.stream n).working = (s.stream n).working ∧ Raised s t 0x080A ∧
      (t.stream n).held.map (·.journal) = (s.stream n).held.map (·.journal) ++ (s.stream n).buf.packets.map (·.journal) ∧
      (∀ h ∈ (t.stream n).held.drop (s.stream n).held.length, h.cause ≠ none) ∧
      (∀ p ∈ (s.stream n).buf.packets, p.readStarted = false → ∃ h ∈ (t.stream n).held.drop (s.stream n).held.length, h.journal = p.journal ∧ h.cause = some (0, 0x0303) ∧ h.records = []) ∧ (∀ m, m ≠ n → t.stream m = s.stream m)
      ∧ (t.stream n).running = [] ∧ ((s.stream n).running = [] → t.disp = s.disp ∧ t.newel = s.newel)
      ∧ t = { s with world := t.world, disp := t.disp, newel := t.newel, dict := t.dict, host := t.host, group := s.group.links t.group, events := t.events, wire := t.wire }) ∧
    (∀ k, (k = 0 ∧ (s.stream n).buf.bank0 = .test) ∨ (k = 1 ∧ (s.stream n).buf.bank1 = .test) →
      ∃ t, exec (.streamBankReturn n k) s = .next t ∧ Raised s t 0x0809 ∧ (t.stream n).buf.packets = (s.stream n).buf.packets ∧
        (t.stream n).buf.bank0 = (if k = 0 then .inService else (s.stream n).buf.bank0) ∧ (t.stream n).buf.bank1 = (if k = 1 then .inService else (s.stream n).buf.bank1) ∧
        ((t.stream n).buf.bank0 = .inService → (t.stream n).buf.bank1 = .inService → (t.stream n).buf.chain = false ∧ (t.stream n).buf.writePos = 0) ∧
        t = { s with world := t.world, dict := t.dict, host := t.host, group := s.group.links t.group, events := t.events, wire := t.wire })

/-- R80 to R82, R120 to R122: a tile job builds the tiles of its slice, a version without jobs is ready, and run-ahead is compared and passes its commit point. -/
def Obligations.TilesAreBuiltComparedAndReady : Prop :=
  ∀ (s : State),
    (∀ lane i v, s.atUnit 16 .tileJob (fun i => i.lane == lane) = some i → i.dropped = false → s.version? i.version i.spec = some v →
      ∃ t v', exec (.tileJob lane) s = .next t ∧ t.version? i.version i.spec = some v' ∧ v'.jobs = v.jobs.filter (fun j => j ≠ argJob i.arg) ∧
        (∀ x ∈ v.tiles, x ∈ v'.tiles) ∧
        (∀ l ∈ s.buildCfg.layersIn (argJob i.arg).2.1, ∃ x ∈ v'.tiles, x.key = ⟨l, (argJob i.arg).1, (argJob i.arg).2.1, (argJob i.arg).2.2⟩) ∧
        (∀ x ∈ v'.tiles, x ∈ v.tiles ∨ (x.values = tileValues s.buildCfg v.inputs x.key ∧ x.unknown = tileUnknown s.buildCfg v.inputs x.key)) ∧
        t = { s with world := { s.world with versions := t.world.versions, nextTile := t.world.nextTile }, disp := t.disp }) ∧
    (∀ v, s.world.versions.find? (fun v => !v.ready && !v.urgent && v.jobs.isEmpty && (v.spec || !s.world.comparing) && s.mapRuns) = some v →
      s.version? v.number v.spec = some v → v.spec = false → s.newest = some v → s.world.deltaOpen = [] →
      ∃ t v', exec .mapReady s = .next t ∧ t.version? v.number false = some v' ∧ v'.ready = true ∧ v'.tiles = v.tiles ∧ v'.inputs = v.inputs ∧ t.tb = s.tb ∧ t.ctl = s.ctl ∧
        t.eng = s.eng ∧ t.mem = s.mem) ∧
    (∀ run v, s.throttledRun = true → s.world.versions.find? (fun v => v.spec) = some run → s.newest = some v → s.world.comparing = true → s.world.compare ≠ [] → run.jobs = [] →
      s.world.versions.find? (fun x => x.number == v.number && x.spec == false) = some v →
      let stays := fun k => run.tiles.any (fun t => t.key == k) && keepsTile s.buildCfg v.inputs run.inputs k
      ∃ t v', exec .runaheadTileCompare s = .next t ∧ t.world.compare = [] ∧ t.world.reversioned = s.world.reversioned ++ s.world.compare.filter (fun k => !stays k) ∧
        t.version? v.number false = some v' ∧ (∀ x ∈ run.tiles, x.key ∈ s.world.compare → stays x.key = true → { x with kept := true } ∈ v'.tiles) ∧
        (∀ k ∈ s.world.compare, stays k = false → (k.grid, k.slice, k.tile) ∈ s.buildCfg.allJobs → (k.grid, k.slice, k.tile) ∈ v'.jobs)) ∧
    (∀ w, s.frames.find? (fun w => w.sealed && !w.landed) = some w → s.work? w.frame = some w → s.world.comparing = true → s.world.compare = [] →
      ∃ t, exec .runaheadCommitPoint s = .next t ∧ t.world.comparing = false ∧ (w.reinitialised = true → Raised s t 0x0384) ∧
        (∀ w', t.work? w.frame = some w' → w'.squashAll = w.reinitialised) ∧ t.tb = s.tb ∧ t.ctl = s.ctl ∧ t.eng = s.eng)

/-- R85 to R87, R128: the scene tensor of a ready version is emitted, and an urgent packet becomes a version of the current frame or is deferred to the next. -/
def Obligations.SceneTensorsAndUrgentDeltas : Prop :=
  ∀ (s : State) (n : Nat) (w : FrameWork), s.work? s.tb.curFrame = some w →
    (∀ v, s.regionBusy 5 = false → s.world.versions.find? (SceneDue s) = some v →
      ∃ t x, exec .sceneTensorEmit s = .next t ∧ x.frame = v.frame ∧ x.bytes = s.sceneOf v ∧
        (v.spec = true → t.world.specScene = some x ∧ t.world.scene = s.world.scene) ∧ (v.spec = false → t.world.scene = some x ∧ t.world.specScene = none) ∧
        t.world.streams = s.world.streams ∧ t.tb = s.tb ∧ t.ctl = s.ctl ∧ t.eng = s.eng) ∧
    (∀ p, s.throttledRun = true → s.world.deltaDue.find? (fun d => d.1 == n) = some (n, p) → w.sealed = true → p.discard (s.cfg (0x3100 + n) 1) (some s.world.mapFrame) = none → n < s.world.streams.length →
      (s.strict = true ∨ s.det.unpaced = true ∨ (∃ q ∈ (s.stream n).held, q.journal < p.journal) ∨ s.tickOf w.frame + (s.us 0x2015 2 : Int) - s.tb.phaseError < (p.stamp : Int) ∨ s.cfg 0x2005 1 ≤ s.world.deltas →
        ∃ t, exec (.urgentDelta n) s = .next t ∧ p ∈ (t.stream n).held ∧ Raised s t 0x0385 ∧ t.world.versions = s.world.versions ∧ t.world.deltas = s.world.deltas ∧ t.frames = s.frames) ∧
      (s.strict = false → s.det.unpaced = false → (∀ q ∈ (s.stream n).held, p.journal ≤ q.journal) → (p.stamp : Int) ≤ s.tickOf w.frame + (s.us 0x2015 2 : Int) - s.tb.phaseError → s.world.deltas < s.cfg 0x2005 1 →
        (∃ t, exec (.urgentDelta n) s = .next t ∧ t.world.deltas = s.world.deltas + 1 ∧ (t.stream n).held = (s.stream n).held) ∧
        (∀ v, s.newest = some v → v.ready = true → v.frame = w.frame → w.landed = false → s.world.deltaOpen = [] →
          ∃ t v', exec (.urgentDelta n) s = .next t ∧ v' ∈ t.world.versions ∧ v'.urgent = true ∧ v'.number = (s.world.lastVersion + 1) % 2 ^ 32 ∧ v'.parent = some v.number ∧
            v'.frame = w.frame ∧ t.world.deltaOpen = []))) ∧
    (∀ v, s.world.versions.find? (fun v => v.urgent && !v.ready && v.jobs.isEmpty && s.mapRuns) = some v → v.spec = false → s.newest = some v → v.frame = s.tb.curFrame →
      alSorted s.dict.active = true → w.closed = none → s.world.deltaOpen = [] → s.version? v.number false = some v →
      ∃ t, exec .urgentVersionSeal s = .next t ∧ t.cfg 0x3300 3 = v.number ∧ (∃ v', t.version? v.number false = some v' ∧ v'.ready = true ∧ v'.sealTime = s.time) ∧
        (∃ w', t.work? s.tb.curFrame = some w' ∧ w'.version = v.number ∧
          ∀ r ∈ w.blocks, r.speculative = false → r.withdrawn = false → r.beta < 4112 → (r.signature &&& s.groupsSince (v.parent.getD 0) v.number) ≠ 0 →
            { r with withdrawn := true } ∈ w'.blocks))

/-- R271: items of class MAP of the current frame still ready at BuildEnd are counted once in LateItems and, with LatePromote 1, move to level 0 with LATE set. -/
def Obligations.LateMapItemsArePromoted : Prop :=
  ∀ (s : State) (w : FrameWork), s.work? s.tb.curFrame = some w → w.once.contains 0x10000 = false → alSorted s.dict.active = true →
    let late := fun (i : Item) => i.cls == 2 && i.frame == w.frame && !i.late && (match i.loc with | .ready _ => true | _ => false)
    let n := (s.disp.items.filter late).length
    let lateItems := (s.dict.activeVal 0x7101 8).toNum
    ∃ t, exec .buildEndPromotion s = .next t ∧
      (t.dict.activeVal 0x7101 8).toNum = (if n = 0 then lateItems else min (2 ^ 64 - 1) (lateItems + n)) ∧
      (s.cfg 0x7100 0x0C ≠ 0 → t.disp.items = s.disp.items.map (fun i => if late i then { i with late := true, level := 0 } else i)) ∧
      (s.cfg 0x7100 0x0C = 0 → t.disp.items = s.disp.items) ∧ s.now ≤ t.now ∧
      (∃ w', t.work? s.tb.curFrame = some w' ∧ w' = { w with once := 0x10000 :: w.once }) ∧
      t = { s with now := t.now, frames := t.frames, disp := { s.disp with items := t.disp.items }, dict := t.dict, host := t.host, group := s.group.links t.group, events := t.events, wire := t.wire }

/-- R310, R315: what each integer, immediate, bit-field and byte instruction leaves in g[RD], for every function code and operand, and that nothing else changes. -/
def Obligations.IntegerInstructionsWriteTheirResult : Prop :=
  ∀ (s : State) (rd ra rb : BitVec 6) (pred : BitVec 3),
    (∀ fn, Runs s (.ialu rd ra rb pred fn) → s.eng.getP pred.toNat = true →
      ∃ t r, exec (.ialu rd ra rb pred fn) s = .next t ∧ WroteG s t rd.toNat r ∧
        (let a := s.eng.getG ra.toNat; let b := s.eng.getG rb.toNat
         (fn = 0x00#5 → r = a + b) ∧ (fn = 0x01#5 → r = a - b) ∧ (fn = 0x02#5 → r = a * b)
         ∧ (fn = 0x03#5 → r.toNat = a.toNat * b.toNat / 2 ^ 32)
         ∧ (fn = 0x04#5 → r = a &&& b) ∧ (fn = 0x05#5 → r = a ||| b) ∧ (fn = 0x06#5 → r = a ^^^ b)
         ∧ (fn = 0x07#5 → r = a <<< (b.toNat % 32)) ∧ (fn = 0x08#5 → r = a >>> (b.toNat % 32)) ∧ (fn = 0x09#5 → r = a.sshiftRight (b.toNat % 32))
         ∧ (fn = 0x0A#5 → r.toInt = min a.toInt b.toInt) ∧ (fn = 0x0B#5 → r.toInt = max a.toInt b.toInt)
         ∧ (fn = 0x0C#5 → r.toNat = min a.toNat b.toNat) ∧ (fn = 0x0D#5 → r.toNat = max a.toNat b.toNat))) ∧
    (∀ imm, Runs s (.addi rd ra imm) → ∃ t, exec (.addi rd ra imm) s = .next t ∧ WroteG s t rd.toNat (s.eng.getG ra.toNat + imm.signExtend 32)) ∧
    (∀ imm, Runs s (.ori rd ra imm) → ∃ t, exec (.ori rd ra imm) s = .next t ∧ WroteG s t rd.toNat (s.eng.getG ra.toNat ||| imm.zeroExtend 32)) ∧
    (∀ imm, Runs s (.andi rd ra imm) → ∃ t, exec (.andi rd ra imm) s = .next t ∧ WroteG s t rd.toNat (s.eng.getG ra.toNat &&& imm.zeroExtend 32)) ∧
    (∀ imm, Runs s (.lui rd imm) → ∃ t, exec (.lui rd imm) s = .next t ∧ WroteG s t rd.toNat (imm.zeroExtend 32 <<< 12)) ∧
    (∀ pos w, Runs s (.bfx rd ra pos w) →
      ∃ t r, exec (.bfx rd ra pos w) s = .next t ∧ WroteG s t rd.toNat r ∧ r.toNat = (s.eng.getG ra.toNat).toNat / 2 ^ pos.toNat % 2 ^ (w.toNat + 1)) ∧
    (Runs s (.bswap32 rd ra pred) → s.eng.getP pred.toNat = true →
      ∃ t r, exec (.bswap32 rd ra pred) s = .next t ∧ WroteG s t rd.toNat r
        ∧ ∀ k, k < 4 → r.extractLsb' (8 * k) 8 = (s.eng.getG ra.toNat).extractLsb' (24 - 8 * k) 8) ∧
    (Runs s (.bswap16 rd ra pred) → s.eng.getP pred.toNat = true →
      ∃ t r, exec (.bswap16 rd ra pred) s = .next t ∧ WroteG s t rd.toNat r
        ∧ ∀ k, k < 2 → r.extractLsb' (16 * k) 8 = (s.eng.getG ra.toNat).extractLsb' (16 * k + 8) 8
            ∧ r.extractLsb' (16 * k + 8) 8 = (s.eng.getG ra.toNat).extractLsb' (16 * k) 8) ∧
    (∀ fn, Runs s (.crc32c rd ra rb pred fn) → s.eng.getP pred.toNat = true →
      ∃ t, exec (.crc32c rd ra rb pred fn) s = .next t
        ∧ WroteG s t rd.toNat (crcRun (s.eng.getG ra.toNat)
            ((List.range (if fn = 2#5 then 1 else if fn = 3#5 then 2 else 4)).map (fun k => (s.eng.getG rb.toNat).extractLsb' (8 * k) 8))))

/-- R310, R311: what FALU, FCMP, ICMP and PLOG leave, for every function code, and that nothing else changes. -/
def Obligations.FloatAndPredicateInstructionsWriteTheirResult : Prop :=
  ∀ (s : State) (rd ra rb : BitVec 6) (pred : BitVec 3) (fn : BitVec 5), s.eng.getP pred.toNat = true →
    (Runs s (.falu rd ra rb pred fn) → ∃ t r, exec (.falu rd ra rb pred fn) s = .next t ∧ WroteG s t rd.toNat r ∧
      (let a := s.eng.getG ra.toNat; let b := s.eng.getG rb.toNat
       (fn = 0x00#5 → r = f32Add a b) ∧ (fn = 0x01#5 → r = f32Sub a b) ∧ (fn = 0x02#5 → r = f32Mul a b) ∧ (fn = 0x03#5 → r = f32Div a b)
       ∧ (fn = 0x04#5 → r = f32Sqrt a) ∧ (fn = 0x05#5 → r = f32Min a b) ∧ (fn = 0x06#5 → r = f32Max a b)
       ∧ (fn = 0x07#5 → r = if f32IsNaN a then 0x7FC00000#32 else a &&& 0x7FFFFFFF#32)
       ∧ (fn = 0x08#5 → r = if f32IsNaN a then 0x7FC00000#32 else a ^^^ 0x80000000#32)
       ∧ (fn = 0x09#5 → r = f32OfInt a.toInt) ∧ (fn = 0x0A#5 → r.toNat = fpToI32 fmt32 a.toNat)
       ∧ (fn = 0x0B#5 → r = f32AddUp a b) ∧ (fn = 0x0C#5 → r = f32MulUp a b) ∧ (fn = 0x0D#5 → r = f32Sin a) ∧ (fn = 0x0E#5 → r = f32Cos a))) ∧
    (Runs s (.fcmp rd ra rb pred fn) → ∃ t x, exec (.fcmp rd ra rb pred fn) s = .next t ∧ WroteP s t rd.toNat x ∧
      (let a := s.eng.getG ra.toNat; let b := s.eng.getG rb.toNat
       (fn = 0#5 → x = f32Eq a b) ∧ (fn = 1#5 → x = f32Lt a b) ∧ (fn = 2#5 → x = (f32Lt a b || f32Eq a b)) ∧ (fn = 3#5 → x = (f32IsNaN a || f32IsNaN b)))) ∧
    (Runs s (.icmp rd ra rb pred fn) → ∃ t x, exec (.icmp rd ra rb pred fn) s = .next t ∧ WroteP s t rd.toNat x ∧
      (let a := s.eng.getG ra.toNat; let b := s.eng.getG rb.toNat
       (fn = 0#5 → x = decide (a = b)) ∧ (fn = 1#5 → x = decide (a ≠ b)) ∧ (fn = 2#5 → x = decide (a.toInt < b.toInt))
       ∧ (fn = 3#5 → x = decide (a.toInt ≤ b.toInt)) ∧ (fn = 4#5 → x = decide (a.toNat < b.toNat)) ∧ (fn = 5#5 → x = decide (a.toNat ≤ b.toNat)))) ∧
    (Runs s (.plog rd ra rb pred fn) → ∃ t x, exec (.plog rd ra rb pred fn) s = .next t ∧ WroteP s t rd.toNat x ∧
      (let a := s.eng.getP ra.toNat; let b := s.eng.getP rb.toNat
       (fn = 0#5 → x = (a && b)) ∧ (fn = 1#5 → x = (a || b)) ∧ (fn = 2#5 → x = (a ^^ b)) ∧ (fn = 3#5 → x = !a)))

/-- R312: what each vector instruction leaves, lane by lane, and that nothing else changes. -/
def Obligations.VectorInstructionsWriteTheirResult : Prop :=
  ∀ (s : State) (rd ra rb : BitVec 6) (pred : BitVec 3) (fn : BitVec 5), Runs s (.valu rd ra rb pred fn) → s.eng.getP pred.toNat = true →
    let a := s.eng.getV ra.toNat
    let b := s.eng.getV rb.toNat
    let lanes := fun (f : Word → Word → Word) => ∃ t, exec (.valu rd ra rb pred fn) s = .next t
      ∧ WroteV s t rd.toNat ((List.range 8).map (fun k => f (lane a k) (lane b k)))
    (fn = 0x00#5 → lanes f32Add) ∧ (fn = 0x01#5 → lanes f32Sub) ∧ (fn = 0x02#5 → lanes f32Mul) ∧ (fn = 0x03#5 → lanes f32Min) ∧ (fn = 0x04#5 → lanes f32Max)
    ∧ (fn = 0x05#5 → lanes (· + ·)) ∧ (fn = 0x06#5 → lanes (· - ·)) ∧ (fn = 0x07#5 → lanes (· * ·))
    ∧ (fn = 0x08#5 → lanes (fun x y => BitVec.ofNat 32 (fpAdd fmt16 .rne (x.toNat % 65536) (y.toNat % 65536))))
    ∧ (fn = 0x09#5 → lanes (fun x y => BitVec.ofNat 32 (fpMul fmt16 .rne (x.toNat % 65536) (y.toNat % 65536))))
    ∧ (fn = 0x0A#5 → ∃ t, exec (.valu rd ra rb pred fn) s = .next t ∧ WroteV s t rd.toNat (List.replicate 8 (s.eng.getG ra.toNat)))
    ∧ (fn = 0x0B#5 → ∃ t, exec (.valu rd ra rb pred fn) s = .next t ∧ WroteG s t rd.toNat (lane a ((s.eng.getG rb.toNat).toNat % 8)))
    ∧ (fn = 0x0C#5 → ∃ t, exec (.valu rd ra rb pred fn) s = .next t
        ∧ WroteV s t rd.toNat ((List.range 8).map (fun k => if k = (s.eng.getG rb.toNat).toNat % 8 then s.eng.getG ra.toNat else lane (s.eng.getV rd.toNat) k)))
    ∧ (fn = 0x0D#5 → ∃ t, exec (.valu rd ra rb pred fn) s = .next t
        ∧ WroteG s t rd.toNat (f32Add (f32Add (f32Add (lane a 0) (lane a 1)) (f32Add (lane a 2) (lane a 3)))
            (f32Add (f32Add (lane a 4) (lane a 5)) (f32Add (lane a 6) (lane a 7)))))
    ∧ (fn = 0x0E#5 → ∃ t r, exec (.valu rd ra rb pred fn) s = .next t ∧ WroteG s t rd.toNat r ∧ r ∈ a ∧ ∀ x ∈ a, r.toInt ≤ x.toInt)

/-- R303, R304, R305, R313: LDW.S, VLD.S and LDW.H complete on every aligned access of a range that the spec lets them read, with the value read in the register and nothing
else changed. -/
def Obligations.LocalLoadsComplete : Prop :=
  ∀ (s : State) (rd ra : BitVec 6) (imm : BitVec 14),
    let a := (s.eng.getG ra.toNat + imm.signExtend 32).toNat
    let own := fun n => (s.eng.kind = .tread ∧ 0x21000 + 1024 * s.eng.slot ≤ a ∧ a + n ≤ 0x21400 + 1024 * s.eng.slot)
      ∨ (s.eng.kind = .filter ∧ 0x8000 ≤ a ∧ a + n ≤ 0x10000)
    let inPacket := fun n => s.eng.kind = .filter ∧ a < 0x8000 ∧ a + n ≤ s.eng.packet.length
    let inWindows := fun n => s.eng.kind = .tread ∧ a + n ≤ 0x20C00
    let word := fun (i : Instr) x => ∃ t, exec i s = .next t ∧ WroteG s t rd.toNat (BitVec.ofNat 32 x)
    let lanes := fun (i : Instr) (x : Nat → Nat) => ∃ t, exec i s = .next t ∧ WroteV s t rd.toNat ((List.range 8).map (fun k => BitVec.ofNat 32 (x (4 * k))))
    (Runs s (.ldwS rd ra imm) → a % 4 = 0 →
      (own 4 → word (.ldwS rd ra imm) (memReadNat s.eng.mem a 4))
      ∧ (inPacket 4 → word (.ldwS rd ra imm) (fieldAt s.eng.packet a 4))
      ∧ (inWindows 4 → word (.ldwS rd ra imm) (leNat ((List.range 4).map (fun k => s.eng.scratchByte (a + k)))))) ∧
    (Runs s (.vldS rd ra imm) → a % 32 = 0 →
      (own 32 → lanes (.vldS rd ra imm) (fun k => memReadNat s.eng.mem (a + k) 4))
      ∧ (inPacket 32 → lanes (.vldS rd ra imm) (fun k => fieldAt s.eng.packet (a + k) 4))
      ∧ (inWindows 32 → lanes (.vldS rd ra imm) (fun k => leNat ((List.range 4).map (fun j => s.eng.scratchByte (a + k + j)))))) ∧
    (Runs s (.ldwH rd ra imm) → a % 4 = 0 → a + 4 ≤ s.eng.consts.length → word (.ldwH rd ra imm) (fieldAt s.eng.consts a 4))

/-- R303, R304, R305, R313: STW.S and VST.S complete on every aligned access of a range that the spec lets them write: exactly their bytes change, or their words are appended to
a filter's output port, and nothing else changes. -/
def Obligations.LocalStoresComplete : Prop :=
  ∀ (s : State) (rd ra : BitVec 6) (imm : BitVec 14), memWf s.eng.mem = true →
    let a := (s.eng.getG ra.toNat + imm.signExtend 32).toNat
    let own := fun n => (s.eng.kind = .tread ∧ 0x21000 + 1024 * s.eng.slot ≤ a ∧ a + n ≤ 0x21400 + 1024 * s.eng.slot)
      ∨ (s.eng.kind = .filter ∧ 0x8000 ≤ a ∧ a + n ≤ 0x10000)
    let port := s.eng.kind = .filter ∧ 0x10000 ≤ a ∧ a < 0x20000
    let stored := fun (i : Instr) (bytes : List Byte) => ∃ t, exec i s = .next t ∧ memWf t.eng.mem = true
      ∧ (∀ x, memRead x t.eng.mem = if a ≤ x ∧ x < a + bytes.length then bytes.getD (x - a) 0#8 else memRead x s.eng.mem)
      ∧ (s.eng.loops = [] → t.eng.pc = s.eng.pc + 1) ∧ t = { s with eng := { s.eng with mem := t.eng.mem, pc := t.eng.pc, loops := t.eng.loops } }
    let sent := fun (i : Instr) (words : List Nat) => ∃ t, exec i s = .next t ∧ (s.eng.loops = [] → t.eng.pc = s.eng.pc + 1)
      ∧ t = { s with eng := { s.eng with output := s.eng.output ++ words, pc := t.eng.pc, loops := t.eng.loops } }
    (Runs s (.stwS rd ra imm) → a % 4 = 0 →
      (own 4 → stored (.stwS rd ra imm) (leBytes 4 (s.eng.getG rd.toNat).toNat))
      ∧ (port → sent (.stwS rd ra imm) [(s.eng.getG rd.toNat).toNat])) ∧
    (Runs s (.vstS rd ra imm) → a % 32 = 0 →
      (own 32 → stored (.vstS rd ra imm) ((s.eng.getV rd.toNat).flatMap (fun w => leBytes 4 w.toNat)))
      ∧ (port → sent (.vstS rd ra imm) ((s.eng.getV rd.toNat).map (·.toNat))))

/-- R313, R318: an aligned tally addition within the tally area adds at the bank of the program slot's tally area at once; no register, no other tally byte and no other slot's
tally changes, and ADD.F32 is the one that may also count a timing-dependent choice. -/
def Obligations.TallyAdditionsComplete : Prop :=
  ∀ (s : State) (ra rb : BitVec 6) (pred : BitVec 3) (slot : Nat), s.eng.getP pred.toNat = true → s.eng.progSlot = some slot → memWf (s.tallyOf (some slot)) = true → s.onOldTally s.engUnit = false →
    let a := (s.eng.getG ra.toNat).toNat
    let b := (s.eng.getG rb.toNat).toNat
    let old := s.tallyOf (some slot)
    let added := fun (i : Instr) (n x : Nat) => ∃ t, exec i s = .next t ∧ memReadNat (t.tallyOf (some slot)) a n = x
      ∧ (∀ y, y < a ∨ a + n ≤ y → memRead y (t.tallyOf (some slot)) = memRead y old)
      ∧ (∀ k, k ≠ slot → alGet k t.boot.tallies = alGet k s.boot.tallies) ∧ t.boot = { s.boot with tallies := t.boot.tallies }
      ∧ t.eng = { s.eng with tally := t.tallyOf (some slot), pc := t.eng.pc, loops := t.eng.loops, fpAtomic := decide (i = .atomAddF32 ra rb pred) }
      ∧ t.world = s.world ∧ t.mem = s.mem ∧ t.pending = s.pending
      ∧ (i ≠ .atomAddF32 ra rb pred → t = { s with eng := t.eng, boot := t.boot })
    (Runs s (.atomAddI32 ra rb pred) → a % 4 = 0 → a + 4 ≤ s.eng.tallyLength →
      added (.atomAddI32 ra rb pred) 4 ((memReadNat old a 4 + b) % 2 ^ 32)) ∧
    (Runs s (.atomAddI64 ra rb pred) → a % 8 = 0 → a + 8 ≤ s.eng.tallyLength →
      added (.atomAddI64 ra rb pred) 8 ((memReadNat old a 8 + b + 2 ^ 32 * (s.eng.getG (rb.toNat + 1)).toNat) % 2 ^ 64)) ∧
    (Runs s (.atomAddU16q7s ra rb pred) → a % 2 = 0 → a + 2 ≤ s.eng.tallyLength →
      added (.atomAddU16q7s ra rb pred) 2 (min 0xFFFF (memReadNat old a 2 + b % 65536))) ∧
    (Runs s (.atomAddF32 ra rb pred) → a % 4 = 0 → a + 4 ≤ s.eng.tallyLength →
      added (.atomAddF32 ra rb pred) 4 (f32Add (BitVec.ofNat 32 (memReadNat old a 4)) (s.eng.getG rb.toNat)).toNat)

/-- R306, R314: tile loads, POSE, QUERY, LOOKUP, ACC, MERIT and SCG complete on the operands for which R314 names no fault, with their results. -/
def Obligations.TreadInstructionsComplete : Prop :=
  ∀ (s : State) (rd ra rb : BitVec 6) (pred : BitVec 3), s.eng.kind = .tread →
    let x := s.eng.getG ra.toNat
    let y := s.eng.getG (ra.toNat + 1)
    let l := (s.eng.getG rb.toNat).toNat
    let m := (envOf s).map
    let instant := s.eng.pose * (envOf s).stepNs
    (∀ imm, Runs s (.ldwT rd ra imm) →
      let ref := (x + imm.signExtend 32).toNat
      let layer := ref / 2 ^ 28 % 16; let grid := ref / 2 ^ 27 % 2; let slice := ref / 2 ^ 21 % 64; let tile := ref / 2 ^ 13 % 256; let offset := ref % 2 ^ 13
      ∀ td, m.typeOf layer ≠ 0 → slice ≤ 32 → offset % 4 = 0 → offset + 4 ≤ tileSize (m.typeOf layer) → m.tile layer grid slice tile = some td →
        ∃ t, exec (.ldwT rd ra imm) s = .next t ∧ t.eng.getG rd.toNat = (if rd = 0#6 then 0#32 else BitVec.ofNat 32 (tileWord (m.typeOf layer) td.values offset))
          ∧ t.eng.groups = s.eng.groups ||| 2 ^ tileGroup grid tile
          ∧ t = { s with eng := { s.eng with g := t.eng.g, groups := t.eng.groups, pc := t.eng.pc, loops := t.eng.loops } }) ∧
    (s.eng.getP pred.toNat = true →
      (∀ sp c, Runs s (.poseSphere rd ra pred) → s.spheres[x.toNat]? = some sp → placeSphere (axles s.body s.eng.here) sp = some c →
        ∃ t, exec (.poseSphere rd ra pred) s = .next t ∧ (rd ≠ 0#6 → t.eng.getG rd.toNat = c.1) ∧ t.eng.getG (rd.toNat + 1) = c.2
          ∧ t = { s with eng := { s.eng with g := t.eng.g, pc := t.eng.pc, loops := t.eng.loops } }) ∧
      (∀ ax, Runs s (.poseAxle rd ra pred) → (axles s.body s.eng.here)[x.toNat]? = some ax →
        ∃ t, exec (.poseAxle rd ra pred) s = .next t ∧ (rd ≠ 0#6 → t.eng.getG rd.toNat = ax.x) ∧ t.eng.getG (rd.toNat + 1) = ax.y
          ∧ t = { s with eng := { s.eng with g := t.eng.g, pc := t.eng.pc, loops := t.eng.loops } }) ∧
      (Runs s (.query rd ra rb pred) → m.typeOf l = 1 →
        let answered := fun groups (r : Word) => ∃ t, exec (.query rd ra rb pred) s = .next t ∧ (rd ≠ 0#6 → t.eng.getG rd.toNat = r)
          ∧ t = { s.count 0x5020 3 1 with eng := { s.eng with g := t.eng.g, queries := s.eng.queries + 1, groups := s.eng.groups ||| groups, pc := t.eng.pc, loops := t.eng.loops } }
        let ended := fun groups code => exec (.query rd ra rb pred) s
          = .next { s.count 0x5020 3 1 with eng := { s.eng with queries := s.eng.queries + 1, groups := s.eng.groups ||| groups, status := .ended code } }
        ((f32Finite x && f32Finite y) = false → ended 0 7)
        ∧ (f32Finite x = true → f32Finite y = true →
          (m.locate x y = none → answered 0 0x80000000#32)
          ∧ (∀ p d, m.locate x y = some p → m.dist l p (sliceCover instant instant) = some d → answered p.groups4 (BitVec.ofInt 32 d))
          ∧ (∀ p, m.locate x y = some p → m.dist l p (sliceCover instant instant) = none → ended p.groups4 8))) ∧
      (Runs s (.lookup rd ra rb pred) → m.typeOf l = 2 → f32Finite x = true → f32Finite y = true →
        ∀ p c, m.locate x y = some p → m.bilinear l ((sliceCover instant instant).headD 0) x y p = some c →
            ∃ t, exec (.lookup rd ra rb pred) s = .next t ∧ (rd ≠ 0#6 → t.eng.getG rd.toNat = c) ∧ t.eng.groups = s.eng.groups ||| p.groups4) ∧
      (∀ fn, Runs s (.acc ra pred fn) →
        let r := f32Add ((s.eng.acc[fn.toNat]?).getD 0#32) x
        ∃ t, exec (.acc ra pred fn) s = .next t ∧ t.eng.acc = s.eng.acc.set fn.toNat r ∧ t.eng.g = s.eng.g
          ∧ (f32Finite r = true → t.eng.status = .running) ∧ (f32Finite r = false → t.eng.status = .ended 7)) ∧
      (Runs s (.merit ra pred) → s.eng.pose = s.eng.horizon →
        ∃ t, exec (.merit ra pred) s = .next t ∧ t.eng.merit = some x
          ∧ t = { s with eng := { s.eng with merit := some x, pc := t.eng.pc, loops := t.eng.loops } }) ∧
      (Runs s (.scg rd rb pred) →
        let w := scgWords (scgKey (s.cfgBytes 0x7201 0) s.eng.frame) s.eng.frame (s.eng.exp.cid / 2 ^ 28 % 4) s.eng.exp.cid (0x800000 + 256 * s.eng.pose + l % 256)
        ∃ t, exec (.scg rd rb pred) s = .next t ∧ (∀ k, k < 4 → rd.toNat + k ≠ 0 → t.eng.getG (rd.toNat + k) = lane w k)
          ∧ t = { s with eng := { s.eng with g := t.eng.g, pc := t.eng.pc, loops := t.eng.loops } }))

/-- R308, R314, R315, R320: branches, loops, YIELD and REJECT complete as the spec says, outside every loop body; and the last instruction of a loop's body (an ADDI stands for it)
goes back to the body's first while iterations are left, and on past it when none is. -/
def Obligations.EngineControlFlowCompletes : Prop :=
  (∀ (s : State) (f : LoopFrame) (rd ra : BitVec 6) (imm : BitVec 14), Runs s (.addi rd ra imm) → s.eng.loops = [f] → s.eng.pc + 1 = f.stop →
    ∃ t, exec (.addi rd ra imm) s = .next t ∧ WroteG s t rd.toNat (s.eng.getG ra.toNat + imm.signExtend 32) ∧
      (0 < f.left → t.eng.pc = f.start ∧ t.eng.loops = [{ f with left := f.left - 1 }]) ∧ (f.left = 0 → t.eng.pc = f.stop ∧ t.eng.loops = [])) ∧
  ∀ (s : State), s.eng.loops = [] →
    (∀ pred inv offset, Runs s (.br pred inv offset) →
      exec (.br pred inv offset) s = .next { s with eng := { s.eng with pc := s.eng.pc + (if s.eng.getP pred.toNat = inv then 1 else offset.toNat) } }) ∧
    (∀ rs body bound, Runs s (.loop rs body bound) →
      let n := (s.eng.getG rs.toNat).toNat
      (n = 0 → exec (.loop rs body bound) s = .next { s with eng := { s.eng with pc := s.eng.pc + body.toNat + 1 } })
      ∧ (0 < n → n ≤ bound.toNat → exec (.loop rs body bound) s = .next
          { s with eng := { s.eng with pc := s.eng.pc + 1, loops := [⟨s.eng.pc + 1, s.eng.pc + body.toNat + 1, n - 1⟩] } })) ∧
    (∀ pred, Runs s (.yield pred) → s.eng.getP pred.toNat = true → exec (.yield pred) s = .next { s with eng := { s.eng with status := .yielded } }) ∧
    (∀ ra pred code, Runs s (.reject ra pred code) → s.eng.getP pred.toNat = true →
      let c := if code = 0#8 then (s.eng.getG ra.toNat).toNat % 256 else code.toNat
      (s.eng.kind = .filter ∨ c = 6 ∨ 16 ≤ c → exec (.reject ra pred code) s = .next { s with eng := { s.eng with status := .ended c } }))

/-- R308: an instruction whose predicate fails only goes on to the next instruction. -/
def Obligations.FailedPredicateHasNoEffect : Prop :=
  ∀ (s : State) (rd ra rb : BitVec 6) (pred : BitVec 3) (fn : BitVec 5) (code : BitVec 8), s.eng.getP pred.toNat = false →
    ∀ i ∈ [Instr.ialu rd ra rb pred fn, .icmp rd ra rb pred fn, .falu rd ra rb pred fn, .fcmp rd ra rb pred fn, .valu rd ra rb pred fn, .plog rd ra rb pred fn,
        .bswap32 rd ra pred, .bswap16 rd ra pred, .crc32c rd ra rb pred fn, .poseSphere rd ra pred, .poseAxle rd ra pred, .query rd ra rb pred,
        .lookup rd ra rb pred, .acc ra pred fn, .merit ra pred, .scg rd rb pred, .yield pred, .reject ra pred code],
      Runs s i → ∃ t, exec i s = .next t ∧ WentOn s t

/-- R193, R316: what faults an invocation, of the accesses and of the special instructions: misaligned or outside its range, a trip count above its bound, and the faults of R314.
No register changes. The consequence: an engine's block, or its single candidate, is abandoned with 0x0501; a packet of an ingress processor closes with a truncated-packet marker. -/
def Obligations.FaultingInstructionsMarkTheInvocation : Prop :=
  ∀ (s : State) (rd ra rb : BitVec 6) (pred : BitVec 3) (imm : BitVec 14), s.eng.getP pred.toNat = true →
    let a := (s.eng.getG ra.toNat + imm.signExtend 32).toNat
    let x := (s.eng.getG ra.toNat).toNat
    let s' := { s with eng := { s.eng with status := .faulted } }
    let t := s'.faultInHand
    let faulted := fun (i : Instr) => exec i s = .next t
    (t.eng = s'.eng) ∧
    (∀ i, s.engUnit < 512 → s.servingCandidates s.engUnit = some i →
      t = (((s'.modUnit s.engUnit (fun u => { u with windows := 0, exps := [] })).commitItem i.serial).abandonBlock i.frame 0x0501 i.mark).goRounds i.frame) ∧
    (∀ k, s.engUnit = 512 + k →
      t = { s' with world := { s.world with streams := modAt s.world.streams k (fun y => { y with running := modLast (fun r => r.cut 0x0305) y.running }) } }) ∧
    (Runs s (.ldwS rd ra imm) → a % 4 ≠ 0 ∨ (s.eng.kind = .filter ∧ (s.eng.packet.length < a + 4 ∧ a < 0x8000 ∨ 0x10000 ≤ a)) ∨ (s.eng.kind = .tread ∧ 0x31000 ≤ a) →
      s.eng.slot < 64 → faulted (.ldwS rd ra imm)) ∧
    (Runs s (.vldS rd ra imm) → a % 32 ≠ 0 ∨ (s.eng.kind = .filter ∧ 0x10000 ≤ a) → faulted (.vldS rd ra imm)) ∧
    (Runs s (.stwS rd ra imm) → a % 4 ≠ 0 ∨ (s.eng.kind = .tread ∧ a < 0x21000) ∨ (s.eng.kind = .filter ∧ (a < 0x8000 ∨ 0x20000 ≤ a)) → faulted (.stwS rd ra imm)) ∧
    (Runs s (.vstS rd ra imm) → a % 32 ≠ 0 ∨ (s.eng.kind = .tread ∧ a < 0x21000) → faulted (.vstS rd ra imm)) ∧
    (Runs s (.ldwH rd ra imm) → a % 4 ≠ 0 ∨ s.eng.consts.length < a + 4 → faulted (.ldwH rd ra imm)) ∧
    (Runs s (.ldwT rd ra imm) → s.eng.kind = .filter → faulted (.ldwT rd ra imm)) ∧
    (∀ body bound, Runs s (.loop ra body bound) → bound.toNat < x → faulted (.loop ra body bound)) ∧
    (Runs s (.poseSphere rd ra pred) → s.spheres.length ≤ x → faulted (.poseSphere rd ra pred)) ∧
    (Runs s (.poseAxle rd ra pred) → (axles s.body s.eng.here).length ≤ x → faulted (.poseAxle rd ra pred)) ∧
    (Runs s (.query rd ra rb pred) → (envOf s).map.typeOf (s.eng.getG rb.toNat).toNat ≠ 1 → faulted (.query rd ra rb pred)) ∧
    (Runs s (.lookup rd ra rb pred) → (envOf s).map.typeOf (s.eng.getG rb.toNat).toNat ≠ 2 → faulted (.lookup rd ra rb pred)) ∧
    (Runs s (.merit ra pred) → s.eng.pose ≠ s.eng.horizon → faulted (.merit ra pred)) ∧
    (∀ code, Runs s (.reject ra pred code) → s.eng.kind = .tread → (let c := if code = 0#8 then x % 256 else code.toNat; c ≠ 6 ∧ c < 16) → faulted (.reject ra pred code)) ∧
    (Runs s (.atomAddI32 ra rb pred) → x % 4 ≠ 0 ∨ s.eng.tallyLength < x + 4 →
      ∃ u, exec (.atomAddI32 ra rb pred) s = .next u ∧ u.eng.status = .faulted ∧ u.tallyOf s.eng.progSlot = s.tallyOf s.eng.progSlot)

/-- R146, R147, R149, R151: the policy proposes every sequence of its blocks or fails as a whole, and the expander fills one window after another. -/
def Obligations.PolicyAndExpanderProposeCandidates : Prop :=
  ∀ (s : State) (i : Item) (w : FrameWork), s.work? i.frame = some w →
    (s.atUnit 20 .policyRun (fun _ => true) = some i → i.dropped = false →
      let scene := match (if i.spec then s.world.specScene.orElse (fun _ => s.world.scene) else s.world.scene) with | some x => x.bytes | none => []
      (∃ t w', exec (.policyRun none) s = .next t ∧ t.work? i.frame = some w' ∧ w'.policy.started = true ∧ w'.policy.total = w.policyBlocks ∧
        (0 < w.policyBlocks → w'.policy.emitted = w.policyBlocks) ∧ (∀ p, p < 64 * w.policyBlocks → w'.policy.output[p]? = some (s.policySequence scene p)) ∧
        t.tb = s.tb ∧ t.ctl = s.ctl ∧ t.eng = s.eng ∧ t.world = s.world ∧ t.boot = s.boot) ∧
      (∀ n, ∃ t w', exec (.policyRun (some n)) s = .next t ∧ t.work? i.frame = some w' ∧ w'.policy.failed = true ∧ Raised s t 0x0404 ∧
        (∀ r ∈ w'.blocks, cidSource r.firstId = 0 → r.beta < 4112 → r.withdrawn = true))) ∧
    (∀ e u, s.servingCandidates e = some i → s.disp.units[e]? = some u → u.windows < s.windowCount →
      ∃ t, exec (.expanderWindowFill e) s = .next t ∧
        t.disp.units = s.disp.units.set e { u with windows := u.windows + 1, exps := if u.windows = 0 then (s.itemIds w i).map (s.expandCandidate w) else u.exps } ∧
        (u.windows ≠ 0 → t.eng = s.eng) ∧ (u.windows = 0 → t.engUnit = e) ∧ (∀ n, n ≠ e → t.processor n = s.processor n) ∧ t.disp.items = s.disp.items ∧
        t.world = s.world ∧ t.tb = s.tb ∧ t.ctl = s.ctl ∧ t.boot = s.boot)

/-- R171, R192, R206, R211: the engine that serves a block or a single candidate commits its record, with the best of the entries it kept; a program fault leaves none. -/
def Obligations.CheckedCandidatesAreRecorded : Prop :=
  ∀ (s : State) (e : Nat) (i : Item) (w : FrameWork) (u : EngineUnit),
    s.work? i.frame = some w → s.disp.units[e]? = some u → s.windowCount ≤ u.windows →
    let runs := runsOf s e i
    let kept := (runs.map (·.entry)).filter Entry.kept
    ∀ p ∈ [(Instr.candidateBlock e, ItemKind.candidateBlock, s.betaOf w i.arg, i.replay), (Instr.candidateSingle e, ItemKind.candidateSingle, w.reevalSlot i.arg, true)],
    s.servingKind e p.2.1 = some i →
    ∃ t w', exec p.1 s = .next t ∧ t.work? i.frame = some w' ∧ (∃ j ∈ t.disp.items, j.serial = i.serial ∧ j.committed = true) ∧
      t.disp.units = s.disp.units.set e { u with windows := 0, exps := [] } ∧ t.tb = s.tb ∧ t.ctl = s.ctl ∧ (∀ n, n ≠ e → t.processor n = s.processor n) ∧
      ((runs.any (·.faulted)) = true → w'.blocks = w.blocks ∧ Raised s t 0x0501) ∧
      ((runs.any (·.faulted)) = false → i.dropped = false → (i.spec = false ∧ i.version = w.version) ∨ (i.spec = true ∧ w.speculative = true) →
        (p.2.1 = .candidateSingle → w.excluded.contains i.arg = false ∧ i.version = w.version) →
        ∃ r ∈ w'.blocks, r.beta = p.2.2.1 ∧ r.frame = w.frame ∧ r.version = i.version ∧ r.firstId = i.arg ∧ r.replay = p.2.2.2 ∧ r.withdrawn = false ∧ r.speculative = i.spec ∧
          r.gallery = e / 32 ∧ r.count = runs.length ∧ r.rejected = runs.length - kept.length ∧ BestOf s.compatible s.stairK kept r.entries ∧
          (∀ g, r.signature.testBit g = true ↔ ∃ x ∈ runs, x.probe.groups.testBit g = true))

/-- R207, R211, R214: a merge keeps the best entries of the two lists in order, an ID met with differing entries is withdrawn and evaluated again, and a rebuild takes the lists from the
block table. -/
def Obligations.TheStairKeepsTheBest : Prop :=
  ∀ (s : State) (w : FrameWork), s.work? w.frame = some w →
    (∀ g b r gl, s.stairFrame (fun w => w.closed.isNone && !w.rebuildDue && w.blocks.any (fun r => r.beta == b && r.gallery == g && !r.inGallery && !r.withdrawn && !r.speculative)) = some w →
      w.blocks.find? (fun r => r.beta == b && r.gallery == g && !r.inGallery && !r.withdrawn && !r.speculative) = some r →
      w.blocks.find? (fun x => x.beta == b) = some r → w.galleryLists[g]? = some gl →
      let u := unite gl.entries (r.live w.excluded)
      (u.conflicts = [] →
        ∃ t w' l, exec (.galleryMerge g b) s = .next t ∧ t.work? w.frame = some w' ∧ w'.galleryLists[g]? = some l ∧ BestOf s.compatible s.stairK u.entries l.entries ∧
          (∀ e ∈ l.entries, e ∉ gl.entries → e ∈ w'.forwarded) ∧ w'.topList = w.topList ∧ { r with inGallery := true } ∈ w'.blocks ∧
          t = { s with frames := t.frames, dict := t.dict, host := t.host, group := s.group.links t.group, events := t.events, wire := t.wire }) ∧
      (∀ c, u.conflicts = [c] → w.faulted.contains c = false →
        ∃ t w', exec (.galleryMerge g b) s = .next t ∧ t.work? w.frame = some w' ∧ Raised s t 0x0603 ∧ w'.rebuildDue = true ∧ w'.faulted.contains c = true ∧
          (∃ x ∈ w'.reevals, x.cid = c) ∧ ∀ x ∈ w'.blocks, ∀ e ∈ x.entries, e.cid = c → e.withdrawn = true)) ∧
    (s.stairFrame (fun w => w.closed.isNone && !w.rebuildDue && (!w.forwarded.isEmpty || w.blocks.any (fun r => r.inGallery && !r.inTop))) = some w →
      let u := unite w.topList.entries (w.forwarded.filter (fun e => !w.excluded.contains e.cid))
      u.conflicts = [] →
        ∃ t w', exec .topStairMerge s = .next t ∧ t.work? w.frame = some w' ∧ BestOf s.compatible s.stairK u.entries w'.topList.entries ∧ w'.forwarded = [] ∧
          w'.galleryLists = w.galleryLists ∧ (∀ x ∈ w'.blocks, x.inGallery = true → x.inTop = true) ∧ t.tb = s.tb ∧ t.ctl = s.ctl ∧ t.eng = s.eng ∧ t.world = s.world) ∧
    (s.stairFrame (fun w => w.closed.isNone && w.rebuildDue) = some w →
      let live := fun p => (w.blocks.filter (fun r => r.inGallery && p r)).flatMap (fun r => r.live w.excluded)
      (∀ e ∈ live (fun _ => true), ∀ f ∈ live (fun _ => true), e.cid = f.cid → e = f) →
      ∃ t w', exec .listRebuild s = .next t ∧ t.work? w.frame = some w' ∧ w'.rebuildDue = false ∧ w'.forwarded = [] ∧
        (∀ g l, w'.galleryLists[g]? = some l → BestOf s.compatible s.stairK (unite [] (live (fun r => r.gallery == g))).entries l.entries) ∧
        BestOf s.compatible s.stairK (unite [] (w'.galleryLists.flatMap (·.entries))).entries w'.topList.entries ∧ t.tb = s.tb ∧ t.ctl = s.ctl ∧ t.eng = s.eng ∧ t.world = s.world)

/-- R23, R215, R216, R224: a frame's list closes as its last round merges or at the REFINE offset, its checking items are cancelled, and its entries become prepared plans. -/
def Obligations.TheSelectionListCloses : Prop :=
  ∀ (s : State) (w : FrameWork),
    s.frames.find? (fun w => (w.sealed || s.closesUnsealed w) && !w.speculative && w.closed.isNone && !w.landed) = some w → s.work? w.frame = some w →
    let collects := s.groupMode = 2 ∧ s.group.role = 3
    let complete := w.sealed = true ∧ w.allMerged = true ∧ w.rebuildDue = false ∧ ¬collects
    let gathered := collects ∧ ∀ c ∈ s.expectedProposers, ∃ l ∈ s.group.lists, l.chip = c ∧ l.list.frame = w.frame
    (s.closesList = false ∨ (s.det.unpaced = true ∧ ¬complete ∧ ¬gathered) → exec .selectionClose s = .next s) ∧
    (s.closesList = true → complete ∨ gathered ∨ s.det.unpaced = false →
      ∃ t w' l, exec .selectionClose s = .next t ∧ t.work? w.frame = some w' ∧ w'.closed = some l ∧
        (∀ i ∈ t.disp.items, i.frame = w.frame → (i.kind = .candidateBlock ∨ i.kind = .candidateSingle) → i.dropped = true ∧ ((∃ e, i.loc = .service e) ∨ (∃ d, i.loc = .unit d))) ∧
        (s.groupMode ≠ 2 ∨ s.group.role ≠ 3 → w.closesFromTable = false ∨ (roundsOnly s.compatible s.stairK w w.mergedRounds).2 = [] → l = s.ownList w) ∧
        (s.groupMode ≠ 2 → ∀ p, p < min 64 (s.cfg 0x6100 2) → ∀ x, l.places[p]? = some x → x.valid = true → ∃ q ∈ w'.plans, q.pos = p ∧ q.entry = x ∧ q.verdict = none) ∧
        (s.groupMode = 2 → s.group.role ≠ 3 → w'.plans = w.plans) ∧
        t.tb = s.tb ∧ t.ctl = s.ctl ∧ t.eng = s.eng ∧ t.world = s.world ∧ t.pub = s.pub ∧ t.mem = s.mem)

/-- R226, R231, R235 to R238: a reference is formed, its quadratic program starts, iterates and ends, and all stop at the solver stop. -/
def Obligations.QuadraticProgramsRunAndStop : Prop :=
  ∀ (s : State) (w : FrameWork) (p : Plan), s.work? w.frame = some w → w.plan? p.pos = some p →
    (∀ e i, s.servingKind e .reference = some i → i.dropped = false → i.frame = w.frame → i.arg = p.pos →
      let q := s.formUnrefined w p
      let slacks := (q.reference.zipIdx.drop 1).map (fun x => poseSlack (s.mapView (s.versionTiles i.version false)) s.checkCfg s.body s.spheres x.1 (x.2 * (1000 * s.cfg 0x4001 2)))
      ∃ t w' p', exec (.reference e) s = .next t ∧ t.work? w.frame = some w' ∧ w'.plan? p.pos = some p' ∧ p'.referenced = true ∧ p'.applied = q.applied ∧
        p'.reference = q.reference ∧ p'.failed = q.failed ∧ (q.failed = false → w.solverStopped = false → p'.slack.length = slacks.length ∧ (∀ (k : Nat) (x : F32), slacks[k]? = some (some x) → p'.slack[k]? = some x) ∧
          ∃ j ∈ t.disp.items, j.kind = .qpInstance ∧ j.arg = p.pos ∧ j.frame = w.frame) ∧
        (q.failed = false → w.solverStopped = true → p'.unrefined = true ∧ p'.ready = true ∧ p'.controls = q.applied) ∧ t.tb = s.tb ∧ t.eng = s.eng ∧ t.world = s.world ∧ t.pub = s.pub) ∧
    (∀ i, s.atUnit 17 .qpInstance (fun i => i.arg == p.pos && !i.dropped) = some i → i.frame = w.frame →
      let problem := s.qpProblem p
      (p.qp.outcome = .waiting →
        let cold : List QpPart := problem.map (fun st => ⟨st.u.map (fun _ => 0#32), st.uRows.map (fun r => (f32Max f32One r.margin, f32One)), st.xRows.map (fun r => (f32Max f32One r.margin, f32One))⟩)
        let kept := s.pub.warm.find? (fun x => x.place == p.pos)
        ∃ t w' p', exec (.qpInstance p.pos) s = .next t ∧ t.work? w.frame = some w' ∧ w'.plan? p.pos = some p' ∧
          p' = { p with qp := { p.qp with outcome := .running, started := true, iterations := 0, pivots := 0, iterate := p'.qp.iterate } } ∧
          (s.cfg 0x6100 8 = 0 ∨ kept = none → p'.qp.iterate = cold ∧ t.pub = s.pub) ∧
          (s.cfg 0x6100 8 ≠ 0 → ∀ x, kept = some x →
            (x.signature = s.qpSignature → t.pub = s.pub ∧ p'.qp.iterate = x.iterate.map (fun q =>
              ⟨q.du.map (fun _ => 0#32), q.uRows.map (fun r => (f32Max r.1 (s.cfgF 0x6100 9), f32Max r.2 (s.cfgF 0x6100 9))),
                q.xRows.map (fun r => (f32Max r.1 (s.cfgF 0x6100 9), f32Max r.2 (s.cfgF 0x6100 9)))⟩)) ∧
            (x.signature ≠ s.qpSignature → p'.qp.iterate = cold ∧ ∀ y ∈ t.pub.warm, y.place ≠ p.pos)) ∧
          t.tb = s.tb ∧ t.eng = s.eng ∧ t.disp = s.disp ∧ t.world = s.world) ∧
      (p.qp.outcome = .running →
        let k := p.qp.iterations + 1
        let r := qpIterate w.qpLanes (s.cfgF 0x6100 4) problem p.qp.iterate
        ∃ t w' p', exec (.qpIteration p.pos) s = .next t ∧ t.work? w.frame = some w' ∧ w'.plan? p.pos = some p' ∧
          p'.qp.pivots = p.qp.pivots + r.regularised ∧ (p'.regularised = true ↔ p.regularised = true ∨ 0 < r.regularised) ∧
          (r.next = none → p'.qp.outcome = .numeric ∧ p'.unrefined = true ∧ p'.controls = p.applied ∧ ∀ y ∈ t.pub.warm, y.place ≠ p.pos) ∧
          (∀ it, r.next = some it → p'.qp.iterations = k ∧ p'.qp.iterate = it ∧ p'.qp.outcome = s.qpTest w.qpLanes k problem it) ∧
          (p'.qp.outcome = .converged ∨ p'.qp.outcome = .iterationLimit →
            let us := List.zipWith (fun (u : Control) (q : QpPart) => (⟨f32Add u.sigma ((q.du[0]?).getD 0#32), f32Add u.jerk ((q.du[1]?).getD 0#32)⟩ : Control)) p.applied p'.qp.iterate
            let ok := (expandControls s.vehicle p.entry.cid w.start.pose us).limitCode = 0
            (ok → p'.controls = us ∧ p'.unrefined = false) ∧ (¬ok → p'.controls = p.applied ∧ p'.unrefined = true) ∧
            t.pub.warm.find? (fun x => x.place == p.pos) = some ⟨p.pos, s.qpSignature, p'.qp.iterate⟩) ∧
          (p'.qp.outcome ≠ .running → p'.ready = true ∧ ∃ j ∈ t.disp.items, j.serial = i.serial ∧ j.committed = true) ∧ t.tb = s.tb ∧ t.eng = s.eng ∧ t.world = s.world)) ∧
    (s.frames.find? (fun w => w.closed.isSome && !w.landed && !w.solverStopped) = some w → s.det.unpaced = false → (w.plans.map (·.pos)).Nodup →
      ∃ t w', exec .solverStop s = .next t ∧ t.work? w.frame = some w' ∧ w'.solverStopped = true ∧ (∀ q ∈ w'.plans, q.qp.outcome ≠ .running) ∧
        (∀ q ∈ w.plans, q.qp.outcome = .running → ∃ q' ∈ w'.plans, q'.pos = q.pos ∧ q'.qp.outcome = .deadline ∧ q'.truncated = true ∧ q'.ready = true) ∧
        (∀ i ∈ t.disp.items, i.kind = .qpInstance → i.frame = w.frame → i.dropped = true) ∧ t.tb = s.tb ∧ t.eng = s.eng ∧ t.world = s.world) ∧
    (s.det.unpaced = true → exec .solverStop s = .next s)

/-- R239, R243 to R245, R473: a prepared plan is brought to the output rate, rechecked, chosen once its verdict is known, and checked by the sentry once presented. -/
def Obligations.PlansAreScaledRecheckedAndWatched : Prop :=
  ∀ (s : State) (w : FrameWork) (p : Plan), s.work? w.frame = some w → w.plan? p.pos = some p →
    (s.frames.find? (fun w => w.closed.isSome && !w.landed && w.plans.any (fun q => q.pos == p.pos && q.ready && q.points.isNone && !q.failed)) = some w →
      let r := s.timeScale w p
      ∃ t w' p', exec (.timeScaling p.pos) s = .next t ∧ t.work? w.frame = some w' ∧ w'.plan? p.pos = some p' ∧ p'.controls = r.controls ∧ p'.speedLimited = r.slowed ∧
        p'.failed = r.failed ∧ (r.failed = false → p'.points = some r.points ∧ ∃ j ∈ t.disp.items, j.kind = .recheck ∧ j.arg = p.pos ∧ j.frame = w.frame) ∧
        (r.failed = true → p'.points = none ∧ w'.chosen = choose w.due w'.plans) ∧ t.tb = s.tb ∧ t.eng = s.eng ∧ t.world = s.world ∧ t.pub = s.pub) ∧
    (∀ e i points v, s.servingKind e .recheck = some i → i.dropped = false → i.frame = w.frame → i.arg = p.pos → p.points = some points →
      s.world.versions.find? (fun v => v.number == i.version && !v.spec) = some v →
      let stale := (v.staleLayers &&& s.cfg 0x5010 0x12) ≠ 0
      let tested := (recheckPoints (s.mapView v.tiles) s.checkCfg s.body s.spheres points none Probe.zero).1
      ∃ t w' p', exec (.recheck e) s = .next t ∧ t.work? w.frame = some w' ∧ w'.plan? p.pos = some p' ∧
        (stale → p.pos ≠ 65 → p'.verdict = some (i.version, 8)) ∧ (¬stale ∨ p.pos = 65 → p'.verdict = some (i.version, tested)) ∧
        w'.chosen = choose w.due w'.plans ∧
        (∀ c, w'.chosen = some c → ∃ q ∈ w'.plans, q.pos = c ∧ (∃ d, w.due = some d ∧ q.verdict = some (d, 0)) ∧ q.failed = false ∧ q.presented = true) ∧
        (i.version ≠ w.version → ∃ j ∈ t.disp.items, j.kind = .recheck ∧ j.arg = p.pos ∧ j.committed = false) ∧ t.tb = s.tb ∧ t.eng = s.eng ∧ t.world = s.world ∧ t.pub = s.pub) ∧
    (∀ sc, s.newel.scene = some sc → sc.frame = w.frame → w.landed = false → p.presented = true → p.sentry = none → s.cfg 0x9200 1 ≠ 0 →
      let r := s.sentryCfg.check sc (p.points.getD []) 0
      ∃ t w', exec (.sentryCheck p.pos) s = .next t ∧ t.work? w.frame = some w' ∧
        w'.plan? p.pos = some { p with sentry := some r.isNone, sentryPoint := (r.map (·.1)).getD 0 } ∧
        t = { s with frames := t.frames, dict := t.dict, host := t.host, group := s.group.links t.group, events := t.events, wire := t.wire }) ∧
    (∀ q rest, s.newel.buffer = q :: rest →
      let r := readPacket (s.readCfg q.stream q.stamp) ((wordsLE (q.words.length / 4) q.words).map (·.toNat))
      ∃ t, exec .sentryPacket s = .next t ∧ t.newel.buffer = rest ∧
        (q.closed = true ∧ q.crcOk = true ∧ r.bad = none → ∃ h, t.newel.held = s.newel.held ++ [h] ∧ h.stream = q.stream ∧ h.frame = q.frame ∧ h.records = r.records.map (fun x => (x.1, x.2.2.2))) ∧
        (q.closed = false ∨ q.crcOk = false ∨ r.bad ≠ none → t.newel.held = s.newel.held) ∧
        t = { s with newel := { s.newel with buffer := rest, held := t.newel.held }, dict := t.dict, host := t.host, group := s.group.links t.group, events := t.events, wire := t.wire })

/-- R89, R90, R245 to R252, R376, R458 to R460, R474, R475: a Landing publishes the ladder's choice in the frame's slot, cancels its items, and sets PLAN_OK only as R459 allows. -/
def Obligations.TheLandingPublishesTheChoice : Prop :=
  ∀ (s : State) (w : FrameWork),
    s.frames.find? (fun w => !w.landed && !w.speculative) = some w → s.work? w.frame = some w → 
    (s.mayLand w = false → exec .landing s = .next s) ∧
    (s.mayLand w = true → s.closes = false ∨ s.faulted = true → ∃ t w', exec .landing s = .next t ∧ t.work? w.frame = some w' ∧ w'.landed = true ∧ t.pub.slots = s.pub.slots ∧ t.pub.lastFrame = s.pub.lastFrame) ∧
    (s.mayLand w = true → s.closes = true → s.faulted = false →
    let k := w.frame % max 1 (s.cfg 0x6300 1)
    ∃ t w' out, exec .landing s = .next t ∧ t.work? w.frame = some w' ∧ w'.landed = true ∧
      (s.cfg 0x9200 1 = 0 → out = w.finalChoice) ∧
      (∀ c p, s.cfg 0x9200 1 ≠ 0 → w.finalChoice = some c → w.plan? c = some p → s.newel.degraded.testBit 0 = false →
        (p.sentry = some true → out = some c) ∧ (p.sentry ≠ some true → out ≠ some c) ∧
        (p.sentry = some false → t.newel.streak = min 255 (s.newel.streak + 1) ∧ Raised s t 0x0A05)) ∧
      t.pub.lastFrame = w.frame ∧ t.pub.lastStatus = planStatus (out.bind w.plan?) ∧
      (∀ x, s.pub.slots[k]? = some x → x.ready = false →
        ∃ y, t.pub.slots = s.pub.slots.set k y ∧ y.ready = true ∧ y.generation = w.frame ∧ y.points = ((out.bind w.plan?).elim [] (fun p => (p.points.getD []).flatMap PlanPoint.bytes))) ∧
      (∀ x, s.pub.slots[k]? = some x → x.ready = true → t.pub.slots = s.pub.slots ∧ Raised s t 0x0621) ∧
      (∀ i ∈ t.disp.items, i.frame = w.frame → i.spec = false → i.kind ∉ [.streamPacket, .hostCommand, .selfTest] → i.dropped = true ∧ ((∃ e, i.loc = .service e) ∨ (∃ d, i.loc = .unit d))) ∧
      (s.newel.running = true → t.newel.pins.planOk = true →
        s.publishes = true ∧ t.pub.lastStatus < 3 ∧ t.newel.hold = none ∧ s.cfg 0x9200 1 ≠ 0 ∧ s.det.replay = .live ∧ (s.tb.st = .locked ∨ s.tb.st = .holdover)) ∧
      t.ctl = s.ctl ∧ t.eng = s.eng ∧ t.boot = s.boot)

/-- R79, R80, R84, R468: a failed publication lowers PLAN_OK and holds the safe state, a second in a row is a device fault, and the slack begins the next frame's run-ahead. -/
def Obligations.PublicationFailuresAndTheSlack : Prop :=
  ∀ (s : State) (w : FrameWork), s.work? w.frame = some w →
    (s.frames.find? (fun w => w.landed && !w.speculative) = some w → s.publishes = true → s.faulted = false → s.newel.lastPubFailure ≠ some w.frame →
      ∃ t, exec .publicationFailure s = .next t ∧ t.newel.lastPubFailure = some w.frame ∧ t.newel.hold = some (s.cfg 0x9000 1) ∧
        t.newel.safeFrame = (if s.newel.hold = none then w.frame else s.newel.safeFrame) ∧ Raised s t 0x0A08 ∧
        (s.newel.running = true → t.newel.pins.planOk = false ∧ t.newel.pins.safeState = true) ∧
        (t.newel.faultCause.testBit 5 = true ↔ 0 < w.frame ∧ s.newel.lastPubFailure = some (w.frame - 1)) ∧
        t = { s with now := t.now, newel := t.newel, dict := t.dict, host := t.host, group := s.group.links t.group, events := t.events, wire := t.wire }) ∧
    (s.frames.find? (fun w => w.landed && !w.slack && !w.speculative) = some w →
      ∃ t w', exec .slackStart s = .next t ∧ t.work? w.frame = some w' ∧ w' = { w with slack := true } ∧ t.tb = s.tb ∧ t.ctl = s.ctl ∧ t.eng = s.eng ∧ t.pub = s.pub ∧
        (s.cfg 0x2004 1 = 0 ∨ s.buildsMaps = false → t.frames.length = s.frames.length ∧ t.world = s.world) ∧
        (∀ start v, s.cfg 0x2004 1 ≠ 0 → s.buildsMaps = true → (∀ x ∈ s.frames, x.speculative = false ∧ x.frame ≠ w.frame + 1) → ¬(s.ctl.st = .pending ∧ s.ctl.target = w.frame + 1) →
          s.planStart (w.frame + 1) (w.tick + s.tb.period + s.us 0x2016 1) = some start →
          (s.world.versions.filter (fun v => !v.spec && v.frame == w.frame && (!v.urgent || v.ready))).getLast? = some v →
          ∃ x ∈ t.frames, ∃ r ∈ t.world.versions, x.frame = w.frame + 1 ∧ x.speculative = true ∧ x.start = start ∧ r.spec = true ∧ r.number = x.version ∧ r.frame = x.frame ∧
            r.number = (s.world.lastSpec + 1) % 2 ^ 32 ∧ r.parent = some v.number ∧ r.inputs = { v.inputs with frame := w.frame + 1, landing := w.tick + s.tb.period + s.us 0x2016 1, start := start }))

/-- R254, R392: a slot is released only by a write of its own GENERATION; the contents are kept, SLOT_STATUS becomes 0x0620, and every other write is ignored and counted; before READY a write is discarded. -/
def Obligations.ResultSlotsAreReleasedByGeneration : Prop :=
  ∀ (s : State) (t k g : Nat) (x : ResultSlot), s.pub.slots[k]? = some x → k < s.cfg 0x6300 1 → alSorted s.dict.active = true →
    (s.boot.ready = false → exec (.release t k g) s = .next { s with now := max s.now t }) ∧
    (s.boot.ready = true → x.ready = true → x.generation = g → ∃ u y, exec (.release t k g) s = .next u ∧ u.pub.slots = s.pub.slots.set k y ∧
      (fieldAt y.bytes 8 2 = 2 ∧ fieldAt y.bytes 10 2 = 0x0620 ∧ y.bytes.take 8 = x.bytes.take 8 ∧ y.bytes.drop 12 = x.bytes.drop 12) ∧
      u = { s with now := max s.now t, pub := { s.pub with slots := u.pub.slots } }) ∧
    (s.boot.ready = true → x.ready = false ∨ x.generation ≠ g → ∃ u, exec (.release t k g) s = .next u ∧ u.pub = s.pub ∧
      (u.dict.activeVal 0x6301 0x0A).toNum = min (2 ^ 64 - 1) ((s.dict.activeVal 0x6301 0x0A).toNum + 1) ∧
      u = { s with now := max s.now t, dict := u.dict, host := u.host, group := s.group.links u.group, events := u.events, wire := u.wire })

/-- R264, R270, R272, R275 to R279, R282: items become ready at their release time, the most urgent assignable one goes to a unit with room, idle Galleries steal, and committed
items retire. -/
def Obligations.ItemsAreReleasedAssignedStolenAndRetired : Prop :=
  ∀ (s : State) (t d : Nat),
    (∀ tick : Nat, (((s.at t).now : Int) + s.tb.tickOffset < 1000 * tick) → exec (.dispatcherTick t tick) s = .next (s.at t)) ∧
    (∀ tick : Nat, (1000 * tick : Int) ≤ ((s.at t).now : Int) + s.tb.tickOffset → s.works = true → (∀ i ∈ s.disp.items, ∀ e r, i.loc ≠ .held e r) →
      exec (.dispatcherTick t tick) s = .next { s.at t with disp := { s.disp with items := s.disp.items.map (fun i =>
        match i.loc with
        | .delay e r =>
          if r ≤ 1000 * tick then { i with loc := if s.inputsExist i.kind i.frame i.spec then .ready e else .waiting e false } else i
        | _ => i) } }) ∧
    (∃ loads, exec .loadRanking s = .next { s with disp := { s.disp with loads := loads } } ∧ loads.length = 16 ∧
      ∀ g, g < 16 → loads[g]? = some (if (s.gallery g).st = .inService then (s.stealUnits g).length else 0)) ∧
    (∀ g v top, s.cfg 0x7100 0x0A ≠ 0 → (s.gallery g).st = .inService → (∀ i ∈ s.disp.items, i.loc ≠ .ready g) → (galleryEngines g).any s.engineRoom = true → s.victim g = some v →
      (s.stealUnits v = [] → exec (.steal g) s = .next (s.count 0x7101 5 1)) ∧
      (firstItem (s.stealUnits v) = some top → (s.disp.items.map (·.serial)).Nodup →
        let level := (s.stealUnits v).filter (fun i => i.level == top.level)
        let heads := takeFirst (max 1 (level.length / 2)) level
        ∃ u, exec (.steal g) s = .next u ∧ heads.length = max 1 (level.length / 2) ∧ u.disp.items.map (·.serial) = s.disp.items.map (·.serial) ∧
          (∀ h ∈ heads, h ∈ s.disp.items ∧ { h with loc := .ready g, home := g } ∈ u.disp.items) ∧
          (∀ i ∈ s.disp.items, (∀ h ∈ heads, h.serial ≠ i.serial ∧ (h.flow = none ∨ h.flow ≠ i.flow)) → i ∈ u.disp.items) ∧
          u = { s with disp := { s.disp with items := u.disp.items }, dict := u.dict, host := u.host, group := s.group.links u.group, events := u.events, wire := u.wire })) ∧
    (∀ i, s.works = true → s.unitRuns d = true →
      let s1 := s.at t
      let ready := s1.disp.items.filter (fun i => i.loc == .ready d && s1.inputsExist i.kind i.frame i.spec && s1.mayServe d i)
      (∀ e, d < 16 → firstItem (ready.filter (fun i => (s1.engineFor d i).isSome)) = some i → s1.engineFor d i = some e → (s.disp.items.map (·.serial)).Nodup →
        ∃ u, exec (.itemAssign t d) s = .next u ∧ u.disp.items.map (·.serial) = s.disp.items.map (·.serial) ∧
          { i with loc := if (s1.serving e).isNone then .service e else .queued e, version := s1.bindVersion i } ∈ u.disp.items ∧
          (∀ j ∈ s.disp.items, j.serial ≠ i.serial → j ∈ u.disp.items ∨ ∃ e', j.loc = .queued e' ∧ (s.serving e').isNone ∧ { j with loc := .service e' } ∈ u.disp.items) ∧
          (∀ j ∈ ready, (s1.engineFor d j).isSome → j.before i = false) ∧
          u = { s1 with disp := { s.disp with items := u.disp.items }, dict := u.dict, host := u.host, group := s1.group.links u.group, events := u.events, wire := u.wire }) ∧
      (16 ≤ d → firstItem (ready.filter (s1.unitFree d)) = some i →
        ∃ u, exec (.itemAssign t d) s = .next u ∧
          u.disp.items = modFirst (fun j => j.serial == i.serial)
            (fun j => { j with loc := .unit d, lane := if d = 16 then s1.freeLane d else if d = 17 then (s1.lanesFor i).headD i.lane else i.lane }) s.disp.items ∧
          (∀ j ∈ ready, s1.unitFree d j = true → j.before i = false) ∧
          (d ≠ 17 → u.frames = s.frames) ∧
          (d = 17 → ∀ w p, s.work? i.frame = some w → w.plan? i.arg = some p → ∃ w' p', u.work? i.frame = some w' ∧ w'.plan? i.arg = some p' ∧ p' = { p with qp := { p.qp with lanes := s1.lanesFor i } }) ∧
          u = { s1 with frames := u.frames, disp := { s.disp with items := u.disp.items }, dict := u.dict, host := u.host, group := s1.group.links u.group, events := u.events, wire := u.wire })) ∧
    (∀ i n, s.item? n = some i →
      (i.committed = false → exec (.itemRetire t n) s = .next (s.at t)) ∧
      (i.committed = true → n < s.disp.nextSerial →
        ∃ u, exec (.itemRetire t n) s = .next u ∧ (∀ j ∈ u.disp.items, j.serial ≠ n) ∧ u.tb = s.tb ∧ u.ctl = s.ctl ∧ u.eng = s.eng ∧ u.mem = s.mem ∧ u.pub = s.pub)) ∧
    (s.unitRuns d = false → exec (.itemAssign t d) s = .next (s.at t)) ∧
    ((∀ m ∈ s.group.mirrored, m.ackDue = none) → s.backlog = false → ∃ u, exec .itemAdmission s = .next u ∧ u.disp = { s.disp with withheld := !s.poolRoom } ∧
      (s.poolRoom = false → s.disp.withheld = false → Raised s u 0x0706) ∧ (s.poolRoom = true ∨ s.disp.withheld = true → u.events = s.events) ∧
      (s.poolRoom = false → u.group.pauseSent = true ∧
        (s.group.pauseSent = false → ∀ p, p < 2 → (s.port p).up = true → WireMsg.pfc p (s.cfg 0x8600 0x0C) true ∈ u.wire.drop s.wire.length)) ∧
      u = { s with disp := u.disp, group := { s.group.links u.group with pauseSent := u.group.pauseSent }, dict := u.dict, host := u.host, events := u.events, wire := u.wire })

/-- R284 to R289: a faulted unit leaves service with its items returned and its lanes taken over, an administrative write drains units unless none would be left, and a drained unit is
out. -/
def Obligations.UnitsLeaveServiceWithTheirItems : Prop :=
  ∀ (s : State) (n cause store : Nat) (x : ServiceUnit), (s.disp.items.map (·.serial)).Nodup →
    (s.disp.engines[n]? = some x → x.st = .inService ∨ x.st = .draining →
      ∃ t, exec (.engineLeavesService n ⟨cause, store⟩) s = .next t ∧ t.disp.engines[n]? = some { x with st := .outFault, cause := cause, faults := min 255 (x.faults + 1), registered := none } ∧
        (∀ i ∈ t.disp.items, i.loc ≠ .service n ∧ i.loc ≠ .queued n) ∧ t.disp.laneEngine = t.disp.laneMap ∧ Raised s t 0x0701 ∧ (cause = 2 → store < 2 → Raised s t 0x0802) ∧ t.tb = s.tb ∧ t.ctl = s.ctl ∧ t.eng = s.eng) ∧
    (s.disp.galleries[n]? = some x → x.st = .inService ∨ x.st = .draining →
      ∃ t, exec (.galleryLeavesService n ⟨cause, store⟩) s = .next t ∧ t.disp.galleries[n]? = some { x with st := .outFault, cause := cause, faults := min 255 (x.faults + 1), registered := none } ∧
        (∀ e ∈ galleryEngines n, ∀ y, s.disp.engines[e]? = some y → y.st = .inService → (t.engine e).st = .outFault ∧ (t.engine e).cause = 7 ∧
          ∀ i ∈ t.disp.items, i.loc ≠ .service e ∧ i.loc ≠ .queued e) ∧
        t.disp.laneEngine = t.disp.laneMap ∧ Raised s t 0x0702 ∧ (cause = 2 → store = 6 → Raised s t 0x0802) ∧ t.tb = s.tb ∧ t.ctl = s.ctl ∧ t.eng = s.eng) ∧
    (∀ idx mask, idx < 16 → alSorted s.dict.active = true →
      (s.adminLeaves true idx (mask % 2 ^ 32) = false → exec (.adminOutWrite true idx mask) s = .next s) ∧
      (s.adminLeaves false idx (mask % 2 ^ 16) = false → exec (.adminOutWrite false idx mask) s = .next s) ∧
      (s.adminLeaves true idx (mask % 2 ^ 32) = true → ∃ t, exec (.adminOutWrite true idx mask) s = .next t ∧ t.cfg 0x7004 (idx + 1) = mask % 2 ^ 32 ∧
        (∀ k y, k < 32 → s.disp.engines[32 * idx + k]? = some y → y.st = .inService →
          t.disp.engines[32 * idx + k]? = some (if mask.testBit k then { y with st := .draining, cause := 5 } else y)) ∧ t.disp.laneEngine = t.disp.laneMap ∧ t.disp.items = s.disp.items) ∧
      (s.adminLeaves false idx (mask % 2 ^ 16) = true → ∃ t, exec (.adminOutWrite false idx mask) s = .next t ∧ t.cfg 0x7003 0 = mask % 2 ^ 16 ∧
        (∀ g y, g < 16 → s.disp.galleries[g]? = some y → y.st = .inService → t.disp.galleries[g]? = some (if mask.testBit g then { y with st := .draining, cause := 5 } else y)) ∧
        t.disp.engines = s.disp.engines ∧ t.disp.laneEngine = t.disp.laneMap)) ∧
    (s.disp.engines[n]? = some x → x.st = .draining → s.inFlightAt n = 0 →
      ∃ t, exec (.drainComplete true n) s = .next t ∧ t.disp.engines[n]? = some { x with st := if s.adminBit n then .outAdmin else .rejoinPending, registered := none } ∧
        t.disp.laneEngine = t.disp.laneMap ∧ alGet n t.newel.courses = alGet n (alErase n s.newel.courses)) ∧
    (s.disp.galleries[n]? = some x → x.st = .draining → (galleryEngines n).any (fun e => s.inFlightAt e != 0) = false →
      ∃ t, exec (.drainComplete false n) s = .next t ∧ t.disp.galleries[n]? = some { x with st := if s.adminGallery n then .outAdmin else .rejoinPending, registered := none } ∧
        (∀ e ∈ galleryEngines n, ∀ y, s.disp.engines[e]? = some y → y.st = .inService → t.disp.engines[e]? = some { y with st := .outAdmin, cause := 7, registered := none }) ∧
        t.disp.laneEngine = t.disp.laneMap)

/-- R289, R467, R476 to R481: units register for their return, self-test slices run, fail and are abandoned, late coverage is reported, and work past its budget is cut off. -/
def Obligations.SelfTestsRejoinsAndCutOffs : Prop :=
  ∀ (s : State) (t n : Nat) (x : ServiceUnit) (i : Item),
    (s.disp.engines[n]? = some x → x.st = .rejoinPending → x.registered = none →
      let passed := alGetD n 0 s.newel.rejoinTests
      (passed < 9 → ∀ b, exec (.rejoinRegister true n b) s = .next s) ∧
      (9 ≤ passed → ∃ u, exec (.rejoinRegister true n true) s = .next u ∧ u.disp.engines = s.disp.engines.set n { x with registered := some (((s.now : Int) + s.tb.tickOffset).toNat) } ∧
        (∀ y, s.disp.units[n]? = some y → u.disp.units[n]? = some ⟨0, [], s.treadImage, false⟩) ∧ (u.processor n).mem = [] ∧
        u = { s with eng := u.eng, processors := u.processors, newel := { s.newel with rejoinTests := u.newel.rejoinTests }, disp := { s.disp with engines := u.disp.engines, units := u.disp.units } }) ∧
      (9 ≤ passed → ∃ u, exec (.rejoinRegister true n false) s = .next u ∧
        u.disp.engines = s.disp.engines.set n { x with st := .outFault, cause := 3, faults := min 255 (x.faults + 1), registered := none } ∧ Raised s u 0x0A0A ∧ Raised s u 0x0704) ∧
      (n < 512 → passed < 9 → s.servingKind n .selfTest = none → (∀ w, s.work? s.tb.curFrame = some w → w.landed = true) →
        (s.at t).tickTime.toNat + s.us 0x9300 2 ≤ s.tb.curTick + s.tb.period → ∀ r : SliceResult,
        ∃ u, exec (.selfTestSlice t n r) s = .next u ∧
          (r.passed = true → alGet n u.newel.rejoinTests = some (passed + 1) ∧ u.disp = s.disp) ∧
          (r.passed = false → u.disp.engines = s.disp.engines.set n { x with st := .outFault, cause := 3, faults := min 255 (x.faults + 1), registered := none } ∧ Raised s u 0x0A0A ∧ Raised s u 0x0704))) ∧
    (s.servingKind n .selfTest = some i → (s.disp.items.map (·.serial)).Nodup → alSorted s.newel.courses = true →
      (∀ c r, n < 1024 → alGet n s.newel.courses = some c → r.passed = true → c.segment < 8 ∨ r.digestEqual = true →
        ∃ u, exec (.selfTestSlice t n r) s = .next u ∧ (∀ j ∈ u.disp.items, j.serial ≠ i.serial) ∧
          alGet n u.newel.courses = some (if 9 ≤ c.segment + 1 then ⟨0, (s.at t).time, 0⟩ else { c with segment := c.segment + 1 }) ∧ u.disp.engines = s.disp.engines ∧
          (8 ≤ c.segment → (u.processor n).mem = [])) ∧
      (∀ y r, n < 1024 → s.disp.engines[n]? = some y → y.st = .inService → r.passed = false ∨ (r.digestEqual = false ∧ ∃ c, alGet n s.newel.courses = some c ∧ 8 ≤ c.segment) →
        ∃ u, exec (.selfTestSlice t n r) s = .next u ∧ (u.engine n).st = .outFault ∧ (u.engine n).cause = 3 ∧ Raised s u 0x0A0A ∧ ∀ j ∈ u.disp.items, j.serial ≠ i.serial) ∧
      (n < 512 → ∃ u, exec (.sliceAbandon ⟨n, true⟩) s = .next u ∧ (∀ j ∈ u.disp.items, j.serial ≠ i.serial) ∧ Raised s u 0x0A09 ∧ u.newel.courses = s.newel.courses ∧
        u.disp.engines = s.disp.engines ∧ (u.processor n).mem = []) ∧
      (∀ y, n < 512 → s.disp.engines[n]? = some y → y.st = .inService → ∃ u, exec (.sliceAbandon ⟨n, false⟩) s = .next u ∧ (∀ j ∈ u.disp.items, j.serial ≠ i.serial) ∧
        Raised s u 0x0A09 ∧ Raised s u 0x0A0A ∧ (u.engine n).st = .outFault ∧ (u.engine n).cause = 3)) ∧
    (∀ c, alGet n s.newel.courses = some c → c.overdue = 0 → c.since + s.cfg 0x9300 1 < (s.at t).time → alSorted s.newel.courses = true →
      ∃ u, exec (.coverageOverdue t n) s = .next u ∧ Raised s u 0x0A0B ∧
        (c.since + 3 * s.cfg 0x9300 1 < (s.at t).time → alGet n u.newel.courses = some { c with overdue := 2 } ∧ u.newel.degraded.testBit 6 = true) ∧
        ((s.at t).time ≤ c.since + 3 * s.cfg 0x9300 1 → alGet n u.newel.courses = some { c with overdue := 1 } ∧ u.newel.degraded = s.newel.degraded) ∧ u.disp = s.disp) ∧
    (∀ c, alGet n s.newel.courses = some c → (s.at t).time ≤ c.since + s.cfg 0x9300 1 → c.overdue = 0 → exec (.coverageOverdue t n) s = .next (s.at t)) ∧
    (∀ domain, s.item? n = some i → n < s.disp.nextSerial → i.committed = false → ((∃ e, i.loc = .service e) ∨ (∃ d, i.loc = .unit d)) →
      ∃ u, exec (.itemCutOff t (.item n domain)) s = .next u ∧ (∀ j ∈ u.disp.items, j.serial ≠ n) ∧
        (i.kind = .candidateBlock ∨ i.kind = .candidateSingle → Raised s u 0x0502) ∧ (i.kind = .tileJob → Raised s u 0x0504) ∧ (i.kind = .policyRun → (s.work? i.frame).isSome → Raised s u 0x0404) ∧
        (i.kind = .reference ∨ i.kind = .recheck ∨ i.kind = .qpInstance ∨ i.kind = .streamPacket ∨ i.kind = .hostCommand → Raised s u 0x0A04) ∧ u.tb = s.tb ∧ u.ctl = s.ctl ∧ u.eng = s.eng) ∧
    (∀ w p unit, s.frames.find? (fun w => w.closed.isSome && !w.landed && w.plans.any (fun p => p.pos == n && p.ready && p.points.isNone && !p.failed)) = some w → s.work? w.frame = some w →
      w.plan? n = some p → ∃ u w' p', exec (.itemCutOff t (.timeScaling n unit)) s = .next u ∧ u.work? w.frame = some w' ∧ w'.plan? n = some p' ∧ p'.failed = true ∧ Raised s u 0x0A04) ∧
    (∀ top, s.frames.any (fun w => w.rebuildDue) = true → ∃ u, exec (.itemCutOff t (.rebuild top)) s = .next u ∧ Raised s u 0x0A04 ∧ u.frames = s.frames ∧ u.disp = s.disp) ∧
    (∀ w, s.publication? = some w → ∃ u, exec (.itemCutOff t .publication) s = .next u ∧ u.newel.lastPubFailure = some w.frame ∧ Raised s u 0x0A08 ∧ u.frames = s.frames ∧ u.disp = s.disp) ∧
    (∀ began, s.newel.bankTest = some (n, began) →
      (1024 ≤ n → n < 4096 → ∀ d, ∃ u, exec (.selfTestSlice t n ⟨false, d⟩) s = .next u ∧ Raised s u 0x0A0A ∧ Raised s u 0x0704 ∧ u.disp = s.disp ∧
        (∀ y, s.mem.banks[n - 1024]? = some y → u.mem.banks[n - 1024]? = some .off) ∧ u.boot.available.halls.testBit (n - 1024) = false) ∧
      (∀ c d, 1024 ≤ n → n < 4096 → alGet n s.newel.courses = some c → alSorted s.newel.courses = true → ∃ u, exec (.selfTestSlice t n ⟨true, d⟩) s = .next u ∧
        alGet n u.newel.courses = some ⟨0, (s.at t).time, 0⟩ ∧ u.mem = s.mem ∧ u.disp = s.disp) ∧
      (4096 ≤ n → ∀ d, ∃ u, exec (.selfTestSlice t n ⟨false, d⟩) s = .next u ∧ Raised s u 0x0A0A ∧ u.disp = s.disp ∧ u.mem = s.mem) ∧
      (4096 ≤ n → ∀ d x, s.world.streams[(n - 4096) / 2]? = some x → n % 2 = 0 → x.buf.failed0 = false → x.buf.bank0 ≠ .inService →
        ∃ u, exec (.selfTestSlice t n ⟨true, d⟩) s = .next u ∧ u.world.streams[(n - 4096) / 2]? = some { x with buf := { x.buf with bank0 := .test } } ∧ u.disp = s.disp ∧ u.mem = s.mem) ∧
      (512 ≤ n → ∀ d, ∃ u, exec (.sliceAbandon ⟨n, d⟩) s = .next u ∧ u.newel.bankTest = none ∧ Raised s u 0x0A09 ∧ u.newel.courses = s.newel.courses ∧ u.disp = s.disp ∧ u.mem = s.mem))

/-- R19, R326, R327, R331, R338 to R341, R457, R463, R464: clock faults, errors of the stores and of the Newel, lost channels, re-replication and scrubs. -/
def Obligations.HardwareErrorsAreReportedAndContained : Prop :=
  ∀ (s : State) (t n : Nat),
    (∀ measured jtag,
      let due := fun d => nominalKhz d * (16 - if throttledDomain d then s.power.step else 0)
      let counts := fun d => s.newel.running = true ∧ d ≠ 88 ∧ (d = 90 → jtag = true)
      let outside := fun d => counts d ∧ ∃ khz, alGet d measured = some khz ∧ (20 * (16 * khz) < 19 * due d ∨ 21 * due d < 20 * (16 * khz))
      ∃ u, exec (.clockMonitorWindow t ⟨measured, jtag⟩) s = .next u ∧ u.clocks.length = s.clocks.length ∧ u.newel.pins.jtagTrst = jtag ∧
      (∀ d c, s.clocks[d]? = some c → ∃ c', u.clocks[d]? = some c' ∧ c'.locked = c.locked ∧ (c'.outside = true ↔ outside d) ∧
        (∀ khz, counts d → alGet d measured = some khz → (c'.running = true ↔ khz ≠ 0)) ∧ (¬counts d ∨ alGet d measured = none → c'.running = c.running) ∧
        (c'.fault = true ↔ c.fault = true ∨ (d < 100 ∧ c.outside = true ∧ outside d)) ∧
        (c.fault = false → c'.fault = true → d ≤ 59 ∨ (69 ≤ d ∧ d ≤ 76) → u.newel.degraded.testBit 9 = true) ∧
        (c.fault = false → c'.fault = true → (60 ≤ d ∧ d ≤ 68) ∨ d = 81 ∨ d = 82 ∨ (85 ≤ d ∧ d ≤ 87) ∨ d = 89 ∨ 92 ≤ d → u.newel.faultCause.testBit 1 = true)) ∧
      ((∀ (d : Nat) (c : ClockDomain), s.clocks[d]? = some c → c.outside = false) →
        u = { s.at t with clocks := u.clocks, newel := { s.newel with pins := { s.newel.pins with jtagTrst := jtag } } })) ∧
    (∀ p ∈ [(Instr.newelLockstepMismatch t, 0, true), (Instr.newelSramEccError t, 7, true), (Instr.newelClkFailure t, 1, false)],
      ∃ u, exec p.1 s = .next u ∧ u.newel.faultCause = s.newel.faultCause ||| 2 ^ p.2.1 ∧ (s.newel.faultCause.testBit p.2.1 = false → Raised s u 0x0A01) ∧
        (s.newel.running = true → u.newel.pins = { s.newel.pins with fault := true, safeState := true, planOk := false } ∧ u.newel.running = p.2.2) ∧
        (∀ (d : Nat) (c : ClockDomain), s.clocks[d]? = some c → u.clocks[d]? = some (if p.2.2 = false ∧ clockSource d = .newelClk then { c with running := false } else c)) ∧
        u = { s.at t with clocks := u.clocks, newel := { s.newel with pins := u.newel.pins, faultCause := u.newel.faultCause, running := u.newel.running }
                          dict := u.dict, host := u.host, group := s.group.links u.group, events := u.events, wire := u.wire }) ∧
    (s.regionOf (n / 131072 % 1024) = none → exec (.uncorrectedHallError t n) s = .next (s.at t)) ∧
    (∀ r, s.regionOf (n / 131072 % 1024) = some r → ∃ u, exec (.uncorrectedHallError t n) s = .next u ∧ Raised s u 0x0802 ∧ (r = 0 → u.newel.faultCause.testBit 3 = true) ∧ u.tb = s.tb ∧ u.ctl = s.ctl ∧ u.boot = s.boot) ∧
    (n < 7 → alSorted s.dict.active = true →
      let c := correctedCounter n
      let due := ∀ t', alGet n s.mem.corrected = some t' → t' + 1000000000 ≤ (s.at t).time
      (∃ u, exec (.correctedErrorEvent t n) s = .next u ∧ (u.dict.activeVal c.1 c.2).toNum = min (2 ^ 64 - 1) ((s.dict.activeVal c.1 c.2).toNum + 1) ∧
        (due → Raised s u 0x0801) ∧ (¬due → u.mem = s.mem) ∧
        u = { s.at t with mem := { s.mem with corrected := u.mem.corrected }, dict := u.dict, host := u.host, group := s.group.links u.group, events := u.events, wire := u.wire }) ∧
      (∀ found, (∀ x ∈ found, eccOutcome n x.2 = some .clean) → exec (.patrolScrub t n [] found) s = .next (s.at t)) ∧
      (∀ single found, single ≠ [] ∨ found ≠ [] → (∀ x ∈ found, eccOutcome n x.2 = some .corrected) →
        ∃ u, exec (.patrolScrub t n single found) s = .next u ∧ (u.dict.activeVal c.1 c.2).toNum = min (2 ^ 64 - 1) ((s.dict.activeVal c.1 c.2).toNum + (single.length + found.length))) ∧
      (∀ single found, (∃ x ∈ found, eccOutcome n x.2 = some .uncorrected) → n ≠ 3 → ∃ u, exec (.patrolScrub t n single found) s = .next u ∧ Raised s u 0x0802)) ∧
    (alSorted s.dict.active = true → ∀ p ∈ [(7, 0x8402, 0x0C), (8, 0x8605, 5), (9, 0x8605, 5), (10, 0x8102, 3)],
      ∃ u, exec (.correctedErrorEvent t p.1) s = .next u ∧ (u.dict.activeVal p.2.1 p.2.2).toNum = min (2 ^ 64 - 1) ((s.dict.activeVal p.2.1 p.2.2).toNum + 1) ∧ Noted (s.at t) u) ∧
    (∀ (flips : List Nat) (a b : Nat),
      (flips ≠ [] → (eccOutcome 5 flips = some .corrected ↔ ∃ k, ∀ f ∈ flips, f / 8 = k)) ∧
      (n ≠ 5 → a ≠ b → eccOutcome n [a] = some .corrected ∧ eccOutcome n [a, b] = some .uncorrected)) ∧
    (∀ c, s.mem.channels[n]? = some c → n < 32 → c.lost = false →
      ∃ u, exec (.channelLoss t n) s = .next u ∧ (∃ c', u.mem.channels[n]? = some c' ∧ c'.lost = true ∧ c'.role = c.role) ∧ Raised s u 0x0804 ∧ u.world.noShare = true ∧
        (∀ v ∈ u.world.versions, ∀ x ∈ v.tiles, s.tileOn (fun a => channelOf a == n) x = true → x.lost = true) ∧
        (s.mem.channels.zipIdx.any (fun x => x.1.lost && x.2 / 2 != n / 2) = true → Raised s u 0x0807 ∧ u.newel.faultCause.testBit 2 = true) ∧ u.tb = s.tb ∧ u.ctl = s.ctl) ∧
    (∀ role, s.mem.rereplicating = some role → alSorted s.dict.active = true →
      ∃ u, exec (.journalRereplicationDone t) s = .next u ∧ u.mem.rereplicating = none ∧ u.cfg 0x8100 4 = 0xFF ∧ Raised s u 0x0806 ∧ u.mem.channels.length = s.mem.channels.length ∧
        (∀ (k : Nat) (c : Channel), s.mem.channels[k]? = some c → role ≠ 3 →
          (c.role = 3 → u.mem.channels[k]? = some { c with role := role }) ∧ (c.role = role → c.lost = true → u.mem.channels[k]? = some { c with role := 0 })))

/-- R11, R389, R390, R392, R395, R399, R402, R405, R420: doorbells of every transport move an index or are refused, a moderation timer signals its vector, and the registers of the PCIe
function are written and read. -/
def Obligations.DoorbellsAndRegisters : Prop :=
  ∀ (s : State) (t r v qp : Nat) (x : Ring), s.ring? r = some x → s.works = true →
    (∀ p ∈ [(Instr.doorbell t r v, (s.ringClient r).transport = 0), (Instr.roceDoorbell t qp r v, r % 4 = 0 ∧ (s.qpClients qp).contains (r / 4) = true),
            (Instr.roceConsumerSend t qp r ⟨v, 0⟩, r % 4 ≠ 0 ∧ (s.qpClients qp).contains (r / 4) = true)], p.2 →
      (x.st = .disabled → exec p.1 s = .next (s.at t)) ∧
      (x.st ≠ .disabled → DoorbellOk s r v x → r % 4 ≠ 2 →
        exec p.1 s = .next ((s.at t).setRing r (if r % 4 = 0 then { x with producer := v } else { x with consumer := v }))) ∧
      (x.st ≠ .disabled → DoorbellOk s r v x → r % 4 = 2 → ∃ u y, exec p.1 s = .next u ∧ u.ring? r = some y ∧ y.consumer = v ∧ y.st = x.st ∧
        (x.held = [] → x.lost = 0 → y = { x with consumer := v }) ∧ u.tb = s.tb ∧ u.ctl = s.ctl ∧ u.eng = s.eng ∧ u.frames = s.frames) ∧
      (x.st ≠ .disabled → ¬DoorbellOk s r v x → ∃ u y, exec p.1 s = .next u ∧ Raised s u 0x0201 ∧ u.ring? r = some y ∧ y.lastStatus = 0x0201 ∧ y.consumer = x.consumer ∧
        (r % 4 ≠ 2 → y.producer = x.producer) ∧ u = { s.at t with dict := u.dict, host := u.host, group := s.group.links u.group, events := u.events, wire := u.wire })) ∧
    (∀ reserved, reserved ≠ 0 → r % 4 ≠ 0 → (s.qpClients qp).contains (r / 4) = true →
      exec (.roceConsumerSend t qp r ⟨v, reserved⟩) s = .next ((s.at t).setRing r { x with lastStatus := 0x0204 })) ∧
    (0 < x.unsignalled → x.firstUnsignalled + 1000 * (s.ringCfg r).modTime ≤ max s.now t →
      exec (.interruptModerationTimer t r) s = .next (((s.at t).setRing r { x with unsignalled := 0 }).send (.msix (s.ringCfg r).vector))) ∧
    (x.unsignalled = 0 ∨ max s.now t < x.firstUnsignalled + 1000 * (s.ringCfg r).modTime → exec (.interruptModerationTimer t r) s = .next (s.at t)) ∧
    (s.boot.ready = false → ∀ bar a n, s.barRead bar a n = List.replicate n 0xFF#8) ∧
    (s.boot.ready = true → r < 16384 → s.barRead 0 (0x100000 + 16 * r) 4 = leBytes 4 (if r % 4 = 0 then x.producer else x.consumer)) ∧
    (s.boot.ready = true → ∀ a, s.barRead 4 a 1 = [if s.host.apertureBase + a < hostBufferSize then memRead (s.host.apertureBase + a) s.host.buffer else 0#8]) ∧
    (∀ o, s.boot.retries = true → s.configRead o = .retry) ∧
    (s.boot.retries = false → s.configRead 0 = .value (0x1F7D + 65536 * 0x4600)) ∧
    (∀ w : ApertureWrite, s.boot.ready = false → exec (.apertureBaseWrite w) s = .next s) ∧
    (∀ w : ApertureWrite, s.boot.ready = true → ∃ u, exec (.apertureBaseWrite w) s = .next u ∧ u.host.apertureBase = (if w.value % 2097152 = 0 then w.value else s.host.apertureBase)) ∧
    (s.boot.ready = true → v % 2097152 = 0 → exec (.apertureBaseWrite ⟨v, []⟩) s = .next { s with host := { s.host with apertureBase := v } }) ∧
    (s.boot.ready = true → v % 2097152 ≠ 0 →
      exec (.apertureBaseWrite ⟨v, []⟩) s = .next s ∧
      (∀ o n, s.host.apertureBase + o + n ≤ hostBufferSize → exec (.apertureBaseWrite ⟨v, [.read o n]⟩) s = .next s) ∧
      (∀ o n, hostBufferSize < s.host.apertureBase + o + n → exec (.apertureBaseWrite ⟨v, [.read o n]⟩) s = .next (s.count 0x8402 0x0A 1)) ∧
      (∀ o b, s.host.apertureBase + o + b.length ≤ hostBufferSize → memWf s.host.buffer = true → ∃ u, exec (.apertureBaseWrite ⟨v, [.write o b]⟩) s = .next u ∧
        memReadBytes u.host.buffer (s.host.apertureBase + o) b.length = b ∧ u = { s with host := { s.host with buffer := u.host.buffer } }) ∧
      (∀ o b, hostBufferSize < s.host.apertureBase + o + b.length → exec (.apertureBaseWrite ⟨v, [.write o b]⟩) s
        = .next ((s.hostWrote (s.host.apertureBase + o) (b.take (hostBufferSize - (s.host.apertureBase + o)))).count 0x8402 0x0A 1))) ∧
    (s.boot.retries = true → ∀ w, exec (.busMasterEnableWrite t w) s = .next (s.at t)) ∧
    (s.boot.retries = false → ∀ w : ConfigWrite, ∃ u, exec (.busMasterEnableWrite t w) s = .next u ∧ u.host.busMaster = w.enable ∧
      (w.bars = [] → u.host.bars = s.host.bars) ∧ (∀ k a, w.bars = [(k, a)] → k < s.host.bars.length → u.host.bars = s.host.bars.set k a) ∧
      (s.boot.ready = false ∨ w.msix = [] → u.host.msix = s.host.msix) ∧
      (∀ o b, s.boot.ready = true → w.msix = [(o, b)] → o + b.length ≤ 32768 → memWf s.host.msix = true → memReadBytes u.host.msix o b.length = b) ∧
      u = { s.at t with host := { s.host with busMaster := u.host.busMaster, bars := u.host.bars, msix := u.host.msix } }) ∧
    (s.boot.coldHeld = false →
      (∀ speed width, ∃ u, exec (.linkTrained t speed width) s = .next u ∧ u.host.linkSpeed = speed ∧ u.host.linkWidth = width ∧
        (u.host.linkBelow = true ↔ speed < 3 ∨ width < 2) ∧ (u.host.linkBelow = true → Raised s u 0x0209) ∧
        u = { s.at t with dict := u.dict, host := u.host, group := s.group.links u.group, events := u.events, wire := u.wire }))

/-- R401, R405 to R407, R412: a fetched descriptor is refused with the status of the first test it fails, or held; the oldest held one is journaled and accepted. -/
def Obligations.DescriptorsAreTestedJournaledAndAccepted : Prop :=
  ∀ (s : State) (t r : Nat) (x : Ring), s.ring? r = some x → s.mirrorTarget = none →
    (∀ bytes payload readOk y, s.mayFetch r = true → (s.ringClient r).transport ≤ 1 → s.poolRoom = true → s.host.journalFull = false → s.journalRoom 0 = true → s.ring? (r + 1) = some y →
      let d := descOf (slice bytes 0 64)
      let p := s.payloadOf d payload readOk
      (s.testDesc r x d p.2.1 = none → ∃ u, exec (.descriptorFetch t r bytes payload readOk) s = .next u ∧
        u.host.fetched = s.host.fetched ++ [⟨r, x.consumer, d, p.1, p.2.1⟩] ∧ u.host.rings = s.host.rings ∧ u.host.journal = s.host.journal ∧
        u = { s.at t with host := u.host, disp := { s.disp with withheld := false }, group := { s.group with pauseSent := u.group.pauseSent }, wire := u.wire }) ∧
      (∀ status original, s.testDesc r x d p.2.1 = some (status, original) → ∃ u x' y', exec (.descriptorFetch t r bytes payload readOk) s = .next u ∧
        u.host.fetched = s.host.fetched ∧ u.host.journal = s.host.journal ∧ u.ring? r = some x' ∧ x'.consumer = (x.consumer + 1) % 2 ^ 32 ∧ x'.lastStatus = status ∧
        u.ring? (r + 1) = some y' ∧ y'.producer = (y.producer + 1) % 2 ^ 32 ∧
        alGet (y.producer % (s.ringCfg (r + 1)).size) y'.entries
          = some (completionBytes d.sequence d.client 3 d.userTag status 0 s.tb.curFrame false original (phaseAt y.producer (s.ringCfg (r + 1)).size)))) ∧
    (∀ f rest, s.host.fetched = f :: rest → f.ring = r → f.desc.client = r / 4 → r % 4 = 0 → s.accepts = true → s.poolRoom = true → s.host.journalFull = false → s.peerBudgetSpent = false →
      (f.desc.opcode = 1 → s.streamBy 0 r ≠ none) → s.journalRoom (if f.desc.opcode = 1 then f.payload.length else 0) = true → (∀ j ∈ s.host.journal, j.id ≠ s.host.nextJournal) →
      ∃ u j x', exec (.descriptorAccept t) s = .next u ∧ u.host.fetched = rest ∧ u.host.journal = s.host.journal ++ [j] ∧ j.id = s.host.nextJournal ∧ j.st = .accepted ∧ j.desc = some f.desc ∧
        j.payload = f.payload ∧ j.stamp = (s.at t).time ∧ u.ring? r = some x' ∧ x'.consumer = (x.consumer + 1) % 2 ^ 32 ∧ x'.nextSeq = (f.desc.sequence + 1) % 2 ^ 32 ∧
        x'.seqSet = true ∧ x'.outstanding = x.outstanding + 1 ∧
        (f.desc.opcode ≠ 1 → ∃ i ∈ u.disp.items, i.kind = .hostCommand ∧ i.arg = j.id ∧ i.flow = some (0x80 + f.desc.client)) ∧
        (∀ n, f.desc.opcode = 1 → s.streamBy 0 r = some n → ∃ i ∈ u.disp.items, i.kind = .streamPacket ∧ i.arg = j.id ∧ i.flow = some n)) ∧
    (∀ f rest, s.host.fetched = f :: rest → f.ring = r → r % 4 = 0 → s.accepts = true → f.desc.opcode = 1 → s.streamBy 0 r = none →
      ∃ u x', exec (.descriptorAccept t) s = .next u ∧ u.host.fetched = rest ∧ u.host.journal = s.host.journal ∧ u.disp = s.disp ∧ u.ring? r = some x' ∧
        x'.lastStatus = 0x0205 ∧ x'.consumer = (x.consumer + 1) % 2 ^ 32)

/-- R145, R404, R410: NOP, DICTIONARY, LOAD_MODEL and LOAD_PROGRAM act once they are in service and complete with their status; a packet of a descriptor runs through its filter. -/
def Obligations.HostCommandsComplete : Prop :=
  ∀ (s : State) (t record : Nat) (run : HostRun) (c : HostCmd),
    (s.hostCmd ⟨record, true, [], true⟩ 0 = some c → ∃ u, exec (.nop record) s = .next u ∧ HostDone u record c 0 0 ∧ u = { s with host := u.host, group := u.group, disp := { s.disp with items := u.disp.items } }) ∧
    (s.hostCmd run 2 = some c →
      (c.payloadOk = false → ∃ u, exec (.dictionary t run) s = .next u ∧ HostDone u run.record c 0x0206 0 ∧ u.ctl = s.ctl ∧ u.odp = s.odp) ∧
      (∀ b s2, c.payloadOk = true → (s.at t).odpProcess (.ring (4 * c.desc.client)) (odpParse (.ring (4 * c.desc.client)) c.payload).1
          (odpParse (.ring (4 * c.desc.client)) c.payload).2.1 (odpParse (.ring (4 * c.desc.client)) c.payload).2.2 = (some b, s2) →
        ((if c.desc.devicePayload = true then fieldAt c.desc.specific 0 8 + b.length ≤ hostBufferSize else run.wrote = true) → memWf s2.host.buffer = true →
          ∃ u, exec (.dictionary t run) s = .next u ∧ ResultWritten s2 u c (fieldAt c.desc.specific 0 8) b ∧ u.ctl = s2.ctl ∧ u.odp = s2.odp ∧ u.dict = s2.dict) ∧
        ((if c.desc.devicePayload = true then hostBufferSize < fieldAt c.desc.specific 0 8 + b.length else run.wrote = false) →
          exec (.dictionary t run) s = .next (s2.endHost c 0x0207 0))) ∧
      (∀ s2, c.payloadOk = true → (s.at t).odpProcess (.ring (4 * c.desc.client)) (odpParse (.ring (4 * c.desc.client)) c.payload).1
          (odpParse (.ring (4 * c.desc.client)) c.payload).2.1 (odpParse (.ring (4 * c.desc.client)) c.payload).2.2 = (none, s2) →
        exec (.dictionary t run) s = .next (s2.endHost c 0x0210 0))) ∧
    (∀ known, s.hostCmd run 3 = some c →
      let slot := fieldAt c.desc.specific 0 1
      let held := natSum (s.boot.models.zipIdx.map (fun x => if x.2 == slot then 0 else x.1.image.length))
      (s.modelBound slot = true → ∃ u, exec (.loadModel run known) s = .next u ∧ HostDone u run.record c 0x0403 0 ∧ u.boot = s.boot) ∧
      (s.modelBound slot = false → s.cfg 0x8100 1 < held + c.desc.payloadLength → ∃ u, exec (.loadModel run known) s = .next u ∧ HostDone u run.record c 0x080D 0 ∧ u.boot = s.boot) ∧
      (s.modelBound slot = false → held + c.desc.payloadLength ≤ s.cfg 0x8100 1 → c.payloadOk = true → slot < s.boot.models.length →
        ∃ u m, exec (.loadModel run known) s = .next u ∧ HostDone u run.record c (s.modelStatus c.payload known) 0 ∧ u.boot = { s.boot with models := s.boot.models.set slot m } ∧
          (s.modelStatus c.payload known = 0 → m.st = .valid ∧ m.image = c.payload) ∧ (s.modelStatus c.payload known ≠ 0 → m.st = .invalid ∧ m.image = []))) ∧
    (s.hostCmd run 4 = some c → c.payloadOk = true →
      let r := (s.at t).loadProgram (fieldAt c.desc.specific 4 4) (fieldAt c.desc.specific 0 2) c.payload
      ∃ u, exec (.loadProgram t run) s = .next u ∧ HostDone u run.record c r.1 0 ∧
        (r.1 = 0 → alGet (objKey (fieldAt c.desc.specific 0 2) 1) u.dict.shadow = some (.blob c.payload) ∧ u.ctl.st = .staging ∧ u.ctl.owner = fieldAt c.desc.specific 4 4) ∧
        (r.1 ≠ 0 → u.dict.shadow = s.dict.shadow) ∧ u.tb = s.tb ∧ u.eng = s.eng) ∧
    (∀ i j p, s.atUnit 18 .streamPacket (fun i => i.arg == record) = some i → s.record? record = some j → j.isDescriptor = true → i.lane < 128 → i.lane < s.world.streams.length →
      (s.stream i.lane).waiting.find? (fun p => p.journal == i.arg) = some p → (s.stream i.lane).buf.packets = [] → (s.stream i.lane).running = [] → (s.stream i.lane).reloadDue = false →
      ∃ u q, exec (.streamData record) s = .next u ∧ (u.stream i.lane).buf.packets = [q] ∧ q.journal = p.journal ∧ q.payload = p.bytes ∧
        (u.stream i.lane).working = (s.filterRun i.lane (s.stream i.lane) p).mem ∧ u.tb = s.tb ∧ u.engUnit = 512 + i.lane ∧
        u.eng = s.filterRun i.lane (s.stream i.lane) p ∧ ∀ k, k ≠ 512 + i.lane → u.processor k = s.processor k)

/-- R371 to R377, R410: a REPLAY begins its frame in STRICT replay alone, a REGENERATE answers from the current or the held frame, and a DUMP writes what it names. -/
def Obligations.ReplayRegenerateAndDump : Prop :=
  ∀ (s : State) (run : HostRun) (c : HostCmd),
    let n := fieldAt c.desc.specific 0 8
    (∀ image, s.hostCmd run 5 = some c → s.det.run = none →
      (s.strict = false ∨ s.det.replay ≠ .replaying → ∃ u, exec (.replay run image) s = .next u ∧ HostDone u run.record c 0x0725 0 ∧ u.tb = s.tb ∧ u.frames = s.frames) ∧
      (∀ m, s.strict = true → s.det.replay = .replaying → s.det.lastReplayed = some m → n ≤ m → ∃ u, exec (.replay run image) s = .next u ∧ HostDone u run.record c 0x0726 0 ∧ u.tb = s.tb) ∧
      (s.strict = true → s.det.replay = .replaying → (∀ m, s.det.lastReplayed = some m → m < n) → c.payloadOk = true → (fieldAt c.desc.specific 16 1).testBit 1 = false → s.tb.everLocked = true →
        (logReservedOk (fieldAt c.desc.specific 20 4) c.payload = false → ∃ u, exec (.replay run image) s = .next u ∧ HostDone u run.record c 0x0204 0 ∧ u.tb = s.tb) ∧
        (logReservedOk (fieldAt c.desc.specific 20 4) c.payload = true → ∃ u, exec (.replay run image) s = .next u ∧ u.tb.curFrame = n ∧ u.tb.curTick = fieldAt c.desc.specific 8 8 ∧ u.tb.ticked = true ∧ u.det.unpaced = true ∧
          (∃ left, u.det.run = some ⟨n, fieldAt c.desc.specific 8 8, run.record, left⟩ ∧ ∃ fed, logEntries (fieldAt c.desc.specific 20 4) c.payload = fed ++ left) ∧ ((fieldAt c.desc.specific 16 1).testBit 0 = true → u.pub.history = none ∧ u.pub.warm = []) ∧
          (s.ctl.st ≠ .pending → (∀ i ∈ s.disp.items, i.inService = true → i.kind ≠ .candidateBlock ∧ i.kind ≠ .candidateSingle) → u.eng = s.eng)))) ∧
    (s.hostCmd run 6 = some c →
      (regenIdBad c.desc.specific = true → ∃ u, exec (.regenerate run) s = .next u ∧ HostDone u run.record c 0x0723 0 ∧ u.frames = s.frames) ∧
      (regenIdBad c.desc.specific = false → (s.regenFrame n).orElse (fun _ => s.heldFrame n) = none → ∃ u, exec (.regenerate run) s = .next u ∧ HostDone u run.record c 0x0721 0) ∧
      (∀ w view e, regenIdBad c.desc.specific = false → (s.regenFrame n).orElse (fun _ => s.heldFrame n) = some (w, view) → view.regenAnswer w c.desc.specific = .error e →
        ∃ u, exec (.regenerate run) s = .next u ∧ HostDone u run.record c e 0 ∧ u.frames = s.frames ∧ u.tb = s.tb) ∧
      (∀ w view status out, regenIdBad c.desc.specific = false → (s.regenFrame n).orElse (fun _ => s.heldFrame n) = some (w, view) → view.regenAnswer w c.desc.specific = .ok (status, out) →
        (c.desc.payloadLength < out.length → ∃ u, exec (.regenerate run) s = .next u ∧ HostDone u run.record c 0x0724 0) ∧
        (out.length ≤ c.desc.payloadLength → (if c.desc.devicePayload = true then c.desc.payloadAddress + out.length ≤ hostBufferSize else run.wrote = true) → memWf s.host.buffer = true →
          ∃ u, exec (.regenerate run) s = .next u ∧ HostDone u run.record c status out.length ∧ ResultWritten s u c c.desc.payloadAddress out ∧ u.frames = s.frames ∧ u.tb = s.tb ∧ u.eng = s.eng) ∧
        (out.length ≤ c.desc.payloadLength → (if c.desc.devicePayload = true then hostBufferSize < c.desc.payloadAddress + out.length else run.wrote = false) →
          ∃ u, exec (.regenerate run) s = .next u ∧ HostDone u run.record c 0x0207 0 ∧ u.frames = s.frames))) ∧
    (s.hostCmd run 7 = some c →
      let what := fieldAt c.desc.specific 8 1
      (what = 0 → s.det.dumps.find? (fun x => x.1 == run.record) = none →
        (n ≤ s.tb.curFrame → ∃ u, exec (.dump run) s = .next u ∧ HostDone u run.record c 0x020A 0) ∧ (s.tb.curFrame < n → exec (.dump run) s = .next s)) ∧
      (∀ steps body, (what = 0 ∧ s.det.dumps.find? (fun x => x.1 == run.record) = some (run.record, steps, body)) ∨ (what ≠ 0 ∧ steps = s.det.stepCounter ∧ s.dumpBody what n = some body) →
        (c.desc.payloadLength < 32 + body.length → ∃ u, exec (.dump run) s = .next u ∧ HostDone u run.record c 0x020B 0) ∧
        (32 + body.length ≤ c.desc.payloadLength → (if c.desc.devicePayload = true then c.desc.payloadAddress + (32 + body.length) ≤ hostBufferSize else run.wrote = true) → memWf s.host.buffer = true →
          ∃ u b, exec (.dump run) s = .next u ∧ HostDone u run.record c 0 (32 + body.length) ∧ ResultWritten s u c c.desc.payloadAddress b ∧ b = dumpHeader what n steps body.length ++ body ∧
            u.frames = s.frames ∧ u.tb = s.tb) ∧
        (32 + body.length ≤ c.desc.payloadLength → (if c.desc.devicePayload = true then hostBufferSize < c.desc.payloadAddress + (32 + body.length) else run.wrote = false) →
          ∃ u, exec (.dump run) s = .next u ∧ HostDone u run.record c 0x0207 0)) ∧
      (what ≠ 0 → s.dumpBody what n = none → ∃ u, exec (.dump run) s = .next u ∧ HostDone u run.record c 0x020A 0))

/-- R416, R419, R421: recovery resumes every open record once, a mailbox request is answered in its channel, and a UDP client's datagrams are proven, taken, acknowledged and resent. -/
def Obligations.RecoveryMailboxAndDatagrams : Prop :=
  ∀ (s : State) (t : Nat), s.works = true →
    (∀ v, v ≠ 1 ∨ s.host.recovery = false → exec (.recoveryControl t v) s = .next (s.at t)) ∧
    (s.host.recovery = true → (s.host.journal.map (·.id)).Nodup → alSorted s.host.rings = true →
      ∃ u, exec (.recoveryControl t 1) s = .next u ∧ u.host.recovery = false ∧
        (∀ p ∈ u.host.rings, p.2.st = .recovering → (s.ringClient p.1).transport = 1 ∧ (s.qp (s.ringClient p.1).binding).error = true) ∧ (∀ j ∈ u.host.journal, j.st ≠ .completing) ∧
        ((∃ j ∈ s.host.journal, j.unqueued = true) → Raised s u 0x020E) ∧
        (s.externalItems + (s.host.journal.filter (·.unqueued)).length ≤ s.cfg 0x7100 0x0D → ∀ j ∈ s.host.journal, j.unqueued = true →
          (∀ d, j.desc = some d → d.opcode = 1 → s.streamBy 0 (4 * d.client) ≠ none) → ∃ j' ∈ u.host.journal, j' = { j with replayed := true, ready := true, outcome := none }) ∧
        u.tb = s.tb ∧ u.ctl = s.ctl ∧ u.eng = s.eng ∧ u.mem = s.mem) ∧
    (∀ channel v bytes, exec (.reqLen t channel none bytes (some v)) s = .next { s.at t with host := { s.host with mailboxes := modAt s.host.mailboxes channel (fun x => { x with vector := v }) } }) ∧
    (∀ channel length bytes x,
      let q := odpParse (.mailbox channel) (bytes.take length)
      let r := (s.at t).odpProcess (.mailbox channel) q.1 q.2.1 q.2.2
      (∀ b, r.1 = some b → r.2.host.mailboxes[channel]? = some x →
        exec (.reqLen t channel (some length) bytes none) s
          = .next ({ r.2 with host := { r.2.host with mailboxes := r.2.host.mailboxes.set channel { x with resp := b, placed := (x.placed + 1) % 65536 } } }.send (.msix x.vector))) ∧
      (r.1 = none → exec (.reqLen t channel (some length) bytes none) s = .next r.2)) ∧
    (∀ d c, c = fieldAt d.bytes 4 2 →
      (s.datagramOk 0 d = false → exec (.udpDescriptorDatagram t d) s = .next (((s.at t).count 0x8402 0x0B 1).raise 0x020F c)) ∧
      (s.datagramOk 1 d = false → exec (.udpAcknowledgement t d) s = .next (((s.at t).count 0x8402 0x0B 1).raise 0x020F c)) ∧
      (s.datagramOk 1 d = true → d.reservedOk = true → (∀ x, s.ring? (4 * c + 1) = some x → DoorbellOk s (4 * c + 1) (fieldAt d.bytes 20 4) x) → ∃ u y, exec (.udpAcknowledgement t d) s = .next u ∧ alGet c u.host.udp = some y ∧ y.rxCounter = fieldAt d.bytes 12 8 ∧ y.session = fieldAt d.bytes 8 4 ∧
        y.source = some d.source ∧ (∀ p, p ∈ y.unacked ↔ p ∈ (s.udpClient c).unacked ∧ seqAfter p.index (fieldAt d.bytes 20 4) = false) ∧ u.tb = s.tb ∧ u.ctl = s.ctl ∧ u.disp = s.disp) ∧
      (s.datagramOk 0 d = true → d.reservedOk = true → ∀ x, ((s.at t).udpHeard c d).ring? (4 * c) = some x →
        let rung := ((s.at t).udpHeard c d).setRing (4 * c) { x with producer := (x.consumer + 1) % 2 ^ 32 }
        let e := descOf (slice d.bytes 32 64)
        let inline := (d.bytes.drop 96).take (d.bytes.length - 128)
        (rung.mayFetch (4 * c) = false → exec (.udpDescriptorDatagram t d) s = .next ((s.at t).udpHeard c d)) ∧
        (rung.mayFetch (4 * c) = true → rung.poolRoom = true → rung.host.journalFull = false → rung.journalRoom 0 = true → 128 ≤ d.bytes.length → e.payloadAddress = 0 → e.devicePayload = false →
          (e.payloadLength = inline.length ∨ 5 < e.opcode) → rung.testDesc (4 * c) { x with producer := (x.consumer + 1) % 2 ^ 32 } e true = none →
          ∃ u, exec (.udpDescriptorDatagram t d) s = .next u ∧ u.host.fetched = s.host.fetched ++ [⟨4 * c, x.consumer, e, inline, true⟩] ∧ u.tb = s.tb ∧ u.ctl = s.ctl))) ∧
    (∀ c a x, let y := s.udpClient c
      let due := y.unacked.filter (fun r => r.due (max s.now t))
      let consumer := match s.ring? (4 * c + 1) with | some z => z.consumer | none => 0
      due ≠ [] → y.source = some a → s.udpSession c = some x →
      (if (s.ringClient (4 * c + 1)).transport = 3 then s.mgmtDown = false else (s.port s.group.activePort).paused.testBit (s.cfg 0x8600 0x0C) = false) →
      ∃ (u : State) (sent : List (List UdpRecord)), exec (.udpRecordResend t c) s = .next u ∧ sent.flatten = due ∧ sent.length = (due.length + 39) / 40 ∧
        alGet c u.host.udp = some { y with unacked := y.unacked.map (fun r => if r.due (max s.now t) then { r with sent := some (max s.now t) } else r), txCounter := y.txCounter + sent.length } ∧
        u.wire = s.wire ++ sent.zipIdx.map (fun g => .udpRecords a (udpDatagram c g.1.length y.session (y.txCounter + 1 + g.2) consumer x.key (g.1.flatMap (·.bytes)))) ∧
        u = { s.at t with host := { s.host with udp := u.host.udp }, wire := u.wire }) ∧
    (∀ c, (s.udpClient c).unacked.filter (fun r => r.due (max s.now t)) = [] ∨ s.udpReaches c = false → exec (.udpRecordResend t c) s = .next (s.at t))

/-- R433 to R437, R439 to R442, R449, R450: group messages are taken in order from chips of the group; HELLO, TAKEOVER, MAP_SEGMENT, SCENE, LIST, PLAN and CHECKPOINT act when whole. -/
def Obligations.GroupMessagesActWhenTheyAreTaken : Prop :=
  ∀ (s : State) (t : Nat) (m : GroupMsg) (p : Peer),
    (∀ c ∈ groupCommands t m, s.groupMode = 0 ∨ s.works = false ∨ s.otherChips.contains m.sender = false → exec c.1 s = .next (s.at t)) ∧
    (∀ c ∈ groupCommands t m, s.groupMode ≠ 0 → s.works = true → s.otherChips.contains m.sender = true → s.group.peers[m.sender]? = some p → p.st = .present ∨ p.st = .joining →
      m.sequence ≤ p.rxSeq → exec c.1 s = .next (((s.at t).count 0x8605 2 1).count 0x8605 3 1)) ∧
    (∀ c ∈ groupCommands t m, s.groupMode ≠ 0 → s.works = true → s.otherChips.contains m.sender = true → s.group.peers[m.sender]? = some p → p.st = .present ∨ p.st = .joining →
      p.rxSeq + 1 < m.sequence ∨ (p.rxSeq < m.sequence ∧ s.groupForm c.2 m = false) → ∃ u, exec c.1 s = .next u ∧ Raised s u 0x0909 ∧ u.group.peers = s.group.peers ∧ u.tb = s.tb ∧ u.world = s.world) ∧
    (Taken s 1 m p →
      ∃ u q, exec (.hello t m) s = .next u ∧ u.group.peers[m.sender]? = some q ∧ q.role = fieldAt m.payload 12 1 ∧ q.rxSeq = m.sequence ∧ q.heard = some (max s.now t) ∧
        q.last = some ⟨m.frame, fieldAt m.payload 0 8, m.digest, fieldAt m.payload 8 4⟩ ∧ (p.st = .lost ∨ p.st = .absent → q.st = .joining ∧ q.joinSince = max s.now t) ∧
        (s.group.role = 3 ∨ s.group.role = 4 → fieldAt m.payload 12 1 ≠ s.group.role → m.frame = s.tb.curFrame → s.tb.ticked = true →
          (q.outOfStep = true ↔ m.digest ≠ s.group.digest ∨ s.cfg 0x8600 0x0A < ((fieldAt m.payload 0 8 : Int) - s.tb.curTick).natAbs) ∧
          (q.outOfStep = true → u.newel.degraded.testBit 8 = true ∧ (p.outOfStep = false → Raised s u 0x0903))) ∧ u.tb = s.tb ∧ u.world = s.world ∧ u.ctl = s.ctl ∧ u.eng = s.eng) ∧
    (Taken s 11 m p → exec (.takeover t m) s = .next ((takenAt s t m p).modPeer m.sender (fun q => { q with role := fieldAt m.payload 0 1 }))) ∧
    (Taken s 2 m p →
      let s1 := takenAt s t m p
      let s2 : State := { s1 with group := { s1.group with parts := alSet (16 * m.sender + 2) (gathered s 2 m) s1.group.parts } }
      exec (.mapSegment t m) s = .next (match s2.nextInChain with | some d => s2.sendGroup d 2 m.last m.segment m.frame m.version m.payload | none => s2)) ∧
    (∀ c ∈ [(Instr.scene t m, 4), (Instr.list t m, 5), (Instr.plan t m, 6), (Instr.checkpoint t m, 12)], Taken s c.2 m p → m.last = false →
      exec c.1 s = .next { takenAt s t m p with group := { (takenAt s t m p).group with parts := alSet (16 * m.sender + c.2) (gathered s c.2 m) (takenAt s t m p).group.parts } }) ∧
    (∀ w, Taken s 4 m p → m.last = true → s.work? m.frame = some w →
      ∃ u x, exec (.scene t m) s = .next u ∧ x.frame = m.frame ∧ x.bytes = gathered s 4 m ∧ (w.speculative = true → u.world.specScene = some x) ∧ (w.speculative = false → u.world.scene = some x)) ∧
    (Taken s 5 m p → m.last = true → ¬ListWhole s (gathered s 5 m) → ∃ u, exec (.list t m) s = .next u ∧ Raised s u 0x0909 ∧ u.group.lists = s.group.lists ∧ u.frames = s.frames ∧ u.tb = s.tb) ∧
    (Taken s 5 m p → m.last = true → s.proposer m.sender = false → ∃ u, exec (.list t m) s = .next u ∧ u.group.lists = s.group.lists ∧ u.frames = s.frames ∧ u.tb = s.tb) ∧
    (Taken s 5 m p → m.last = true → s.groupMode = 2 → s.group.role = 3 → s.proposer m.sender = true → ListWhole s (gathered s 5 m) → (∀ w, s.work? m.frame = some w → w.closed = none) → (s.work? m.frame = none → s.tb.curFrame ≤ m.frame) →
      ∃ u l, exec (.list t m) s = .next u ∧ l ∈ u.group.lists ∧ l.chip = m.sender ∧ l.list = closedOf (gathered s 5 m) ∧ u.frames = s.frames ∧ u.tb = s.tb) ∧
    (∀ w, let b := gathered s 6 m
      let n := fieldAt b 32 8
      let published := if fieldAt b 40 1 = 3 then none else some ((List.range ((b.length - 128) / 8)).map (fun k => controlAt (b.drop 128) (8 * k)))
      Taken s 6 m p → m.last = true → s.groupMode = 2 → s.work? n = some w → (∀ w', s.work? (n + 1) = some w' → w'.sealed = false) → s.tb.curFrame ≤ n + 1 →
      ∃ u h, exec (.plan t m) s = .next u ∧ u.pub.history = some h ∧ h.frame = n ∧ h.landing = fieldAt b 64 8 ∧ u.pub.lastStatus = fieldAt b 40 1 ∧ h.controls = published ∧
        ((∀ h', s.pub.history = some h' → h'.frame ≠ n) → h.tick = w.tick ∧ h.start = w.start) ∧
        (∀ h', s.pub.history = some h' → h'.frame = n → h = { h' with controls := published, landing := fieldAt b 64 8 }) ∧
        u.pub.slots = s.pub.slots ∧ u.frames = s.frames) ∧
    (∀ h', let b := gathered s 6 m
      Taken s 6 m p → m.last = true → s.groupMode = 2 → s.pub.history = some h' → h'.frame = fieldAt b 32 8 → s.work? (h'.frame + 1) = none → s.tb.curFrame ≤ h'.frame + 1 →
      ∃ u h, exec (.plan t m) s = .next u ∧ u.pub.history = some h ∧ h.frame = h'.frame ∧ h.tick = h'.tick ∧ h.landing = fieldAt b 64 8 ∧ (fieldAt b 40 1 = 3 ↔ h.controls = none)) ∧
    (∀ c, Taken s 12 m p → m.last = true → s.imageOf (gathered s 12 m) = some c → s.groupMode = 1 → s.group.role = 5 →
      ∃ u, exec (.checkpoint t m) s = .next u ∧ u.world.mapFrame = c.mapFrame ∧ u.world.refX = c.refX ∧ u.world.refY = c.refY ∧ u.pub.history = c.history ∧ u.pub.carriedStatus = c.status ∧ u.pub.lastStatus = s.pub.lastStatus ∧
        u.pub.warm = c.warm ∧ (∀ n x k, s.world.streams[n]? = some x → c.streams[n]? = some k → (u.stream n).tiles = k.tiles ∧ (u.stream n).agents = k.agents ∧ (u.stream n).ego = k.ego ∧
          (u.stream n).held = x.held))

/-- R379 to R381, R438, R439, R443: versions are received or substituted, journal records mirrored and acknowledged, and phase digests compared and searched. -/
def Obligations.VersionsMirrorsAndDigestsAreExchanged : Prop :=
  ∀ (s : State) (t : Nat) (m : GroupMsg) (p : Peer),
    (∀ w, let n := fieldAt m.payload 0 4
      Taken s 3 m p → s.groupMode = 2 → s.buildsMaps = false → (fieldAt m.payload 20 4).testBit 0 = false → (fieldAt m.payload 20 4).testBit 1 = false → s.work? (fieldAt m.payload 8 8) = some w →
      ∃ u w' v, exec (.version t m) s = .next u ∧ v ∈ u.world.versions ∧ v.number = n ∧ v.frame = fieldAt m.payload 8 8 ∧ v.ready = true ∧ v.spec = false ∧
        v.mapFrame = fieldAt m.payload 16 2 ∧ v.staleLayers = fieldAt m.payload 18 2 ∧ u.world.lastVersion = n ∧
        u.work? (fieldAt m.payload 8 8) = some w' ∧ w'.version = n ∧ w'.sealed = true ∧ w'.speculative = false) ∧
    (∀ w v, s.work? s.tb.curFrame = some w → s.newest = some v → s.groupMode = 2 → s.group.role = 3 → w.sealed = false → w.landed = false → v.frame ≠ w.frame →
      let n := (s.world.lastVersion + 1) % 2 ^ 32
      ∃ u w' x, exec .substituteVersion s = .next u ∧ x ∈ u.world.versions ∧ x.number = n ∧ x.parent = some v.number ∧ x.frame = s.tb.curFrame ∧ x.tiles = v.tiles ∧
        (∀ l, x.staleLayers.testBit l = true ↔ l ∈ s.buildCfg.inUse) ∧ u.world.lastVersion = n ∧ Raised s u 0x090A ∧ u.work? s.tb.curFrame = some w' ∧ w'.version = n ∧ w'.sealed = true) ∧
    (Taken s 9 m p →
      let j := jrecOf s.host.nextJournal m.payload
      (j.st = .retired → ∃ u, exec (.mirror t m) s = .next u ∧ (∀ x, x ∈ u.group.mirrored ↔ x ∈ s.group.mirrored ∧ ¬(x.chip = m.sender ∧ x.record.sameAs j = true))) ∧
      (j.st ≠ .retired → (∀ x ∈ s.group.mirrored, ¬(x.chip = m.sender ∧ x.record.sameAs j = true) ∧ x.ackDue = none ∧ x.record.id ≠ j.id) →
        let applies : Prop := s.groupMode = 1 ∧ s.group.role = 5 ∧ j.st = .accepted ∧ (∀ d, j.desc = some d → d.opcode = 1)
        ∃ u q, exec (.mirror t m) s = .next u ∧ u.host.nextJournal = s.host.nextJournal + 1 ∧ u.host.journal = s.host.journal ∧ u.group.peers[m.sender]? = some q ∧
          (¬applies ∨ s.poolRoom = true → u.group.mirrored = s.group.mirrored ++ [⟨m.sender, j, none⟩] ∧ q.txSeq = p.txSeq + 1) ∧
          (applies ∧ s.poolRoom = false → u.group.mirrored = s.group.mirrored ++ [⟨m.sender, j, some (m.frame, m.sequence)⟩] ∧ q.txSeq = p.txSeq ∧ u.disp.items = s.disp.items))) ∧
    (Taken s 10 m p → (s.host.journal.map (·.id)).Nodup →
      ∃ u, exec (.mirrorAck t m) s = .next u ∧ (∀ x, x ∈ u.group.mirrorSent ↔ x ∈ s.group.mirrorSent ∧ fieldAt m.payload 0 8 < x.1) ∧
        ∀ x ∈ s.group.mirrorSent, x.1 ≤ fieldAt m.payload 0 8 → (∀ j', u.record? x.2 = some j' → j'.waitsMirror = false) ∧
          ((∀ j ∈ s.host.journal, j.waitsMirror = true → ∀ d, j.desc = some d → d.opcode = 1 → s.streamBy 0 (4 * d.client) ≠ none) → ((u.record? x.2).isSome ↔ (s.record? x.2).isSome))) ∧
    (Taken s 7 m p → s.comparedPeer m.frame ≠ none → s.det.peer.any (fun x => x.frame == m.frame && x.phase == fieldAt m.payload 0 1 && x.round == fieldAt m.payload 1 1) = false →
      ∃ u, exec (.digest t m) s = .next u ∧ ⟨m.frame, fieldAt m.payload 0 1, fieldAt m.payload 1 1, fieldAt m.payload 8 8, fieldAt m.payload 2 2⟩ ∈ u.det.peer ∧ u.tb = s.tb ∧ u.frames = s.frames) ∧
    (∀ y, let child := if s.nodeAt m.frame (fieldAt m.payload 0 1) (fieldAt m.payload 1 1) (fieldAt m.payload 2 1 + 1) (2 * y.node) ≠ fieldAt m.payload 8 8 then 2 * y.node else 2 * y.node + 1
      Taken s 8 m p → s.comparedPeer m.frame ≠ none → keepsSteps s.tb.curFrame m.frame = true → s.det.search = some y → y.frame = m.frame → y.phase = fieldAt m.payload 0 1 → y.round = fieldAt m.payload 1 1 → y.level = fieldAt m.payload 2 1 →
      (s.phase? y.frame y.phase y.round).isSome = true →
      (y.level + 1 < phaseHeight y.phase → ∃ u, exec (.bisect t m) s = .next u ∧ u.det.search = some { y with level := y.level + 1, node := child } ∧ u.det.last = s.det.last) ∧
      (y.level + 1 = phaseHeight y.phase → ∃ u, exec (.bisect t m) s = .next u ∧ u.det.last.frame = y.frame ∧ Raised s u (0x0728 + s.divergenceClass y.frame))) ∧
    (∀ n a b q, s.phase? n a b = some q → q.ready = true → q.final = false →
      ∃ u q', exec (.digestFinal n a b) s = .next u ∧ u.phase? n a b = some q' ∧ q'.final = true ∧ q'.root = s.nodeAt n a b 0 0 ∧ q'.leaves = q.leaves ∧ u.tb = s.tb ∧ u.frames = s.frames) ∧
    (∀ n a b q, s.phase? n a b = some q → q.compared = false → s.comparedPeer n ≠ none → s.det.peer.any (fun x => x.frame == n && x.phase == a && x.round == b) = false →
      ∃ u, exec (.digestMissing n a b) s = .next u ∧ u.phase? n a b = some { q with compared := true } ∧ Raised s u 0x072B ∧
        u = { s.atTick (s.digestLimit n) with det := u.det, dict := u.dict, host := u.host, group := s.group.links u.group, events := u.events, wire := u.wire })

/-- R375, R428, R430, R436, R447, R448: HELLOs go out, silent chips are lost and their roles taken over, ports fail over and pause, and replay is entered and left. -/
def Obligations.GroupsKeepTheirRolesAndPorts : Prop :=
  ∀ (s : State) (t c : Nat),
    (s.groupMode = 0 → exec (.helloTimer t) s = .next (s.at t)) ∧
    (∀ last, s.group.helloSent = some last → max s.now t < last + s.us 0x8600 5 → exec (.helloTimer t) s = .next (s.at t)) ∧
    (s.groupMode ≠ 0 → s.works = true → (∀ last, s.group.helloSent = some last → last + s.us 0x8600 5 ≤ max s.now t) →
      ∃ u, exec (.helloTimer t) s = .next u ∧ u.group.helloSent = some (max s.now t) ∧ (∀ p, s.otherChips.contains c = true → s.group.peers[c]? = some p →
          u.group.peers[c]? = some { p with txSeq := p.txSeq + ((List.range 2).filter (fun k => (s.port k).up && s.portEnabled k)).length }) ∧
        u = { s.at t with group := u.group, dict := u.dict, host := u.host, events := u.events, wire := u.wire }) ∧
    (∀ p h, s.groupMode ≠ 0 → s.works = true → s.otherChips.contains c = true → s.group.peers[c]? = some p → p.st = .present ∨ p.st = .joining → p.heard = some h →
      (max s.now t < h + s.us 0x8600 6 → exec (.peerLoss t c) s = .next (s.at t)) ∧
      (h + s.us 0x8600 6 ≤ max s.now t →
        ∃ u, exec (.peerLoss t c) s = .next u ∧ u.group.peers[c]? = some { p with st := .lost, lossCount := min 65535 (p.lossCount + 1) } ∧ Raised s u 0x0905 ∧
          u.newel.degraded.testBit 8 = true ∧ (s.groupMode = 1 → s.group.role = 5 → p.role = 4 → u.group.role = 4 ∧ u.group.mirrored = [] ∧ Raised s u 0x0906) ∧
          (s.groupMode = 2 → p.role = 3 → s.chip = 0 → u.group.takeAtTick = some 3) ∧ u.tb = s.tb ∧ u.eng = s.eng)) ∧
    (let a := s.group.activePort
     a < 2 → s.works = true → (s.port (1 - a)).up = true → s.portBusy a = true → (s.port a).lastAck + s.us 0x8600 7 ≤ max s.now t →
      (∀ r, ¬(0x100 ≤ (s.ringClient r).binding ∧ (s.ringClient r).binding < 0x108)) →
      ∃ u, exec (.portFailover t) s = .next u ∧ u.group.activePort = 1 - a ∧ Raised s u 0x0901 ∧
        (∀ d, s.otherChips.contains d = true → (u.qp (groupQp a d)).outstanding = [] ∧
          (u.qp (groupQp (1 - a) d)).outstanding.map (·.msg) = (s.qp (groupQp (1 - a) d)).outstanding.map (·.msg) ++
            (s.qp (groupQp a d)).outstanding.map (fun m => m.msg.onPort (1 - a) (s.peerAddress (1 - a) d))) ∧
        (∀ n, ¬(0x100 ≤ n ∧ n < 0x108) → ∃ more, (u.qp n).outstanding.map (fun m => (m.number, m.msg)) = (s.qp n).outstanding.map (fun m => (m.number, m.msg)) ++ more)) ∧
    (∀ x, s.group.ports[c]? = some x → c < 2 →
      (x.up = false → exec (.portLinkDown t c) s = .next (s.at t)) ∧
      (x.up = true → ∃ u y, exec (.portLinkDown t c) s = .next u ∧ Raised s u 0x0902 ∧ u.group.ports[c]? = some y ∧ y.up = false ∧
        u.group.activePort = (if s.group.activePort = c ∧ (s.port (1 - c)).up = true then 1 - c else s.group.activePort)) ∧
      (x.up = false → s.portEnabled c = true → s.group.activePort < 2 → ∃ u y, exec (.portLinkUp t c) s = .next u ∧ u.group.ports[c]? = some y ∧ y.up = true ∧ y.lastAck = max s.now t ∧
        u.group.activePort = (if (s.port s.group.activePort).up = true then s.group.activePort else c)) ∧
      (∀ k, k < 7 →
        exec (.pfcPause t c k true) s = .next { s.at t with group := { s.group with ports := s.group.ports.set c { x with paused := x.paused ||| 2 ^ k } } } ∧
        ∃ u y, exec (.pfcPause t c k false) s = .next u ∧ u.group.ports[c]? = some y ∧ (∀ b, y.paused.testBit b = true ↔ x.paused.testBit b = true ∧ b ≠ k) ∧
          (∀ d, s.otherChips.contains d = true → ∀ q ∈ (u.qp (groupQp c d)).outstanding, q.priority = k → q.sent = true) ∧ (k = s.cfg 0x8600 0x0C → y.held = []) ∧
          u = { s.at t with group := u.group, wire := u.wire })) ∧
    (s.works = true → alSorted s.dict.active = true →
      (s.strict = false → exec (.replayEnableWrite true) s = .next s) ∧
      (s.strict = true → ∃ u, exec (.replayEnableWrite true) s = .next u ∧ u.cfg 0x7220 1 = 1 ∧
        u.det.replay = (match s.det.replay with | .live => .entering | .leaving => .replaying | r => r) ∧ u = { s with det := { s.det with replay := u.det.replay }, dict := u.dict, host := u.host, wire := u.wire }) ∧
      (∃ u, exec (.replayEnableWrite false) s = .next u ∧ u.cfg 0x7220 1 = 0 ∧
        u.det.replay = (match s.det.replay with | .entering => .live | .replaying => if s.det.run.isSome then .leaving else .live | r => r) ∧ u.frames = s.frames ∧ u.world = s.world))

/-- R420, R427, R429: a congestion notification halves a queue pair's rate and quiet raises it again, and messages stay outstanding until acknowledged, are sent again seven times, and
then leave the connection in error. -/
def Obligations.QueuePairsRetryAndSlowDown : Prop :=
  ∀ (s : State) (t n k : Nat),
    let q := s.qp n
    let resent := (q.outstanding.filter (·.sent)).map (fun m => WireMsg.roceResend n m.number)
    (q.rate < fullRate → q.lastRaise + 55000 ≤ max s.now t →
      exec (.rateRecoveryTimer t n) s = .next ((s.at t).setQp n { q with rate := min fullRate (q.rate + 5000000000), lastRaise := max s.now t })) ∧
    (fullRate ≤ q.rate ∨ max s.now t < q.lastRaise + 55000 → exec (.rateRecoveryTimer t n) s = .next (s.at t)) ∧
    (s.qpKnown n = false → ∀ c ∈ [Instr.cnp t n, .ecnCePacket t n, .roceAck t n k, .roceAckTimeout t n, .roceConnectionReestablished t n], exec c s = .next (s.at t)) ∧
    (s.works = true → s.qpKnown n = true →
      (exec (.cnp t n) s = .next (((s.at t).setQp n { q with rate := max 1000000000 (q.rate / 2), lastCnp := some (max s.now t), lastRaise := max s.now t }).count 0x8605 6 1)) ∧
      ((s.dict.activeVal 0x8605 6).toNum + 1 < 2 ^ 64 - 1 → ∃ u, exec (.cnp t n) s = .next u ∧ (∀ i, i ≠ n → u.qp i = s.qp i) ∧
        u = { s.at t with group := { s.group with qps := u.group.qps }, dict := u.dict }) ∧
      (q.cnpSent = none ∨ (∃ x, q.cnpSent = some x ∧ x + 50000 ≤ max s.now t) → exec (.ecnCePacket t n) s = .next (((s.at t).setQp n { q with cnpSent := some (max s.now t) }).send (.cnp n))) ∧
      (∀ x, q.cnpSent = some x → max s.now t < x + 50000 → exec (.ecnCePacket t n) s = .next (s.at t)) ∧
      (∃ u, exec (.roceAck t n k) s = .next u ∧ u.qp n = { q with outstanding := q.outstanding.filter (fun m => !decide (m.number ≤ k)), timer := max s.now t, retries := 0 } ∧
        (∀ i, i ≠ n → u.qp i = s.qp i) ∧ (∀ x, s.group.ports[s.qpPort n]? = some x → u.group.ports[s.qpPort n]? = some { x with lastAck := max s.now t }) ∧
        u = { s.at t with group := { s.group with qps := u.group.qps, ports := u.group.ports } }) ∧
      (q.error = true ∨ q.outstanding.any (·.sent) = false ∨ max s.now t < q.timer + 65500 → exec (.roceAckTimeout t n) s = .next (s.at t)) ∧
      (q.error = false → q.outstanding.any (·.sent) = true → q.timer + 65500 ≤ max s.now t →
        (q.retries < 7 → ∃ u, exec (.roceAckTimeout t n) s = .next u ∧ u.qp n = { q with retries := q.retries + 1, timer := max s.now t } ∧ u.wire = s.wire ++ resent ∧
          u = { s.at t with group := { s.group with qps := u.group.qps }, wire := u.wire }) ∧
        (7 ≤ q.retries → ∃ u, exec (.roceAckTimeout t n) s = .next u ∧ u.qp n = { q with error := true } ∧
          (∀ c ∈ s.qpClients n, ∀ j x, j < 4 → s.ring? (4 * c + j) = some x → x.st = .active ∨ x.st = .draining → u.ring? (4 * c + j) = some { x with st := .recovering }) ∧
          u = { s.at t with group := { s.group with qps := u.group.qps }, host := { s.host with rings := u.host.rings } })) ∧
      (∃ u, exec (.roceConnectionReestablished t n) s = .next u ∧ (u.qp n).error = false ∧ (u.qp n).retries = 0 ∧ (∃ more, (u.qp n).outstanding = q.outstanding ++ more) ∧
        (s.host.recovery = true → u.host = s.host) ∧
        (s.host.recovery = false → ∀ c ∈ s.qpClients n, ∀ j x, j < 4 → s.ring? (4 * c + j) = some x → x.st = .recovering → ∃ y, u.ring? (4 * c + j) = some y ∧
          y.st = s.ringReturns (4 * c + j) ∧ y.owed = [] ∧ y.producer = x.producer ∧ y.consumer = x.consumer ∧ y.entries = x.entries) ∧
        (s.host.recovery = true ∨ (∀ c ∈ s.qpClients n, ∀ j x, j < 4 → s.ring? (4 * c + j) = some x → x.owed = []) →
          u.qp n = { q with retries := 0, error := false, timer := max s.now t } ∧ u.wire = s.wire ++ resent) ∧
        u = { s.at t with group := s.group.links u.group, host := u.host, wire := u.wire }))

/-- R461, R462, R491, R496, R524, R526, R527: what POR_N, PERST_N, PWR_GOOD, a lost rail and WARM_RST_N leave while they hold the device. -/
def Obligations.ResetsAreHeld : Prop :=
  ∀ (s : State) (t : Nat),
    (∀ x ∈ [(Instr.coldResetAssert t false, ResetKind.powerOn, s.newel.pins.floating), (.coldResetAssert t true, .pcie, s.newel.pins.floating),
            (.pwrGoodFall t, .powerOn, s.newel.pins.floating), (.vddAonLoss t, .powerOn, true)],
      ∃ u, exec x.1 s = .next u ∧ u.boot.lastReset = x.2.1 ∧ u.boot.coldHeld = true ∧ u.boot.ready = false ∧ u.newel.faultCause = 0 ∧
        u.newel.pins = { Pins.initial with floating := x.2.2, jtagTrst := s.newel.pins.jtagTrst } ∧ u.boot.running = s.boot.running ∧ u.boot.nextBoot = s.boot.nextBoot ∧ u.boot.minSecurity = s.boot.minSecurity ∧
        u.boot.headerSequence = s.boot.headerSequence ∧ u.boot.headers = s.boot.headers ∧ u.boot.slots.length = s.boot.slots.length ∧
        (∀ (k : Nat) (y : FwSlot), s.boot.slots[k]? = some y → u.boot.slots[k]? = some (if y.st = .writing then { y with st := .invalid } else y)) ∧
        u = { State.reset with now := max s.now t, pending := s.pending, events := s.events, wire := s.wire, draws := s.draws
                               det := { State.reset.det with images := s.det.images }, newel := u.newel, boot := u.boot }) ∧
    (∃ u, exec (.vddNewelLoss t) s = .next u ∧
      u.newel = { s.newel with running := false, pins := { s.newel.pins with fault := true, safeState := true, planOk := false, floating := true } } ∧
      (∀ k (c d : ClockDomain), s.clocks[k]? = some c → u.clocks[k]? = some d → d = { c with running := if clockSource k = .newelClk then false else c.running }) ∧
      u.clocks.length = s.clocks.length ∧ u = { s.at t with newel := u.newel, clocks := u.clocks, host := u.host, wire := u.wire }) ∧
    (s.boot.coldHeld = true ∨ s.boot.warmHeld = true → exec (.warmRstNAssert t) s = .next (s.at t)) ∧
    (s.boot.coldHeld = false → s.boot.warmHeld = false → s.newel.booted = false → exec (.warmRstNAssert t) s = .next { s.at t with boot := { s.boot with warmHeld := true, lastReset := .warm } }) ∧
    (s.boot.coldHeld = false → s.boot.warmHeld = false → s.newel.booted = true →
      ∃ u, exec (.warmRstNAssert t) s = .next u ∧ u.boot.ready = false ∧ u.boot.warm = true ∧ u.boot.stopped = false ∧ u.boot.stage = 0 ∧ u.boot.lastReset = .warm ∧
        u.boot.warmHeld = true ∧ u.boot.running = s.boot.running ∧ u.boot.nextBoot = s.boot.nextBoot ∧
        (∀ (k : Nat) (y : FwSlot), s.boot.slots[k]? = some y → u.boot.slots[k]? = some (if y.st = .writing then { y with st := .invalid } else y)) ∧
        u.newel.faultCause = s.newel.faultCause ∧ u.newel.running = s.newel.running ∧ u.newel.pins.fault = s.newel.pins.fault ∧ u.newel.pins.ready = false ∧
        (s.newel.running = true → u.newel.pins.safeState = true ∧ u.newel.pins.planOk = false) ∧
        u.dict.saved = s.dict.saved ∧ u.dict.savedSetId = s.dict.savedSetId ∧ u.dict.shadow = [] ∧ u.ctl = { State.reset.ctl with activeSetId := s.dict.savedSetId } ∧
        u.host.buffer = s.host.buffer ∧ u.host.nextJournal = s.host.nextJournal ∧ (∀ j ∈ s.host.journal, j.waitsMirror = false → { j with outcome := none, ready := false } ∈ u.host.journal) ∧
        u.mem.channels = s.mem.channels ∧ u.det.stepCounter = s.det.stepCounter ∧
        u = { State.reset with now := max s.now t, pending := s.pending, events := s.events, wire := s.wire, draws := s.draws, clocks := s.clocks, power := s.power
                               ctl := u.ctl, dict := u.dict, host := u.host, newel := u.newel, boot := u.boot, group := u.group
                               det := { State.reset.det with stepCounter := s.det.stepCounter, images := s.det.images }
                               mem := { State.reset.mem with channels := s.mem.channels, rereplicating := s.mem.rereplicating } })

/-- R492, R494, R496, R497, R500, R512: the cold and the warm sequence end at READY, or stop at the step that fails. -/
def Obligations.TheSequencesEndInReadyOrStop : Prop :=
  ∀ (s : State) (t : Nat) (pcie : Bool) (f : BootFacts) (a : Part),
    let onRecord := availabilityOf a.record
    (s.boot.coldHeld = false → exec (.powerOnReset t pcie f) s = .next (s.at t)) ∧
    (∀ x ∈ [(f.pllLocked = false, 1, 0x0B10), (f.pllLocked = true ∧ f.area = none, 2, 0x0B02), (f.pllLocked = true ∧ f.area = some a ∧ (1100 < f.bitErrors ∨ ¬IdentityMatches f a), 2, 0x0B01),
            (f.pllLocked = true ∧ f.area = some a ∧ f.bitErrors ≤ 1100 ∧ IdentityMatches f a ∧ a.recordOk = false, 2, 0x0B02),
            (RomOk f a ∧ f.imageA = false ∧ f.imageB = false, 2, 0x0B0F), (RomOk f a ∧ SlotsOk s f a ∧ f.manyLost = true, 4, 0x0B10),
            (RomOk f a ∧ SlotsOk s f a ∧ f.manyLost = false ∧ f.sramZeroed = false, 5, 0x0B10), (RomOk f a ∧ SlotsOk s f a ∧ f.manyLost = false ∧ f.sramZeroed = true ∧ f.gddrZeroed = false, 6, 0x0B10),
            (RomOk f a ∧ SlotsOk s f a ∧ f.manyLost = false ∧ f.sramZeroed = true ∧ f.gddrZeroed = true ∧ ¬GalleryPasses onRecord f, 7, 0x0B10)],
      s.boot.coldHeld = true → x.1 → ∃ u, exec (.powerOnReset t pcie f) s = .next u ∧ StoppedAt s u x.2.1 x.2.2 ∧ u.boot.coldHeld = false) ∧
    (s.boot.coldHeld = true → RomOk f a → SlotsOk s f a → f.manyLost = false → f.sramZeroed = true → f.gddrZeroed = true → GalleryPasses onRecord f → let r := headerKnown s f a
      ∃ u, exec (.powerOnReset t pcie f) s = .next u ∧ AtReady u f.elapsed ∧ u.boot.coldHeld = false ∧ u.boot.lastReset = (if pcie then .pcie else .powerOn) ∧ u.dict.part = a ∧
        u.newel.secret = f.secret ∧ u.now = max s.now t + 1000 * f.elapsed ∧ u.boot.journalHeader = some (journalMagic, a.identityDigest) ∧
        (∀ k x, r.boot.nextBoot = some k → r.boot.slots[k]? = some x → x.st = .verified →
          u.boot.running = k ∧ u.boot.nextBoot = none ∧ ∃ y, u.boot.slots[k]? = some y ∧ y.st = .trial ∧ y.attempts = x.attempts + 1) ∧
        (r.boot.nextBoot = none → (r.slot 0).st = .active → (r.slot 1).st ≠ .trial → u.boot.running = 0)) ∧
    (s.boot.warmHeld = false ∨ s.boot.coldHeld = true → exec (.warmRstNRelease t f) s = .next (s.at t)) ∧
    (s.boot.warmHeld = true → s.boot.coldHeld = false →
      (s.newel.booted = false → s.newel.running = true → f.manyLost = false → f.sramZeroed = true → f.gddrZeroed = true → GalleryPasses s.boot.available f →
        ∃ u, exec (.warmRstNRelease t f) s = .next u ∧ AtReady u f.elapsed) ∧
      (s.newel.booted = true → let ok := s.imageVerifies f s.boot.running
        (ok = false → ∃ u, exec (.warmRstNRelease t f) s = .next u ∧ StoppedAt s u 1 0x0B10) ∧
        (ok = true → f.manyLost = true → ∃ u, exec (.warmRstNRelease t f) s = .next u ∧ StoppedAt s u 2 0x0B10) ∧
        (ok = true → f.manyLost = false → f.sramZeroed = false → ∃ u, exec (.warmRstNRelease t f) s = .next u ∧ StoppedAt s u 3 0x0B10) ∧
        (ok = true → f.untrained = [] → f.sramZeroed = true → s.newel.running = true → GalleryPasses s.boot.available f →
          ∃ u, exec (.warmRstNRelease t f) s = .next u ∧ AtReady u f.elapsed ∧ u.boot.warmHeld = false ∧ u.boot.running = s.boot.running ∧
            u.newel.faultCause.testBit 0 = s.newel.faultCause.testBit 0 ∧ u.newel.faultCause.testBit 7 = s.newel.faultCause.testBit 7 ∧
            (∀ b, b ≠ 0 → b ≠ 7 → u.newel.faultCause.testBit b = false) ∧ (∀ c ∈ u.clocks, c.fault = false) ∧
            (s.boot.journalHeader = some (journalMagic, s.dict.part.identityDigest) → s.boot.excursion = false → u.host.journal = s.host.journal.filter s.readableRecord ∧
              (u.host.recovery = true ↔ ∃ j ∈ s.host.journal, s.readableRecord j = true ∧ j.st ≠ .retired)) ∧
            (s.boot.journalHeader ≠ some (journalMagic, s.dict.part.identityDigest) ∨ s.boot.excursion = true → u.host.journal = [] ∧ u.host.rings = [] ∧ Raised s u 0x0B0B))))

/-- R508, R511, R512, R514 to R516: stored DOM objects load after READY, the next boot slot is named and a trial confirmed, and a nonce is answered by a report. -/
def Obligations.SettingsFirmwareAndReports : Prop :=
  ∀ (s : State) (t k : Nat),
    (s.boot.ready = false ∨ s.boot.domsLoaded = true → exec (.storedDomLoad t) s = .next (s.at t)) ∧
    (s.boot.ready = true → s.boot.domsLoaded = false →
      ∃ u, exec (.storedDomLoad t) s = .next u ∧ u.boot.domsLoaded = true ∧ u.dict.saved = s.dict.saved ∧
        (alSorted s.dict.active = true → alSorted s.dict.saved = true → ∀ i j b, j < 256 → isDomKey (objKey i j) = true → alGet (objKey i j) s.dict.active = none →
          alGet (objKey i j) s.dict.saved = some (.blob b) → u.cfgBytes i j = b) ∧
        (∀ x ∈ u.disp.units, x.program = u.treadImage ∧ x.reloadDue = false) ∧ u.tb = s.tb ∧ u.frames = s.frames ∧ u.newel = s.newel ∧ u.pub = s.pub) ∧
    (s.boot.ready = false → exec (.firmwareActivate k) s = .next s ∧ exec .firmwareConfirm s = .next s) ∧
    (s.boot.ready = true →
      (k < 2 → (s.slot k).st = .verified → k ≠ s.boot.running →
        exec (.firmwareActivate k) s = .next { s with boot := { s.boot with nextBoot := some k, headerSequence := (s.boot.headerSequence + 1) % 2 ^ 64,
                                                                               headers := nextHeaders s.settingsKey { s.boot with nextBoot := some k } } }) ∧
      (2 ≤ k ∨ (s.slot k).st ≠ .verified ∨ k = s.boot.running → exec (.firmwareActivate k) s = .next s) ∧
      ((s.slot s.boot.running).st ≠ .trial → exec .firmwareConfirm s = .next s) ∧
      (∀ x y, s.boot.slots.length = 2 → s.boot.running < 2 → s.boot.slots[s.boot.running]? = some x → s.boot.slots[1 - s.boot.running]? = some y → x.st = .trial →
        ∃ u, exec .firmwareConfirm s = .next u ∧ u.boot.slots[s.boot.running]? = some { x with st := .active, attempts := 0 } ∧
          u.boot.slots[1 - s.boot.running]? = some (if y.st = .active then { y with st := .verified, area := { y.area with retired := true } } else y) ∧
          u.boot.minSecurity = max s.boot.minSecurity x.securityVersion ∧ u.boot.headerSequence = (s.boot.headerSequence + 1) % 2 ^ 64 ∧
          u.boot.headers = nextHeaders s.settingsKey { u.boot with headerSequence := s.boot.headerSequence, headers := s.boot.headers } ∧
          u = { s with boot := { s.boot with slots := u.boot.slots, minSecurity := u.boot.minSecurity, headerSequence := u.boot.headerSequence, headers := u.boot.headers } })) ∧
    (s.boot.nonce = none → exec (.attestationReportBuild t) s = .next (s.at t)) ∧
    (∀ n, s.boot.nonce = some n → n.length = 16 →
      ∃ u, exec (.attestationReportBuild t) s = .next u ∧ u.boot.nonce = none ∧ u.boot.reportSequence = (s.boot.reportSequence + 1) % 2 ^ 32 ∧
        fieldAt u.boot.report 0 4 = 0x5A415431 ∧ fieldAt u.boot.report 12 4 = u.boot.reportSequence ∧ slice u.boot.report 16 16 = n ∧
        u = { s.at t with boot := { s.boot with nonce := none, report := u.boot.report, reportSequence := u.boot.reportSequence }, draws := s.draws + 1 })

/-- R526, R528, R529, R533, R534: the throttle step follows the demands one step at a time, the voltage comes before a higher frequency and after a lower one, and a rail or junction limit
latches POWER_THERMAL. -/
def Obligations.TheThrottleFollowsItsDemands : Prop :=
  ∀ (s : State) (t : Nat),
    (s.boot.coldHeld = true → ∀ w ts r past, exec (.throttleEvaluation t w) s = .next (s.at t) ∧ exec (.temperatureSample t ts) s = .next (s.at t) ∧
      exec (.railExcursion t r past) s = .next (s.at t)) ∧
    (∀ w, s.boot.coldHeld = false →
      ∃ u, exec (.throttleEvaluation t w) s = .next u ∧ u.power.demandT = s.tempDemand s.power.demandT s.power.tj ∧ u.power.lastEval = max s.now t ∧
        u.power.throttledRest = throttledNs s t % 1000 ∧ u.power.step = s.power.step ∧
        u.power.target = s.power.target ∧
        (w = none → u.power.demandP = s.power.demandP ∧ u.power.power = s.power.power ∧ u.power.lowWindows = s.power.lowWindows) ∧
        (∀ r, w = some r → let watts := f32Add (f32Mul r.coreAmps s.power.target) r.otherWatts
          let low := f32Lt watts (f32Sub (s.cfgF 0xB200 4) 0x41200000#32)
          u.power.power = watts ∧ u.power.current = r.coreAmps ∧
          (f32Lt (s.cfgF 0xB200 4) watts = true → u.power.demandP = min 8 (s.power.demandP + 1)) ∧
          (f32Lt (s.cfgF 0xB200 4) watts = false → low = true → 9 ≤ s.power.lowWindows → u.power.demandP = s.power.demandP - 1) ∧
          (f32Lt (s.cfgF 0xB200 4) watts = false → low = false ∨ s.power.lowWindows < 9 → u.power.demandP = s.power.demandP)) ∧
        (s.power.settling.isSome = true ∨ s.power.wanted.isSome = true ∨ s.power.tripped = true → u.power.wanted = s.power.wanted) ∧
        (s.power.settling = none → s.power.wanted = none → s.power.tripped = false → let goal := max u.power.demandT u.power.demandP
          u.power.wanted = (if s.power.step < goal then some (s.power.step + 1) else if goal < s.power.step then some (s.power.step - 1)
            else if s.coreTarget s.power.step = s.power.target then none else some s.power.step)) ∧
        u = { s.at t with power := u.power, dict := u.dict, host := u.host, group := s.group.links u.group, events := u.events, wire := u.wire }) ∧
    (∀ ack, s.power.wanted = none → exec (.stepChange t ack) s = .next (s.at t)) ∧
    (∀ ack k, s.power.wanted = some k →
      ∃ u, exec (.stepChange t ack) s = .next u ∧
        u.power = { s.power with wanted := none, lastEval := max s.now t, throttledRest := throttledNs s t % 1000, target := if ack then s.coreTarget k else s.power.target, writeFailed := !ack
                                 step := if s.power.step ≤ k then k else s.power.step
                                 settling := if k < s.power.step ∧ ack = true then some (k, max s.now t) else s.power.settling } ∧
        (ack = true → WireMsg.voltage (s.cfg 0xB200 5) (s.coreCommand k) ∈ u.wire) ∧ u = { s.at t with power := u.power, dict := u.dict, host := u.host, group := s.group.links u.group, events := u.events, wire := u.wire }) ∧
    (s.power.settling = none → exec (.coreVoltageSettled t) s = .next (s.at t)) ∧
    (∀ k w, s.power.settling = some (k, w) → ∃ u, exec (.coreVoltageSettled t) s = .next u ∧
      u.power = { s.power with step := k, settling := none, lastEval := max s.now t, throttledRest := throttledNs s t % 1000 } ∧
      Noted { s.at t with power := u.power } u) ∧
    (∀ ts, s.boot.coldHeld = false → ts.length = 32 → (∀ x ∈ ts, f32Finite x = true) →
      ∃ u, exec (.temperatureSample t ts) s = .next u ∧ u.power.temps = ts ∧ ts[u.power.hottest]? = some u.power.tj ∧ (∀ x ∈ ts, f32Fix x ≤ f32Fix u.power.tj) ∧
        (s.power.alert = false → u.power.alert = f32Le (s.cfgF 0xB200 3) u.power.tj) ∧ (s.power.alert = true → u.power.alert = f32Lt (f32Sub (s.cfgF 0xB200 3) 0x40400000#32) u.power.tj) ∧
        u.newel.pins.thermAlert = u.power.alert ∧ u.power.step = s.power.step ∧
        (f32Le 0x43020000#32 u.power.tj = true → u.power.tripped = true ∧ u.newel.faultCause.testBit 6 = true) ∧
        (∀ m, f32Le 0x42FA0000#32 u.power.tj = true → s.power.step = 8 → s.power.hotSince = some m → m + 100000 ≤ max s.now t → u.newel.faultCause.testBit 6 = true) ∧
        (f32Lt u.power.tj 0x42FA0000#32 = true → u.newel.faultCause = s.newel.faultCause ∧ u.power.hotSince = none ∧ u.power.tripped = s.power.tripped) ∧
        u = { s.at t with power := u.power, newel := u.newel, dict := u.dict, host := u.host, group := s.group.links u.group, events := u.events, wire := u.wire }) ∧
    (∀ r past, s.boot.coldHeld = false →
      (r = 0 ∨ 7 ≤ r → exec (.railExcursion t r past) s = .next (s.at t)) ∧
      (r = 3 → s.boot.warmHeld = true → ∃ u, exec (.railExcursion t r past) s = .next u ∧ u.boot = { s.boot with excursion := true } ∧ u.newel = s.newel ∧ u.power = s.power) ∧
      (1 ≤ r → r ≤ 6 → r ≠ 3 ∨ s.boot.warmHeld = false → ∃ u, exec (.railExcursion t r past) s = .next u ∧ u.newel.faultCause = s.newel.faultCause ||| 64 ∧
        let cause := r + (if past then 32 else 16)
        u.power = (if s.newel.faultCause.testBit 6 = false then { s.power with faultCause := cause, faultAt := max s.now t }
          else if s.power.faultAt = max s.now t then { s.power with faultCause := bothCauses s.power.faultCause cause } else s.power) ∧
        (s.newel.running = true → u.newel.pins.fault = true ∧ u.newel.pins.safeState = true ∧ u.newel.pins.planOk = false) ∧ (s.newel.faultCause.testBit 6 = false → Raised s u 0x0A01)))

/-- One step: the command at the front of the queue takes effect with the queue's rest; on an empty queue the block idles (the model's choice, log entry 1). -/
def Obligations.AStepRunsTheFrontCommand : Prop :=
  ∀ (s : State) (c : Instr) (q : List Instr),
    (s.pending = c :: q → step s = exec c { s with pending := q } ∧ core.step s = step s) ∧ (s.pending = [] → step s = .next s)

/-- R59, R66, R145, R458, R461, R491, R524, R536: what power-on reset holds; the values the spec gives. The queue and the tables are the model's, and are empty. -/
def Obligations.ResetStandsAsTheSpecGives : Prop :=
  let r := State.reset
  core.reset = r ∧ r.newel.pins.fault = true ∧ r.newel.pins.safeState = true ∧ r.newel.pins.planOk = false ∧ r.newel.pins.ready = false ∧ r.newel.faultCause = 0 ∧ r.newel.degraded = 0 ∧
    r.boot.ready = false ∧ r.boot.stage = 0 ∧ r.boot.status = 0 ∧ r.power.target = 0x3F47AE14#32 ∧ r.power.step = 0 ∧ r.ctl.st = .idle ∧ r.ctl.activeSetId = 0 ∧ r.ctl.committed = false ∧
    r.tb.st = .acquiring ∧ r.frameLock = false ∧ (∀ i j, r.dict.activeVal i j = r.dict.default i j) ∧ r.dict.shadow = [] ∧ (∀ x ∈ r.boot.models, x.st = .empty) ∧
    r.host.rings = [] ∧ r.host.journal = [] ∧ r.odp.sessions = [] ∧ r.pub.history = none ∧ r.frames = [] ∧ r.pending = [] ∧ StoresInOrder r ∧ NumbersUnique r

/-- Every command keeps the dictionary's tables, the self-test courses, the host buffer, the tally and working areas and every processor's registers in their canonical form. -/
def Obligations.EveryStepKeepsTheStoresInOrder : Prop := ∀ s t : State, StoresInOrder s → step s = .next t → StoresInOrder t

/-- Every step takes the command at the front of the queue and no other, and always answers a next state; the numbers of items, records and plans stay unique. -/
def Obligations.EveryStepTakesOneCommandAndKeepsNumbersUnique : Prop :=
  ∀ s : State, ∃ t, step s = .next t ∧ t.pending = s.pending.tail ∧ (NumbersUnique s → NumbersUnique t)
end

