-- ==== Sys2Proof/Laws/Assoc.lean ====
section
/-!
SUPPORT. Laws of finite maps and of byte memories: what reading after writing gives, and that every operation keeps the canonical form.
-/
namespace Sys2Proof.Machine
open Sys2Proof

/-! Finite maps -/

theorem alGet_alSet_same {α : Type} (k : Nat) (v : α) (m : List (Nat × α)) : alGet k (alSet k v m) = some v := by
  induction m with
  | nil => simp [alSet, alGet]
  | cons x rest ih =>
    obtain ⟨j, w⟩ := x
    by_cases h : k < j
    · simp [alSet, alGet, h]
    · by_cases e : j = k <;> simp [alSet, alGet, h, e, ih]

theorem alGet_alSet_other {α : Type} {i k : Nat} (h : i ≠ k) (v : α) (m : List (Nat × α)) : alGet i (alSet k v m) = alGet i m := by
  induction m with
  | nil => simp [alSet, alGet, Ne.symm h]
  | cons x rest ih =>
    obtain ⟨j, w⟩ := x
    by_cases l : k < j
    · simp [alSet, alGet, l, Ne.symm h]
    · by_cases e : j = k
      · subst e; simp [alSet, alGet, Ne.symm h]
      · by_cases f : j = i
        · subst f; simp [alSet, alGet, l, e]
        · simp [alSet, alGet, l, e, f, ih]

/-- Every key of the map is above `lo`. -/
def alAbove {α : Type} (lo : Nat) (m : List (Nat × α)) : Prop := ∀ x ∈ m, lo < x.1

theorem alSorted_cons {α : Type} (j : Nat) (w : α) (m : List (Nat × α)) : alSorted ((j, w) :: m) = true ↔ alAbove j m ∧ alSorted m = true := by
  induction m generalizing j w with
  | nil => simp [alSorted, alAbove]
  | cons x rest ih =>
    obtain ⟨k, v⟩ := x
    constructor
    · intro h
      simp only [alSorted, Bool.and_eq_true, decide_eq_true_eq] at h
      refine ⟨fun y hy => ?_, h.2⟩
      rcases List.mem_cons.1 hy with rfl | hy
      · exact h.1
      · exact lt_trans h.1 (((ih k v).1 h.2).1 y hy)
    · rintro ⟨a, h⟩
      simp only [alSorted, Bool.and_eq_true, decide_eq_true_eq]
      exact ⟨a (k, v) (List.mem_cons_self ..), h⟩

theorem alAbove_alSet {α : Type} {lo k : Nat} {v : α} {m : List (Nat × α)} (h : lo < k) (a : alAbove lo m) : alAbove lo (alSet k v m) := by
  induction m with
  | nil => simpa [alSet, alAbove] using h
  | cons x rest ih =>
    obtain ⟨j, w⟩ := x
    have aj : lo < j := a (j, w) (List.mem_cons_self ..)
    have ar : alAbove lo rest := fun y hy => a y (List.mem_cons_of_mem _ hy)
    intro y hy
    by_cases l : k < j
    · simp only [alSet, l, if_true] at hy
      rcases List.mem_cons.1 hy with rfl | hy
      · exact h
      · exact a y hy
    · by_cases e : j = k
      · subst e; simp only [alSet, lt_irrefl, if_false, beq_self_eq_true, if_true] at hy
        rcases List.mem_cons.1 hy with rfl | hy
        · exact h
        · exact ar y hy
      · simp only [alSet, l, beq_iff_eq, e, if_false] at hy
        rcases List.mem_cons.1 hy with rfl | hy
        · exact aj
        · exact ih ar y hy

/-- Putting a value keeps the keys rising. -/
theorem alSorted_alSet {α : Type} (k : Nat) (v : α) {m : List (Nat × α)} (h : alSorted m = true) : alSorted (alSet k v m) = true := by
  induction m with
  | nil => simp [alSet, alSorted]
  | cons x rest ih =>
    obtain ⟨j, w⟩ := x
    obtain ⟨a, s⟩ := (alSorted_cons j w rest).1 h
    by_cases l : k < j
    · simp only [alSet, l, if_true]
      exact (alSorted_cons ..).2 ⟨fun y hy => by rcases List.mem_cons.1 hy with rfl | hy; exacts [l, lt_trans l (a y hy)], h⟩
    · by_cases e : j = k
      · subst e; simp only [alSet, lt_irrefl, if_false, beq_self_eq_true, if_true]
        exact (alSorted_cons ..).2 ⟨a, s⟩
      · simp only [alSet, l, beq_iff_eq, e, if_false]
        exact (alSorted_cons ..).2 ⟨alAbove_alSet (by omega) a, ih s⟩

/-- A part of a map with rising keys has rising keys. -/
theorem alSorted_sublist {α : Type} {l m : List (Nat × α)} (h : l.Sublist m) (s : alSorted m = true) : alSorted l = true := by
  induction h with
  | slnil => exact s
  | cons x _ ih => exact ih ((alSorted_cons x.1 x.2 _).1 s).2
  | cons_cons x sub ih =>
    obtain ⟨a, s'⟩ := (alSorted_cons x.1 x.2 _).1 s
    exact (alSorted_cons x.1 x.2 _).2 ⟨fun y hy => a y (sub.subset hy), ih s'⟩

theorem alErase_sublist {α : Type} (k : Nat) (m : List (Nat × α)) : (alErase k m).Sublist m := by
  induction m with
  | nil => exact .slnil
  | cons x rest ih =>
    obtain ⟨j, w⟩ := x
    by_cases e : j = k
    · simp [alErase, e]
    · simpa [alErase, e] using ih

/-- Removing a key keeps the keys rising. -/
theorem alSorted_alErase {α : Type} (k : Nat) {m : List (Nat × α)} (h : alSorted m = true) : alSorted (alErase k m) = true :=
  alSorted_sublist (alErase_sublist k m) h

theorem alGet_alErase_same {α : Type} (k : Nat) {m : List (Nat × α)} (h : alSorted m = true) : alGet k (alErase k m) = none := by
  have none_above : ∀ {l : List (Nat × α)}, alAbove k l → alGet k l = none := by
    intro l a
    induction l with
    | nil => rfl
    | cons x rest ih =>
      obtain ⟨j, w⟩ := x
      have : j ≠ k := by have := a (j, w) (List.mem_cons_self ..); simp at this; omega
      simpa [alGet, this] using ih (fun y hy => a y (List.mem_cons_of_mem _ hy))
  induction m with
  | nil => rfl
  | cons x rest ih =>
    obtain ⟨j, w⟩ := x
    obtain ⟨a, s⟩ := (alSorted_cons j w rest).1 h
    by_cases e : j = k
    · subst e; simpa [alErase] using none_above a
    · simpa [alErase, alGet, e] using ih s

theorem alGet_alErase_other {α : Type} {i k : Nat} (h : i ≠ k) (m : List (Nat × α)) : alGet i (alErase k m) = alGet i m := by
  induction m with
  | nil => rfl
  | cons x rest ih =>
    obtain ⟨j, w⟩ := x
    by_cases e : j = k
    · subst e; simp [alErase, alGet, Ne.symm h]
    · by_cases f : j = i
      · subst f; simp [alErase, alGet, e]
      · simp [alErase, alGet, e, f, ih]

/-! Byte memories -/

theorem memRead_memWrite_same (a : Nat) (b : Byte) {m : List Host.Cell} (h : memWf m = true) : memRead a (memWrite a b m) = b := by
  have above : ∀ {l : List Host.Cell} {lo : Nat} {v : Byte}, memWf ((lo, v) :: l) = true → a ≤ lo → memRead a l = 0#8 := by
    intro l
    induction l with
    | nil => intro _ _ _ _; rfl
    | cons x rest ih =>
      intro lo v w l'
      obtain ⟨k, u⟩ := x
      simp only [memWf, Bool.and_eq_true, decide_eq_true_eq] at w
      have : k ≠ a := by omega
      simpa [memRead, this] using ih w.2 (by omega)
  induction m with
  | nil => by_cases z : b = 0#8 <;> simp [memWrite, memRead, z]
  | cons x rest ih =>
    obtain ⟨j, v⟩ := x
    by_cases l : a < j
    · by_cases z : b = 0#8
      · simp [memWrite, memRead, l, z, show j ≠ a by omega, above h (by omega)]
      · simp [memWrite, memRead, l, z]
    · by_cases e : j = a
      · subst e
        by_cases z : b = 0#8
        · simp [memWrite, z, above h (le_refl _)]
        · simp [memWrite, memRead, z]
      · have hr : memWf rest = true := by
          cases rest with
          | nil => rfl
          | cons y r => obtain ⟨k, u⟩ := y; simp only [memWf, Bool.and_eq_true] at h; exact h.2
        simp [memWrite, memRead, l, e, ih hr]

theorem memRead_memWrite_other {i a : Nat} (h : i ≠ a) (b : Byte) (m : List Host.Cell) (w : memWf m = true) : memRead i (memWrite a b m) = memRead i m := by
  induction m with
  | nil => by_cases z : b = 0#8 <;> simp [memWrite, memRead, z, Ne.symm h]
  | cons x rest ih =>
    obtain ⟨j, v⟩ := x
    have hr : memWf rest = true := by
      cases rest with
      | nil => rfl
      | cons y r => obtain ⟨k, u⟩ := y; simp only [memWf, Bool.and_eq_true] at w; exact w.2
    by_cases l : a < j
    · by_cases z : b = 0#8 <;> simp [memWrite, memRead, l, z, Ne.symm h]
    · by_cases e : j = a
      · subst e; by_cases z : b = 0#8 <;> simp [memWrite, memRead, z, Ne.symm h]
      · by_cases f : j = i
        · subst f; simp [memWrite, memRead, l, e]
        · simp [memWrite, memRead, l, e, f, ih hr]

/-- Every address of the memory is above `lo`, and no byte listed is zero. -/
def memAbove (lo : Nat) (m : List Host.Cell) : Prop := ∀ x ∈ m, lo < x.1

theorem memWf_cons (j : Nat) (v : Byte) (m : List Host.Cell) : memWf ((j, v) :: m) = true ↔ v ≠ 0#8 ∧ memAbove j m ∧ memWf m = true := by
  induction m generalizing j v with
  | nil => simp [memWf, memAbove]
  | cons x rest ih =>
    obtain ⟨k, u⟩ := x
    constructor
    · intro h
      simp only [memWf, Bool.and_eq_true, decide_eq_true_eq, bne_iff_ne] at h
      refine ⟨h.1.1, fun y hy => ?_, h.2⟩
      rcases List.mem_cons.1 hy with rfl | hy
      · exact h.1.2
      · exact lt_trans h.1.2 (((ih k u).1 h.2).2.1 y hy)
    · rintro ⟨z, a, h⟩
      simp only [memWf, Bool.and_eq_true, decide_eq_true_eq, bne_iff_ne]
      exact ⟨⟨z, a (k, u) (List.mem_cons_self ..)⟩, h⟩

theorem memAbove_memWrite {lo a : Nat} {b : Byte} {m : List Host.Cell} (h : lo < a) (s : memAbove lo m) : memAbove lo (memWrite a b m) := by
  induction m with
  | nil => by_cases z : b = 0#8 <;> simp [memWrite, memAbove, z, h]
  | cons x rest ih =>
    obtain ⟨j, v⟩ := x
    have sr : memAbove lo rest := fun y hy => s y (List.mem_cons_of_mem _ hy)
    have sj : lo < j := s (j, v) (List.mem_cons_self ..)
    intro y hy
    by_cases l : a < j
    · by_cases z : b = 0#8
      · exact s y (by simpa [memWrite, l, z] using hy)
      · simp only [memWrite, l, if_true, beq_iff_eq, z, if_false] at hy
        rcases List.mem_cons.1 hy with rfl | hy
        · exact h
        · exact s y hy
    · by_cases e : j = a
      · by_cases z : b = 0#8
        · exact sr y (by simpa [memWrite, l, e, z] using hy)
        · subst e; simp only [memWrite, lt_irrefl, beq_self_eq_true, beq_iff_eq, z, if_false, if_true] at hy
          rcases List.mem_cons.1 hy with rfl | hy
          · exact h
          · exact sr y hy
      · simp only [memWrite, l, beq_iff_eq, e, if_false] at hy
        rcases List.mem_cons.1 hy with rfl | hy
        · exact sj
        · exact ih sr y hy

/-- Writing a byte keeps the canonical form. -/
theorem memWf_memWrite (a : Nat) (b : Byte) {m : List Host.Cell} (h : memWf m = true) : memWf (memWrite a b m) = true := by
  induction m with
  | nil => by_cases z : b = 0#8 <;> simp [memWrite, memWf, z]
  | cons x rest ih =>
    obtain ⟨j, v⟩ := x
    obtain ⟨zv, s, hr⟩ := (memWf_cons j v rest).1 h
    by_cases l : a < j
    · by_cases z : b = 0#8
      · simpa [memWrite, l, z] using h
      · simp only [memWrite, l, if_true, beq_iff_eq, z, if_false]
        exact (memWf_cons ..).2 ⟨z, fun y hy => by rcases List.mem_cons.1 hy with rfl | hy; exacts [l, lt_trans l (s y hy)], h⟩
    · by_cases e : j = a
      · by_cases z : b = 0#8
        · simpa [memWrite, l, e, z] using hr
        · subst e; simp only [memWrite, lt_irrefl, if_false, beq_self_eq_true, if_true, beq_iff_eq, z]
          exact (memWf_cons ..).2 ⟨z, s, hr⟩
      · simp only [memWrite, l, beq_iff_eq, e, if_false]
        exact (memWf_cons ..).2 ⟨zv, memAbove_memWrite (by omega) s, ih hr⟩

/-- Writing bytes keeps the canonical form. -/
theorem memWf_memWriteBytes (bs : List Byte) (a : Nat) {m : List Host.Cell} (h : memWf m = true) : memWf (memWriteBytes m a bs) = true := by
  induction bs generalizing a m with
  | nil => exact h
  | cons b bs ih => exact ih (a + 1) (memWf_memWrite a b h)

/-- Storing a number keeps the canonical form. -/
theorem memWf_memWriteNat (a n x : Nat) {m : List Host.Cell} (h : memWf m = true) : memWf (memWriteNat m a n x) = true := memWf_memWriteBytes _ a h

/-- A memory made of any cells is in its canonical form. -/
theorem memWf_memOf (cells : List Host.Cell) : memWf (memOf cells) = true := by
  suffices h : ∀ (cs m : List Host.Cell), memWf m = true → memWf (cs.foldl (fun m c => memWrite c.1 c.2 m) m) = true from h cells [] rfl
  intro cs
  induction cs with
  | nil => exact fun _ h => h
  | cons c cs ih => exact fun m h => ih _ (memWf_memWrite _ _ h)

/-- A part of a memory in canonical form is in canonical form. -/
theorem memWf_sublist {l m : List Host.Cell} (h : l.Sublist m) (s : memWf m = true) : memWf l = true := by
  induction h with
  | slnil => exact s
  | cons x _ ih => exact ih ((memWf_cons x.1 x.2 _).1 s).2.2
  | cons_cons x sub ih =>
    obtain ⟨z, a, s'⟩ := (memWf_cons x.1 x.2 _).1 s
    exact (memWf_cons x.1 x.2 _).2 ⟨z, fun y hy => a y (sub.subset hy), ih s'⟩

/-- Clearing a range keeps the canonical form. -/
theorem memWf_memClear (lo hi : Nat) {m : List Host.Cell} (h : memWf m = true) : memWf (memClear lo hi m) = true := memWf_sublist List.filter_sublist h

/-- Bytes outside what is written read as before. -/
theorem memRead_memWriteBytes_other (bs : List Byte) {i a : Nat} (h : i < a ∨ a + bs.length ≤ i) {m : List Host.Cell} (w : memWf m = true) :
    memRead i (memWriteBytes m a bs) = memRead i m := by
  induction bs generalizing a m with
  | nil => rfl
  | cons b bs ih =>
    simp only [List.length_cons] at h
    rw [memWriteBytes, ih (by omega) (memWf_memWrite a b w), memRead_memWrite_other (by omega) b m w]

/-- The bytes written read back. -/
theorem memReadBytes_memWriteBytes (bs : List Byte) (a : Nat) {m : List Host.Cell} (w : memWf m = true) : memReadBytes (memWriteBytes m a bs) a bs.length = bs := by
  induction bs generalizing a m with
  | nil => rfl
  | cons b bs ih =>
    simp only [List.length_cons, memReadBytes, memWriteBytes]
    rw [ih (a + 1) (memWf_memWrite a b w), memRead_memWriteBytes_other bs (by omega) (memWf_memWrite a b w), memRead_memWrite_same a b w]

end Sys2Proof.Machine
end

