-- ==== Sys2Proof/Laws/Bytes.lean ====
section
/-!
SUPPORT. What the byte helpers give: lengths, numbers written and read back, and the field of a list that was built from fields.
-/
namespace Sys2Proof.Machine
open Sys2Proof

@[simp] theorem leBytes_length (n x : Nat) : (leBytes n x).length = n := by
  induction n generalizing x with
  | zero => rfl
  | succ n ih => simp [leBytes, ih]

@[simp] theorem leNat_leBytes (n x : Nat) : leNat (leBytes n x) = x % 256 ^ n := by
  induction n generalizing x with
  | zero => simp [leBytes, leNat, Nat.mod_one]
  | succ n ih =>
    simp only [leBytes, leNat, ih, BitVec.toNat_ofNat]
    rw [show 256 ^ (n + 1) = 256 * 256 ^ n by rw [Nat.pow_succ, Nat.mul_comm], Nat.mod_mul]

theorem leNat_lt (b : List Byte) : leNat b < 256 ^ b.length := by
  induction b with
  | nil => simp [leNat]
  | cons x xs ih =>
    have hx := x.isLt
    simp only [leNat, List.length_cons, Nat.pow_succ]
    omega

/-- A slice that lies within the bytes. -/
theorem slice_eq (b : List Byte) (o n : Nat) (h : o + n ≤ b.length) : slice b o n = (b.drop o).take n := by
  simp only [slice, List.length_take, List.length_drop]
  rw [show n - min n (b.length - o) = 0 by omega]
  simp

@[simp] theorem slice_length (b : List Byte) (o n : Nat) : (slice b o n).length = n := by
  simp only [slice, List.length_append, List.length_take, List.length_drop, List.length_replicate]
  omega

theorem fieldAt_lt (b : List Byte) (o n : Nat) : fieldAt b o n < 256 ^ n := by
  have h := leNat_lt (slice b o n)
  rwa [slice_length] at h

/-- The field that stands after `a`. -/
theorem fieldAt_append (a b c : List Byte) (n : Nat) (h : b.length = n) : fieldAt (a ++ (b ++ c)) a.length n = leNat b := by
  unfold fieldAt
  rw [slice_eq _ _ _ (by simp only [List.length_append]; omega)]
  simp [← h]

theorem fieldAt_leBytes (a c : List Byte) (n x : Nat) : fieldAt (a ++ (leBytes n x ++ c)) a.length n = x % 256 ^ n := by
  rw [fieldAt_append a (leBytes n x) c n (leBytes_length n x), leNat_leBytes]

/-- Bytes that begin `o` bytes after `a`. -/
theorem slice_append_right (a c : List Byte) (o n : Nat) : slice (a ++ c) (a.length + o) n = slice c o n := by
  simp only [slice, List.drop_append, List.drop_of_length_le (show a.length ≤ a.length + o by omega), List.nil_append, Nat.add_sub_cancel_left]

/-- A field that begins `o` bytes after `a`. -/
theorem fieldAt_append_right (a c : List Byte) (o n : Nat) : fieldAt (a ++ c) (a.length + o) n = fieldAt c o n := by rw [fieldAt, slice_append_right, fieldAt]

/-- A field that lies within `a`. -/
theorem fieldAt_append_left (a c : List Byte) (o n : Nat) (h : o + n ≤ a.length) : fieldAt (a ++ c) o n = fieldAt a o n := by
  rw [fieldAt, fieldAt, slice_eq _ _ _ (by simp only [List.length_append]; omega), slice_eq _ _ _ h, List.drop_append_of_le_length (by omega),
    List.take_append_of_le_length (by simp only [List.length_drop]; omega)]

theorem first64_lt (d : List Byte) : first64 d < 2 ^ 64 := by
  have h := leNat_lt (d.take 8)
  have h2 : 256 ^ (d.take 8).length ≤ 256 ^ 8 := Nat.pow_le_pow_right (by decide) (by simp only [List.length_take]; omega)
  unfold first64
  omega

end Sys2Proof.Machine
end

