-- ==== Sys2Proof/Laws/State.lean ====
section
/-!
SUPPORT. What each named update of the state changes, field by field: the field it names takes its new value, and every other field is what it was.
-/
namespace Sys2Proof.Machine
open Sys2Proof

variable (s : State)

@[simp] theorem State.at_now (t : Nat) : (s.at t).now = max s.now t := rfl
@[simp] theorem State.at_pending (t : Nat) : (s.at t).pending = s.pending := rfl
@[simp] theorem State.at_dict (t : Nat) : (s.at t).dict = s.dict := rfl
@[simp] theorem State.at_ctl (t : Nat) : (s.at t).ctl = s.ctl := rfl
@[simp] theorem State.at_odp (t : Nat) : (s.at t).odp = s.odp := rfl
@[simp] theorem State.at_rule (t : Nat) : (s.at t).rule = s.rule := rfl
@[simp] theorem State.at_tb (t : Nat) : (s.at t).tb = s.tb := rfl
@[simp] theorem State.at_frames (t : Nat) : (s.at t).frames = s.frames := rfl
@[simp] theorem State.at_host (t : Nat) : (s.at t).host = s.host := rfl
@[simp] theorem State.at_world (t : Nat) : (s.at t).world = s.world := rfl
@[simp] theorem State.at_mem (t : Nat) : (s.at t).mem = s.mem := rfl
@[simp] theorem State.at_eng (t : Nat) : (s.at t).eng = s.eng := rfl
@[simp] theorem State.at_disp (t : Nat) : (s.at t).disp = s.disp := rfl
@[simp] theorem State.at_pub (t : Nat) : (s.at t).pub = s.pub := rfl
@[simp] theorem State.at_newel (t : Nat) : (s.at t).newel = s.newel := rfl
@[simp] theorem State.at_clocks (t : Nat) : (s.at t).clocks = s.clocks := rfl
@[simp] theorem State.at_power (t : Nat) : (s.at t).power = s.power := rfl
@[simp] theorem State.at_boot (t : Nat) : (s.at t).boot = s.boot := rfl
@[simp] theorem State.at_group (t : Nat) : (s.at t).group = s.group := rfl
@[simp] theorem State.at_det (t : Nat) : (s.at t).det = s.det := rfl
@[simp] theorem State.at_events (t : Nat) : (s.at t).events = s.events := rfl
@[simp] theorem State.at_wire (t : Nat) : (s.at t).wire = s.wire := rfl
@[simp] theorem State.at_draws (t : Nat) : (s.at t).draws = s.draws := rfl

@[simp] theorem State.atTick_now (t : Nat) : (s.atTick t).now = max s.now ((t : Int) - s.tb.tickOffset).toNat := rfl
@[simp] theorem State.atTick_pending (t : Nat) : (s.atTick t).pending = s.pending := rfl
@[simp] theorem State.atTick_dict (t : Nat) : (s.atTick t).dict = s.dict := rfl
@[simp] theorem State.atTick_ctl (t : Nat) : (s.atTick t).ctl = s.ctl := rfl
@[simp] theorem State.atTick_odp (t : Nat) : (s.atTick t).odp = s.odp := rfl
@[simp] theorem State.atTick_rule (t : Nat) : (s.atTick t).rule = s.rule := rfl
@[simp] theorem State.atTick_tb (t : Nat) : (s.atTick t).tb = s.tb := rfl
@[simp] theorem State.atTick_frames (t : Nat) : (s.atTick t).frames = s.frames := rfl
@[simp] theorem State.atTick_host (t : Nat) : (s.atTick t).host = s.host := rfl
@[simp] theorem State.atTick_world (t : Nat) : (s.atTick t).world = s.world := rfl
@[simp] theorem State.atTick_mem (t : Nat) : (s.atTick t).mem = s.mem := rfl
@[simp] theorem State.atTick_eng (t : Nat) : (s.atTick t).eng = s.eng := rfl
@[simp] theorem State.atTick_disp (t : Nat) : (s.atTick t).disp = s.disp := rfl
@[simp] theorem State.atTick_pub (t : Nat) : (s.atTick t).pub = s.pub := rfl
@[simp] theorem State.atTick_newel (t : Nat) : (s.atTick t).newel = s.newel := rfl
@[simp] theorem State.atTick_clocks (t : Nat) : (s.atTick t).clocks = s.clocks := rfl
@[simp] theorem State.atTick_power (t : Nat) : (s.atTick t).power = s.power := rfl
@[simp] theorem State.atTick_boot (t : Nat) : (s.atTick t).boot = s.boot := rfl
@[simp] theorem State.atTick_group (t : Nat) : (s.atTick t).group = s.group := rfl
@[simp] theorem State.atTick_det (t : Nat) : (s.atTick t).det = s.det := rfl
@[simp] theorem State.atTick_events (t : Nat) : (s.atTick t).events = s.events := rfl
@[simp] theorem State.atTick_wire (t : Nat) : (s.atTick t).wire = s.wire := rfl
@[simp] theorem State.atTick_draws (t : Nat) : (s.atTick t).draws = s.draws := rfl

@[simp] theorem State.atTime_now (t : Nat) : (s.atTime t).now = max s.now ((t : Int) - s.tb.tbOffset).toNat := rfl
@[simp] theorem State.atTime_pending (t : Nat) : (s.atTime t).pending = s.pending := rfl
@[simp] theorem State.atTime_dict (t : Nat) : (s.atTime t).dict = s.dict := rfl
@[simp] theorem State.atTime_ctl (t : Nat) : (s.atTime t).ctl = s.ctl := rfl
@[simp] theorem State.atTime_odp (t : Nat) : (s.atTime t).odp = s.odp := rfl
@[simp] theorem State.atTime_rule (t : Nat) : (s.atTime t).rule = s.rule := rfl
@[simp] theorem State.atTime_tb (t : Nat) : (s.atTime t).tb = s.tb := rfl
@[simp] theorem State.atTime_frames (t : Nat) : (s.atTime t).frames = s.frames := rfl
@[simp] theorem State.atTime_host (t : Nat) : (s.atTime t).host = s.host := rfl
@[simp] theorem State.atTime_world (t : Nat) : (s.atTime t).world = s.world := rfl
@[simp] theorem State.atTime_mem (t : Nat) : (s.atTime t).mem = s.mem := rfl
@[simp] theorem State.atTime_eng (t : Nat) : (s.atTime t).eng = s.eng := rfl
@[simp] theorem State.atTime_disp (t : Nat) : (s.atTime t).disp = s.disp := rfl
@[simp] theorem State.atTime_pub (t : Nat) : (s.atTime t).pub = s.pub := rfl
@[simp] theorem State.atTime_newel (t : Nat) : (s.atTime t).newel = s.newel := rfl
@[simp] theorem State.atTime_clocks (t : Nat) : (s.atTime t).clocks = s.clocks := rfl
@[simp] theorem State.atTime_power (t : Nat) : (s.atTime t).power = s.power := rfl
@[simp] theorem State.atTime_boot (t : Nat) : (s.atTime t).boot = s.boot := rfl
@[simp] theorem State.atTime_group (t : Nat) : (s.atTime t).group = s.group := rfl
@[simp] theorem State.atTime_det (t : Nat) : (s.atTime t).det = s.det := rfl
@[simp] theorem State.atTime_events (t : Nat) : (s.atTime t).events = s.events := rfl
@[simp] theorem State.atTime_wire (t : Nat) : (s.atTime t).wire = s.wire := rfl
@[simp] theorem State.atTime_draws (t : Nat) : (s.atTime t).draws = s.draws := rfl

@[simp] theorem State.send_now (m : WireMsg) : (s.send m).now = s.now := rfl
@[simp] theorem State.send_pending (m : WireMsg) : (s.send m).pending = s.pending := rfl
@[simp] theorem State.send_dict (m : WireMsg) : (s.send m).dict = s.dict := rfl
@[simp] theorem State.send_ctl (m : WireMsg) : (s.send m).ctl = s.ctl := rfl
@[simp] theorem State.send_odp (m : WireMsg) : (s.send m).odp = s.odp := rfl
@[simp] theorem State.send_rule (m : WireMsg) : (s.send m).rule = s.rule := rfl
@[simp] theorem State.send_tb (m : WireMsg) : (s.send m).tb = s.tb := rfl
@[simp] theorem State.send_frames (m : WireMsg) : (s.send m).frames = s.frames := rfl
@[simp] theorem State.send_host (m : WireMsg) : (s.send m).host = s.host := rfl
@[simp] theorem State.send_world (m : WireMsg) : (s.send m).world = s.world := rfl
@[simp] theorem State.send_mem (m : WireMsg) : (s.send m).mem = s.mem := rfl
@[simp] theorem State.send_eng (m : WireMsg) : (s.send m).eng = s.eng := rfl
@[simp] theorem State.send_disp (m : WireMsg) : (s.send m).disp = s.disp := rfl
@[simp] theorem State.send_pub (m : WireMsg) : (s.send m).pub = s.pub := rfl
@[simp] theorem State.send_newel (m : WireMsg) : (s.send m).newel = s.newel := rfl
@[simp] theorem State.send_clocks (m : WireMsg) : (s.send m).clocks = s.clocks := rfl
@[simp] theorem State.send_power (m : WireMsg) : (s.send m).power = s.power := rfl
@[simp] theorem State.send_boot (m : WireMsg) : (s.send m).boot = s.boot := rfl
@[simp] theorem State.send_group (m : WireMsg) : (s.send m).group = s.group := rfl
@[simp] theorem State.send_det (m : WireMsg) : (s.send m).det = s.det := rfl
@[simp] theorem State.send_events (m : WireMsg) : (s.send m).events = s.events := rfl
@[simp] theorem State.send_wire (m : WireMsg) : (s.send m).wire = s.wire ++ [m] := rfl
@[simp] theorem State.send_draws (m : WireMsg) : (s.send m).draws = s.draws := rfl

@[simp] theorem State.setRing_now (r : Nat) (x : Ring) : (s.setRing r x).now = s.now := rfl
@[simp] theorem State.setRing_pending (r : Nat) (x : Ring) : (s.setRing r x).pending = s.pending := rfl
@[simp] theorem State.setRing_dict (r : Nat) (x : Ring) : (s.setRing r x).dict = s.dict := rfl
@[simp] theorem State.setRing_ctl (r : Nat) (x : Ring) : (s.setRing r x).ctl = s.ctl := rfl
@[simp] theorem State.setRing_odp (r : Nat) (x : Ring) : (s.setRing r x).odp = s.odp := rfl
@[simp] theorem State.setRing_rule (r : Nat) (x : Ring) : (s.setRing r x).rule = s.rule := rfl
@[simp] theorem State.setRing_tb (r : Nat) (x : Ring) : (s.setRing r x).tb = s.tb := rfl
@[simp] theorem State.setRing_frames (r : Nat) (x : Ring) : (s.setRing r x).frames = s.frames := rfl
@[simp] theorem State.setRing_host (r : Nat) (x : Ring) : (s.setRing r x).host = { s.host with rings := alSet r x s.host.rings } := rfl
@[simp] theorem State.setRing_world (r : Nat) (x : Ring) : (s.setRing r x).world = s.world := rfl
@[simp] theorem State.setRing_mem (r : Nat) (x : Ring) : (s.setRing r x).mem = s.mem := rfl
@[simp] theorem State.setRing_eng (r : Nat) (x : Ring) : (s.setRing r x).eng = s.eng := rfl
@[simp] theorem State.setRing_disp (r : Nat) (x : Ring) : (s.setRing r x).disp = s.disp := rfl
@[simp] theorem State.setRing_pub (r : Nat) (x : Ring) : (s.setRing r x).pub = s.pub := rfl
@[simp] theorem State.setRing_newel (r : Nat) (x : Ring) : (s.setRing r x).newel = s.newel := rfl
@[simp] theorem State.setRing_clocks (r : Nat) (x : Ring) : (s.setRing r x).clocks = s.clocks := rfl
@[simp] theorem State.setRing_power (r : Nat) (x : Ring) : (s.setRing r x).power = s.power := rfl
@[simp] theorem State.setRing_boot (r : Nat) (x : Ring) : (s.setRing r x).boot = s.boot := rfl
@[simp] theorem State.setRing_group (r : Nat) (x : Ring) : (s.setRing r x).group = s.group := rfl
@[simp] theorem State.setRing_det (r : Nat) (x : Ring) : (s.setRing r x).det = s.det := rfl
@[simp] theorem State.setRing_events (r : Nat) (x : Ring) : (s.setRing r x).events = s.events := rfl
@[simp] theorem State.setRing_wire (r : Nat) (x : Ring) : (s.setRing r x).wire = s.wire := rfl
@[simp] theorem State.setRing_draws (r : Nat) (x : Ring) : (s.setRing r x).draws = s.draws := rfl

@[simp] theorem State.setObj_now (i j n : Nat) : (s.setObj i j n).now = s.now := rfl
@[simp] theorem State.setObj_pending (i j n : Nat) : (s.setObj i j n).pending = s.pending := rfl
@[simp] theorem State.setObj_dict (i j n : Nat) : (s.setObj i j n).dict = s.dict.setActive i j (.num n) := rfl
@[simp] theorem State.setObj_ctl (i j n : Nat) : (s.setObj i j n).ctl = s.ctl := rfl
@[simp] theorem State.setObj_odp (i j n : Nat) : (s.setObj i j n).odp = s.odp := rfl
@[simp] theorem State.setObj_rule (i j n : Nat) : (s.setObj i j n).rule = s.rule := rfl
@[simp] theorem State.setObj_tb (i j n : Nat) : (s.setObj i j n).tb = s.tb := rfl
@[simp] theorem State.setObj_frames (i j n : Nat) : (s.setObj i j n).frames = s.frames := rfl
@[simp] theorem State.setObj_host (i j n : Nat) : (s.setObj i j n).host = s.host := rfl
@[simp] theorem State.setObj_world (i j n : Nat) : (s.setObj i j n).world = s.world := rfl
@[simp] theorem State.setObj_mem (i j n : Nat) : (s.setObj i j n).mem = s.mem := rfl
@[simp] theorem State.setObj_eng (i j n : Nat) : (s.setObj i j n).eng = s.eng := rfl
@[simp] theorem State.setObj_disp (i j n : Nat) : (s.setObj i j n).disp = s.disp := rfl
@[simp] theorem State.setObj_pub (i j n : Nat) : (s.setObj i j n).pub = s.pub := rfl
@[simp] theorem State.setObj_newel (i j n : Nat) : (s.setObj i j n).newel = s.newel := rfl
@[simp] theorem State.setObj_clocks (i j n : Nat) : (s.setObj i j n).clocks = s.clocks := rfl
@[simp] theorem State.setObj_power (i j n : Nat) : (s.setObj i j n).power = s.power := rfl
@[simp] theorem State.setObj_boot (i j n : Nat) : (s.setObj i j n).boot = s.boot := rfl
@[simp] theorem State.setObj_group (i j n : Nat) : (s.setObj i j n).group = s.group := rfl
@[simp] theorem State.setObj_det (i j n : Nat) : (s.setObj i j n).det = s.det := rfl
@[simp] theorem State.setObj_events (i j n : Nat) : (s.setObj i j n).events = s.events := rfl
@[simp] theorem State.setObj_wire (i j n : Nat) : (s.setObj i j n).wire = s.wire := rfl
@[simp] theorem State.setObj_draws (i j n : Nat) : (s.setObj i j n).draws = s.draws := rfl

@[simp] theorem State.modTb_now (f : Timebase → Timebase) : (s.modTb f).now = s.now := rfl
@[simp] theorem State.modTb_pending (f : Timebase → Timebase) : (s.modTb f).pending = s.pending := rfl
@[simp] theorem State.modTb_dict (f : Timebase → Timebase) : (s.modTb f).dict = s.dict := rfl
@[simp] theorem State.modTb_ctl (f : Timebase → Timebase) : (s.modTb f).ctl = s.ctl := rfl
@[simp] theorem State.modTb_odp (f : Timebase → Timebase) : (s.modTb f).odp = s.odp := rfl
@[simp] theorem State.modTb_rule (f : Timebase → Timebase) : (s.modTb f).rule = s.rule := rfl
@[simp] theorem State.modTb_tb (f : Timebase → Timebase) : (s.modTb f).tb = f s.tb := rfl
@[simp] theorem State.modTb_frames (f : Timebase → Timebase) : (s.modTb f).frames = s.frames := rfl
@[simp] theorem State.modTb_host (f : Timebase → Timebase) : (s.modTb f).host = s.host := rfl
@[simp] theorem State.modTb_world (f : Timebase → Timebase) : (s.modTb f).world = s.world := rfl
@[simp] theorem State.modTb_mem (f : Timebase → Timebase) : (s.modTb f).mem = s.mem := rfl
@[simp] theorem State.modTb_eng (f : Timebase → Timebase) : (s.modTb f).eng = s.eng := rfl
@[simp] theorem State.modTb_disp (f : Timebase → Timebase) : (s.modTb f).disp = s.disp := rfl
@[simp] theorem State.modTb_pub (f : Timebase → Timebase) : (s.modTb f).pub = s.pub := rfl
@[simp] theorem State.modTb_newel (f : Timebase → Timebase) : (s.modTb f).newel = s.newel := rfl
@[simp] theorem State.modTb_clocks (f : Timebase → Timebase) : (s.modTb f).clocks = s.clocks := rfl
@[simp] theorem State.modTb_power (f : Timebase → Timebase) : (s.modTb f).power = s.power := rfl
@[simp] theorem State.modTb_boot (f : Timebase → Timebase) : (s.modTb f).boot = s.boot := rfl
@[simp] theorem State.modTb_group (f : Timebase → Timebase) : (s.modTb f).group = s.group := rfl
@[simp] theorem State.modTb_det (f : Timebase → Timebase) : (s.modTb f).det = s.det := rfl
@[simp] theorem State.modTb_events (f : Timebase → Timebase) : (s.modTb f).events = s.events := rfl
@[simp] theorem State.modTb_wire (f : Timebase → Timebase) : (s.modTb f).wire = s.wire := rfl
@[simp] theorem State.modTb_draws (f : Timebase → Timebase) : (s.modTb f).draws = s.draws := rfl

@[simp] theorem State.modWork_now (n : Nat) (f : FrameWork → FrameWork) : (s.modWork n f).now = s.now := rfl
@[simp] theorem State.modWork_pending (n : Nat) (f : FrameWork → FrameWork) : (s.modWork n f).pending = s.pending := rfl
@[simp] theorem State.modWork_dict (n : Nat) (f : FrameWork → FrameWork) : (s.modWork n f).dict = s.dict := rfl
@[simp] theorem State.modWork_ctl (n : Nat) (f : FrameWork → FrameWork) : (s.modWork n f).ctl = s.ctl := rfl
@[simp] theorem State.modWork_odp (n : Nat) (f : FrameWork → FrameWork) : (s.modWork n f).odp = s.odp := rfl
@[simp] theorem State.modWork_rule (n : Nat) (f : FrameWork → FrameWork) : (s.modWork n f).rule = s.rule := rfl
@[simp] theorem State.modWork_tb (n : Nat) (f : FrameWork → FrameWork) : (s.modWork n f).tb = s.tb := rfl
@[simp] theorem State.modWork_frames (n : Nat) (f : FrameWork → FrameWork) : (s.modWork n f).frames = modFirst (fun w => w.frame == n) f s.frames := rfl
@[simp] theorem State.modWork_host (n : Nat) (f : FrameWork → FrameWork) : (s.modWork n f).host = s.host := rfl
@[simp] theorem State.modWork_world (n : Nat) (f : FrameWork → FrameWork) : (s.modWork n f).world = s.world := rfl
@[simp] theorem State.modWork_mem (n : Nat) (f : FrameWork → FrameWork) : (s.modWork n f).mem = s.mem := rfl
@[simp] theorem State.modWork_eng (n : Nat) (f : FrameWork → FrameWork) : (s.modWork n f).eng = s.eng := rfl
@[simp] theorem State.modWork_disp (n : Nat) (f : FrameWork → FrameWork) : (s.modWork n f).disp = s.disp := rfl
@[simp] theorem State.modWork_pub (n : Nat) (f : FrameWork → FrameWork) : (s.modWork n f).pub = s.pub := rfl
@[simp] theorem State.modWork_newel (n : Nat) (f : FrameWork → FrameWork) : (s.modWork n f).newel = s.newel := rfl
@[simp] theorem State.modWork_clocks (n : Nat) (f : FrameWork → FrameWork) : (s.modWork n f).clocks = s.clocks := rfl
@[simp] theorem State.modWork_power (n : Nat) (f : FrameWork → FrameWork) : (s.modWork n f).power = s.power := rfl
@[simp] theorem State.modWork_boot (n : Nat) (f : FrameWork → FrameWork) : (s.modWork n f).boot = s.boot := rfl
@[simp] theorem State.modWork_group (n : Nat) (f : FrameWork → FrameWork) : (s.modWork n f).group = s.group := rfl
@[simp] theorem State.modWork_det (n : Nat) (f : FrameWork → FrameWork) : (s.modWork n f).det = s.det := rfl
@[simp] theorem State.modWork_events (n : Nat) (f : FrameWork → FrameWork) : (s.modWork n f).events = s.events := rfl
@[simp] theorem State.modWork_wire (n : Nat) (f : FrameWork → FrameWork) : (s.modWork n f).wire = s.wire := rfl
@[simp] theorem State.modWork_draws (n : Nat) (f : FrameWork → FrameWork) : (s.modWork n f).draws = s.draws := rfl

@[simp] theorem State.modStream_now (n : Nat) (f : Stream → Stream) : (s.modStream n f).now = s.now := rfl
@[simp] theorem State.modStream_pending (n : Nat) (f : Stream → Stream) : (s.modStream n f).pending = s.pending := rfl
@[simp] theorem State.modStream_dict (n : Nat) (f : Stream → Stream) : (s.modStream n f).dict = s.dict := rfl
@[simp] theorem State.modStream_ctl (n : Nat) (f : Stream → Stream) : (s.modStream n f).ctl = s.ctl := rfl
@[simp] theorem State.modStream_odp (n : Nat) (f : Stream → Stream) : (s.modStream n f).odp = s.odp := rfl
@[simp] theorem State.modStream_rule (n : Nat) (f : Stream → Stream) : (s.modStream n f).rule = s.rule := rfl
@[simp] theorem State.modStream_tb (n : Nat) (f : Stream → Stream) : (s.modStream n f).tb = s.tb := rfl
@[simp] theorem State.modStream_frames (n : Nat) (f : Stream → Stream) : (s.modStream n f).frames = s.frames := rfl
@[simp] theorem State.modStream_host (n : Nat) (f : Stream → Stream) : (s.modStream n f).host = s.host := rfl
@[simp] theorem State.modStream_world (n : Nat) (f : Stream → Stream) : (s.modStream n f).world = { s.world with streams := modAt s.world.streams n f } := rfl
@[simp] theorem State.modStream_mem (n : Nat) (f : Stream → Stream) : (s.modStream n f).mem = s.mem := rfl
@[simp] theorem State.modStream_eng (n : Nat) (f : Stream → Stream) : (s.modStream n f).eng = s.eng := rfl
@[simp] theorem State.modStream_disp (n : Nat) (f : Stream → Stream) : (s.modStream n f).disp = s.disp := rfl
@[simp] theorem State.modStream_pub (n : Nat) (f : Stream → Stream) : (s.modStream n f).pub = s.pub := rfl
@[simp] theorem State.modStream_newel (n : Nat) (f : Stream → Stream) : (s.modStream n f).newel = s.newel := rfl
@[simp] theorem State.modStream_clocks (n : Nat) (f : Stream → Stream) : (s.modStream n f).clocks = s.clocks := rfl
@[simp] theorem State.modStream_power (n : Nat) (f : Stream → Stream) : (s.modStream n f).power = s.power := rfl
@[simp] theorem State.modStream_boot (n : Nat) (f : Stream → Stream) : (s.modStream n f).boot = s.boot := rfl
@[simp] theorem State.modStream_group (n : Nat) (f : Stream → Stream) : (s.modStream n f).group = s.group := rfl
@[simp] theorem State.modStream_det (n : Nat) (f : Stream → Stream) : (s.modStream n f).det = s.det := rfl
@[simp] theorem State.modStream_events (n : Nat) (f : Stream → Stream) : (s.modStream n f).events = s.events := rfl
@[simp] theorem State.modStream_wire (n : Nat) (f : Stream → Stream) : (s.modStream n f).wire = s.wire := rfl
@[simp] theorem State.modStream_draws (n : Nat) (f : Stream → Stream) : (s.modStream n f).draws = s.draws := rfl

@[simp] theorem State.modVersion_now (n : Nat) (b : Bool) (f : Version → Version) : (s.modVersion n b f).now = s.now := rfl
@[simp] theorem State.modVersion_pending (n : Nat) (b : Bool) (f : Version → Version) : (s.modVersion n b f).pending = s.pending := rfl
@[simp] theorem State.modVersion_dict (n : Nat) (b : Bool) (f : Version → Version) : (s.modVersion n b f).dict = s.dict := rfl
@[simp] theorem State.modVersion_ctl (n : Nat) (b : Bool) (f : Version → Version) : (s.modVersion n b f).ctl = s.ctl := rfl
@[simp] theorem State.modVersion_odp (n : Nat) (b : Bool) (f : Version → Version) : (s.modVersion n b f).odp = s.odp := rfl
@[simp] theorem State.modVersion_rule (n : Nat) (b : Bool) (f : Version → Version) : (s.modVersion n b f).rule = s.rule := rfl
@[simp] theorem State.modVersion_tb (n : Nat) (b : Bool) (f : Version → Version) : (s.modVersion n b f).tb = s.tb := rfl
@[simp] theorem State.modVersion_frames (n : Nat) (b : Bool) (f : Version → Version) : (s.modVersion n b f).frames = s.frames := rfl
@[simp] theorem State.modVersion_host (n : Nat) (b : Bool) (f : Version → Version) : (s.modVersion n b f).host = s.host := rfl
@[simp] theorem State.modVersion_world (n : Nat) (b : Bool) (f : Version → Version) : (s.modVersion n b f).world = { s.world with versions := modFirst (fun v => v.number == n && v.spec == b) f s.world.versions } := rfl
@[simp] theorem State.modVersion_mem (n : Nat) (b : Bool) (f : Version → Version) : (s.modVersion n b f).mem = s.mem := rfl
@[simp] theorem State.modVersion_eng (n : Nat) (b : Bool) (f : Version → Version) : (s.modVersion n b f).eng = s.eng := rfl
@[simp] theorem State.modVersion_disp (n : Nat) (b : Bool) (f : Version → Version) : (s.modVersion n b f).disp = s.disp := rfl
@[simp] theorem State.modVersion_pub (n : Nat) (b : Bool) (f : Version → Version) : (s.modVersion n b f).pub = s.pub := rfl
@[simp] theorem State.modVersion_newel (n : Nat) (b : Bool) (f : Version → Version) : (s.modVersion n b f).newel = s.newel := rfl
@[simp] theorem State.modVersion_clocks (n : Nat) (b : Bool) (f : Version → Version) : (s.modVersion n b f).clocks = s.clocks := rfl
@[simp] theorem State.modVersion_power (n : Nat) (b : Bool) (f : Version → Version) : (s.modVersion n b f).power = s.power := rfl
@[simp] theorem State.modVersion_boot (n : Nat) (b : Bool) (f : Version → Version) : (s.modVersion n b f).boot = s.boot := rfl
@[simp] theorem State.modVersion_group (n : Nat) (b : Bool) (f : Version → Version) : (s.modVersion n b f).group = s.group := rfl
@[simp] theorem State.modVersion_det (n : Nat) (b : Bool) (f : Version → Version) : (s.modVersion n b f).det = s.det := rfl
@[simp] theorem State.modVersion_events (n : Nat) (b : Bool) (f : Version → Version) : (s.modVersion n b f).events = s.events := rfl
@[simp] theorem State.modVersion_wire (n : Nat) (b : Bool) (f : Version → Version) : (s.modVersion n b f).wire = s.wire := rfl
@[simp] theorem State.modVersion_draws (n : Nat) (b : Bool) (f : Version → Version) : (s.modVersion n b f).draws = s.draws := rfl

@[simp] theorem State.modItem_now (n : Nat) (f : Item → Item) : (s.modItem n f).now = s.now := rfl
@[simp] theorem State.modItem_pending (n : Nat) (f : Item → Item) : (s.modItem n f).pending = s.pending := rfl
@[simp] theorem State.modItem_dict (n : Nat) (f : Item → Item) : (s.modItem n f).dict = s.dict := rfl
@[simp] theorem State.modItem_ctl (n : Nat) (f : Item → Item) : (s.modItem n f).ctl = s.ctl := rfl
@[simp] theorem State.modItem_odp (n : Nat) (f : Item → Item) : (s.modItem n f).odp = s.odp := rfl
@[simp] theorem State.modItem_rule (n : Nat) (f : Item → Item) : (s.modItem n f).rule = s.rule := rfl
@[simp] theorem State.modItem_tb (n : Nat) (f : Item → Item) : (s.modItem n f).tb = s.tb := rfl
@[simp] theorem State.modItem_frames (n : Nat) (f : Item → Item) : (s.modItem n f).frames = s.frames := rfl
@[simp] theorem State.modItem_host (n : Nat) (f : Item → Item) : (s.modItem n f).host = s.host := rfl
@[simp] theorem State.modItem_world (n : Nat) (f : Item → Item) : (s.modItem n f).world = s.world := rfl
@[simp] theorem State.modItem_mem (n : Nat) (f : Item → Item) : (s.modItem n f).mem = s.mem := rfl
@[simp] theorem State.modItem_eng (n : Nat) (f : Item → Item) : (s.modItem n f).eng = s.eng := rfl
@[simp] theorem State.modItem_disp (n : Nat) (f : Item → Item) : (s.modItem n f).disp = { s.disp with items := modFirst (fun i => i.serial == n) f s.disp.items } := rfl
@[simp] theorem State.modItem_pub (n : Nat) (f : Item → Item) : (s.modItem n f).pub = s.pub := rfl
@[simp] theorem State.modItem_newel (n : Nat) (f : Item → Item) : (s.modItem n f).newel = s.newel := rfl
@[simp] theorem State.modItem_clocks (n : Nat) (f : Item → Item) : (s.modItem n f).clocks = s.clocks := rfl
@[simp] theorem State.modItem_power (n : Nat) (f : Item → Item) : (s.modItem n f).power = s.power := rfl
@[simp] theorem State.modItem_boot (n : Nat) (f : Item → Item) : (s.modItem n f).boot = s.boot := rfl
@[simp] theorem State.modItem_group (n : Nat) (f : Item → Item) : (s.modItem n f).group = s.group := rfl
@[simp] theorem State.modItem_det (n : Nat) (f : Item → Item) : (s.modItem n f).det = s.det := rfl
@[simp] theorem State.modItem_events (n : Nat) (f : Item → Item) : (s.modItem n f).events = s.events := rfl
@[simp] theorem State.modItem_wire (n : Nat) (f : Item → Item) : (s.modItem n f).wire = s.wire := rfl
@[simp] theorem State.modItem_draws (n : Nat) (f : Item → Item) : (s.modItem n f).draws = s.draws := rfl

@[simp] theorem State.modEngine_now (e : Nat) (f : ServiceUnit → ServiceUnit) : (s.modEngine e f).now = s.now := rfl
@[simp] theorem State.modEngine_pending (e : Nat) (f : ServiceUnit → ServiceUnit) : (s.modEngine e f).pending = s.pending := rfl
@[simp] theorem State.modEngine_dict (e : Nat) (f : ServiceUnit → ServiceUnit) : (s.modEngine e f).dict = s.dict := rfl
@[simp] theorem State.modEngine_ctl (e : Nat) (f : ServiceUnit → ServiceUnit) : (s.modEngine e f).ctl = s.ctl := rfl
@[simp] theorem State.modEngine_odp (e : Nat) (f : ServiceUnit → ServiceUnit) : (s.modEngine e f).odp = s.odp := rfl
@[simp] theorem State.modEngine_rule (e : Nat) (f : ServiceUnit → ServiceUnit) : (s.modEngine e f).rule = s.rule := rfl
@[simp] theorem State.modEngine_tb (e : Nat) (f : ServiceUnit → ServiceUnit) : (s.modEngine e f).tb = s.tb := rfl
@[simp] theorem State.modEngine_frames (e : Nat) (f : ServiceUnit → ServiceUnit) : (s.modEngine e f).frames = s.frames := rfl
@[simp] theorem State.modEngine_host (e : Nat) (f : ServiceUnit → ServiceUnit) : (s.modEngine e f).host = s.host := rfl
@[simp] theorem State.modEngine_world (e : Nat) (f : ServiceUnit → ServiceUnit) : (s.modEngine e f).world = s.world := rfl
@[simp] theorem State.modEngine_mem (e : Nat) (f : ServiceUnit → ServiceUnit) : (s.modEngine e f).mem = s.mem := rfl
@[simp] theorem State.modEngine_eng (e : Nat) (f : ServiceUnit → ServiceUnit) : (s.modEngine e f).eng = s.eng := rfl
@[simp] theorem State.modEngine_disp (e : Nat) (f : ServiceUnit → ServiceUnit) : (s.modEngine e f).disp = { s.disp with engines := modAt s.disp.engines e f } := rfl
@[simp] theorem State.modEngine_pub (e : Nat) (f : ServiceUnit → ServiceUnit) : (s.modEngine e f).pub = s.pub := rfl
@[simp] theorem State.modEngine_newel (e : Nat) (f : ServiceUnit → ServiceUnit) : (s.modEngine e f).newel = s.newel := rfl
@[simp] theorem State.modEngine_clocks (e : Nat) (f : ServiceUnit → ServiceUnit) : (s.modEngine e f).clocks = s.clocks := rfl
@[simp] theorem State.modEngine_power (e : Nat) (f : ServiceUnit → ServiceUnit) : (s.modEngine e f).power = s.power := rfl
@[simp] theorem State.modEngine_boot (e : Nat) (f : ServiceUnit → ServiceUnit) : (s.modEngine e f).boot = s.boot := rfl
@[simp] theorem State.modEngine_group (e : Nat) (f : ServiceUnit → ServiceUnit) : (s.modEngine e f).group = s.group := rfl
@[simp] theorem State.modEngine_det (e : Nat) (f : ServiceUnit → ServiceUnit) : (s.modEngine e f).det = s.det := rfl
@[simp] theorem State.modEngine_events (e : Nat) (f : ServiceUnit → ServiceUnit) : (s.modEngine e f).events = s.events := rfl
@[simp] theorem State.modEngine_wire (e : Nat) (f : ServiceUnit → ServiceUnit) : (s.modEngine e f).wire = s.wire := rfl
@[simp] theorem State.modEngine_draws (e : Nat) (f : ServiceUnit → ServiceUnit) : (s.modEngine e f).draws = s.draws := rfl

@[simp] theorem State.modGallery_now (g : Nat) (f : ServiceUnit → ServiceUnit) : (s.modGallery g f).now = s.now := rfl
@[simp] theorem State.modGallery_pending (g : Nat) (f : ServiceUnit → ServiceUnit) : (s.modGallery g f).pending = s.pending := rfl
@[simp] theorem State.modGallery_dict (g : Nat) (f : ServiceUnit → ServiceUnit) : (s.modGallery g f).dict = s.dict := rfl
@[simp] theorem State.modGallery_ctl (g : Nat) (f : ServiceUnit → ServiceUnit) : (s.modGallery g f).ctl = s.ctl := rfl
@[simp] theorem State.modGallery_odp (g : Nat) (f : ServiceUnit → ServiceUnit) : (s.modGallery g f).odp = s.odp := rfl
@[simp] theorem State.modGallery_rule (g : Nat) (f : ServiceUnit → ServiceUnit) : (s.modGallery g f).rule = s.rule := rfl
@[simp] theorem State.modGallery_tb (g : Nat) (f : ServiceUnit → ServiceUnit) : (s.modGallery g f).tb = s.tb := rfl
@[simp] theorem State.modGallery_frames (g : Nat) (f : ServiceUnit → ServiceUnit) : (s.modGallery g f).frames = s.frames := rfl
@[simp] theorem State.modGallery_host (g : Nat) (f : ServiceUnit → ServiceUnit) : (s.modGallery g f).host = s.host := rfl
@[simp] theorem State.modGallery_world (g : Nat) (f : ServiceUnit → ServiceUnit) : (s.modGallery g f).world = s.world := rfl
@[simp] theorem State.modGallery_mem (g : Nat) (f : ServiceUnit → ServiceUnit) : (s.modGallery g f).mem = s.mem := rfl
@[simp] theorem State.modGallery_eng (g : Nat) (f : ServiceUnit → ServiceUnit) : (s.modGallery g f).eng = s.eng := rfl
@[simp] theorem State.modGallery_disp (g : Nat) (f : ServiceUnit → ServiceUnit) : (s.modGallery g f).disp = { s.disp with galleries := modAt s.disp.galleries g f } := rfl
@[simp] theorem State.modGallery_pub (g : Nat) (f : ServiceUnit → ServiceUnit) : (s.modGallery g f).pub = s.pub := rfl
@[simp] theorem State.modGallery_newel (g : Nat) (f : ServiceUnit → ServiceUnit) : (s.modGallery g f).newel = s.newel := rfl
@[simp] theorem State.modGallery_clocks (g : Nat) (f : ServiceUnit → ServiceUnit) : (s.modGallery g f).clocks = s.clocks := rfl
@[simp] theorem State.modGallery_power (g : Nat) (f : ServiceUnit → ServiceUnit) : (s.modGallery g f).power = s.power := rfl
@[simp] theorem State.modGallery_boot (g : Nat) (f : ServiceUnit → ServiceUnit) : (s.modGallery g f).boot = s.boot := rfl
@[simp] theorem State.modGallery_group (g : Nat) (f : ServiceUnit → ServiceUnit) : (s.modGallery g f).group = s.group := rfl
@[simp] theorem State.modGallery_det (g : Nat) (f : ServiceUnit → ServiceUnit) : (s.modGallery g f).det = s.det := rfl
@[simp] theorem State.modGallery_events (g : Nat) (f : ServiceUnit → ServiceUnit) : (s.modGallery g f).events = s.events := rfl
@[simp] theorem State.modGallery_wire (g : Nat) (f : ServiceUnit → ServiceUnit) : (s.modGallery g f).wire = s.wire := rfl
@[simp] theorem State.modGallery_draws (g : Nat) (f : ServiceUnit → ServiceUnit) : (s.modGallery g f).draws = s.draws := rfl

@[simp] theorem State.modRecord_now (n : Nat) (f : JRec → JRec) : (s.modRecord n f).now = s.now := rfl
@[simp] theorem State.modRecord_pending (n : Nat) (f : JRec → JRec) : (s.modRecord n f).pending = s.pending := rfl
@[simp] theorem State.modRecord_dict (n : Nat) (f : JRec → JRec) : (s.modRecord n f).dict = s.dict := rfl
@[simp] theorem State.modRecord_ctl (n : Nat) (f : JRec → JRec) : (s.modRecord n f).ctl = s.ctl := rfl
@[simp] theorem State.modRecord_odp (n : Nat) (f : JRec → JRec) : (s.modRecord n f).odp = s.odp := rfl
@[simp] theorem State.modRecord_rule (n : Nat) (f : JRec → JRec) : (s.modRecord n f).rule = s.rule := rfl
@[simp] theorem State.modRecord_tb (n : Nat) (f : JRec → JRec) : (s.modRecord n f).tb = s.tb := rfl
@[simp] theorem State.modRecord_frames (n : Nat) (f : JRec → JRec) : (s.modRecord n f).frames = s.frames := rfl
@[simp] theorem State.modRecord_host (n : Nat) (f : JRec → JRec) : (s.modRecord n f).host = { s.host with journal := modFirst (fun j => j.id == n) f s.host.journal } := rfl
@[simp] theorem State.modRecord_world (n : Nat) (f : JRec → JRec) : (s.modRecord n f).world = s.world := rfl
@[simp] theorem State.modRecord_mem (n : Nat) (f : JRec → JRec) : (s.modRecord n f).mem = s.mem := rfl
@[simp] theorem State.modRecord_eng (n : Nat) (f : JRec → JRec) : (s.modRecord n f).eng = s.eng := rfl
@[simp] theorem State.modRecord_disp (n : Nat) (f : JRec → JRec) : (s.modRecord n f).disp = s.disp := rfl
@[simp] theorem State.modRecord_pub (n : Nat) (f : JRec → JRec) : (s.modRecord n f).pub = s.pub := rfl
@[simp] theorem State.modRecord_newel (n : Nat) (f : JRec → JRec) : (s.modRecord n f).newel = s.newel := rfl
@[simp] theorem State.modRecord_clocks (n : Nat) (f : JRec → JRec) : (s.modRecord n f).clocks = s.clocks := rfl
@[simp] theorem State.modRecord_power (n : Nat) (f : JRec → JRec) : (s.modRecord n f).power = s.power := rfl
@[simp] theorem State.modRecord_boot (n : Nat) (f : JRec → JRec) : (s.modRecord n f).boot = s.boot := rfl
@[simp] theorem State.modRecord_group (n : Nat) (f : JRec → JRec) : (s.modRecord n f).group = s.group := rfl
@[simp] theorem State.modRecord_det (n : Nat) (f : JRec → JRec) : (s.modRecord n f).det = s.det := rfl
@[simp] theorem State.modRecord_events (n : Nat) (f : JRec → JRec) : (s.modRecord n f).events = s.events := rfl
@[simp] theorem State.modRecord_wire (n : Nat) (f : JRec → JRec) : (s.modRecord n f).wire = s.wire := rfl
@[simp] theorem State.modRecord_draws (n : Nat) (f : JRec → JRec) : (s.modRecord n f).draws = s.draws := rfl

@[simp] theorem State.modSession_now (n : Nat) (f : Session → Session) : (s.modSession n f).now = s.now := rfl
@[simp] theorem State.modSession_pending (n : Nat) (f : Session → Session) : (s.modSession n f).pending = s.pending := rfl
@[simp] theorem State.modSession_dict (n : Nat) (f : Session → Session) : (s.modSession n f).dict = s.dict := rfl
@[simp] theorem State.modSession_ctl (n : Nat) (f : Session → Session) : (s.modSession n f).ctl = s.ctl := rfl
@[simp] theorem State.modSession_odp (n : Nat) (f : Session → Session) : (s.modSession n f).odp = { s.odp with sessions := modFirst (fun x => x.id == n) f s.odp.sessions } := rfl
@[simp] theorem State.modSession_rule (n : Nat) (f : Session → Session) : (s.modSession n f).rule = s.rule := rfl
@[simp] theorem State.modSession_tb (n : Nat) (f : Session → Session) : (s.modSession n f).tb = s.tb := rfl
@[simp] theorem State.modSession_frames (n : Nat) (f : Session → Session) : (s.modSession n f).frames = s.frames := rfl
@[simp] theorem State.modSession_host (n : Nat) (f : Session → Session) : (s.modSession n f).host = s.host := rfl
@[simp] theorem State.modSession_world (n : Nat) (f : Session → Session) : (s.modSession n f).world = s.world := rfl
@[simp] theorem State.modSession_mem (n : Nat) (f : Session → Session) : (s.modSession n f).mem = s.mem := rfl
@[simp] theorem State.modSession_eng (n : Nat) (f : Session → Session) : (s.modSession n f).eng = s.eng := rfl
@[simp] theorem State.modSession_disp (n : Nat) (f : Session → Session) : (s.modSession n f).disp = s.disp := rfl
@[simp] theorem State.modSession_pub (n : Nat) (f : Session → Session) : (s.modSession n f).pub = s.pub := rfl
@[simp] theorem State.modSession_newel (n : Nat) (f : Session → Session) : (s.modSession n f).newel = s.newel := rfl
@[simp] theorem State.modSession_clocks (n : Nat) (f : Session → Session) : (s.modSession n f).clocks = s.clocks := rfl
@[simp] theorem State.modSession_power (n : Nat) (f : Session → Session) : (s.modSession n f).power = s.power := rfl
@[simp] theorem State.modSession_boot (n : Nat) (f : Session → Session) : (s.modSession n f).boot = s.boot := rfl
@[simp] theorem State.modSession_group (n : Nat) (f : Session → Session) : (s.modSession n f).group = s.group := rfl
@[simp] theorem State.modSession_det (n : Nat) (f : Session → Session) : (s.modSession n f).det = s.det := rfl
@[simp] theorem State.modSession_events (n : Nat) (f : Session → Session) : (s.modSession n f).events = s.events := rfl
@[simp] theorem State.modSession_wire (n : Nat) (f : Session → Session) : (s.modSession n f).wire = s.wire := rfl
@[simp] theorem State.modSession_draws (n : Nat) (f : Session → Session) : (s.modSession n f).draws = s.draws := rfl

@[simp] theorem State.modPeer_now (c : Nat) (f : Peer → Peer) : (s.modPeer c f).now = s.now := rfl
@[simp] theorem State.modPeer_pending (c : Nat) (f : Peer → Peer) : (s.modPeer c f).pending = s.pending := rfl
@[simp] theorem State.modPeer_dict (c : Nat) (f : Peer → Peer) : (s.modPeer c f).dict = s.dict := rfl
@[simp] theorem State.modPeer_ctl (c : Nat) (f : Peer → Peer) : (s.modPeer c f).ctl = s.ctl := rfl
@[simp] theorem State.modPeer_odp (c : Nat) (f : Peer → Peer) : (s.modPeer c f).odp = s.odp := rfl
@[simp] theorem State.modPeer_rule (c : Nat) (f : Peer → Peer) : (s.modPeer c f).rule = s.rule := rfl
@[simp] theorem State.modPeer_tb (c : Nat) (f : Peer → Peer) : (s.modPeer c f).tb = s.tb := rfl
@[simp] theorem State.modPeer_frames (c : Nat) (f : Peer → Peer) : (s.modPeer c f).frames = s.frames := rfl
@[simp] theorem State.modPeer_host (c : Nat) (f : Peer → Peer) : (s.modPeer c f).host = s.host := rfl
@[simp] theorem State.modPeer_world (c : Nat) (f : Peer → Peer) : (s.modPeer c f).world = s.world := rfl
@[simp] theorem State.modPeer_mem (c : Nat) (f : Peer → Peer) : (s.modPeer c f).mem = s.mem := rfl
@[simp] theorem State.modPeer_eng (c : Nat) (f : Peer → Peer) : (s.modPeer c f).eng = s.eng := rfl
@[simp] theorem State.modPeer_disp (c : Nat) (f : Peer → Peer) : (s.modPeer c f).disp = s.disp := rfl
@[simp] theorem State.modPeer_pub (c : Nat) (f : Peer → Peer) : (s.modPeer c f).pub = s.pub := rfl
@[simp] theorem State.modPeer_newel (c : Nat) (f : Peer → Peer) : (s.modPeer c f).newel = s.newel := rfl
@[simp] theorem State.modPeer_clocks (c : Nat) (f : Peer → Peer) : (s.modPeer c f).clocks = s.clocks := rfl
@[simp] theorem State.modPeer_power (c : Nat) (f : Peer → Peer) : (s.modPeer c f).power = s.power := rfl
@[simp] theorem State.modPeer_boot (c : Nat) (f : Peer → Peer) : (s.modPeer c f).boot = s.boot := rfl
@[simp] theorem State.modPeer_group (c : Nat) (f : Peer → Peer) : (s.modPeer c f).group = { s.group with peers := modAt s.group.peers c f } := rfl
@[simp] theorem State.modPeer_det (c : Nat) (f : Peer → Peer) : (s.modPeer c f).det = s.det := rfl
@[simp] theorem State.modPeer_events (c : Nat) (f : Peer → Peer) : (s.modPeer c f).events = s.events := rfl
@[simp] theorem State.modPeer_wire (c : Nat) (f : Peer → Peer) : (s.modPeer c f).wire = s.wire := rfl
@[simp] theorem State.modPeer_draws (c : Nat) (f : Peer → Peer) : (s.modPeer c f).draws = s.draws := rfl

@[simp] theorem State.modPort_now (p : Nat) (f : PeerPort → PeerPort) : (s.modPort p f).now = s.now := rfl
@[simp] theorem State.modPort_pending (p : Nat) (f : PeerPort → PeerPort) : (s.modPort p f).pending = s.pending := rfl
@[simp] theorem State.modPort_dict (p : Nat) (f : PeerPort → PeerPort) : (s.modPort p f).dict = s.dict := rfl
@[simp] theorem State.modPort_ctl (p : Nat) (f : PeerPort → PeerPort) : (s.modPort p f).ctl = s.ctl := rfl
@[simp] theorem State.modPort_odp (p : Nat) (f : PeerPort → PeerPort) : (s.modPort p f).odp = s.odp := rfl
@[simp] theorem State.modPort_rule (p : Nat) (f : PeerPort → PeerPort) : (s.modPort p f).rule = s.rule := rfl
@[simp] theorem State.modPort_tb (p : Nat) (f : PeerPort → PeerPort) : (s.modPort p f).tb = s.tb := rfl
@[simp] theorem State.modPort_frames (p : Nat) (f : PeerPort → PeerPort) : (s.modPort p f).frames = s.frames := rfl
@[simp] theorem State.modPort_host (p : Nat) (f : PeerPort → PeerPort) : (s.modPort p f).host = s.host := rfl
@[simp] theorem State.modPort_world (p : Nat) (f : PeerPort → PeerPort) : (s.modPort p f).world = s.world := rfl
@[simp] theorem State.modPort_mem (p : Nat) (f : PeerPort → PeerPort) : (s.modPort p f).mem = s.mem := rfl
@[simp] theorem State.modPort_eng (p : Nat) (f : PeerPort → PeerPort) : (s.modPort p f).eng = s.eng := rfl
@[simp] theorem State.modPort_disp (p : Nat) (f : PeerPort → PeerPort) : (s.modPort p f).disp = s.disp := rfl
@[simp] theorem State.modPort_pub (p : Nat) (f : PeerPort → PeerPort) : (s.modPort p f).pub = s.pub := rfl
@[simp] theorem State.modPort_newel (p : Nat) (f : PeerPort → PeerPort) : (s.modPort p f).newel = s.newel := rfl
@[simp] theorem State.modPort_clocks (p : Nat) (f : PeerPort → PeerPort) : (s.modPort p f).clocks = s.clocks := rfl
@[simp] theorem State.modPort_power (p : Nat) (f : PeerPort → PeerPort) : (s.modPort p f).power = s.power := rfl
@[simp] theorem State.modPort_boot (p : Nat) (f : PeerPort → PeerPort) : (s.modPort p f).boot = s.boot := rfl
@[simp] theorem State.modPort_group (p : Nat) (f : PeerPort → PeerPort) : (s.modPort p f).group = { s.group with ports := modAt s.group.ports p f } := rfl
@[simp] theorem State.modPort_det (p : Nat) (f : PeerPort → PeerPort) : (s.modPort p f).det = s.det := rfl
@[simp] theorem State.modPort_events (p : Nat) (f : PeerPort → PeerPort) : (s.modPort p f).events = s.events := rfl
@[simp] theorem State.modPort_wire (p : Nat) (f : PeerPort → PeerPort) : (s.modPort p f).wire = s.wire := rfl
@[simp] theorem State.modPort_draws (p : Nat) (f : PeerPort → PeerPort) : (s.modPort p f).draws = s.draws := rfl

@[simp] theorem State.setQp_now (n : Nat) (q : QueuePair) : (s.setQp n q).now = s.now := rfl
@[simp] theorem State.setQp_pending (n : Nat) (q : QueuePair) : (s.setQp n q).pending = s.pending := rfl
@[simp] theorem State.setQp_dict (n : Nat) (q : QueuePair) : (s.setQp n q).dict = s.dict := rfl
@[simp] theorem State.setQp_ctl (n : Nat) (q : QueuePair) : (s.setQp n q).ctl = s.ctl := rfl
@[simp] theorem State.setQp_odp (n : Nat) (q : QueuePair) : (s.setQp n q).odp = s.odp := rfl
@[simp] theorem State.setQp_rule (n : Nat) (q : QueuePair) : (s.setQp n q).rule = s.rule := rfl
@[simp] theorem State.setQp_tb (n : Nat) (q : QueuePair) : (s.setQp n q).tb = s.tb := rfl
@[simp] theorem State.setQp_frames (n : Nat) (q : QueuePair) : (s.setQp n q).frames = s.frames := rfl
@[simp] theorem State.setQp_host (n : Nat) (q : QueuePair) : (s.setQp n q).host = s.host := rfl
@[simp] theorem State.setQp_world (n : Nat) (q : QueuePair) : (s.setQp n q).world = s.world := rfl
@[simp] theorem State.setQp_mem (n : Nat) (q : QueuePair) : (s.setQp n q).mem = s.mem := rfl
@[simp] theorem State.setQp_eng (n : Nat) (q : QueuePair) : (s.setQp n q).eng = s.eng := rfl
@[simp] theorem State.setQp_disp (n : Nat) (q : QueuePair) : (s.setQp n q).disp = s.disp := rfl
@[simp] theorem State.setQp_pub (n : Nat) (q : QueuePair) : (s.setQp n q).pub = s.pub := rfl
@[simp] theorem State.setQp_newel (n : Nat) (q : QueuePair) : (s.setQp n q).newel = s.newel := rfl
@[simp] theorem State.setQp_clocks (n : Nat) (q : QueuePair) : (s.setQp n q).clocks = s.clocks := rfl
@[simp] theorem State.setQp_power (n : Nat) (q : QueuePair) : (s.setQp n q).power = s.power := rfl
@[simp] theorem State.setQp_boot (n : Nat) (q : QueuePair) : (s.setQp n q).boot = s.boot := rfl
@[simp] theorem State.setQp_group (n : Nat) (q : QueuePair) : (s.setQp n q).group = { s.group with qps := alSet n q s.group.qps } := rfl
@[simp] theorem State.setQp_det (n : Nat) (q : QueuePair) : (s.setQp n q).det = s.det := rfl
@[simp] theorem State.setQp_events (n : Nat) (q : QueuePair) : (s.setQp n q).events = s.events := rfl
@[simp] theorem State.setQp_wire (n : Nat) (q : QueuePair) : (s.setQp n q).wire = s.wire := rfl
@[simp] theorem State.setQp_draws (n : Nat) (q : QueuePair) : (s.setQp n q).draws = s.draws := rfl

@[simp] theorem State.modChannel_now (c : Nat) (f : Channel → Channel) : (s.modChannel c f).now = s.now := rfl
@[simp] theorem State.modChannel_pending (c : Nat) (f : Channel → Channel) : (s.modChannel c f).pending = s.pending := rfl
@[simp] theorem State.modChannel_dict (c : Nat) (f : Channel → Channel) : (s.modChannel c f).dict = s.dict := rfl
@[simp] theorem State.modChannel_ctl (c : Nat) (f : Channel → Channel) : (s.modChannel c f).ctl = s.ctl := rfl
@[simp] theorem State.modChannel_odp (c : Nat) (f : Channel → Channel) : (s.modChannel c f).odp = s.odp := rfl
@[simp] theorem State.modChannel_rule (c : Nat) (f : Channel → Channel) : (s.modChannel c f).rule = s.rule := rfl
@[simp] theorem State.modChannel_tb (c : Nat) (f : Channel → Channel) : (s.modChannel c f).tb = s.tb := rfl
@[simp] theorem State.modChannel_frames (c : Nat) (f : Channel → Channel) : (s.modChannel c f).frames = s.frames := rfl
@[simp] theorem State.modChannel_host (c : Nat) (f : Channel → Channel) : (s.modChannel c f).host = s.host := rfl
@[simp] theorem State.modChannel_world (c : Nat) (f : Channel → Channel) : (s.modChannel c f).world = s.world := rfl
@[simp] theorem State.modChannel_mem (c : Nat) (f : Channel → Channel) : (s.modChannel c f).mem = { s.mem with channels := modAt s.mem.channels c f } := rfl
@[simp] theorem State.modChannel_eng (c : Nat) (f : Channel → Channel) : (s.modChannel c f).eng = s.eng := rfl
@[simp] theorem State.modChannel_disp (c : Nat) (f : Channel → Channel) : (s.modChannel c f).disp = s.disp := rfl
@[simp] theorem State.modChannel_pub (c : Nat) (f : Channel → Channel) : (s.modChannel c f).pub = s.pub := rfl
@[simp] theorem State.modChannel_newel (c : Nat) (f : Channel → Channel) : (s.modChannel c f).newel = s.newel := rfl
@[simp] theorem State.modChannel_clocks (c : Nat) (f : Channel → Channel) : (s.modChannel c f).clocks = s.clocks := rfl
@[simp] theorem State.modChannel_power (c : Nat) (f : Channel → Channel) : (s.modChannel c f).power = s.power := rfl
@[simp] theorem State.modChannel_boot (c : Nat) (f : Channel → Channel) : (s.modChannel c f).boot = s.boot := rfl
@[simp] theorem State.modChannel_group (c : Nat) (f : Channel → Channel) : (s.modChannel c f).group = s.group := rfl
@[simp] theorem State.modChannel_det (c : Nat) (f : Channel → Channel) : (s.modChannel c f).det = s.det := rfl
@[simp] theorem State.modChannel_events (c : Nat) (f : Channel → Channel) : (s.modChannel c f).events = s.events := rfl
@[simp] theorem State.modChannel_wire (c : Nat) (f : Channel → Channel) : (s.modChannel c f).wire = s.wire := rfl
@[simp] theorem State.modChannel_draws (c : Nat) (f : Channel → Channel) : (s.modChannel c f).draws = s.draws := rfl

@[simp] theorem State.modPower_now (f : Power → Power) : (s.modPower f).now = s.now := rfl
@[simp] theorem State.modPower_pending (f : Power → Power) : (s.modPower f).pending = s.pending := rfl
@[simp] theorem State.modPower_dict (f : Power → Power) : (s.modPower f).dict = s.dict := rfl
@[simp] theorem State.modPower_ctl (f : Power → Power) : (s.modPower f).ctl = s.ctl := rfl
@[simp] theorem State.modPower_odp (f : Power → Power) : (s.modPower f).odp = s.odp := rfl
@[simp] theorem State.modPower_rule (f : Power → Power) : (s.modPower f).rule = s.rule := rfl
@[simp] theorem State.modPower_tb (f : Power → Power) : (s.modPower f).tb = s.tb := rfl
@[simp] theorem State.modPower_frames (f : Power → Power) : (s.modPower f).frames = s.frames := rfl
@[simp] theorem State.modPower_host (f : Power → Power) : (s.modPower f).host = s.host := rfl
@[simp] theorem State.modPower_world (f : Power → Power) : (s.modPower f).world = s.world := rfl
@[simp] theorem State.modPower_mem (f : Power → Power) : (s.modPower f).mem = s.mem := rfl
@[simp] theorem State.modPower_eng (f : Power → Power) : (s.modPower f).eng = s.eng := rfl
@[simp] theorem State.modPower_disp (f : Power → Power) : (s.modPower f).disp = s.disp := rfl
@[simp] theorem State.modPower_pub (f : Power → Power) : (s.modPower f).pub = s.pub := rfl
@[simp] theorem State.modPower_newel (f : Power → Power) : (s.modPower f).newel = s.newel := rfl
@[simp] theorem State.modPower_clocks (f : Power → Power) : (s.modPower f).clocks = s.clocks := rfl
@[simp] theorem State.modPower_power (f : Power → Power) : (s.modPower f).power = f s.power := rfl
@[simp] theorem State.modPower_boot (f : Power → Power) : (s.modPower f).boot = s.boot := rfl
@[simp] theorem State.modPower_group (f : Power → Power) : (s.modPower f).group = s.group := rfl
@[simp] theorem State.modPower_det (f : Power → Power) : (s.modPower f).det = s.det := rfl
@[simp] theorem State.modPower_events (f : Power → Power) : (s.modPower f).events = s.events := rfl
@[simp] theorem State.modPower_wire (f : Power → Power) : (s.modPower f).wire = s.wire := rfl
@[simp] theorem State.modPower_draws (f : Power → Power) : (s.modPower f).draws = s.draws := rfl

@[simp] theorem State.modBoot_now (f : Boot → Boot) : (s.modBoot f).now = s.now := rfl
@[simp] theorem State.modBoot_pending (f : Boot → Boot) : (s.modBoot f).pending = s.pending := rfl
@[simp] theorem State.modBoot_dict (f : Boot → Boot) : (s.modBoot f).dict = s.dict := rfl
@[simp] theorem State.modBoot_ctl (f : Boot → Boot) : (s.modBoot f).ctl = s.ctl := rfl
@[simp] theorem State.modBoot_odp (f : Boot → Boot) : (s.modBoot f).odp = s.odp := rfl
@[simp] theorem State.modBoot_rule (f : Boot → Boot) : (s.modBoot f).rule = s.rule := rfl
@[simp] theorem State.modBoot_tb (f : Boot → Boot) : (s.modBoot f).tb = s.tb := rfl
@[simp] theorem State.modBoot_frames (f : Boot → Boot) : (s.modBoot f).frames = s.frames := rfl
@[simp] theorem State.modBoot_host (f : Boot → Boot) : (s.modBoot f).host = s.host := rfl
@[simp] theorem State.modBoot_world (f : Boot → Boot) : (s.modBoot f).world = s.world := rfl
@[simp] theorem State.modBoot_mem (f : Boot → Boot) : (s.modBoot f).mem = s.mem := rfl
@[simp] theorem State.modBoot_eng (f : Boot → Boot) : (s.modBoot f).eng = s.eng := rfl
@[simp] theorem State.modBoot_disp (f : Boot → Boot) : (s.modBoot f).disp = s.disp := rfl
@[simp] theorem State.modBoot_pub (f : Boot → Boot) : (s.modBoot f).pub = s.pub := rfl
@[simp] theorem State.modBoot_newel (f : Boot → Boot) : (s.modBoot f).newel = s.newel := rfl
@[simp] theorem State.modBoot_clocks (f : Boot → Boot) : (s.modBoot f).clocks = s.clocks := rfl
@[simp] theorem State.modBoot_power (f : Boot → Boot) : (s.modBoot f).power = s.power := rfl
@[simp] theorem State.modBoot_boot (f : Boot → Boot) : (s.modBoot f).boot = f s.boot := rfl
@[simp] theorem State.modBoot_group (f : Boot → Boot) : (s.modBoot f).group = s.group := rfl
@[simp] theorem State.modBoot_det (f : Boot → Boot) : (s.modBoot f).det = s.det := rfl
@[simp] theorem State.modBoot_events (f : Boot → Boot) : (s.modBoot f).events = s.events := rfl
@[simp] theorem State.modBoot_wire (f : Boot → Boot) : (s.modBoot f).wire = s.wire := rfl
@[simp] theorem State.modBoot_draws (f : Boot → Boot) : (s.modBoot f).draws = s.draws := rfl

@[simp] theorem State.setPads_now (f : Pins → Pins) : (s.setPads f).now = s.now := rfl
@[simp] theorem State.setPads_pending (f : Pins → Pins) : (s.setPads f).pending = s.pending := rfl
@[simp] theorem State.setPads_dict (f : Pins → Pins) : (s.setPads f).dict = s.dict := rfl
@[simp] theorem State.setPads_ctl (f : Pins → Pins) : (s.setPads f).ctl = s.ctl := rfl
@[simp] theorem State.setPads_odp (f : Pins → Pins) : (s.setPads f).odp = s.odp := rfl
@[simp] theorem State.setPads_rule (f : Pins → Pins) : (s.setPads f).rule = s.rule := rfl
@[simp] theorem State.setPads_tb (f : Pins → Pins) : (s.setPads f).tb = s.tb := rfl
@[simp] theorem State.setPads_frames (f : Pins → Pins) : (s.setPads f).frames = s.frames := rfl
@[simp] theorem State.setPads_host (f : Pins → Pins) : (s.setPads f).host = s.host := rfl
@[simp] theorem State.setPads_world (f : Pins → Pins) : (s.setPads f).world = s.world := rfl
@[simp] theorem State.setPads_mem (f : Pins → Pins) : (s.setPads f).mem = s.mem := rfl
@[simp] theorem State.setPads_eng (f : Pins → Pins) : (s.setPads f).eng = s.eng := rfl
@[simp] theorem State.setPads_disp (f : Pins → Pins) : (s.setPads f).disp = s.disp := rfl
@[simp] theorem State.setPads_pub (f : Pins → Pins) : (s.setPads f).pub = s.pub := rfl
@[simp] theorem State.setPads_newel (f : Pins → Pins) : (s.setPads f).newel = { s.newel with pins := f s.newel.pins } := rfl
@[simp] theorem State.setPads_clocks (f : Pins → Pins) : (s.setPads f).clocks = s.clocks := rfl
@[simp] theorem State.setPads_power (f : Pins → Pins) : (s.setPads f).power = s.power := rfl
@[simp] theorem State.setPads_boot (f : Pins → Pins) : (s.setPads f).boot = s.boot := rfl
@[simp] theorem State.setPads_group (f : Pins → Pins) : (s.setPads f).group = s.group := rfl
@[simp] theorem State.setPads_det (f : Pins → Pins) : (s.setPads f).det = s.det := rfl
@[simp] theorem State.setPads_events (f : Pins → Pins) : (s.setPads f).events = s.events := rfl
@[simp] theorem State.setPads_wire (f : Pins → Pins) : (s.setPads f).wire = s.wire := rfl
@[simp] theorem State.setPads_draws (f : Pins → Pins) : (s.setPads f).draws = s.draws := rfl

@[simp] theorem State.beginCourse_now (n : Nat) : (s.beginCourse n).now = s.now := rfl
@[simp] theorem State.beginCourse_pending (n : Nat) : (s.beginCourse n).pending = s.pending := rfl
@[simp] theorem State.beginCourse_dict (n : Nat) : (s.beginCourse n).dict = s.dict := rfl
@[simp] theorem State.beginCourse_ctl (n : Nat) : (s.beginCourse n).ctl = s.ctl := rfl
@[simp] theorem State.beginCourse_odp (n : Nat) : (s.beginCourse n).odp = s.odp := rfl
@[simp] theorem State.beginCourse_rule (n : Nat) : (s.beginCourse n).rule = s.rule := rfl
@[simp] theorem State.beginCourse_tb (n : Nat) : (s.beginCourse n).tb = s.tb := rfl
@[simp] theorem State.beginCourse_frames (n : Nat) : (s.beginCourse n).frames = s.frames := rfl
@[simp] theorem State.beginCourse_host (n : Nat) : (s.beginCourse n).host = s.host := rfl
@[simp] theorem State.beginCourse_world (n : Nat) : (s.beginCourse n).world = s.world := rfl
@[simp] theorem State.beginCourse_mem (n : Nat) : (s.beginCourse n).mem = s.mem := rfl
@[simp] theorem State.beginCourse_eng (n : Nat) : (s.beginCourse n).eng = s.eng := rfl
@[simp] theorem State.beginCourse_disp (n : Nat) : (s.beginCourse n).disp = s.disp := rfl
@[simp] theorem State.beginCourse_pub (n : Nat) : (s.beginCourse n).pub = s.pub := rfl
@[simp] theorem State.beginCourse_newel (n : Nat) : (s.beginCourse n).newel = { s.newel with courses := alSet n ⟨0, s.time, 0⟩ s.newel.courses } := rfl
@[simp] theorem State.beginCourse_clocks (n : Nat) : (s.beginCourse n).clocks = s.clocks := rfl
@[simp] theorem State.beginCourse_power (n : Nat) : (s.beginCourse n).power = s.power := rfl
@[simp] theorem State.beginCourse_boot (n : Nat) : (s.beginCourse n).boot = s.boot := rfl
@[simp] theorem State.beginCourse_group (n : Nat) : (s.beginCourse n).group = s.group := rfl
@[simp] theorem State.beginCourse_det (n : Nat) : (s.beginCourse n).det = s.det := rfl
@[simp] theorem State.beginCourse_events (n : Nat) : (s.beginCourse n).events = s.events := rfl
@[simp] theorem State.beginCourse_wire (n : Nat) : (s.beginCourse n).wire = s.wire := rfl
@[simp] theorem State.beginCourse_draws (n : Nat) : (s.beginCourse n).draws = s.draws := rfl

@[simp] theorem State.rest_now (q : List Instr) : (s.rest q).now = s.now := rfl
@[simp] theorem State.rest_pending (q : List Instr) : (s.rest q).pending = q := rfl
@[simp] theorem State.rest_dict (q : List Instr) : (s.rest q).dict = s.dict := rfl
@[simp] theorem State.rest_ctl (q : List Instr) : (s.rest q).ctl = s.ctl := rfl
@[simp] theorem State.rest_odp (q : List Instr) : (s.rest q).odp = s.odp := rfl
@[simp] theorem State.rest_rule (q : List Instr) : (s.rest q).rule = s.rule := rfl
@[simp] theorem State.rest_tb (q : List Instr) : (s.rest q).tb = s.tb := rfl
@[simp] theorem State.rest_frames (q : List Instr) : (s.rest q).frames = s.frames := rfl
@[simp] theorem State.rest_host (q : List Instr) : (s.rest q).host = s.host := rfl
@[simp] theorem State.rest_world (q : List Instr) : (s.rest q).world = s.world := rfl
@[simp] theorem State.rest_mem (q : List Instr) : (s.rest q).mem = s.mem := rfl
@[simp] theorem State.rest_eng (q : List Instr) : (s.rest q).eng = s.eng := rfl
@[simp] theorem State.rest_disp (q : List Instr) : (s.rest q).disp = s.disp := rfl
@[simp] theorem State.rest_pub (q : List Instr) : (s.rest q).pub = s.pub := rfl
@[simp] theorem State.rest_newel (q : List Instr) : (s.rest q).newel = s.newel := rfl
@[simp] theorem State.rest_clocks (q : List Instr) : (s.rest q).clocks = s.clocks := rfl
@[simp] theorem State.rest_power (q : List Instr) : (s.rest q).power = s.power := rfl
@[simp] theorem State.rest_boot (q : List Instr) : (s.rest q).boot = s.boot := rfl
@[simp] theorem State.rest_group (q : List Instr) : (s.rest q).group = s.group := rfl
@[simp] theorem State.rest_det (q : List Instr) : (s.rest q).det = s.det := rfl
@[simp] theorem State.rest_events (q : List Instr) : (s.rest q).events = s.events := rfl
@[simp] theorem State.rest_wire (q : List Instr) : (s.rest q).wire = s.wire := rfl
@[simp] theorem State.rest_draws (q : List Instr) : (s.rest q).draws = s.draws := rfl

end Sys2Proof.Machine
end

