-- ==== Sys2Proof/Laws/Ops.lean ====
section
/-!
SUPPORT. What each shared operation can do, said once: which parts of the state it may change, what it keeps of the canonical forms, and what it leaves in the event record.
-/
namespace Sys2Proof.Machine
open Sys2Proof

/-! Frames: `t` is `s` but for the parts named -/

/-- Only the host port, the queue pairs and ports, and the messages sent may differ. -/
abbrev State.HostWire (s t : State) : Prop := t = { s with host := t.host, group := s.group.links t.group, wire := t.wire }

/-- Only the dictionary, the host port, the queue pairs and ports, the event record and the messages sent may differ. -/
abbrev State.Notes (s t : State) : Prop :=
  t = { s with dict := t.dict, host := t.host, group := s.group.links t.group, events := t.events, wire := t.wire }

/-- Only those and the safety processor may differ. -/
abbrev State.SafetyNotes (s t : State) : Prop :=
  t = { s with dict := t.dict, host := t.host, newel := t.newel, group := s.group.links t.group, events := t.events, wire := t.wire }

theorem State.HostWire.refl (s : State) : State.HostWire s s := rfl
theorem State.Notes.refl (s : State) : State.Notes s s := rfl
theorem State.SafetyNotes.refl (s : State) : State.SafetyNotes s s := rfl

theorem State.HostWire.trans {s t u : State} (a : State.HostWire s t) (b : State.HostWire t u) : State.HostWire s u := by
  unfold State.HostWire at *; rw [a] at b; exact b

theorem State.Notes.trans {s t u : State} (a : State.Notes s t) (b : State.Notes t u) : State.Notes s u := by
  unfold State.Notes at *; rw [a] at b; exact b

theorem State.SafetyNotes.trans {s t u : State} (a : State.SafetyNotes s t) (b : State.SafetyNotes t u) : State.SafetyNotes s u := by
  unfold State.SafetyNotes at *; rw [a] at b; exact b

theorem State.HostWire.notes {s t : State} (a : State.HostWire s t) : State.Notes s t := by
  unfold State.HostWire State.Notes at *; rw [a]

theorem State.Notes.safety {s t : State} (a : State.Notes s t) : State.SafetyNotes s t := by
  unfold State.Notes State.SafetyNotes at *; rw [a]

theorem State.SafetyNotes.of_newel (s : State) (n : Newel) : State.SafetyNotes s { s with newel := n } := rfl

/-- A relation that each step of a fold keeps is kept by the fold. -/
theorem State.foldl_rel {α : Type} {R : State → State → Prop} (refl : ∀ s, R s s) (trans : ∀ {s t u}, R s t → R t u → R s u) (f : State → α → State)
    (h : ∀ s x, R s (f s x)) (xs : List α) (s : State) : R s (xs.foldl f s) := by
  induction xs generalizing s with
  | nil => exact refl s
  | cons x xs ih => exact trans (h s x) (ih (f s x))

/-- A fact about the state that each step of a fold keeps is kept by the fold. -/
theorem State.foldl_inv {α : Type} {P : State → Prop} (f : State → α → State) (h : ∀ s x, P s → P (f s x)) (xs : List α) (s : State) (p : P s) : P (xs.foldl f s) := by
  induction xs generalizing s with
  | nil => exact p
  | cons x xs ih => exact ih (f s x) (h s x p)

/-! Messages: what is sent may wait on a port or stay outstanding on a queue pair; no buffer changes -/

/-- As `HostWire`, and the host buffer is as it was. -/
def State.Sends (s t : State) : Prop := State.HostWire s t ∧ t.host.buffer = s.host.buffer

theorem State.Sends.refl (s : State) : State.Sends s s := ⟨rfl, rfl⟩

theorem State.Sends.trans {s t u : State} (a : State.Sends s t) (b : State.Sends t u) : State.Sends s u := ⟨a.1.trans b.1, b.2.trans a.2⟩

theorem State.sendInput_sends (s : State) (p : Nat) (m : WireMsg) : State.Sends s (s.sendInput p m) := by
  unfold State.sendInput; split <;> exact ⟨rfl, rfl⟩

theorem State.sendMgmt_sends (s : State) (m : WireMsg) : State.Sends s (s.sendMgmt m) := by
  unfold State.sendMgmt; split <;> exact ⟨rfl, rfl⟩

theorem State.sendQp_sends (s : State) (n priority : Nat) (m : WireMsg) : State.Sends s (s.sendQp n priority m) := by
  unfold State.sendQp; dsimp only; repeat' split
  all_goals exact ⟨rfl, rfl⟩

theorem State.sendRecords_sends (s : State) (c : Nat) (records : List (List Byte)) : State.Sends s (s.sendRecords c records) := by
  unfold State.sendRecords; dsimp only; repeat' split
  all_goals first
    | exact State.Sends.trans (t := State.setUdp _ _ _) ⟨rfl, rfl⟩ (State.sendMgmt_sends ..)
    | exact State.Sends.trans (t := State.setUdp _ _ _) ⟨rfl, rfl⟩ (State.sendInput_sends ..)
    | exact State.Sends.refl _

/-! Rings -/

/-- A delivered entry is a message, or bytes written to the host buffer, whose canonical form is kept. -/
theorem State.deliverEntry_effect (s : State) (r index : Nat) (b : List Byte) :
    State.HostWire s (s.deliverEntry r index b) ∧ (memWf s.host.buffer = true → memWf (s.deliverEntry r index b).host.buffer = true) := by
  have sends : ∀ {t : State}, State.Sends s t → State.HostWire s t ∧ (memWf s.host.buffer = true → memWf t.host.buffer = true) :=
    fun h => ⟨h.1, fun w => h.2 ▸ w⟩
  unfold State.deliverEntry; dsimp only; repeat' split
  all_goals first
    | exact ⟨rfl, memWf_memWriteBytes _ _⟩
    | exact sends ⟨rfl, rfl⟩
    | exact sends (State.sendQp_sends ..)
    | exact sends (State.Sends.trans (t := State.setUdp _ _ _) ⟨rfl, rfl⟩ (State.sendRecords_sends ..))
    | exact sends (State.sendRecords_sends ..)

theorem State.deliverEntry_frame (s : State) (r index : Nat) (b : List Byte) : State.HostWire s (s.deliverEntry r index b) := (s.deliverEntry_effect r index b).1

theorem State.moderate_frame (s : State) (r : Nat) (atOnce : Bool) : State.HostWire s (s.moderate r atOnce) := by
  unfold State.moderate; dsimp only; repeat' split
  all_goals rfl

theorem State.ringPush_frame (s : State) (r : Nat) (mk : Bool → List Byte) (atOnce : Bool) : State.HostWire s (s.ringPush r mk atOnce) := by
  unfold State.ringPush; dsimp only; repeat' split
  all_goals first
    | rfl
    | exact State.HostWire.trans (t := State.deliverEntry _ _ _ _) (State.HostWire.trans (t := State.setRing _ _ _) rfl (State.deliverEntry_frame ..)) (State.moderate_frame ..)

/-- The host buffer keeps its canonical form when a record is written to a ring. -/
theorem State.ringPush_buffer (s : State) (r : Nat) (mk : Bool → List Byte) (atOnce : Bool) (h : memWf s.host.buffer = true) : memWf (s.ringPush r mk atOnce).host.buffer = true := by
  have moderate : ∀ t : State, (t.moderate r atOnce).host.buffer = t.host.buffer := by
    intro t; unfold State.moderate; dsimp only; repeat' split
    all_goals rfl
  unfold State.ringPush; dsimp only; repeat' split
  all_goals first
    | exact h
    | (rw [moderate]; exact (State.deliverEntry_effect ..).2 h)

/-! Events and counters -/

theorem State.offerEvent_frame (s : State) (r : Nat) (e : EventRec) : State.Notes s (s.offerEvent r e) := by
  unfold State.offerEvent; dsimp only; repeat' split
  all_goals first | exact (State.ringPush_frame ..).notes | rfl

theorem State.offerEvent_events (s : State) (r : Nat) (e : EventRec) : (s.offerEvent r e).events = s.events := by
  unfold State.offerEvent; dsimp only; repeat' split
  all_goals first | rfl | rw [State.ringPush_frame]

theorem State.emit_frame (s : State) (frame code arg arg2 : Nat) : State.Notes s (s.emit frame code arg arg2) := by
  unfold State.emit
  exact State.Notes.trans (t := { s with events := s.events ++ [_] }) rfl (State.foldl_rel State.Notes.refl State.Notes.trans _ (fun s r => s.offerEvent_frame r _) _ _)

/-- Raising an event changes the dictionary's counters, the rings, the messages and the event record, and nothing else. -/
theorem State.raiseFor_frame (s : State) (frame code arg arg2 : Nat) : State.Notes s (s.raiseFor frame code arg arg2) := by
  unfold State.raiseFor; dsimp only; split
  · exact (s.emit_frame ..).trans (State.emit_frame ..)
  · exact s.emit_frame ..

/-- An event given to its rings is added to the record. -/
theorem State.emit_events (s : State) (frame code arg arg2 : Nat) : (s.emit frame code arg arg2).events = s.events ++ [⟨code, arg, frame, s.time, arg2⟩] := by
  unfold State.emit
  exact State.foldl_rel (R := fun a b => b.events = a.events) (fun _ => rfl) (fun a b => b.trans a) _ (fun s r => s.offerEvent_events r _) _ _

/-- Raising an event adds that event to the record, and after it event 0x0112 where a ring's loss has saturated EventsLost. -/
theorem State.raiseFor_events (s : State) (frame code arg arg2 : Nat) :
    ∃ more, (s.raiseFor frame code arg arg2).events = s.events ++ ⟨code, arg, frame, s.time, arg2⟩ :: more ∧ (more = [] ∨ ∃ e, more = [e] ∧ e.code = 0x0112) := by
  unfold State.raiseFor; dsimp only; split
  · exact ⟨_, by rw [State.emit_events, State.emit_events, List.append_assoc]; rfl, .inr ⟨_, rfl, rfl⟩⟩
  · exact ⟨[], by rw [State.emit_events], .inl rfl⟩

theorem State.raise_frame (s : State) (code arg : Nat) : State.Notes s (s.raise code arg) := s.raiseFor_frame ..
theorem State.raiseOpen_frame (s : State) (frame code : Nat) : State.Notes s (s.raiseOpen frame code) := s.raiseFor_frame ..

/-- A counter's rise changes the counters, and where it reaches its largest value what the event writes. -/
theorem State.count_frame (s : State) (idx sub n : Nat) : State.Notes s (s.count idx sub n) := by
  unfold State.count; dsimp only; split
  · exact State.Notes.trans (t := { s with dict := (s.dict.bump idx sub n).1 }) rfl (State.raise_frame ..)
  · rfl

theorem State.drainEvents_frame (n r : Nat) (s : State) : State.HostWire s (State.drainEvents n r s) := by
  induction n generalizing s with
  | zero => rfl
  | succ n ih =>
    unfold State.drainEvents; repeat' split
    all_goals first
      | rfl
      | exact State.HostWire.trans (t := State.ringPush _ _ _ _) (State.HostWire.trans (t := State.setRing _ _ _) rfl (State.ringPush_frame ..)) (ih _)
      | exact State.HostWire.trans (t := State.setRing _ _ _) rfl (State.ringPush_frame ..)

/-! The dictionary's tables keep their order -/

theorem Dict.setActive_sorted (d : Dict) (idx sub : Nat) (v : Value) (h : alSorted d.active = true) : alSorted (d.setActive idx sub v).active = true := by
  unfold Dict.setActive; dsimp only; split
  · exact alSorted_alErase _ h
  · exact alSorted_alSet _ _ h

theorem Dict.setActive_other (d : Dict) (idx sub : Nat) (v : Value) : d.setActive idx sub v = { d with active := (d.setActive idx sub v).active } := rfl

/-- A counter's rise keeps the active values and the sticky bits in order, and changes no other store. -/
theorem Dict.bump_sorted (d : Dict) (idx sub n : Nat) (h : alSorted d.active = true) (k : alSorted d.saturated = true) :
    alSorted (d.bump idx sub n).1.active = true ∧ alSorted (d.bump idx sub n).1.saturated = true ∧
      (d.bump idx sub n).1 = { d with active := (d.bump idx sub n).1.active, saturated := (d.bump idx sub n).1.saturated } := by
  unfold Dict.bump; dsimp only; split
  · exact ⟨Dict.setActive_sorted _ _ _ _ h, alSorted_alSet _ _ k, rfl⟩
  · exact ⟨Dict.setActive_sorted _ _ _ _ h, k, rfl⟩

/-! The registers of processors (R301) -/

theorem State.processor_setProcessor_same (s : State) (n : Nat) (v : Invocation) : (s.setProcessor n v).processor n = v := by
  unfold State.setProcessor State.processor; split <;> simp_all [alGet_alSet_same]

theorem State.processor_setProcessor_other (s : State) {n k : Nat} (h : k ≠ n) (v : Invocation) : (s.setProcessor n v).processor k = s.processor k := by
  unfold State.setProcessor State.processor; split <;> simp_all [alGet_alSet_other h]

/-- A processor taken in hand has the registers given. -/
theorem State.processor_takeInHand_same (s : State) (n : Nat) (v : Invocation) : (s.takeInHand n v).processor n = v := by
  simp [State.takeInHand, State.processor]

/-- Those of the others are kept. -/
theorem State.processor_takeInHand_other (s : State) {n k : Nat} (h : k ≠ n) (v : Invocation) : (s.takeInHand n v).processor k = s.processor k := by
  by_cases e : n = s.engUnit
  · subst e; simp [State.takeInHand, State.processor, h]
  · by_cases f : k = s.engUnit
    · subst f; simp [State.takeInHand, State.processor, h, e, alGet_alErase_other h, alGet_alSet_same]
    · simp [State.takeInHand, State.processor, h, e, f, alGet_alErase_other h, alGet_alSet_other f]

/-- Setting registers changes nothing but those of processors, and keeps their table in order. -/
theorem State.setProcessor_frame (s : State) (n : Nat) (v : Invocation) :
    s.setProcessor n v = { s with eng := (s.setProcessor n v).eng, processors := (s.setProcessor n v).processors } := by
  unfold State.setProcessor; split <;> rfl

theorem State.setProcessor_sorted (s : State) (n : Nat) (v : Invocation) (h : alSorted s.processors = true) : alSorted (s.setProcessor n v).processors = true := by
  unfold State.setProcessor; split
  · exact h
  · exact alSorted_alSet _ _ h

theorem State.takeInHand_sorted (s : State) (n : Nat) (v : Invocation) (h : alSorted s.processors = true) : alSorted (s.takeInHand n v).processors = true := by
  unfold State.takeInHand; dsimp only; split
  · exact h
  · exact alSorted_alErase _ (alSorted_alSet _ _ h)

/-! Status, pins and causes -/

theorem State.signalStatus_frame (s : State) : State.HostWire s s.signalStatus := by
  unfold State.signalStatus; dsimp only; repeat' split
  all_goals rfl

theorem State.setPins_frame (s : State) (f : Pins → Pins) : State.SafetyNotes s (s.setPins f) := by
  unfold State.setPins; split
  · exact State.SafetyNotes.trans (t := { s with newel := _ }) rfl (State.signalStatus_frame _).notes.safety
  · rfl

/-- A device fault changes what latches it, the pins, and what its event writes. -/
theorem State.deviceFault_frame (s : State) (cause : Nat) : State.SafetyNotes s (s.deviceFault cause) := by
  have h : State.SafetyNotes s (State.setPins { s with newel := { s.newel with faultCause := s.newel.faultCause ||| 2 ^ cause } } (fun p => { p with fault := true, safeState := true, planOk := false })) :=
    State.SafetyNotes.trans (t := { s with newel := _ }) rfl (State.setPins_frame ..)
  unfold State.deviceFault; dsimp only; split
  · exact h.trans (State.raise_frame ..).safety
  · exact h

theorem State.setCause_frame (s : State) (cause : Nat) : State.SafetyNotes s (s.setCause cause) := by
  unfold State.setCause; dsimp only
  generalize hn : Newel.mk .. = n
  split
  · exact (State.SafetyNotes.of_newel s n).trans (((State.count_frame ..).trans (State.raise_frame ..)).trans (State.signalStatus_frame _).notes).safety
  · exact State.SafetyNotes.of_newel s n

theorem State.dropCauses_frame (s : State) (mask : Nat) : State.SafetyNotes s (s.dropCauses mask) := by
  unfold State.dropCauses; dsimp only
  generalize hn : Newel.mk .. = n
  split
  · exact (State.SafetyNotes.of_newel s n).trans ((State.raiseOpen_frame ..).trans (State.signalStatus_frame _).notes).safety
  · exact State.SafetyNotes.of_newel s n

theorem State.clearCause_frame (s : State) (cause : Nat) : State.SafetyNotes s (s.clearCause cause) := by
  unfold State.clearCause; repeat' split
  all_goals first | rfl | exact State.dropCauses_frame ..

end Sys2Proof.Machine
end

