-- ==== Sys2Proof/Tests/Slice0.lean ====
section
/-!
SUPPORT. The model's own tests: ill-formed commands that the check refuses, single steps on small states with results taken from the spec, and for each statement with hypotheses
a state and operands that meet them.
-/
namespace Sys2Proof.Tests
open Sys2Proof Machine

set_option Elab.async false

/-! Helpers -/

def msg (session xid counter flags : Nat) (p : List Byte) (tag : List Byte) : OdpMsg := ⟨.mgmt, 0, 1, flags, session, xid, counter, 0, p.length, 0, p, tag⟩
def tag0 : List Byte := List.replicate 32 0#8
def okMsg : OdpMsg := msg 1 1 1 0 [] tag0
def grp (_kind sender : Nat) (seq frame digest : Nat) (p : List Byte) : GroupMsg := ⟨0, sender, 0, true, 0, p.length, frame, seq, 0, 0, digest, p⟩
/-- A manufacturing area signed with the private scalar 7, for a device whose secret is 5: Gallery 0 with every engine, every Hall bank, both time scalers. The signatures were made
outside the model. -/
def identity : List Byte := leBytes 64 10209524587833563323362794994116504945781477501225341812537547219805840754704921645500131403872388795771187933934459515847976077729660664891455891440653349
def area : Part :=
  { rootKey := leBytes 64 6938994306259387995773048525002292783559746697608429738221605472287675068313578460433359936637101444712182637699062655310702023408142006528003026466942741
    serial := 9, macs := [1, 2, 3], subsystemVendor := 4, subsystemId := 5, helper := [], identityKey := identity
    endorsement := leBytes 64 8353081580283383310212902921497787941588326929044591530365355400413985330680542390738906668720485559633950914338752082407953610378837674192268341870404833
    record := leBytes 4 0x5A554131 ++ leBytes 8 (sm3First64 identity) ++ leBytes 2 1 ++ [1#8, 0x3F#8, 1#8] ++ List.replicate 15 0#8 ++ leBytes 64 (2 ^ 512 - 1) ++ leBytes 128 (2 ^ 1024 - 1)
      ++ leBytes 64 705507160397564234566373866246056156396625186851584441526775959763134278211392394434369076545250210832416986919811233739952369066752644083206883003879583
    voltages := List.replicate 17 780
    signature := leBytes 64 9518262436918933908495912378271089030738955384626364610400816820312096124457798667468481253397446137806070694036664842146228211436567970579959450923532948 }
/-- A start without a failure. -/
def facts : BootFacts :=
  { pllLocked := true, sysclk := true, refEth := true, refPcie := true, newelClk := true, jtagTck := true, romDigest := sm3 area.rootKey, areaA := area, areaB := area, bitErrors := 0, secret := 5
    imageA := true, imageB := true, badHeaders := [], untrained := [], sramZeroed := true, gddrZeroed := true, failedEngines := [], failedGalleries := [], areaReadable := true
    otherReadable := true, elapsed := 5 }
/-- The same as flash devices give them whole: two MAC addresses, and all the helper data. -/
def wholeFacts : BootFacts := let a : Part := { area with macs := [1, 2], helper := List.replicate 4096 0#8 }; { facts with romDigest := List.replicate 32 0#8, areaA := a, areaB := a }

/-! Ill-formed commands (Sys2Proof/WellFormed.lean), each refused, with a well-formed neighbour of each family accepted -/

theorem test_illformed_dictionary :
    [Instr.read (2 ^ 64) okMsg, .write 0 { okMsg with version := 256 }, .blockRead 0 { okMsg with flags := 8 }, .blockWrite 0 { okMsg with session := 2 ^ 32 },
     .stage 0 { okMsg with xid := 2 ^ 32 }, .check 0 { okMsg with counter := 2 ^ 64 }, .commit 0 { okMsg with status := 65536 }, .abort 0 { okMsg with length := 65536 },
     .subscribe 0 { okMsg with payload := List.replicate 1409 0#8 }, .setupRequest 0 { okMsg with reserved := 2 ^ 69 }, .close 0 { okMsg with tag := [0#8] },
     .keepAlive (2 ^ 64) okMsg, .subscriptionNotice 1 65536 0, .subscriptionNotice 1 0 256, .counterClear 65536 1, .counterClear 0x1020 (2 ^ 64)].all (fun c => !c.wf) = true := by decide +kernel

theorem test_wellformed_dictionary :
    [Instr.read 0 okMsg, .setupRequest 0 { okMsg with tag := [] }, .subscriptionNotice 1 0x1020 255, .counterClear 0x1020 (2 ^ 64 - 1)].all (·.wf) = true := by decide +kernel

theorem test_illformed_time_and_world :
    [Instr.sync (2 ^ 64) ⟨0, 0, 0, 0⟩, .sync 0 ⟨3, 0, 0, 0⟩, .sync 0 ⟨0, 256, 0, 0⟩, .sync 0 ⟨0, 0, 2 ^ 64, 0⟩, .announce 0 ⟨3, 0, 0⟩, .pdelayReq 0 ⟨0, 0, 2 ^ 64⟩, .pdelayReqIssue (2 ^ 64),
     .syncTimeout (2 ^ 64), .ppsIn (2 ^ 64), .programReload true 128, .programReload false 512, .tileJob 4, .streamPacketArrivalUdp 0 65536 [0#8], .streamPacketArrivalRoce 0 ⟨2 ^ 24, true⟩ [0#8],
     .filterInvocation 128, .streamReadStart 128, .flush 128, .urgentDelta 128, .packetApply 128 [], .packetApply 0 [(0, 272)], .streamBankReturn 128 0, .streamBankReturn 0 2,
     .expanderWindowFill 512, .candidateBlock 512].all (fun c => !c.wf) = true := by decide +kernel

theorem test_wellformed_time_and_world :
    [Instr.sync 0 ⟨2, 255, 1, -1⟩, .programReload true 127, .programReload false 511, .tileJob 3, .packetApply 127 [(9, 271)], .streamBankReturn 127 1, .candidateBlock 511].all (·.wf) = true := by decide +kernel

theorem test_illformed_engine :
    [Instr.ialu 1 1 1 0 0x0E, .icmp 1 1 1 0 6, .icmp 0 1 1 0 0, .icmp 8 1 1 0 0, .falu 1 1 1 0 0x11, .fcmp 1 1 1 0 4, .fcmp 0 1 1 0 0, .valu 1 1 1 0 0x0F, .valu 16 1 1 0 0, .valu 1 16 1 0 0,
     .valu 1 1 16 0 0, .plog 1 1 1 0 4, .plog 0 1 1 0 0, .plog 1 8 1 0 0, .plog 1 1 8 0 0, .crc32c 1 1 1 0 1, .crc32c 1 1 1 0 5, .bfx 1 1 16 16, .vldS 16 1 0, .vstS 16 1 0, .atomAddI64 1 1 0,
     .poseSphere 1 1 0, .poseAxle 1 1 0, .query 1 1 1 0, .lookup 1 1 1 0, .scg 2 1 0, .br 0 false 0, .loop 1 0 1, .loop 1 1 0, .reject 1 0 1, .reject 1 0 15].all (fun c => !c.wf) = true := by decide +kernel

theorem test_wellformed_engine :
    [Instr.ialu 1 1 1 0 0x0D, .icmp 7 1 1 0 5, .valu 15 15 15 0 0, .plog 1 0 63 0 3, .crc32c 1 1 1 0 4, .bfx 1 1 16 15, .vldS 15 1 0, .atomAddI64 1 2 0, .query 1 2 1 0, .scg 4 1 0,
     .br 0 true 1, .loop 1 1 1, .reject 1 0 0, .reject 1 0 6, .reject 1 0 16].all (·.wf) = true := by decide +kernel

theorem test_illformed_frame :
    [Instr.galleryMerge 16 0, .galleryMerge 0 8192, .candidateSingle 512, .reference 512, .recheck 512, .qpInstance 64, .qpIteration 64, .timeScaling 66, .sentryCheck 66, .release (2 ^ 64) 0 0,
     .release 0 16 0, .release 0 0 (2 ^ 64), .dispatcherTick (2 ^ 64) 0, .dispatcherTick 0 (2 ^ 64), .itemAssign 0 21, .steal 16, .itemRetire (2 ^ 64) 0, .itemCutOff (2 ^ 64) (.rebuild true), .engineLeavesService 512 ⟨0, 0⟩,
     .engineLeavesService 0 ⟨16, 0⟩, .galleryLeavesService 16 ⟨0, 0⟩, .galleryLeavesService 0 ⟨16, 0⟩, .adminOutWrite false 0 65536, .adminOutWrite false 1 0, .adminOutWrite true 16 0, .adminOutWrite true 0 (2 ^ 32),
     .drainComplete true 512, .drainComplete false 16, .rejoinRegister true 512 true, .rejoinRegister false 16 true, .selfTestSlice 0 528 ⟨true, true⟩, .selfTestSlice 0 2048 ⟨true, true⟩, .selfTestSlice 0 4352 ⟨true, true⟩, .sliceAbandon ⟨512, true⟩,
     .coverageOverdue 0 8192].all (fun c => !c.wf) = true := by decide +kernel

theorem test_wellformed_frame :
    [Instr.galleryMerge 15 8191, .qpInstance 63, .timeScaling 65, .release 0 15 1, .itemAssign 0 20, .steal 15, .engineLeavesService 511 ⟨15, 0⟩, .adminOutWrite true 15 (2 ^ 32 - 1),
     .rejoinRegister false 15 true, .selfTestSlice 0 1024 ⟨true, true⟩, .selfTestSlice 0 4351 ⟨true, true⟩].all (·.wf) = true := by decide +kernel

theorem test_illformed_safety_and_host :
    [Instr.clockMonitorWindow 0 ⟨[(100, 0)], true⟩, .newelLockstepMismatch (2 ^ 64), .uncorrectedHallError 0 (2 ^ 27), .correctedErrorEvent (2 ^ 64) 0, .channelLoss 0 32, .doorbell 0 16384 0,
     .doorbell 0 0 (2 ^ 32), .descriptorFetch 0 0 [] [] true, .dictionary (2 ^ 64) ⟨0, true, [], true⟩, .interruptModerationTimer 0 16384, .apertureBaseWrite ⟨2 ^ 64, []⟩, .busMasterEnableWrite 0 ⟨true, [(3, 0)], []⟩, .busMasterEnableWrite 0 ⟨true, [], [(32768, [0#8])]⟩, .recoveryControl 0 (2 ^ 32), .reqLen 0 8 (some 0) [] none, .reqLen 0 0 none [] none,
     .reqLen 0 0 (some (2 ^ 32)) [] none, .reqLen 0 0 (some 0) (List.replicate 1473 0#8) none, .reqLen 0 0 (some 0) [] (some 2048), .roceDoorbell 0 (2 ^ 24) 0 0, .roceConsumerSend 0 0 16384 ⟨0, 0⟩, .roceConsumerSend 0 0 0 ⟨2 ^ 32, 0⟩,
     .udpDescriptorDatagram 0 ⟨0, 0, []⟩, .udpAcknowledgement 0 ⟨0, 0, List.replicate 1473 0#8⟩, .udpRecordResend 0 4096, .linkTrained 0 0 1, .linkTrained 0 5 1, .linkTrained 0 1 0,
     .linkTrained 0 1 9].all (fun c => !c.wf) = true := by decide +kernel

theorem test_wellformed_safety_and_host :
    [Instr.clockMonitorWindow 0 ⟨[(0, 1250000), (99, 0)], true⟩, .uncorrectedHallError 0 (2 ^ 27 - 1), .channelLoss 0 31, .doorbell 0 16383 (2 ^ 32 - 1), .descriptorFetch 0 0 (List.replicate 64 0#8) [] true,
     .reqLen 0 7 none [] (some 2047), .udpAcknowledgement 0 ⟨2, 0, List.replicate 64 0#8⟩, .busMasterEnableWrite 0 ⟨true, [(2, 2 ^ 64 - 1)], [(32767, [0#8])]⟩, .linkTrained 0 4 8].all (·.wf) = true := by decide +kernel

theorem test_illformed_group_and_power :
    [Instr.hello (2 ^ 64) (grp 1 1 1 0 0 []), .version 0 { grp 3 1 1 0 0 [] with port := 2 }, .scene 0 { grp 4 1 1 0 0 [] with sender := 4 }, .list 0 { grp 5 1 1 0 0 [] with receiver := 4 },
     .plan 0 { grp 6 1 1 0 0 [] with segment := 65536 }, .digest 0 { grp 7 1 1 0 0 [] with length := 2 ^ 32 }, .bisect 0 { grp 8 1 1 0 0 [] with frame := 2 ^ 64 },
     .mirror 0 { grp 9 1 1 0 0 [] with sequence := 2 ^ 64 }, .mirrorAck 0 { grp 10 1 1 0 0 [] with version := 2 ^ 32 }, .takeover 0 { grp 11 1 1 0 0 [] with digest := 2 ^ 64 },
     .digestFinal 0 7 0, .digestMissing 0 0 4, .peerLoss 0 4, .cnp 0 (2 ^ 24), .roceAck 0 (2 ^ 24) 0, .powerOnReset 0 true { wholeFacts with areaB := area },
     .powerOnReset 0 true { wholeFacts with untrained := [32] }, .warmRstNRelease 0 { wholeFacts with failedEngines := [512] }, .warmRstNRelease 0 { wholeFacts with failedGalleries := [16] },
     .firmwareActivate 2, .throttleEvaluation (2 ^ 64) none, .temperatureSample 0 [], .railExcursion 0 0 true, .railExcursion 0 7 true, .patrolScrub (2 ^ 64) 0 [] [], .portLinkDown 0 2,
     .pfcPause 0 2 0 true, .pfcPause 0 0 8 true].all (fun c => !c.wf) = true := by decide +kernel

theorem test_wellformed_group_and_power :
    [Instr.hello 0 (grp 1 1 1 0 0 []), .digestFinal 0 6 3, .peerLoss 0 3, .powerOnReset 0 true wholeFacts, .warmRstNRelease 0 { wholeFacts with untrained := [31], failedEngines := [511] },
     .firmwareActivate 1, .temperatureSample 0 (List.replicate 32 0#32), .railExcursion 0 6 false, .pfcPause 0 1 7 true].all (·.wf) = true := by decide +kernel

/-! Dictionary messages: witnesses of the statements' hypotheses -/

/-- A session that holds both roles. -/
def ses : Session := ⟨7, 1, 3, [], .mgmt, 0, 1, 0, 0, 0, [], 0, []⟩
/-- A device at work: started, locked, at frame 3, with one session. -/
def live : State :=
  { State.reset with
    boot := { Boot.initial with ready := true, stage := 9, domsLoaded := true, coldHeld := false, journalHeader := some (journalMagic, 0) }
    newel := { Newel.initial with booted := true, startHold := false, pins := { Pins.initial with fault := false, ready := true } }
    tb := { Timebase.initial with st := .locked, everLocked := true, ticked := true, curFrame := 3, nextFrame := some 4 }
    odp := ⟨[ses], 8⟩ }
/-- A message of the session with its tag (R40). -/
def signed (kind opcode flags : Nat) (p : List Byte) : OdpMsg :=
  { msg 7 1 1 flags p [] with tag := hmacSm3 [] ((msg 7 1 1 flags p []).signed kind opcode) }

theorem heard_of (s : State) (x : Session) (kind opcode flags : Nat) (p : List Byte) (h : s.boot.ready = true ∧ s.session? 7 = some x ∧ max s.now 0 ≤ x.heard + s.cfg 0x1010 3
    ∧ x.key = [] ∧ x.rxCounter < 1 ∧ (msg 7 1 1 flags p []).malformed kind opcode = false ∧ s.odpEnabled .mgmt = true) : Heard s 0 kind opcode (signed kind opcode flags p) x :=
  ⟨h.1, h.2.2.2.2.2.2, h.2.1, h.2.2.1, by rw [h.2.2.2.1]; rfl, h.2.2.2.2.1, h.2.2.2.2.2.1⟩

theorem asked_of (s : State) (x : Session) (opcode flags : Nat) (p : List Byte) (h : s.boot.ready = true ∧ s.session? 7 = some x ∧ max s.now 0 ≤ x.heard + s.cfg 0x1010 3
    ∧ x.key = [] ∧ x.rxCounter < 1 ∧ (msg 7 1 1 flags p []).malformed 0 opcode = false ∧ s.odpEnabled .mgmt = true ∧ x.kept = [] ∧ x.roles.testBit 1 = true) :
    Asked s 0 opcode (signed 0 opcode flags p) x :=
  ⟨heard_of s x 0 opcode flags p ⟨h.1, h.2.1, h.2.2.1, h.2.2.2.1, h.2.2.2.2.1, h.2.2.2.2.2.1, h.2.2.2.2.2.2.1⟩, by simp [h.2.2.2.2.2.2.2.1], .inl h.2.2.2.2.2.2.2.1, .inl h.2.2.2.2.2.2.2.2⟩

/-- A reference to sub of idx with a type code. -/
def ref (idx sub ty : Nat) : List Byte := leBytes 2 idx ++ leBytes 1 sub ++ leBytes 1 ty

def rowChips : ObjRow := ⟨0x1010, 1, 2, 1, .u8, .rws, .nats [(1, 8)], [4]⟩
def rowRule : ObjRow := ⟨0x1f10, 32, 0, 1, .dom, .rws, .bytes 0 1024, [0]⟩
def rowGuard : ObjRow := ⟨0x1f00, 1, 3, 1, .u32, .rw, .nats [(50, 0x7d0)], [200]⟩

/-- ReadsAnswerWithTheObject, WritesAndStagesTakeEffect: each form of request is asked, of an object it may name. -/
theorem test_asked : ∀ q ∈ [(1, 0, ref 0x1010 2 2, rowChips), (1, 2, ref 0x1010 2 2, rowChips), (3, 0, ref 0x1F10 0 10 ++ leBytes 4 0, rowRule), (9, 0, ref 0x1010 2 2 ++ leBytes 2 0, rowChips),
      (9, 0, ref 0x1010 2 2 ++ leBytes 2 1, rowChips), (2, 0, ref 0x1F00 3 4 ++ [4#8, 0#8, 0#8, 0#8] ++ leBytes 4 50, rowGuard), (5, 0, ref 0x1010 2 2 ++ [1#8, 0#8, 0#8, 0#8] ++ [8#8], rowChips),
      (4, 1, ref 0x1F10 0 10 ++ leBytes 4 0 ++ leBytes 4 1 ++ [0#8], rowRule), (4, 5, ref 0x1F10 0 10 ++ leBytes 4 0 ++ leBytes 4 1 ++ [0#8], rowRule)],
    Asked live 0 q.1 (signed 0 q.1 q.2.1 q.2.2.1) ses ∧ Names (signed 0 q.1 q.2.1 q.2.2.1) q.2.2.2 := by
  intro q h
  simp only [List.mem_cons, List.not_mem_nil, or_false] at h
  rcases h with rfl | rfl | rfl | rfl | rfl | rfl | rfl | rfl | rfl <;> exact ⟨asked_of _ _ _ _ _ (by decide +kernel), by decide +kernel⟩

theorem test_asked_reads : rowChips.ty ≠ .dom ∧ rowChips.access ≠ .wo ∧ rowRule.ty = .dom ∧ rowRule.access ≠ .wo ∧ live.boot.domsLoaded = true ∧ ses.subs.length < 256 ∧
    0x1F10 ∉ live.mem.tallyLost := by decide

theorem test_asked_writes : writeForm (ref 0x1F00 3 4 ++ [4#8, 0#8, 0#8, 0#8] ++ leBytes 4 50) = true ∧ rowGuard.access = .rw ∧ valueIn rowGuard 3 (leBytes 4 50) = .ok (.num 50)
    ∧ StoresOnly 0x1F00 3 := ⟨rfl, rfl, rfl, by decide⟩
theorem test_asked_stages : writeForm (ref 0x1010 2 2 ++ [1#8, 0#8, 0#8, 0#8] ++ [8#8]) = true ∧ rowChips.access = .rws ∧ valueIn rowChips 2 [8#8] = .ok (.num 8) ∧
    MayStage (askedAt live 0 okMsg ses) ses ∧ (askedAt live 0 okMsg ses).dict.shadow.length < 4096 := ⟨rfl, rfl, rfl, by decide +kernel, by decide +kernel⟩
/-- ClearMaskZeroesItsCounters, and the clause of WRITE that clears: COUNTER_CLEAR acts on counter objects, whose subindex 0xFE takes a WRITE. -/
theorem test_counters : isCounterIndex 0x1020 = true ∧ (objFind 0x1020 0xFE).any (fun r => r.access == .wo) = true ∧ alSorted live.dict.active = true ∧ alSorted live.dict.saturated = true := by
  decide +kernel

/-- A BLOCK WRITE of one byte, the rule END, goes on and ends. -/
theorem test_asked_block_write : rowRule.access = .rws ∧ takeSegment rowRule none 0 1 [0#8] = .ok [0#8] ∧
    (live.verifyDom 0x1F10 0 [0#8]).1 = 0 := ⟨rfl, rfl, by decide +kernel⟩

/-- A state of the commit machine with this session's set. -/
def staged (st : CommitState) (owner target : Nat) : State := { live with ctl := { CommitCtl.initial with st := st, owner := owner, target := target, stagedRev := 1, checkedRev := 1 } }

/-- TheCommitMachineMoves: CHECK with a set of the session's own, COMMIT for the next frame but one and for the current one, ABORT of no set, the session's own, another's, and one too late. -/
theorem test_commit_asked : Asked (staged .staging 7 0) 0 6 (signed 0 6 0 []) ses ∧ Asked (staged .checked 7 0) 0 7 (signed 0 7 0 (leBytes 8 5 ++ leBytes 4 1)) ses ∧
    Asked (staged .checked 0 0) 0 7 (signed 0 7 0 (leBytes 8 3 ++ leBytes 4 1)) ses ∧ Asked live 0 8 (signed 0 8 0 []) ses ∧ Asked (staged .checked 7 0) 0 8 (signed 0 8 0 []) ses ∧
    Asked (staged .staging 9 0) 0 8 (signed 0 8 0 []) ses ∧ Asked { staged .pending 7 4 with now := 100000000 } 0 8 (signed 0 8 0 []) ses ∧
    Asked { staged .pending 0 5 with now := 0 } 0 8 (signed 0 8 0 []) ses := by
  refine ⟨?_, ?_, ?_, ?_, ?_, ?_, ?_, ?_⟩ <;> exact asked_of _ _ _ _ _ (by decide +kernel)

theorem test_commit_states :
    let s1 := fun s => askedAt s 0 okMsg ses
    MayStage (s1 (staged .staging 7 0)) ses ∧ (s1 (staged .checked 7 0)).tb.st ≠ .freeRun ∧ (s1 (staged .checked 7 0)).pastCutOff 5 = false ∧ (s1 (staged .checked 7 0)).det.replay = .live ∧
    (s1 (staged .pending 0 5)).pastCutOff 5 = false ∧ (s1 { staged .pending 7 4 with now := 100000000 }).pastCutOff 4 = true := by decide +kernel

/-- UnprovenMessagesAreDropped, RepeatedRequestsAreNotExecutedAgain: a wrong tag, the sixteenth, an old counter; a kept ID, and one that precedes all that are kept. -/
def ses2 : Session := { ses with failedTags := 15, rxCounter := 1, kept := [(1, ⟨1, 0, 0, []⟩), (2, ⟨1, 0, 0, []⟩)] }
theorem test_unproven : live.boot.ready = true ∧ live.odpEnabled okMsg.transport = true ∧ live.session? 7 = some ses ∧ max live.now 0 ≤ ses.heard + live.cfg 0x1010 3 ∧
    ses.failedTags + 1 < 16 ∧ 16 ≤ ses2.failedTags + 1 ∧ (msg 7 1 1 0 [] tag0).counter ≤ ses2.rxCounter := by decide +kernel
theorem test_unproven_tag : (msg 7 1 1 0 [] []).tag ≠ hmacSm3 ses.key ((msg 7 1 1 0 [] []).signed 0 1) := by decide +kernel
def ses3 : Session := { ses with kept := [(1, ⟨1, 0, 0, []⟩)] }
def ses4 : Session := { ses with kept := [(2, ⟨1, 0, 0, []⟩)] }
theorem test_repeated : Heard { live with odp := ⟨[ses3], 8⟩ } 0 0 1 (signed 0 1 0 []) ses3 ∧ Heard { live with odp := ⟨[ses4], 8⟩ } 0 0 1 (signed 0 1 0 []) ses4 ∧
    ses3.kept.find? (fun k => k.1 == 1) = some (1, ⟨1, 0, 0, []⟩) ∧ (∀ k ∈ ses4.kept, k.1 ≠ 1 ∧ seqAfter 1 k.1 = true) ∧ ses4.kept.length ≤ 64 :=
  ⟨heard_of _ _ _ _ _ _ (by decide +kernel), heard_of _ _ _ _ _ _ (by decide +kernel), rfl, by decide +kernel, by decide⟩

/-- SessionsOpenAndEnd: a setup request signed with key 1 of the table, a session that closes, one that ends while it owns a set, and a value changed since the last notice. -/
def keyTable : List Byte := List.replicate 162 0#8 ++ [1#8, 0#8] ++ List.replicate 28 0#8 ++ leBytes 32 0x56cefd60d7c87c000d58ef57fa73ba4d9c0dfa08c08a7331495c2e1da3f2bd52
  ++ leBytes 32 0x31b7e7e6cc8189f668535ce0f8eaf1bd6de84c182f6c8e716f780d3a970a23c3
def setupMsg : OdpMsg := msg 0 0 0 0 (leBytes 4 1 ++ List.replicate 80 0#8 ++ leBytes 32 0x12609b595f633abdb86a60a800ad8831519d2abc1854461e986427c6a78fb8dc
  ++ leBytes 32 0x4914edc415bdd8d6da63bf8fff8c4fdeef988350fb09d2fa0ba68c294e3c9a7a) []
def keyed : State := { live with dict := live.dict.setActive 0xA000 1 (.blob keyTable) }
theorem test_setup : keyed.boot.ready = true ∧ keyed.odpEnabled setupMsg.transport = true ∧ setupMsg.malformed 3 0 = false ∧ setupMsg.session = 0 ∧ setupMsg.payload.length = 148 ∧
    fieldAt setupMsg.payload 0 4 = 1 ∧ (keyRoles (keyed.cfgBytes 0xA000 1) 1).testBit 0 = true ∧ keyed.odp.sessions.length < keyed.cfg 0x1010 2 := by decide +kernel
theorem test_setup_signature :
    sm2Verify (keyPublic (keyed.cfgBytes 0xA000 1) 1) (sm3 ((setupMsg.signed 3 0).take 116)) (slice setupMsg.payload 84 64) = true := by decide +kernel
theorem test_sessions : Heard live 0 5 0 (signed 5 0 0 []) ses ∧ Heard live 0 6 0 (signed 6 0 0 []) ses ∧ (staged .pending 7 5).session? 7 = some ses ∧ (staged .pending 7 5).ctl.owner = 7 ∧
    (staged .staging 7 0).ctl.owner = 7 :=
  ⟨heard_of _ _ _ _ _ _ (by decide +kernel), heard_of _ _ _ _ _ _ (by decide +kernel), rfl, rfl, rfl⟩
def ses5 : Session := { ses with subs := [⟨0x1010, 2, 1, none, some 2⟩] }
theorem test_notice : objFind 0x1010 2 = some rowChips ∧ ses5.subs.find? (fun y => y.idx == 0x1010 && y.sub == 2) = some ⟨0x1010, 2, 1, none, some 2⟩ ∧
    none ≠ some (live.live 0x1010 2) ∧ (∀ f, some 2 = some f → f + 1 ≤ live.tb.curFrame) := ⟨rfl, rfl, nofun, by intro f h; cases h; decide⟩

/-! Rules and time: single steps with results of the spec, and witnesses -/

/-- The rule interpreter with a stack, top first. -/
def vm (st : List Int) : State := { live with rule := ⟨st, .running, 2, 0⟩ }
/-- What a rule operation left: the stack, the status and the bytes to skip. -/
def ruleOf (o : Host.Outcome State Fault Refusal) : Option (List Int × RuleStatus × Nat) :=
  match o with | .next t => some (t.rule.stack, t.rule.status, t.rule.skip) | _ => none

/-- The rule statements' premise on the stack. -/
theorem test_rule_at : RuleAt (vm [3, -7, 1]) [3, -7, 1] ∧ RuleAt (vm []) [] ∧ Int64 (2 ^ 63 - 1) ∧ Int64 (-2 ^ 63) := by decide +kernel
theorem test_rule_sub_order : ruleOf (exec .ruleSub (vm [3, 10])) = some ([7], .running, 0) := by decide +kernel
theorem test_rule_add_out_of_range : ruleOf (exec .ruleAdd (vm [1, 2 ^ 63 - 1])) = some ([1, 2 ^ 63 - 1], .failed 0xFF 2, 0) := by decide +kernel
theorem test_rule_div_truncates : ruleOf (exec .ruleDiv (vm [2, -7])) = some ([-3], .running, 0) := by decide +kernel
theorem test_rule_div_by_zero : (ruleOf (exec .ruleDiv (vm [0, 5]))).map (·.2.1) = some (.failed 0xFF 2) := by decide +kernel
theorem test_rule_mul : ruleOf (exec .ruleMul (vm [-3, 4])) = some ([-12], .running, 0) := by decide +kernel
theorem test_rule_shr_keeps_the_sign : ruleOf (exec .ruleShr (vm [1, -7])) = some ([-4], .running, 0) := by decide +kernel
theorem test_rule_shl_drops_bits : ruleOf (exec .ruleShl (vm [63, 3])) = some ([-2 ^ 63], .running, 0) := by decide +kernel
theorem test_rule_and_of_negatives : ruleOf (exec .ruleAnd (vm [-2, 7])) = some ([6], .running, 0) := by decide +kernel
theorem test_rule_lt : ruleOf (exec .ruleLt (vm [-1, -2])) = some ([1], .running, 0) := by decide +kernel
theorem test_rule_pushi_is_signed : ruleOf (exec (.pushi 0xFFFFFFFF#32) (vm [])) = some ([-1], .running, 0) := by decide +kernel
theorem test_rule_ld : ruleOf (exec (.ld 0x1010#16 2#8) (vm [])) = some ([4], .running, 0) := by decide +kernel
theorem test_rule_ld_unknown : (ruleOf (exec (.ld 0x0123#16 2#8) (vm []))).map (·.2.1) = some (.failed 0xFF 2) := by decide +kernel
theorem test_rule_assert : (ruleOf (exec (.ruleAssert 9#8) (vm [0]))).map (·.2.1) = some (.failed 9 2) := by decide +kernel
theorem test_rule_jz : ruleOf (exec (.ruleJz 5#8) (vm [0])) = some ([], .running, 5) := by decide +kernel
theorem test_rule_loads : (objFind 0x1010 2).any (fun r => r.access != .wo) = true ∧ objFind 0x0123 2 = none ∧ (vm []).objVal true 0x1010 2 = .num 4 ∧ (vm []).objVal false 0x1F10 0 = .blob [] := by
  decide +kernel

/-- The timebase in a state, with a number of good Syncs and the grandmaster 5. -/
def timed (st : TbState) (good : Nat) : State := { live with tb := { live.tb with st := st, goodSyncs := good, gmId := some 5 } }
def gptpSource : Nat := live.source
/-- SyncDisciplinesTheTimebase, HoldoverPeerDelayAndPulses: a message of the followed port and domain, and offsets at the boundary values of LOCKED and of the servo. -/
theorem test_sync : (timed .locked 0).followsGptp gptpSource 0 = true ∧ (timed .locked 0).followsGptp 3 0 = false ∧ (timed .locked 0).source ≠ 3 ∧
    (((timed .locked 0).at 1000).time : Int) - (1000 - (live.cfg 0x2002 4 : Int)) = live.cfg 0x2002 4 ∧ (live.cfg 0x2002 3 : Int) ≤ live.cfg 0x2002 4 ∧
    ({ timed .acquiring 15 with tb := { Timebase.initial with goodSyncs := 15 } } : State).tb.everLocked = false ∧ (timed .holdover 15).tb.everLocked = true ∧
    ((timed .holdover 15).tb.tickOffset - (timed .holdover 15).tb.tbOffset).natAbs ≤ live.cfg 0x2002 3 := by decide +kernel
theorem test_sync_moves_the_timebase : (match exec (.sync 1000 ⟨gptpSource, 0, 5, 990⟩) (timed .locked 0) with | .next t => some (t.tb.tbOffset, t.tb.servoOffset, t.tb.st, t.events) | _ => none)
    = some (-10, 10, .locked, []) := by decide +kernel
theorem test_sync_other_grandmaster : (match exec (.sync 1000 ⟨gptpSource, 0, 6, 1000⟩) (timed .locked 0) with | .next t => some (t.tb.st, t.events.map (·.code)) | _ => none)
    = some (.holdover, [0x0381, 0x0A02]) := by decide +kernel

/-- TheTickBeginsItsFrame: a tick in LOCKED with a pending set for its frame, and for an earlier one. -/
theorem test_tick : (staged .pending 7 4).works = true ∧ (staged .pending 7 4).det.replay = .live ∧ (staged .pending 7 4).tb.nextFrame = some 4 ∧ (staged .pending 7 4).tb.st = .locked ∧
    (staged .pending 7 4).tb.renumber = false ∧ (staged .pending 7 4).tb.phaseError.natAbs ≤ (staged .pending 7 4).us 0x2002 7 ∧
    live.us 0x2002 7 < ({ live with tb := { live.tb with tbOffset := 10 ^ 9 } } : State).tb.phaseError.natAbs ∧ State.reset.works = false := by decide +kernel
/-- R57: the pending set becomes active at the tick of its frame. -/
def ticks (o : Host.Outcome State Fault Refusal) : Option (Nat × CommitState × Nat × Nat × Nat) :=
  match o with | .next t => some (t.tb.curFrame, t.ctl.st, t.ctl.activeSetId, t.dict.shadow.length, t.cfg 0x1010 2) | _ => none
theorem test_tick_commits : ticks (exec .frameTick ({ staged .pending 7 4 with dict := { live.dict with shadow := [(objKey 0x1010 2, .num 8)] } } : State)) = some (4, .idle, 1, 0, 8) := by decide +kernel

/-- ReloadsAndSettingsSaves: an idle engine and an idle ingress processor with a reload due, and values to save. -/
theorem test_reloads : let s : State := { live with disp := { Dispatch.initial with units := [⟨0, [], [], true⟩] }, world := { World.initial with streams := [{ Stream.initial with reloadDue := true }] }
                                                    dict := { live.dict with unsaved := some ([], 1) } }
    s.disp.units[0]?.any (·.reloadDue) = true ∧ s.serving 0 = none ∧ s.world.streams[0]?.any (·.reloadDue) = true ∧ s.world.streams[0]?.any (fun x => x.running == []) = true ∧
      s.boot.coldHeld = false ∧ s.boot.warmHeld = false ∧ s.dict.unsaved = some ([], 1) := by decide +kernel

/-! The frame cycle and the world model: witnesses -/

/-- The work of the current frame. -/
def fw : FrameWork := FrameWork.fresh 3 30000000
/-- An item of a kind at a place, of frame 3. -/
def item (kind : ItemKind) (loc : ItemLoc) (lane arg version : Nat) : Item := ⟨0, kind, 1, 2, none, false, false, false, false, lane, 3, arg, arg, version, 0, 0, loc, false, false⟩
def framed (w : FrameWork) : State := { live with frames := [w] }
def withItem (i : Item) (s : State) : State := { s with disp := { s.disp with items := [i], nextSerial := 1 } }

/-- TheSealFixesTheFramesInputs. -/
theorem test_seal : (framed fw).work? (framed fw).tb.curFrame = some fw ∧ (framed fw).mapRuns = true ∧ fw.sealed = false ∧ ({ fw with sealed := true } : FrameWork).sealed = true ∧
    ({ framed fw with det := { Determinism.initial with unpaced := true } } : State).inputsPending = false ∧ (framed fw).regionBusy 4 = false := by decide +kernel

/-- StreamPacketsAreAccepted: stream 0 takes UDP at port 40000, then RoCE on queue pair 40000; another port and another queue pair belong to no stream, and queue pair 1 to no one. -/
def streaming (transport : Nat) : State :=
  { live with dict := ((live.dict.setActive 0x3100 1 (.num 1)).setActive 0x3100 2 (.num transport)).setActive 0x3100 3 (.num 40000) }
theorem test_stream_packet : (streaming 1).udpStream 40000 = some 0 ∧ (streaming 2).streamBy 2 40000 = some 0 ∧ (streaming 1).udpStream 40001 = none ∧
    (streaming 2).streamBy 2 1 = none ∧ (streaming 2).qpKnown 1 = false ∧ State.reset.accepts = false ∧
    ∀ k ∈ [1, 2], (streaming k).accepts = true ∧ 0 < (streaming k).world.streams.length ∧
    (streaming k).withholds = false ∧ (streaming k).streamRecovers 0 = false ∧ (streaming k).frameFits 1 = true ∧ (streaming k).frameFits 5000 = false ∧ (streaming k).group.activePort < (streaming k).group.ports.length ∧ (streaming k).journalRoom 1 = true ∧ (streaming k).mirrorTarget = none ∧ (streaming k).host.journal = [] := by decide +kernel

/-- PacketsPassThroughTheStreamBuffer: a packet at its ingress processor, one in the buffer, one being read, and banks that have passed their test. -/
def inPkt : InPacket := ⟨[0#8], 0, 1, 0, 5, none, 3, false⟩
def bufPkt : BufPacket := ⟨[bufWord ([0], false, 0) true .bank0], [0#8], 0, 5, none, 3, false, true, true, []⟩
def buffered (w : List InPacket) (b : List BufPacket) (bank : BankState) : State :=
  withItem { item .streamPacket (.unit 18) 0 5 0 with flow := some 0 } { live with world := { World.initial with streams := [{ Stream.initial with waiting := w, buf := { StreamBuf.initial with packets := b, bank0 := bank, bank1 := bank } }] } }
theorem test_packets : (buffered [inPkt] [] .inService).atUnit 18 .streamPacket (fun i => i.flow == some 0) = some { item .streamPacket (.unit 18) 0 5 0 with flow := some 0 } ∧
    ((buffered [inPkt] [] .inService).stream 0).waiting.find? (fun p => p.journal == 5) = some inPkt ∧ ((buffered [inPkt] [] .inService).stream 0).buf.packets = [] ∧
    ((buffered [] [bufPkt] .inService).stream 0).buf.packets = [bufPkt] ∧ bufPkt.complete = true ∧ bufPkt.readStarted = true ∧
    ((buffered [inPkt] [] .inService).stream 0).running = [] ∧ 1 ≤ ((buffered [inPkt] [] .inService).stream 0).buf.room ∧ ((buffered [inPkt] [] .inService).stream 0).reloadDue = false ∧
    ((buffered [] [] .test).stream 0).buf.bank0 = .test ∧ ((buffered [] [] .test).stream 0).buf.bank1 = .test := by decide +kernel

/-- R347: a flipped lane bit poisons the word, whichever lane it lies in; a flipped TRUNC bit does not. -/
theorem test_word_parity : (readWords [(0, 7 * 32)] [bufWord ([1], false, 0) true .bank0]).map (·.poison) = [true] ∧ (readWords [(0, 0), (0, 256)] [bufWord ([1], false, 0) true .bank0]).map (·.poison) = [false] ∧
    (readWords [(0, 271)] [bufWord ([1], false, 0) true .bank0]).map (·.poison) = [false] ∧ { bufPkt with complete := false }.complete = false ∧ { bufPkt with readStarted := false }.readStarted = false := by decide +kernel

/-- The filter of a stream without a program faults at once: one marker word. -/
theorem test_filter_words : let s := buffered [inPkt] [] .inService
    (s.filterRun 0 (s.stream 0) inPkt).status = .faulted ∧ (packetWords (s.filterRun 0 (s.stream 0) inPkt).output (some 0x0305)).length = 1 := by decide +kernel

/-- TilesAreBuiltComparedAndReady, SceneTensorsAndUrgentDeltas: versions built, without jobs, speculative and urgent. -/
def inputs0 : Inputs := ⟨3, 0, StartState.zero, [], [], []⟩
def ver (number : Nat) (spec urgent ready : Bool) (jobs : List (Nat × Nat × Nat)) : Version := ⟨number, spec, none, 3, 0, 0, urgent, false, false, 0, 0, inputs0, [], jobs, ready, none⟩
def built (w : FrameWork) (vs : List Version) (compare : List TileKey) (comparing : Bool) : State :=
  { framed w with world := { World.initial with versions := vs, compare := compare, comparing := comparing } }
def sealedWork : FrameWork := { fw with sealed := true, version := 1, due := some 1 }
theorem test_tile_job : let s := withItem (item .tileJob (.unit 16) 0 0 1) (built sealedWork [ver 1 false false false [(0, 0, 0)]] [] false)
    s.atUnit 16 .tileJob (fun i => i.lane == 0) = some (item .tileJob (.unit 16) 0 0 1) ∧ s.version? 1 false = some (ver 1 false false false [(0, 0, 0)]) := by decide +kernel
theorem test_map_ready : let s := built sealedWork [ver 1 false false false []] [] false
    s.world.versions.find? (fun v => !v.ready && !v.urgent && v.jobs.isEmpty && (v.spec || !s.world.comparing) && s.mapRuns) = some (ver 1 false false false []) ∧
    s.newest = some (ver 1 false false false []) ∧ s.world.deltaOpen = [] := by decide +kernel
def key0 : TileKey := ⟨0, 0, 32, 0⟩
theorem test_run_ahead : let s := built sealedWork [ver 9 true false true [], ver 1 false false false []] [key0] true
    s.world.versions.find? (fun v => v.spec) = some (ver 9 true false true []) ∧ s.newest = some (ver 1 false false false []) ∧ s.world.compare ≠ [] ∧
    s.world.versions.find? (fun x => x.number == 1 && x.spec == false) = some (ver 1 false false false []) := by decide +kernel
/-- Slice 32 has a job for each tile, so the compared tile has one. -/
theorem test_run_ahead_job (b : BuildCfg) : (key0.grid, key0.slice, key0.tile) ∈ b.allJobs := by simp [BuildCfg.allJobs, BuildCfg.slices, tileOrder, key0]
theorem test_commit_point : let s := built { sealedWork with reinitialised := true } [] [] true
    s.frames.find? (fun w => w.sealed && !w.landed) = some { sealedWork with reinitialised := true } ∧ s.work? 3 = some { sealedWork with reinitialised := true } := by decide +kernel

theorem test_scene : let s := built sealedWork [ver 1 false false true []] [] false
    s.world.versions.find? (SceneDue s) = some (ver 1 false false true []) := by decide +kernel
def heldPkt (stamp : Nat) : HeldPacket := ⟨[], none, true, [], stamp, 0, 3, true, none⟩
def urgentAt (stamp : Nat) (strict : Bool) : State :=
  { built sealedWork [ver 1 false false true []] [] false with
      world := { World.initial with versions := [ver 1 false false true []], deltaDue := [(0, heldPkt stamp)] }
      dict := ((live.dict.setActive 0x3100 1 (.num 1)).setActive 0x7200 1 (.num (if strict then 0 else 1))).setActive 0x2005 1 (.num 2) }
theorem test_urgent : let s := urgentAt 0 false
    s.world.deltaDue.find? (fun d => d.1 == 0) = some (0, heldPkt 0) ∧ (heldPkt 0).discard (s.cfg 0x3100 1) (some s.world.mapFrame) = none ∧ s.strict = false ∧
    ((heldPkt 0).stamp : Int) ≤ s.tickOf 3 + (s.us 0x2015 2 : Int) - s.tb.phaseError ∧ s.world.deltas < s.cfg 0x2005 1 ∧ s.newest = some (ver 1 false false true []) ∧ s.throttledRun = true ∧ (s.stream 0).held = [] ∧
    (urgentAt 0 true).strict = true ∧ (urgentAt (10 ^ 9) false).tickOf 3 + (s.us 0x2015 2 : Int) - s.tb.phaseError < 10 ^ 9 := by decide +kernel
theorem test_urgent_seal : let s := built { sealedWork with blocks := [] } [ver 1 false false true [], ver 2 false true false []] [] false
    s.world.versions.find? (fun v => v.urgent && !v.ready && v.jobs.isEmpty && s.mapRuns) = some (ver 2 false true false []) ∧ s.newest = some (ver 2 false true false []) ∧
    s.work? s.tb.curFrame = some { sealedWork with blocks := [] } ∧ s.version? 2 false = some (ver 2 false true false []) := by decide +kernel

/-- LateMapItemsArePromoted, and R271 on one item. -/
theorem test_late : let s := withItem (item .tileJob (.ready 16) 0 0 1) (framed sealedWork)
    (match exec .buildEndPromotion s with | .next t => some (t.cfg 0x7101 8, t.disp.items.map (fun i => (i.level, i.late))) | _ => none) = some (1, [(0, true)]) := by decide +kernel

/-! Engine programs: single steps with results of the spec, and witnesses -/

/-- An invocation of a kind with values in g1, g2 and g3. -/
def inv (kind : ProgKind) (a b c : Word) : Invocation := { Invocation.initial with kind := kind, pc := 10, g := 0#32 :: a :: b :: c :: List.replicate 60 0#32, p := true :: List.replicate 7 false }
def running (kind : ProgKind) (a b c : Word) : State := { live with eng := inv kind a b c }
def engOf (o : Host.Outcome State Fault Refusal) : Option Invocation := match o with | .next t => some t.eng | _ => none
def g3 (i : Instr) (a b : Word) : Option Word := (engOf (exec i (running .tread a b 0#32))).map (fun v => v.getG 3)
def p3 (i : Instr) (a b : Word) : Option Bool := (engOf (exec i (running .tread a b 0#32))).map (fun v => v.getP 3)

theorem test_ialu_sub_wraps : g3 (.ialu 3 1 2 0 1) 3#32 5#32 = some 0xFFFFFFFE#32 := by decide +kernel
theorem test_ialu_mulhu : g3 (.ialu 3 1 2 0 3) 0x80000000#32 6#32 = some 3#32 := by decide +kernel
theorem test_ialu_sra_takes_the_low_five_bits : g3 (.ialu 3 1 2 0 9) 0x80000000#32 36#32 = some 0xF8000000#32 := by decide +kernel
theorem test_icmp_signed : p3 (.icmp 3 1 2 0 2) 0xFFFFFFFF#32 1#32 = some true := by decide +kernel
theorem test_icmp_unsigned : p3 (.icmp 3 1 2 0 4) 0xFFFFFFFF#32 1#32 = some false := by decide +kernel
theorem test_falu_add : g3 (.falu 3 1 2 0 0) 0x3F800000#32 0x40000000#32 = some 0x40400000#32 := by decide +kernel
theorem test_falu_div : g3 (.falu 3 1 2 0 3) 0x3F800000#32 0x40400000#32 = some 0x3EAAAAAB#32 := by decide +kernel
theorem test_falu_div_by_zero : g3 (.falu 3 1 2 0 3) 0x3F800000#32 0#32 = some 0x7F800000#32 := by decide +kernel
theorem test_fcmp_unordered : p3 (.fcmp 3 1 2 0 3) 0x7FC00001#32 0#32 = some true := by decide +kernel
theorem test_plog_xor : p3 (.plog 3 0 1 0 2) 0#32 0#32 = some true := by decide +kernel
theorem test_bswap32 : g3 (.bswap32 3 1 0) 0x01020304#32 0#32 = some 0x04030201#32 := by decide +kernel
theorem test_bswap16 : g3 (.bswap16 3 1 0) 0x01020304#32 0#32 = some 0x02010403#32 := by decide +kernel
theorem test_addi_is_signed : g3 (.addi 3 1 0x3FFF) 0#32 0#32 = some 0xFFFFFFFF#32 := by decide +kernel
theorem test_ori_is_not : g3 (.ori 3 1 0x3FFF) 0#32 0#32 = some 0x3FFF#32 := by decide +kernel
theorem test_lui : g3 (.lui 3 0xABCDE) 0#32 0#32 = some 0xABCDE000#32 := by decide +kernel
theorem test_bfx : g3 (.bfx 3 1 4 7) 0x12345678#32 0#32 = some 0x67#32 := by decide +kernel
theorem test_g0_stays_zero : (engOf (exec (.addi 0 1 1) (running .tread 5#32 0#32 0#32))).map (fun v => v.getG 0) = some 0#32 := by decide +kernel
theorem test_failed_predicate : (engOf (exec (.ialu 3 1 2 1 0) (running .tread 1#32 1#32 9#32))).map (fun v => (v.getG 3, v.pc)) = some (9#32, 11) := by decide +kernel
/-- CRC-32C of 32 zero bytes, the value that RFC 3720 gives. -/
theorem test_crc_byte_by_byte : crcRun 0xFFFFFFFF#32 (List.replicate 32 0#8) ^^^ 0xFFFFFFFF#32 = 0x8A9136AA#32 := by decide +kernel
theorem test_branch_taken : (engOf (exec (.br 0 false 5) (running .tread 0#32 0#32 0#32))).map (·.pc) = some 15 := by decide +kernel
theorem test_loop_begins : (engOf (exec (.loop 1 2 9) (running .tread 3#32 0#32 0#32))).map (fun v => (v.pc, v.loops)) = some (11, [⟨11, 13, 2⟩]) := by decide +kernel
theorem test_reject_of_a_register : (engOf (exec (.reject 1 0 0) (running .tread 0x112#32 0#32 0#32))).map (·.status) = some (.ended 0x12) := by decide +kernel
theorem test_store_is_little_endian : (engOf (exec (.stwS 3 1 0) (running .filter 0x8000#32 0#32 0x01020304#32))).map (fun v => memRead 0x8000 v.mem) = some 4#8 := by decide +kernel
theorem test_misaligned_faults : (engOf (exec (.stwS 3 1 2) (running .filter 0x8000#32 0#32 7#32))).map (·.status) = some .faulted := by decide +kernel
/-- Program slot 0xC000 with a tally. -/
def tallied (m : List Host.Cell) : State := { running .tread 0#32 0#32 0#32 with boot := { live.boot with tallies := [(0xC000, m)] } }
theorem test_u16q7s_saturates : (engOf (exec (.atomAddU16q7s 1 2 0) { tallied [(2, 0xFF#8), (3, 0xFF#8)] with eng := { inv .tread 2#32 9#32 0#32 with tallyLength := 4, progSlot := some 0xC000 } })).map
    (fun v => v.tally) = some [(2, 0xFF#8), (3, 0xFF#8)] := by decide +kernel

/-- Each engine instruction runs in such an invocation with its predicate true, and with it false. -/
theorem test_runs : ∀ i ∈ [Instr.ialu 3 1 2 0 0, .ialu 3 1 2 0 0x0D, .icmp 3 1 2 0 0, .icmp 3 1 2 0 5, .falu 3 1 2 0 0, .falu 3 1 2 0 0x10, .fcmp 3 1 2 0 3, .valu 3 1 2 0 0, .valu 3 1 2 0 0x0E, .plog 3 1 2 0 3,
      .bswap32 3 1 0, .bswap16 3 1 0, .crc32c 3 1 2 0 2, .crc32c 3 1 2 0 4, .addi 3 1 0x1FFF, .ori 0 1 0, .andi 63 1 0, .lui 3 0, .bfx 3 1 0 31, .ldwS 3 1 0, .stwS 3 1 0, .vldS 15 1 0, .vstS 15 1 0, .ldwT 3 1 0,
      .ldwH 3 1 0, .atomAddI32 1 2 0, .atomAddI64 1 2 0, .atomAddU16q7s 1 2 0, .atomAddF32 1 2 0, .poseSphere 4 1 0, .poseAxle 4 1 0, .query 3 2 1 0, .lookup 3 2 1 0, .acc 1 0 31, .merit 1 0,
      .scg 4 1 0, .br 0 true 1, .loop 1 1 1, .yield 0, .reject 1 0 0], Runs (running .tread 1#32 2#32 3#32) i ∧ Runs (running .filter 1#32 2#32 3#32) i := by decide +kernel
theorem test_predicates : (running .tread 1#32 2#32 3#32).eng.getP 0 = true ∧ (running .tread 1#32 2#32 3#32).eng.getP 1 = false := by decide

/-- LocalLoadsComplete, LocalStoresComplete: the address is what g1 holds; the least and the greatest address of each range, for a word and for a vector. -/
theorem test_local_address (k : ProgKind) (a : Word) : ((running k a 0#32 0#32).eng.getG 1 + (0#14).signExtend 32).toNat = a.toNat ∧ (running k a 0#32 0#32).eng.kind = k ∧
    (running k a 0#32 0#32).eng.slot = 0 := ⟨by rw [show (running k a 0#32 0#32).eng.getG 1 = a from rfl, show (0#14).signExtend 32 = 0#32 from rfl, BitVec.add_zero], rfl, rfl⟩
theorem test_local_ranges : (∀ a ∈ [0x21000, 0x213FC], a % 4 = 0 ∧ 0x21000 + 1024 * 0 ≤ a ∧ a + 4 ≤ 0x21400 + 1024 * 0) ∧ (∀ a ∈ [0x21000, 0x213E0], a % 32 = 0 ∧ 0x21000 + 1024 * 0 ≤ a ∧ a + 32 ≤ 0x21400 + 1024 * 0) ∧
    (∀ a ∈ [0x8000, 0xFFFC], a % 4 = 0 ∧ 0x8000 ≤ a ∧ a + 4 ≤ 0x10000) ∧ (∀ a ∈ [0x8000, 0xFFE0], a % 32 = 0 ∧ 0x8000 ≤ a ∧ a + 32 ≤ 0x10000) ∧
    (∀ a ∈ [0x10000, 0x1FFE0], a % 32 = 0 ∧ 0x10000 ≤ a ∧ a < 0x20000) ∧ 0x20BFC % 4 = 0 ∧ 0x20BFC + 4 ≤ 0x20C00 := by decide
theorem test_local_packet_and_constants : 0 + 4 ≤ ({ inv .filter 0#32 0#32 0#32 with packet := List.replicate 4 0#8 } : Invocation).packet.length ∧
    0 + 32 ≤ ({ inv .filter 0#32 0#32 0#32 with packet := List.replicate 32 0#8 } : Invocation).packet.length ∧ memWf (inv .filter 0#32 0#32 0#32).mem = true ∧ 0x20BE0 % 32 = 0 ∧ 0x20BE0 + 32 ≤ 0x20C00 ∧
    0 + 4 ≤ ({ inv .tread 0#32 0#32 0#32 with consts := List.replicate 4 0#8 } : Invocation).consts.length := by decide

/-- TallyAdditionsComplete: the last aligned place of each width. -/
theorem test_tally_places : (24 % 8 = 0 ∧ 24 + 8 ≤ 32) ∧ (28 % 4 = 0 ∧ 28 + 4 ≤ 32) ∧ (30 % 2 = 0 ∧ 30 + 2 ≤ 32) ∧
    (({ inv .tread 24#32 0#32 0#32 with tallyLength := 32 } : Invocation).getG 1).toNat = 24 ∧ memWf ((tallied [(2, 1#8)]).tallyOf (some 0xC000)) = true := by decide +kernel

/-- TreadInstructionsComplete: an invocation that reads version 1 with layers 0 (occupancy) and 4 (cost) at the point (g2, g3), the layer in g1. -/
def tiles0 : List Tile := [0, 4].flatMap (fun l => (List.range 256).map (fun k => ⟨⟨l, 0, 32, k⟩, 0, 0, false, false, false, List.replicate 1024 7, false⟩))
def reading (l x y : Word) : State :=
  { built sealedWork [{ ver 1 false false true [] with tiles := tiles0 }] [] false with eng := { inv .tread l x y with version := 1 } }
theorem test_tile_load : let m := (envOf (reading 0#32 0#32 0#32)).map
    m.typeOf 0 = 1 ∧ tileSize (m.typeOf 0) = 8192 ∧ (m.tile 0 0 0 0).isSome = true ∧ (m.tile 0 0 32 255).isSome = true := by decide +kernel
theorem test_query_places : let s := reading 0#32 0x3F800000#32 0x3F800000#32
    let m := (envOf s).map
    m.typeOf 0 = 1 ∧ m.typeOf 4 = 2 ∧ f32Finite (s.eng.getG 2) = true ∧ f32Finite (s.eng.getG 3) = true ∧ m.locate 0x7F000000#32 0#32 = none ∧
      ((m.locate 0x3F800000#32 0x3F800000#32).any (fun p => (m.dist 0 p (sliceCover 0 0)).isSome && (m.bilinear 4 ((sliceCover 0 0).headD 0) 0x3F800000#32 0x3F800000#32 p).isSome)) = true := by decide +kernel
theorem test_pose_operands : let s := { running .tread 0#32 0#32 0#32 with dict := live.dict.setActive 0x4010 1 (.num 1) }
    (s.spheres[0]?).isSome = true ∧ ((axles s.body s.eng.here)[0]?).isSome = true ∧ ((s.spheres[0]?).bind (placeSphere (axles s.body s.eng.here))).isSome = true ∧
      s.eng.pose = s.eng.horizon ∧ s.eng.kind = .tread := by decide +kernel

/-- EngineControlFlowCompletes: the last instruction of a body with an iteration left, and with none. -/
theorem test_loop_body : ∀ left ∈ [0, 1], let s : State := { live with eng := { inv .tread 0#32 0#32 0#32 with loops := [⟨9, 11, left⟩] } }
    Runs s (.addi 1 1 1) ∧ s.eng.loops = [⟨9, 11, left⟩] ∧ s.eng.pc + 1 = 11 := by decide +kernel

/-- FaultingInstructionsMarkTheInvocation: a value beyond each bound. -/
theorem test_fault_operands : (2 % 4 ≠ 0) ∧ ((running .tread 0x31000#32 0#32 0#32).eng.slot < 64) ∧ ((running .tread 0x31000#32 0#32 0#32).eng.getG 1).toNat = 0x31000 ∧
    (running .filter 0x7FFD#32 0#32 0#32).eng.packet.length < 0x7FFD + 4 ∧ (1#10).toNat < ((running .tread 2#32 0#32 0#32).eng.getG 1).toNat ∧
    (running .tread 0xFF#32 0#32 0#32).spheres.length ≤ 0xFF ∧ (axles (running .tread 0xFF#32 0#32 0#32).body (running .tread 0xFF#32 0#32 0#32).eng.here).length ≤ 0xFF ∧
    (envOf (running .tread 5#32 0#32 0#32)).map.typeOf 5 ≠ 2 ∧ (envOf (running .tread 5#32 0#32 0#32)).map.typeOf 5 ≠ 1 ∧ ({ inv .tread 0#32 0#32 0#32 with horizon := 1 } : Invocation).pose ≠ 1 := by decide +kernel
/-- The consequences of a fault: a candidate block in service at the engine in hand, and an ingress processor in hand. -/
theorem test_fault_in_hand : let s := withItem (item .candidateBlock (.service 0) 0 0 1) (running .tread 0#32 0#32 0#32)
    s.engUnit < 512 ∧ s.servingCandidates s.engUnit = some (item .candidateBlock (.service 0) 0 0 1) ∧ ({ s with engUnit := 513 } : State).engUnit = 512 + 1 := by decide +kernel

/-! Selection, refinement, publication and dispatch: witnesses -/

/-- PolicyAndExpanderProposeCandidates, CheckedCandidatesAreRecorded. -/
theorem test_policy_item : let s := withItem (item .policyRun (.unit 20) 0 0 1) (framed { sealedWork with policyBlocks := 1 })
    s.atUnit 20 .policyRun (fun _ => true) = some (item .policyRun (.unit 20) 0 0 1) ∧ s.work? 3 = some { sealedWork with policyBlocks := 1 } := by decide +kernel
/-- Engine 0 with some windows filled serves an item. -/
def serving (kind : ItemKind) (arg windows : Nat) : State :=
  let s := withItem (item kind (.service 0) 0 arg 1) (built sealedWork [ver 1 false false true []] [] false)
  { s with disp := { s.disp with units := [⟨windows, [], [], false⟩] } }
theorem test_expander_item : (serving .candidateBlock (3 * 2 ^ 26) 0).servingCandidates 0 = some (item .candidateBlock (.service 0) 0 (3 * 2 ^ 26) 1) ∧ 0 < (serving .candidateBlock 0 0).windowCount := by decide +kernel
theorem test_checked_items : (serving .candidateBlock (3 * 2 ^ 26) 64).servingKind 0 .candidateBlock = some (item .candidateBlock (.service 0) 0 (3 * 2 ^ 26) 1) ∧
    (serving .candidateSingle (3 * 2 ^ 26) 64).servingKind 0 .candidateSingle = some (item .candidateSingle (.service 0) 0 (3 * 2 ^ 26) 1) ∧ (serving .candidateBlock 0 64).windowCount ≤ 64 ∧
    (serving .candidateBlock 0 64).disp.units[0]? = some ⟨64, [], [], false⟩ ∧ sealedWork.excluded.contains (3 * 2 ^ 26) = false ∧ (item .candidateSingle (.service 0) 0 (3 * 2 ^ 26) 1).version = sealedWork.version := by decide +kernel

/-- TheStairKeepsTheBest: a record to merge whose entry is new, one whose entry differs from the list's, entries forwarded, and a rebuild due. -/
def entry (cid : Nat) (merit : F32) : Entry := ⟨merit, cid, false, false, false, false, false, false, false, 0⟩
def record (es : List Entry) : BlockRec := ⟨1, 3, 1, 0, es, false, false, false, 0, 1, 0, 0, 0, [], false, false⟩
def stairs (gl : List Entry) (rebuild : Bool) : FrameWork :=
  { sealedWork with blocks := [record [entry 5 0x3F800000#32]], galleryLists := [⟨gl, 0⟩], forwarded := [entry 6 0x40000000#32], rebuildDue := rebuild }
theorem test_stair : let w := stairs [] false; let s := framed w; let r := record [entry 5 0x3F800000#32]
    s.stairFrame (fun w => w.closed.isNone && !w.rebuildDue && w.blocks.any (fun r => r.beta == 1 && r.gallery == 0 && !r.inGallery && !r.withdrawn && !r.speculative)) = some w ∧
    w.blocks.find? (fun r => r.beta == 1 && r.gallery == 0 && !r.inGallery && !r.withdrawn && !r.speculative) = some r ∧ (unite [] (r.live w.excluded)).conflicts = [] ∧
    (unite [entry 5 0#32] (r.live w.excluded)).conflicts = [5] ∧ (stairs [entry 5 0#32] false).faulted.contains 5 = false ∧
    s.stairFrame (fun w => w.closed.isNone && !w.rebuildDue && (!w.forwarded.isEmpty || w.blocks.any (fun r => r.inGallery && !r.inTop))) = some w ∧
    (unite w.topList.entries (w.forwarded.filter (fun e => !w.excluded.contains e.cid))).conflicts = [] ∧
    (framed (stairs [] true)).stairFrame (fun w => w.closed.isNone && w.rebuildDue) = some (stairs [] true) ∧
    (∀ e ∈ r.live w.excluded, ∀ f ∈ r.live w.excluded, e.cid = f.cid → e = f) := by decide +kernel

/-- TheSelectionListCloses: a frame with its rounds merged, one without in paced and in unpaced operation. -/
def mergedWork : FrameWork := { sealedWork with rounds := [⟨[], true, some []⟩] }
theorem test_closing : (framed mergedWork).frames.find? (fun w => w.sealed && !w.speculative && w.closed.isNone && !w.landed) = some mergedWork ∧ mergedWork.allMerged = true ∧ mergedWork.rebuildDue = false ∧
    live.groupMode ≠ 2 ∧ sealedWork.allMerged = false ∧ live.det.unpaced = false ∧ live.closesList = true ∧ mergedWork.closesFromTable = false ∧
    ({ live with group := { live.group with role := 1 } } : State).closesList = false ∧ (entry 5 0x3F800000#32).valid = true := by decide +kernel

/-- QuadraticProgramsRunAndStop, PlansAreScaledRecheckedAndWatched, TheLandingPublishesTheChoice: a plan at each stage. -/
def plan0 : Plan := Plan.fresh 0 (entry (3 * 2 ^ 26) 0x3F800000#32)
def closed0 : ClosedList := ⟨3, 0, 0, 0, 0, 0, 1, false, false, false, 0, Entry.padding, Entry.padding, []⟩
def planned (p : Plan) : FrameWork := { sealedWork with closed := some closed0, plans := [p] }
def refining (kind : ItemKind) (loc : ItemLoc) (p : Plan) : State := withItem (item kind loc 0 0 1) (built (planned p) [ver 1 false false true []] [] false)
theorem test_refining : (refining .reference (.service 0) plan0).servingKind 0 .reference = some (item .reference (.service 0) 0 0 1) ∧ (planned plan0).plan? 0 = some plan0 ∧
    (refining .qpInstance (.unit 17) plan0).atUnit 17 .qpInstance (fun i => i.arg == 0 && !i.dropped) = some (item .qpInstance (.unit 17) 0 0 1) ∧ plan0.qp.outcome = .waiting ∧
    ({ plan0 with qp := { plan0.qp with outcome := .running } } : Plan).qp.outcome = .running ∧
    (refining .qpInstance (.unit 17) plan0).frames.find? (fun w => w.closed.isSome && !w.landed && !w.solverStopped) = some (planned plan0) ∧ ((planned plan0).plans.map (·.pos)).Nodup := by decide +kernel
def ready0 : Plan := { plan0 with ready := true }
def presented0 : Plan := { ready0 with points := some [], presented := true, verdict := some (1, 0) }
theorem test_scaling : (framed (planned ready0)).frames.find? (fun w => w.closed.isSome && !w.landed && w.plans.any (fun q => q.pos == 0 && q.ready && q.points.isNone && !q.failed)) = some (planned ready0) ∧
    (refining .recheck (.service 0) presented0).servingKind 0 .recheck = some (item .recheck (.service 0) 0 0 1) ∧
    (refining .recheck (.service 0) presented0).world.versions.find? (fun v => v.number == 1 && !v.spec) = some (ver 1 false false true []) ∧ presented0.points = some [] := by decide +kernel
theorem test_sentry : let s : State := { framed (planned presented0) with newel := { live.newel with scene := some ⟨3, 0, StartState.zero, []⟩, buffer := [⟨0, [], true, true, 0, 3⟩] }
                                                                          dict := live.dict.setActive 0x9200 1 (.num 1) }
    s.newel.scene = some ⟨3, 0, StartState.zero, []⟩ ∧ presented0.presented = true ∧ presented0.sentry = none ∧ s.cfg 0x9200 1 ≠ 0 ∧ s.newel.buffer = [⟨0, [], true, true, 0, 3⟩] := by decide +kernel
theorem test_landing : let w := planned { presented0 with sentry := some true }; let s := framed w
    s.frames.find? (fun w => !w.landed && !w.speculative) = some w ∧ s.closes = true ∧ s.faulted = false ∧ w.finalChoice = some 0 ∧ s.newel.degraded.testBit 0 = false ∧
    ({ s with newel := { s.newel with faultCause := 1 } } : State).faulted = true ∧ s.pub.slots[3]?.any (fun x => !x.ready) = true ∧ s.mayLand w = true ∧
    ({ s with det := { s.det with unpaced := true } } : State).mayLand { w with closed := none } = false := by decide +kernel

/-- PublicationFailuresAndTheSlack, ResultSlotsAreReleasedByGeneration. -/
def landedWork : FrameWork := { planned presented0 with landed := true }
def history0 : History := ⟨3, 30000000, 100000, some [], StartState.zero, 30000000, List.replicate 26 1⟩
def slackReady : State := { built landedWork [ver 1 false false true []] [] false with dict := live.dict.setActive 0x2004 1 (.num 1), pub := { Publisher.initial with history := some history0 } }
theorem test_slack : slackReady.frames.find? (fun w => w.landed && !w.speculative) = some landedWork ∧ slackReady.publishes = true ∧ slackReady.faulted = false ∧ slackReady.newel.lastPubFailure ≠ some 3 ∧ slackReady.publication? = some landedWork ∧
    slackReady.frames.find? (fun w => w.landed && !w.slack && !w.speculative) = some landedWork ∧ slackReady.cfg 0x2004 1 ≠ 0 ∧ slackReady.buildsMaps = true ∧
    (slackReady.world.versions.filter (fun v => !v.spec && v.frame == 3 && (!v.urgent || v.ready))).getLast? = some (ver 1 false false true []) ∧
    ({ slackReady with newel := { slackReady.newel with lastPubFailure := some 2 } } : State).newel.lastPubFailure = some (3 - 1) := by decide +kernel
theorem test_slack_start : (slackReady.planStart 4 0).isSome = true := by simp [State.planStart, slackReady, history0]
theorem test_release : let s : State := { live with pub := { Publisher.initial with slots := [⟨9, true, List.replicate 96 0#8, []⟩] } }
    s.pub.slots[0]?.any (·.ready) = true ∧ 0 < s.cfg 0x6300 1 ∧ s.boot.ready = true ∧ State.reset.boot.ready = false ∧ alSorted s.dict.active = true ∧
    (match exec (.release 0 0 9) s with | .next t => some (t.pub.slots.map (·.ready)) | _ => none) = some [false] ∧
    (match exec (.release 0 0 8) s with | .next t => some (t.pub.slots.map (·.ready), t.cfg 0x6301 0x0A) | _ => none) = some ([true], 1) := by decide +kernel

/-- ItemsAreReleasedAssignedStolenAndRetired, UnitsLeaveServiceWithTheirItems: two Galleries of engines in service, with an item ready at the first. -/
def inUnit : ServiceUnit := ⟨.inService, 0, 0, some 0⟩
def manned (items : List Item) (loads : List Nat) : State :=
  { live with
    dict := live.dict.setActive 0x7100 0x0A (.num 1)
    disp := { Dispatch.initial with
      engines := List.replicate 64 inUnit, galleries := [inUnit, inUnit], units := List.replicate 64 EngineUnit.initial, items := items, nextSerial := 9, loads := loads } }
def readyItem : Item := item .hostCommand (.ready 0) 0 0 0
theorem test_assign : let s := manned [readyItem] [1, 0]
    s.works = true ∧ s.unitRuns 0 = true ∧ ({ s with power := { s.power with tripped := true } } : State).unitRuns 0 = false ∧ s.backlog = false ∧ firstItem ((s.disp.items.filter (fun i => i.loc == .ready 0 && s.inputsExist i.kind i.frame i.spec && s.mayServe 0 i)).filter (fun i => (s.engineFor 0 i).isSome)) = some readyItem ∧ s.engineFor 0 readyItem = some 0 ∧
    s.cfg 0x7100 0x0A ≠ 0 ∧ (s.gallery 1).st = .inService ∧ (galleryEngines 1).any s.engineRoom = true ∧ s.victim 1 = some 0 ∧ firstItem (s.stealUnits 0) = some readyItem ∧
    (manned [] [1, 0]).victim 1 = some 0 ∧ (manned [] [1, 0]).stealUnits 0 = [] := by decide +kernel
/-- R272: a delayed item is released at the tick of its microsecond, and not at one still to come. -/
theorem test_dispatcher_tick : let delayed := item .hostCommand (.delay 0 1000) 0 0 0
    (match exec (.dispatcherTick 1500 1) (manned [delayed] []) with | .next t => some (t.disp.items.map (·.loc)) | _ => none) = some [.ready 0] ∧
    (match exec (.dispatcherTick 1500 2) (manned [delayed] []) with | .next t => some (t.disp.items.map (·.loc)) | _ => none) = some [.delay 0 1000] := by decide +kernel
theorem test_assign_unit : let i := item .policyRun (.ready 20) 0 0 0
    let s : State := { manned [i] [] with boot := { live.boot with available := { Availability.initial with quadrants := 15 } } }
    firstItem ((s.disp.items.filter (fun i => i.loc == .ready 20 && s.inputsExist i.kind i.frame i.spec && s.mayServe 20 i)).filter (s.unitFree 20)) = some i := by decide +kernel
theorem test_retire : let i := { item .hostCommand (.service 0) 0 0 0 with committed := true }
    (manned [i] []).item? 0 = some i ∧ (manned [readyItem] []).item? 0 = some readyItem ∧ readyItem.committed = false ∧ (manned [] []).poolRoom = true ∧ (manned [] []).group.mirrored = [] ∧
    ({ manned [readyItem] [] with dict := live.dict.setActive 0x7100 0x0D (.num 0) } : State).poolRoom = false := by decide +kernel
theorem test_units : let s := manned [] []
    s.disp.engines[63]? = some inUnit ∧ s.disp.galleries[1]? = some inUnit ∧ s.adminLeaves true 15 (2 ^ 32 - 1) = true ∧ s.adminLeaves true 0 (2 ^ 32 - 1) = true ∧ s.adminLeaves false 0 2 = true ∧ s.adminLeaves false 0 3 = false ∧
    ({ s with disp := { s.disp with engines := [inUnit], galleries := [inUnit] } } : State).adminLeaves true 0 1 = false ∧ s.inFlightAt 5 = 0 ∧ (galleryEngines 1).any (fun e => s.inFlightAt e != 0) = false := by decide +kernel
/-- R284: an engine that leaves service for a fault, with its count of faults. -/
theorem test_engine_leaves : (match exec (.engineLeavesService 5 ⟨2, 0⟩) (manned [] []) with | .next t => some ((t.engine 5).st, (t.engine 5).cause, (t.engine 5).faults, t.events.head?.map (·.code)) | _ => none)
    = some (.outFault, 2, 1, some 0x0802) := by decide +kernel

/-- SelfTestsRejoinsAndCutOffs. -/
def course (segment since : Nat) : State := { withItem (item .selfTest (.service 0) 0 0 0) (manned [] []) with newel := { live.newel with courses := [(0, ⟨segment, since, 0⟩)] } }
theorem test_self_test : (course 8 0).servingKind 0 .selfTest = some (item .selfTest (.service 0) 0 0 0) ∧ alGet 0 (course 8 0).newel.courses = some ⟨8, 0, 0⟩ ∧ alSorted (course 8 0).newel.courses = true ∧
    0 + (course 8 0).cfg 0x9300 1 < ((course 8 0).at (10 ^ 15)).time ∧ ((course 8 0).at 0).time ≤ 0 + (course 8 0).cfg 0x9300 1 := by decide +kernel
theorem test_rejoin_hot_and_cut_off : let s : State := { manned [] [] with mem := { Memory.initial with banks := [.on, .on], regions := List.replicate 8 (0, 0) ++ [(0, 1)] } }
    s.hotBanks.contains 0 = true ∧ ({ inUnit with st := .rejoinPending, registered := none } : ServiceUnit).registered = none ∧ alGetD 0 0 live.newel.rejoinTests < 9 ∧ 9 ≤ alGetD 0 0 [(0, 9)] ∧
    s.servingKind 0 .selfTest = none ∧ (s.at 0).tickTime.toNat + s.us 0x9300 2 ≤ s.tb.curTick + s.tb.period ∧ s.work? s.tb.curFrame = none ∧
    (framed (stairs [] true)).frames.any (fun w => w.rebuildDue) = true ∧ alGet 1024 [(1024, (⟨0, 0, 0⟩ : TestCourse))] = some ⟨0, 0, 0⟩ ∧ (course 0 0).item? 0 = some (item .selfTest (.service 0) 0 0 0) := by decide +kernel

/-- R477: the slice in service at a Hall bank fails, and the bank is Off; R348: a stream-buffer bank out of service passes, and may return. -/
def banked (unit : Nat) : State :=
  { live with newel := { live.newel with bankTest := some (unit, 0) }, mem := { Memory.initial with banks := [.on, .on], regions := List.replicate 8 (0, 0) ++ [(0, 2)] }
              world := { World.initial with streams := [{ Stream.initial with buf := { StreamBuf.initial with bank0 := .out } }] } }
theorem test_bank_slices : (match exec (.selfTestSlice 0 1025 ⟨false, true⟩) (banked 1025) with | .next t => some (t.mem.banks, t.newel.bankTest, t.events.map (·.code)) | _ => none)
    = some ([.on, .off], none, [0x0A0A, 0x0704]) ∧
    (match exec (.selfTestSlice 0 4096 ⟨true, true⟩) (banked 4096) with | .next t => some (t.world.streams.map (·.buf.bank0)) | _ => none) = some [.test] := by decide +kernel

/-- HardwareErrorsAreReportedAndContained. -/
theorem test_hardware : let s : State := { live with mem := { Memory.initial with banks := [.on, .on], regions := (0, 1) :: List.replicate 8 (0, 0), channels := [⟨false, 0, []⟩, ⟨true, 0, []⟩, ⟨true, 1, []⟩], rereplicating := some 1 }
                                                     clocks := [⟨true, true, true, false⟩] }
    s.regionOf (5 / 131072 % 1024) = some 0 ∧ s.regionOf (131072 / 131072 % 1024) = none ∧ s.mem.channels[0]? = some ⟨false, 0, []⟩ ∧ s.mem.channels.zipIdx.any (fun x => x.1.lost && x.2 / 2 != 0 / 2) = true ∧ s.mem.rereplicating = some 1 ∧
    s.clocks[0]?.any (·.outside) = true ∧ s.newel.running = true ∧ s.newel.faultCause.testBit 7 = false := by decide +kernel
/-- R19: a second window outside the limits is a clock fault; R463: a mismatch of the Newel's cores is a device fault. -/
theorem test_clock_fault : (match exec (.clockMonitorWindow 0 ⟨[(0, 1), (1, 1)], true⟩) { live with clocks := [⟨true, true, true, false⟩, ⟨true, true, false, false⟩] } with | .next t => some (t.clocks.map (·.fault)) | _ => none)
    = some [true, false] := by decide +kernel
theorem test_newel_mismatch : (match exec (.newelLockstepMismatch 0) live with | .next t => some (t.newel.faultCause, t.newel.pins.fault, t.newel.pins.safeState) | _ => none) = some (1, true, true) := by decide +kernel
/-- R326, R336: two bits of one byte of a GDDR6 word are corrected, bits of two bytes are not; a SECDED word corrects one bit. -/
theorem test_ecc : eccOutcome 5 [0, 7] = some .corrected ∧ eccOutcome 5 [7, 8] = some .uncorrected ∧ eccOutcome 0 [7] = some .corrected ∧ eccOutcome 0 [7, 8] = some .uncorrected ∧
    eccOutcome 0 [] = some .clean := by decide +kernel

/-! The host interface: witnesses, and single steps -/

/-- A client table whose one client has a transport and key 1, and two rings of 64 entries with vector 3. -/
def hosted (transport : Nat) (rings : List (Nat × Ring)) : State :=
  { live with
    dict := (live.dict.setActive 0x8400 1 (.blob (leBytes 4 (1 + 2 * transport + 0xFF00) ++ leBytes 4 1 ++ List.replicate 24 0#8))).setActive 0x8400 2
      (.blob ((leBytes 4 (1 + 0x300) ++ List.replicate 28 0#8) ++ (leBytes 4 (1 + 0x300) ++ List.replicate 28 0#8) ++ (leBytes 4 1 ++ List.replicate 28 0#8)))
    host := { HostPort.initial with rings := rings, busMaster := true } }
def ring0 : Ring := { Ring.fresh with producer := 1 }
/-- DoorbellsAndRegisters: each doorbell on a ring of its client, at values in and out of range, with the ring disabled and not, and a moderation time that has passed. -/
theorem test_doorbells : (hosted 0 [(0, ring0), (1, Ring.fresh)]).ring? 0 = some ring0 ∧ ((hosted 0 []).ringClient 0).transport = 0 ∧ ((hosted 1 []).qpClients 1).contains 0 = true ∧ 0 % 4 = 0 ∧ 1 % 4 ≠ 0 ∧
    DoorbellOk (hosted 0 []) 0 64 ring0 ∧ ¬DoorbellOk (hosted 0 []) 0 65 ring0 ∧ DoorbellOk (hosted 0 []) 1 0 Ring.fresh ∧ ¬DoorbellOk (hosted 0 []) 1 1 Ring.fresh ∧ DoorbellOk (hosted 0 []) 2 0 Ring.fresh ∧
    ring0.st ≠ .disabled ∧ 0 + 1000 * ((hosted 0 []).ringCfg 0).modTime ≤ max live.now 0 ∧ live.boot.coldHeld = false ∧ live.boot.retries = false ∧ State.reset.boot.retries = true ∧ State.reset.boot.ready = false ∧ live.boot.ready = true ∧
    memWf live.host.msix = true ∧ memWf live.host.buffer = true ∧ hostBufferSize < live.host.apertureBase + 0 + (hostBufferSize + 1) := by decide +kernel
theorem test_moderation : (match exec (.interruptModerationTimer 0 1) (hosted 0 [(1, { Ring.fresh with unsignalled := 1 })]) with | .next t => some t.wire | _ => none) = some [.msix 3] := by decide +kernel
theorem test_link_below : (match exec (.linkTrained 0 2 8) live with | .next t => some (t.host.linkBelow, t.events.map (·.code)) | _ => none) = some (true, [0x0209]) := by decide +kernel
theorem test_aperture_is_aligned : (match exec (.apertureBaseWrite ⟨0x200000, []⟩) live, exec (.apertureBaseWrite ⟨0x200001, []⟩) live with
    | .next t, .next u => some (t.host.apertureBase, u.host.apertureBase) | _, _ => none) = some (0x200000, 0) := by decide +kernel
/-- The window ends with host buffer space, of 7,232 MiB: of two bytes written at its last one, one is kept, and the access counts (R395). -/
theorem test_aperture_end : let s : State := { live with host := { live.host with apertureBase := 7230 * 1048576 } }
    (match exec (.apertureBaseWrite ⟨1, [.write (2 * 1048576 - 1) [7#8, 8#8]]⟩) s with
    | .next t => some (t.bar4Byte (2 * 1048576 - 1), t.bar4Byte (2 * 1048576), (t.dict.activeVal 0x8402 0x0A).toNum) | _ => none) = some (7#8, 0#8, 1) := by decide +kernel
theorem test_config_write : (match exec (.busMasterEnableWrite 0 ⟨true, [(1, 0x40)], [(8, [5#8])]⟩) live with | .next t => some (t.host.busMaster, t.host.bars[1]?, memRead 8 t.host.msix) | _ => none)
    = some (true, some 0x40, 5#8) := by decide +kernel

/-- DescriptorsAreTestedJournaledAndAccepted: a NOP of client 0, one with a reserved bit set, and a descriptor that waits. -/
def nopBytes (reserved : Nat) : List Byte := leBytes 4 7 ++ leBytes 2 0 ++ [0#8] ++ leBytes 1 reserved ++ List.replicate 56 0#8
def fetched0 : Fetched := ⟨0, 0, descOf (nopBytes 0), [], true⟩
theorem test_descriptors : let s := hosted 0 [(0, ring0), (1, Ring.fresh)]
    s.mirrorTarget = none ∧ s.mayFetch 0 = true ∧ (s.ringClient 0).transport ≤ 1 ∧ s.host.journalFull = false ∧ s.peerBudgetSpent = false ∧ s.poolRoom = true ∧ s.journalRoom 0 = true ∧ s.ring? 1 = some Ring.fresh ∧
    s.testDesc 0 ring0 (descOf (nopBytes 0)) true = none ∧ s.testDesc 0 ring0 (descOf (nopBytes 8)) true = some (0x0204, false) ∧ s.accepts = true ∧ fetched0.desc.client = 0 ∧ s.streamBy 0 0 = none ∧ { fetched0 with desc := { fetched0.desc with opcode := 1 } }.desc.opcode = 1 ∧ s.host.journal = [] := by decide +kernel
theorem test_accept : (match exec (.descriptorAccept 5) { hosted 0 [(0, ring0), (1, Ring.fresh)] with host := { (hosted 0 [(0, ring0), (1, Ring.fresh)]).host with fetched := [fetched0] } } with
    | .next t => some (t.host.journal.map (fun j => (j.st, j.sequence)), t.disp.items.map (fun i => (i.kind, i.flow)), (t.ring? 0).map (·.consumer)) | _ => none)
    = some ([(.accepted, 7)], [(.hostCommand, some 0x80)], some 1) := by decide +kernel

/-- HostCommandsComplete, ReplayRegenerateAndDump: each command in service, with its payload read and not, for the cases of each statement. -/
def desc0 (opcode length : Nat) (device : Bool) (specific : List Byte) : Desc := ⟨7, 0, opcode, false, device, false, 0, 0, 0, length, 0, specific⟩
def jrec0 (d : Desc) (payload : List Byte) (ok : Bool) : JRec := ⟨5, .accepted, true, 0, 0, 7, 0, 0, some d, payload, ok, [], none, false, false, false, false, true⟩
def commandItem : Item := { item .hostCommand (.unit 19) 0 5 0 with flow := some 0x80 }
def commanded (d : Desc) (payload : List Byte) (ok : Bool) : State :=
  withItem commandItem { hosted 0 [(0, ring0), (1, Ring.fresh)] with host := { (hosted 0 [(0, ring0), (1, Ring.fresh)]).host with journal := [jrec0 d payload ok], nextJournal := 6 } }
theorem test_commands : ∀ k ∈ [0, 2, 3, 4, 5, 6, 7], ∀ ok ∈ [true, false],
    (commanded (desc0 k 0 false (List.replicate 32 0#8)) [] ok).hostCmd ⟨5, true, [], true⟩ k = some ⟨commandItem, desc0 k 0 false (List.replicate 32 0#8), [], ok⟩ := by decide +kernel
theorem test_model_slots : let s := commanded (desc0 3 1 false (1#8 :: List.replicate 31 0#8)) [0#8] true
    s.modelBound 0 = true ∧ fieldAt (desc0 3 1 false (1#8 :: List.replicate 31 0#8)).specific 0 1 = 1 ∧ s.modelBound 1 = false ∧ 1 < s.boot.models.length ∧ 0 + 1 ≤ s.cfg 0x8100 1 ∧ s.modelStatus [0#8] true ≠ 0 ∧
      ({ s with dict := s.dict.setActive 0x8100 1 (.num 0) } : State).cfg 0x8100 1 < 0 + 1 := by decide +kernel
/-- DICTIONARY: a READ of the session answers; a CLOSE does not. -/
theorem test_dictionary_kinds : let b := odpHeader 1 5 0 0 7 1 1 0 0 0
    (odpParse (.ring 0) (b ++ hmacSm3 [] b)).1 = 5 ∧ (live.odpProcess (.ring 0) 5 0 (odpParse (.ring 0) (b ++ hmacSm3 [] b)).2.2).1 = none := by decide +kernel
theorem test_dictionary_read : let b := odpHeader 1 0 1 0 7 1 1 0 4 0 ++ ref 0x1010 2 2
    ((live.odpProcess (.ring 0) 0 1 (odpParse (.ring 0) (b ++ hmacSm3 [] b)).2.2).1.map (fun r => (fieldAt r 1 1, fieldAt r 20 2, slice r 32 7))) = some (1, 0, ref 0x1010 2 2 ++ [1#8, 0#8, 4#8]) := by decide +kernel
theorem test_nop : (match exec (.nop 5) (commanded (desc0 0 0 false (List.replicate 32 0#8)) [] true) with | .next t => some (t.host.journal.map (·.outcome), t.disp.items.map (·.committed)) | _ => none)
    = some ([some (0, 0)], [true]) := by decide +kernel
theorem test_stream_data : let s := buffered [inPkt] [] .inService; let s : State := { s with host := { s.host with journal := [jrec0 (desc0 1 1 false (List.replicate 32 0#8)) [0#8] true] } }
    s.atUnit 18 .streamPacket (fun i => i.arg == 5) = some { item .streamPacket (.unit 18) 0 5 0 with flow := some 0 } ∧ (s.record? 5).any (·.isDescriptor) = true ∧ (s.stream 0).running = [] ∧ (s.stream 0).reloadDue = false := by decide +kernel
/-- Replay in its modes. -/
def replaying (last : Option Nat) : State :=
  { commanded (desc0 5 0 false (leBytes 8 6 ++ List.replicate 24 0#8)) [] true with det := { Determinism.initial with replay := .replaying, lastReplayed := last } }
theorem test_replay : (replaying none).strict = true ∧ (replaying (some 6)).det.lastReplayed = some 6 ∧ fieldAt (desc0 5 0 false (leBytes 8 6 ++ List.replicate 24 0#8)).specific 0 8 = 6 ∧
    (replaying none).det.run = none ∧ (replaying none).tb.everLocked = true ∧ live.det.replay ≠ .replaying ∧ (fieldAt (desc0 5 0 false (leBytes 8 6 ++ List.replicate 24 0#8)).specific 16 1).testBit 1 = false ∧
    logReservedOk 0 [] = true ∧ (replaying none).ctl.st ≠ .pending ∧ logReservedOk 1 ([0#8, 1#8] ++ List.replicate 14 0#8) = false := by decide +kernel
/-- REGENERATE of the current frame's seal step, of a step that does not exist, and of another frame; DUMP of a list that is held, and of one that is not. -/
def held0 : State := { framed (planned presented0) with det := { Determinism.initial with held := some { planned presented0 with frame := 1 } } }
theorem test_regenerate : regenIdBad (List.replicate 8 0#8 ++ [6#8] ++ List.replicate 23 0#8) = false ∧ regenIdBad (List.replicate 8 0#8 ++ [3#8, 1#8, 0#8] ++ List.replicate 5 0#8 ++ [4#8] ++ List.replicate 15 0#8) = true ∧ (held0.regenFrame 3).isSome = true ∧ ((held0.regenFrame 2).orElse (fun _ => held0.heldFrame 2)).isNone = true ∧ (held0.heldFrame 1).isSome = true ∧
    (match held0.regenAnswer (planned presented0) (List.replicate 8 0#8 ++ [6#8] ++ List.replicate 23 0#8) with | .ok r => some r.1 | .error _ => none) = some 0 ∧
    (match held0.regenAnswer (planned presented0) (List.replicate 8 0#8 ++ [9#8] ++ List.replicate 23 0#8) with | .ok _ => none | .error e => some e) = some 0x0723 := by decide +kernel
theorem test_dump : (held0.dumpBody 1 1).isSome = true ∧ held0.dumpBody 1 9 = none ∧ held0.det.dumps.find? (fun x => x.1 == 5) = none ∧ 3 ≤ held0.tb.curFrame ∧ held0.tb.curFrame < 4 := by decide +kernel

/-- RecoveryMailboxAndDatagrams. -/
def datagram (kind : Nat) (counter : Nat) (body : List Byte) : UdpDatagram :=
  let b := leBytes 4 0x5A524431 ++ leBytes 2 0 ++ leBytes 1 kind ++ [0#8] ++ leBytes 4 7 ++ leBytes 8 counter ++ leBytes 4 0 ++ List.replicate 8 0#8 ++ body
  ⟨0, 9, b ++ hmacSm3 [] b⟩
theorem test_datagram_ack : (hosted 2 []).datagramOk 1 (datagram 1 1 []) = true ∧ (datagram 1 1 []).reservedOk = true ∧ (hosted 2 []).ring? 1 = none ∧
    DoorbellOk (hosted 2 []) 1 (fieldAt (datagram 1 1 []).bytes 20 4) Ring.fresh := by decide +kernel
theorem test_datagram_descriptor : (hosted 2 []).datagramOk 0 (datagram 0 1 (nopBytes 0)) = true ∧ (datagram 0 1 (nopBytes 0)).reservedOk = true := by decide +kernel
theorem test_datagram_bad : (hosted 2 []).datagramOk 0 ⟨0, 9, List.replicate 64 0#8⟩ = false ∧ (hosted 2 []).datagramOk 1 ⟨0, 9, List.replicate 64 0#8⟩ = false := by decide +kernel
/-- The descriptor in a datagram is fetched where its ring may fetch, and not where the ring is missing. -/
theorem test_datagram_fetch : let s := hosted 2 [(0, Ring.fresh), (1, Ring.fresh)]; let d := datagram 0 1 (nopBytes 0)
    let rung := ((s.at 0).udpHeard 0 d).setRing 0 { Ring.fresh with producer := 1 }
    ((s.at 0).udpHeard 0 d).ring? 0 = some Ring.fresh ∧ rung.mayFetch 0 = true ∧ rung.poolRoom = true ∧ rung.host.journalFull = false ∧ rung.testDesc 0 { Ring.fresh with producer := 1 } (descOf (slice d.bytes 32 64)) true = none ∧
      (({ s with host := { s.host with busMaster := false } } : State).setRing 0 { Ring.fresh with producer := 1 }).mayFetch 0 = false := by decide +kernel
def client0 : UdpClient := ⟨1, 0, some 9, 7, [⟨4, [1#8], some 0⟩]⟩
theorem test_resend : let s : State := { hosted 2 [] with host := { (hosted 2 []).host with udp := [(0, client0)], recovery := true } }
    s.udpClient 0 = client0 ∧ client0.unacked.filter (fun r => r.due (max s.now 10000000)) = client0.unacked ∧ client0.unacked.filter (fun r => r.due (max s.now 9999999)) = [] ∧
      client0.source = some 9 ∧ s.udpSession 0 = some ses ∧ (s.ringClient 1).transport ≠ 3 ∧ (s.port s.group.activePort).paused.testBit (s.cfg 0x8600 0x0C) = false ∧ s.host.recovery = true ∧ s.works = true ∧
      s.host.mailboxes[7]? = some ⟨[], 0, 0⟩ := by decide +kernel
/-- A record waits in RECOVERY, and a descriptor is free for it; after RESUME it is an item (R416). -/
def recovering : State :=
  { hosted 0 [(0, { ring0 with st := .recovering }), (1, { Ring.fresh with st := .recovering })] with
    host := { (hosted 0 [(0, { ring0 with st := .recovering }), (1, { Ring.fresh with st := .recovering })]).host with
      journal := [{ jrec0 (desc0 0 0 false (List.replicate 32 0#8)) [] true with ready := false }], nextJournal := 6, recovery := true } }
theorem test_resume_hypotheses : recovering.host.recovery = true ∧ recovering.works = true ∧ alSorted recovering.host.rings = true ∧ (recovering.host.journal.map (·.id)).Nodup ∧
    recovering.host.journal.any (·.unqueued) = true ∧ recovering.externalItems + (recovering.host.journal.filter (·.unqueued)).length ≤ recovering.cfg 0x7100 0x0D := by decide +kernel
theorem test_resume : (match exec (.recoveryControl 0 1) recovering with
    | .next t => some (t.host.recovery, t.host.rings.map (fun p => p.2.st), t.disp.items.map (fun i => (i.kind, i.replay)), t.events.map (·.code)) | _ => none)
    = some (false, [.active, .active], [(.hostCommand, true)], [0x020E]) := by decide +kernel

/-! Chip groups and queue pairs: witnesses, and single steps -/

/-- Chip 0 of a group of two, in a mode and role, with chip 1 in a state; both ports are enabled and up. -/
def peer1 (st : PeerStatus) (role : Nat) : Peer := { Peer.initial with st := st, role := role, heard := some 0 }
def grouped (mode role : Nat) (p : Peer) : State :=
  { live with
    dict := ((((live.dict.setActive 0x8600 1 (.num mode)).setActive 0x8600 4 (.num 3)).setActive 0x8601 1 (.num 1)).setActive 0x8602 1 (.num 1)).setActive 0x7210 1 (.num 1)
    group := { Group.initial with role := role, peers := [Peer.initial, p, Peer.initial, Peer.initial], ports := [{ PeerPort.initial with up := true }, { PeerPort.initial with up := true }] } }
def body (n : Nat) : List Byte := List.replicate n 0#8
/-- GroupMessagesActWhenTheyAreTaken, VersionsMirrorsAndDigestsAreExchanged: each message with its least form is taken from a chip that is present, lost or absent, and none where there is no group, or from this chip;
a number already heard, and one that leaves a gap. -/
theorem test_taken : ∀ x ∈ [(1, 32), (2, 16), (3, 64), (4, 1), (5, 96), (6, 128), (7, 16), (8, 24), (9, 192), (10, 8), (11, 1), (12, 1)],
    ∀ st ∈ [PeerStatus.present, .lost, .absent], ∀ mode ∈ [1, 2], Taken (grouped mode 3 (peer1 st 2)) x.1 (grp x.1 1 1 3 0 (body x.2)) (peer1 st 2) := by decide +kernel
/-- R434: a chip not heard since reset is taken at any SEQUENCE, and one that was lost begins anew at 1. -/
theorem test_taken_anew : let absent := { peer1 .absent 2 with heard := none }; let lost := { peer1 .lost 2 with rxSeq := 6 }
    Taken (grouped 2 3 absent) 11 (grp 11 1 9 3 0 (body 1)) absent ∧ Taken (grouped 2 3 lost) 11 (grp 11 1 1 3 0 (body 1)) lost ∧ Taken (grouped 2 3 lost) 11 (grp 11 1 7 3 0 (body 1)) lost ∧
    ¬Taken (grouped 2 3 lost) 11 (grp 11 1 8 3 0 (body 1)) lost ∧ ListWhole (grouped 2 3 absent) (body 96) ∧ ¬ListWhole (grouped 2 3 absent) (body 95) := by decide +kernel
theorem test_not_taken : live.groupMode = 0 ∧ (grouped 1 4 (peer1 .present 5)).otherChips.contains 0 = false ∧ (grouped 1 4 (peer1 .present 5)).group.peers[1]? = some (peer1 .present 5) ∧
    0 ≤ (peer1 .present 5).rxSeq ∧ (peer1 .present 5).rxSeq + 1 < 2 ∧ (grouped 1 4 (peer1 .present 5)).groupForm 1 (grp 1 1 1 3 0 (body 31)) = false := by decide +kernel
/-- A HELLO of the current frame with another digest than this chip's finds the peer out of step. -/
theorem test_hello_out_of_step : (match exec (.hello 0 (grp 1 1 1 3 9 (body 12 ++ [5#8] ++ body 19))) (grouped 1 4 (peer1 .present 5)) with
    | .next t => some ((t.group.peers[1]?).map (fun q => (q.outOfStep, q.role)), t.events.map (·.code)) | _ => none) = some (some (true, 5), [0x0903, 0x0A02]) := by decide +kernel
theorem test_group_frames : let s : State := { grouped 2 3 (peer1 .present 2) with frames := [fw] }
    s.work? 3 = some fw ∧ fw.speculative = false ∧ fw.closed = none ∧ s.work? 4 = none ∧ s.tb.curFrame ≤ 3 ∧ s.buildsMaps = false ∧ s.tb.ticked = true ∧ (fieldAt (body 64) 20 4).testBit 0 = false ∧
      (fieldAt (body 64) 20 4).testBit 1 = false := by decide +kernel
theorem test_group_image : ({ grouped 1 5 (peer1 .present 4) with det := { Determinism.initial with images := [([1#8], ⟨[], 0, 0#64, 0#64, none, 3, []⟩)] } } : State).imageOf [1#8]
    = some ⟨[], 0, 0#64, 0#64, none, 3, []⟩ := by decide +kernel
theorem test_substitute : let s : State := { grouped 2 3 (peer1 .present 2) with frames := [fw], world := { World.initial with versions := [{ ver 1 false false true [] with frame := 2 }] } }
    s.newest = some { ver 1 false false true [] with frame := 2 } ∧ s.group.role = 3 ∧ fw.sealed = false ∧ fw.landed = false := by decide +kernel
theorem test_mirror_records : (jrecOf 0 (body 4 ++ [1#8] ++ body 187)).st = .accepted ∧ (jrecOf 0 (body 4 ++ [3#8] ++ body 187)).st = .retired := by decide +kernel
def phase0 (ready final compared : Bool) : PhaseDigest := ⟨3, 4, 0, [], 0, ready, final, compared⟩
theorem test_digests : let s : State := { grouped 1 4 (peer1 .present 5) with det := { Determinism.initial with own := [phase0 true false false], search := some ⟨3, 4, 0, 5, 0⟩ } }
    s.lockstepPeer = some 1 ∧ s.comparedPeer 3 = some 1 ∧ keepsSteps s.tb.curFrame 3 = true ∧ s.phase? 3 4 0 = some (phase0 true false false) ∧ phaseHeight 4 = 5 + 1 ∧ phaseHeight 3 = 12 + 1 ∧ s.det.peer = [] ∧
      (phase0 true true false).final = true ∧ (phase0 true true false).compared = false := by decide +kernel

/-- A chip that proposes and one that does not, a mirror that applies records and one with nothing waiting, and a digest the peer has not sent. -/
theorem test_group_roles : (grouped 2 3 (peer1 .present 2)).proposer 1 = true ∧ (grouped 2 3 (peer1 .present 1)).proposer 1 = false ∧ (grouped 2 3 (peer1 .present 2)).groupMode = 2 ∧
    (grouped 1 5 (peer1 .present 4)).groupMode = 1 ∧ (grouped 1 5 (peer1 .present 4)).group.role = 5 ∧ (grouped 1 5 (peer1 .present 4)).poolRoom = true ∧ (grouped 1 5 (peer1 .present 4)).group.mirrored = [] ∧
    (jrecOf 0 (body 4 ++ [1#8] ++ body 187)).desc = none := by decide +kernel
theorem test_digest_missing : let s : State := { grouped 1 4 (peer1 .present 5) with det := { Determinism.initial with own := [phase0 true false false] } }
    s.comparedPeer 3 ≠ none ∧ s.phase? 3 4 0 = some (phase0 true false false) ∧ s.det.peer.any (fun x => x.frame == 3 && x.phase == 4 && x.round == 0) = false := by decide +kernel
/-- R436, R438: a record of one 64-byte packet is kept as a copy for the active chip, in line and acknowledged. -/
theorem test_mirror : (match exec (.mirror 0 (grp 9 1 1 3 0 (body 4 ++ [1#8] ++ body 187))) (grouped 1 5 (peer1 .present 4)) with
    | .next t => some (t.group.mirrored.map (fun x => (x.chip, x.ackDue)), t.host.nextJournal) | _ => none) = some ([(1, none)], 1) := by decide +kernel

/-- GroupsKeepTheirRolesAndPorts, QueuePairsRetryAndSlowDown: a chip silent for the loss time, a busy port without acknowledgement, and a queue pair at each rate and count. -/
def busyQp : QueuePair := { QueuePair.initial with rate := 25000000000, outstanding := [⟨0, 3, true, .msix 0⟩] }
def busy : State := { grouped 1 5 (peer1 .present 4) with group := { (grouped 1 5 (peer1 .present 4)).group with qps := [(groupQp 0 1, busyQp)] } }
theorem test_group_times : 0 + busy.us 0x8600 6 ≤ max busy.now (10 ^ 9) ∧ max busy.now 0 < 0 + busy.us 0x8600 6 ∧ busy.portBusy 0 = true ∧ (busy.port 0).lastAck + busy.us 0x8600 7 ≤ max busy.now (10 ^ 9) ∧
    (busy.port 1).up = true ∧ busy.portEnabled 1 = true ∧ busy.otherChips.contains 1 = true ∧ busy.groupMode ≠ 0 ∧ busy.strict = true ∧ busy.qpKnown (groupQp 0 1) = true ∧ busy.qpKnown 5 = false ∧
    (busy.qp (groupQp 0 1)).rate < fullRate ∧ (busy.qp (groupQp 0 1)).outstanding.any (·.sent) = true ∧ (busy.qp (groupQp 0 1)).timer + 65500 ≤ max busy.now 65500 ∧
    busy.group.helloSent = none ∧ (∀ r ∈ [0, 1, 2], ¬(0x100 ≤ (busy.ringClient r).binding ∧ (busy.ringClient r).binding < 0x108)) ∧ (busy.qp (groupQp 0 1)).lastRaise + 55000 ≤ max busy.now 55000 ∧ max busy.now 54999 < (busy.qp (groupQp 0 1)).lastRaise + 55000 := by decide +kernel
/-- R447, R448: the mirror takes the active role when the active chip is lost. -/
theorem test_peer_loss : (match exec (.peerLoss (10 ^ 9) 1) busy with | .next t => some (t.group.role, (t.group.peers[1]?).map (·.st), t.events.map (·.code)) | _ => none)
    = some (4, some .lost, [0x0905, 0x0A02, 0x0906]) := by decide +kernel
/-- R429: a congestion notification halves the rate. -/
theorem test_cnp : (match exec (.cnp 0 (groupQp 0 1)) busy with | .next t => some ((t.qp (groupQp 0 1)).rate) | _ => none) = some 12500000000 := by decide +kernel
/-- R427: an acknowledgement removes the messages up to its number. -/
theorem test_ack : (match exec (.roceAck 0 (groupQp 0 1) 0) busy with | .next t => some ((t.qp (groupQp 0 1)).outstanding.length) | _ => none) = some 0 := by decide +kernel
theorem test_pause : (match exec (.pfcPause 0 1 6 true) busy with | .next t => some ((t.group.ports[1]?).map (·.paused)) | _ => none) = some (some 64) := by decide +kernel
/-- R430: what was outstanding on the old port goes out on the new one. -/
theorem test_failover : (match exec (.portFailover (10 ^ 9)) busy with | .next t => some (t.group.activePort, (t.qp (groupQp 0 1)).outstanding.length, (t.qp (groupQp 1 1)).outstanding.map (·.msg), t.events.map (·.code)) | _ => none)
    = some (1, 0, [.msix 0], [0x0901]) := by decide +kernel

/-! Start-up and power: witnesses, and single steps -/

/-- TheSequencesEndInReadyOrStop: a device held, with facts for each end; each test stands alone in its facts. -/
def twoSlots : State := { State.reset with boot := { Boot.initial with slots := [⟨.active, 0, 0, [], 0, SettingsArea.initial⟩, ⟨.verified, 0, 0, [], 0, SettingsArea.initial⟩] } }
theorem area_accepted : area.accepted (sm3 area.rootKey) = true := by decide +kernel
theorem record_accepted : area.recordOk = true := by decide +kernel
theorem identity_matches : IdentityMatches facts area := by unfold IdentityMatches; decide +kernel
theorem facts_digest : facts.romDigest = sm3 area.rootKey := by simp only [facts]
theorem found_area (f : BootFacts) (hd : f.romDigest = sm3 area.rootKey) (ha : f.areaA = area) : f.area = some area := by
  unfold BootFacts.area; rw [hd, ha, area_accepted]; rfl
/-- The facts of a good start with others for what follows the record pass its checks too. -/
theorem rom_ok_of (f : BootFacts) (h : f.pllLocked = true ∧ (f.romDigest = sm3 area.rootKey ∧ f.areaA = area) ∧ f.bitErrors = 0 ∧ f.secret = 5) : RomOk f area := by
  refine ⟨h.1, found_area f h.2.1.1 h.2.1.2, by rw [h.2.2.1]; decide, ?_, record_accepted⟩
  have e : f.secret = facts.secret := h.2.2.2
  unfold IdentityMatches; rw [e]; exact identity_matches
theorem test_slots : SlotsOk twoSlots facts area := by unfold SlotsOk headerKnown; decide +kernel
theorem test_gallery : GalleryPasses (availabilityOf area.record) facts := ⟨0, 0, by decide, rfl, by decide +kernel, by decide, by decide +kernel, by decide⟩
theorem test_start_up_succeeds : twoSlots.boot.coldHeld = true ∧ RomOk facts area ∧ facts.manyLost = false ∧ facts.sramZeroed = true ∧ facts.gddrZeroed = true :=
  ⟨rfl, rom_ok_of _ ⟨rfl, ⟨facts_digest, rfl⟩, rfl, rfl⟩, rfl, rfl, rfl⟩
/-- The ROM's stops: no PLL, no area that verifies, too many bit errors and another secret, a record of another device. -/
theorem test_start_up_rom_stops :
    ({ facts with pllLocked := false } : BootFacts).pllLocked = false ∧ ({ facts with romDigest := [] } : BootFacts).area = none ∧
    ({ facts with bitErrors := 1101 } : BootFacts).area = some area ∧ 1100 < ({ facts with bitErrors := 1101 } : BootFacts).bitErrors ∧ ¬IdentityMatches { facts with secret := 6 } area ∧
    ({ area with identityKey := [] } : Part).recordOk = false := by
  refine ⟨rfl, by decide +kernel, ?_, by decide, ?_, by decide +kernel⟩
  · exact found_area { facts with bitErrors := 1101 } (by simp only [facts_digest]) (by simp only [facts])
  unfold IdentityMatches; decide +kernel
/-- The later steps' stops, each with the earlier ones passed. -/
theorem test_start_up_later_stops :
    (∀ f ∈ [{ facts with imageA := false, imageB := false }, { facts with untrained := [0, 2] }, { facts with sramZeroed := false }, { facts with gddrZeroed := false }, { facts with failedGalleries := [0] }],
      RomOk f area) ∧
    (∀ f ∈ [{ facts with untrained := [0, 2] }, { facts with sramZeroed := false }, { facts with gddrZeroed := false }, { facts with failedGalleries := [0] }], SlotsOk twoSlots f area) ∧
    ({ facts with untrained := [0, 2] } : BootFacts).manyLost = true ∧ ¬GalleryPasses (availabilityOf area.record) { facts with failedGalleries := [0] } := by
  refine ⟨?_, ?_, by decide, ?_⟩
  · intro f h
    simp only [List.mem_cons, List.not_mem_nil, or_false] at h
    rcases h with rfl | rfl | rfl | rfl | rfl <;> refine rom_ok_of _ ⟨?_, ⟨?_, ?_⟩, ?_, ?_⟩ <;> simp only [facts]
  · unfold SlotsOk headerKnown; decide +kernel
  · rintro ⟨g, e, g16, _, hg, hf, _⟩
    have one : ∀ k, k < 16 → Nat.testBit (availabilityOf area.record).galleries k = true → k = 0 := by decide +kernel
    exact hf (by rw [one g g16 hg]; exact List.mem_cons_self)
/-- R499: of two valid header copies the ROM uses the one with the higher write sequence, and only the other where that one cannot be read. -/
def headerCopy (k : Nat) (attempts : Nat) : BootHeader := { twoSlots.boot with slots := [⟨.trial, attempts, 0, [], 0, SettingsArea.initial⟩, ⟨.empty, 0, 0, [], 0, SettingsArea.initial⟩] }.header (settingsKey 5) k
def headed : State := { twoSlots with newel := { twoSlots.newel with secret := 5 }, boot := { twoSlots.boot with headers := [headerCopy 7 1, headerCopy 8 2] } }
theorem copy_valid (k attempts : Nat) : (headerCopy k attempts).valid (settingsKey 5) = true := by simp only [headerCopy, BootHeader.valid, Boot.header, BEq.rfl, Bool.and_self]
theorem headed_key : headed.settingsKey = settingsKey 5 := rfl
/-- A warm sequence, with the device booted and not. -/
def warm (booted : Bool) (stage : Nat) : State :=
  { live with newel := { live.newel with booted := booted }
              boot := { live.boot with warmHeld := true, stage := stage, slots := twoSlots.boot.slots, available := { Availability.initial with galleries := 1, engines := 1 } } }
theorem test_warm : (warm true 9).boot.warmHeld = true ∧ (warm true 9).boot.coldHeld = false ∧ (warm true 9).newel.booted = true ∧ (warm true 9).newel.running = true ∧
    (warm true 9).boot.running = 0 ∧ (warm true 9).boot.journalHeader = some (journalMagic, (warm true 9).dict.part.identityDigest) ∧ (warm true 9).imageVerifies facts 0 = true ∧ (warm true 9).boot.excursion = false ∧ facts.imageA = true ∧ facts.untrained = [] ∧
    ({ facts with untrained := [0, 2] } : BootFacts).manyLost = true ∧ State.reset.boot.coldHeld = true ∧ live.boot.warmHeld = false ∧ live.newel.booted = true := by decide +kernel
theorem test_warm_gallery : GalleryPasses (warm true 9).boot.available facts := ⟨0, 0, by decide, rfl, by decide, by decide, by decide, by decide⟩

/-- R489: a record of the journal that recovery can still read, and one whose copies are both bad. -/
theorem test_readable_record : let j := jrecOf 0 (body 4 ++ [1#8] ++ body 187)
    let s : State := { warm true 9 with mem := { (warm true 9).mem with channels := [⟨false, 1, []⟩, ⟨false, 2, []⟩] } }
    s.readableRecord j = true ∧ s.readableRecord { j with badA := true } = true ∧ s.readableRecord { j with badA := true, badB := true } = false := by decide +kernel

theorem test_header_read : (headed.headerRead []).boot.slots.map (·.attempts) = [2, 0] ∧ (headed.headerRead [1]).boot.slots.map (·.attempts) = [1, 0] ∧
    (headed.headerRead [0, 1]).boot.slots.map (·.attempts) = [0, 0] := by
  have h0 : headed.boot.headers[0]? = some (headerCopy 7 1) := rfl
  have h1 : headed.boot.headers[1]? = some (headerCopy 8 2) := rfl
  refine ⟨?_, ?_, ?_⟩ <;> unfold State.headerRead <;> simp only [h0, h1, headed_key, copy_valid, Option.bind_some] <;> rfl

/-- SettingsFirmwareAndReports. -/
def firm (a b : FwState) : State := { live with boot := { live.boot with domsLoaded := false, slots := [⟨a, 1, 4, [], 0, SettingsArea.initial⟩, ⟨b, 0, 0, [], 0, SettingsArea.initial⟩], nonce := some (body 16) } }
theorem test_firmware_states : (firm .active .verified).boot.ready = true ∧ ((firm .active .verified).slot 1).st = .verified ∧ (firm .active .verified).boot.running ≠ 1 ∧ (firm .trial .active).boot.slots.length = 2 ∧
    ((firm .trial .active).slot 0).st = .trial ∧ (firm .trial .active).boot.nonce = some (body 16) ∧ (body 16).length = 16 ∧ (firm .trial .active).boot.domsLoaded = false ∧ live.boot.nonce = none := by decide +kernel
/-- R512: a confirmed trial becomes ACTIVE, the other slot VERIFIED, and the minimum security version rises to the image's. -/
theorem test_confirm : (match exec .firmwareConfirm (firm .trial .active) with | .next t => some (t.boot.slots.map (·.st), t.boot.minSecurity) | _ => none) = some ([.active, .verified], 4) := by decide +kernel

/-- R499: naming the next boot slot rewrites the older copy of the boot header with the next write sequence. -/
theorem test_header_write : (match exec (.firmwareActivate 1) { firm .active .verified with boot := { (firm .active .verified).boot with headers := [⟨[], none, 0, 3, [], []⟩, ⟨[], none, 0, 4, [], []⟩], headerSequence := 4 } } with
    | .next t => some (t.boot.headers.map (·.sequence)) | _ => none) = some [5, 4] := by decide +kernel

/-- TheThrottleFollowsItsDemands. -/
def powered (wanted : Option Nat) (settling : Option (Nat × Nat)) (step : Nat) : State := { live with power := { Power.initial with wanted := wanted, settling := settling, step := step, lowWindows := 9, hotSince := some 0 } }
theorem test_power_states : (powered none none 0).boot.coldHeld = false ∧ (powered (some 1) none 0).power.wanted = some 1 ∧ (powered none (some (0, 5)) 1).power.settling = some (0, 5) ∧ (powered none none 8).power.step = 8 ∧
    (powered none none 0).newel.faultCause.testBit 6 = false ∧ (powered none none 8).now = 0 := by decide +kernel
theorem test_hot_time : 0 + 100000 ≤ max 0 100000 := by decide
theorem test_temperatures : (List.replicate 32 0x42FA0000#32).length = 32 ∧ ∀ x ∈ List.replicate 32 0x42FA0000#32, f32Finite x = true :=
  ⟨rfl, fun x h => by rw [List.eq_of_mem_replicate h]; rfl⟩
theorem test_temperature_limits : f32Le 0x42FA0000#32 0x42FA0000#32 = true ∧ f32Le 0x43020000#32 0x43020000#32 = true ∧ f32Lt 0x42F00000#32 0x42FA0000#32 = true := by decide +kernel
/-- R528, R533: power above the limit of 280 W asks for one more step. -/
theorem test_power_demand : (match exec (.throttleEvaluation 0 (some ⟨0#32, 0x438C8000#32⟩)) (powered none none 0) with | .next t => some (t.power.demandP, t.power.wanted) | _ => none) = some (1, some 1) := by decide +kernel
/-- R534: two rails that leave their bands at one instant, and one that follows later. -/
theorem test_rail_causes : bothCauses 17 34 = 49 ∧ (match exec (.railExcursion 0 2 false) live with | .next t => some (t.power.faultCause, t.power.faultAt, t.newel.faultCause) | _ => none) = some (18, 0, 64) ∧
    (match exec (.railExcursion 5 1 false) { live with newel := { live.newel with faultCause := 64 }, power := { Power.initial with faultCause := 18, faultAt := 0 } } with
      | .next t => some t.power.faultCause | _ => none) = some 18 := by decide +kernel
/-- R526: 130 °C trips. -/
theorem test_trip : (match exec (.temperatureSample 0 (List.replicate 32 0x43020000#32)) (powered none none 0) with | .next t => some (t.power.tripped, t.newel.faultCause, t.newel.pins.fault) | _ => none)
    = some (true, 64, true) := by decide +kernel
/-- R491, R526: POR_N holds the device and takes every plan from its pins. -/
theorem test_cold_reset : (match exec (.coldResetAssert 5 true) live with | .next t => some (t.boot.coldHeld, t.boot.lastReset, t.newel.pins.planOk, t.odp.sessions.length) | _ => none)
    = some (true, .pcie, false, 0) := by decide +kernel

/-! The queue -/

/-- AStepRunsTheFrontCommand, and the two statements about every step: a queue with a command, and a state in order whose numbers are unique. -/
theorem test_queue : step { live with pending := [.ruleEnd, .ruleNot] } = exec .ruleEnd { live with pending := [.ruleNot] } := rfl
theorem test_queue_empty : step State.reset = .next State.reset := rfl
theorem test_stores_in_order : StoresInOrder live := by
  refine ⟨rfl, rfl, rfl, rfl, nofun, rfl, rfl, rfl, nofun, ?_, ?_, rfl, nofun⟩
  · decide +kernel
  · exact ⟨by decide, rfl, rfl⟩
theorem test_numbers_unique : NumbersUnique (manned [readyItem] [1]) := by decide +kernel
/-- R307: a reserved major opcode spells no command. -/
theorem test_no_command : decodeTableWord 32 0 = none ∧ live.withFetchWord 32 0 = live := ⟨rfl, rfl⟩

end Sys2Proof.Tests
end

section
/-!
What the operations of the frame cycle keep: the dictionary but for its counters (R34), what the Newel has latched (R463, R465), and the events raised before (R417).
-/
namespace Sys2Proof.Machine
open Sys2Proof

/-! The dictionary under its counters -/

/-- The objects that a test names read as before, and the active values keep their order. -/
structure Dict.Spares (P : Nat → Nat → Prop) (d e : Dict) : Prop where
  same : ∀ idx sub, P idx sub → e.activeVal idx sub = d.activeVal idx sub
  sorted : alSorted d.active = true → alSorted e.active = true

/-- An object that is no counter (R35). -/
def NoCounter (idx sub : Nat) : Prop := isCounterIndex idx = false ∧ sub < 256

/-- An object other than EventsLost, which an event may count (R417). -/
def NotEventsLost (idx sub : Nat) : Prop := objKey idx sub ≠ objKey 0x8402 7

/-- An object other than the counter named and EventsLost. -/
def NotCounted (idx sub i j : Nat) : Prop := objKey i j ≠ objKey idx sub ∧ NotEventsLost i j

theorem Dict.Spares.refl {P : Nat → Nat → Prop} (d : Dict) : Dict.Spares P d d := ⟨fun _ _ _ => rfl, id⟩

theorem Dict.Spares.trans {P : Nat → Nat → Prop} {d e f : Dict} (a : Dict.Spares P d e) (b : Dict.Spares P e f) : Dict.Spares P d f :=
  ⟨fun i j h => (b.same i j h).trans (a.same i j h), fun h => b.sorted (a.sorted h)⟩

theorem Dict.Spares.mono {P Q : Nat → Nat → Prop} {d e : Dict} (a : Dict.Spares P d e) (h : ∀ i j, Q i j → P i j) : Dict.Spares Q d e :=
  ⟨fun i j q => a.same i j (h i j q), a.sorted⟩

/-- Keys of objects of different indexes differ (R6). -/
theorem objKey_ne_of_counter {i j idx sub : Nat} (h : NoCounter i j) (c : isCounterIndex idx = true) (k : sub < 256) : objKey i j ≠ objKey idx sub := by
  obtain ⟨hi, hj⟩ := h
  intro e
  obtain rfl : i = idx := by unfold objKey at e; omega
  simp [c] at hi

theorem NoCounter.notEventsLost {i j : Nat} (h : NoCounter i j) : NotEventsLost i j := objKey_ne_of_counter h (by decide) (by decide)

theorem Dict.activeVal_setActive_other (d : Dict) {i j idx sub : Nat} (v : Value) (h : objKey i j ≠ objKey idx sub) : (d.setActive idx sub v).activeVal i j = d.activeVal i j := by
  unfold Dict.activeVal Dict.setActive
  dsimp only
  split
  · rw [alGet_alErase_other h]; rfl
  · rw [alGet_alSet_other h]; rfl

theorem Dict.activeVal_setActive_same (d : Dict) (idx sub : Nat) (v : Value) (h : alSorted d.active = true) : (d.setActive idx sub v).activeVal idx sub = v := by
  unfold Dict.activeVal Dict.setActive
  dsimp only
  split
  case isTrue e => rw [alGet_alErase_same _ h]; exact (beq_iff_eq.1 e).symm
  case isFalse => rw [alGet_alSet_same]; rfl

theorem Dict.setActive_spares (d : Dict) (idx sub : Nat) (v : Value) : Dict.Spares (fun i j => objKey i j ≠ objKey idx sub) d (d.setActive idx sub v) :=
  ⟨fun _ _ h => d.activeVal_setActive_other v h, d.setActive_sorted idx sub v⟩

/-- A counter's rise is its new value and, perhaps, its sticky bit. -/
theorem Dict.bump_activeVal (d : Dict) (idx sub n i j : Nat) :
    (d.bump idx sub n).1.activeVal i j = (d.setActive idx sub (.num (min counterMax ((d.activeVal idx sub).toNum + n)))).activeVal i j := by
  unfold Dict.bump; dsimp only; split <;> rfl

theorem Dict.bump_active (d : Dict) (idx sub n : Nat) :
    (d.bump idx sub n).1.active = (d.setActive idx sub (.num (min counterMax ((d.activeVal idx sub).toNum + n)))).active := by
  unfold Dict.bump; dsimp only; split <;> rfl

theorem Dict.bump_spares (d : Dict) (idx sub n : Nat) : Dict.Spares (fun i j => objKey i j ≠ objKey idx sub) d (d.bump idx sub n).1 :=
  ⟨fun i j h => (d.bump_activeVal idx sub n i j).trans (d.activeVal_setActive_other _ h), fun h => d.bump_active idx sub n ▸ d.setActive_sorted _ _ _ h⟩

theorem Dict.bump_value (d : Dict) (idx sub n : Nat) (h : alSorted d.active = true) :
    ((d.bump idx sub n).1.activeVal idx sub).toNum = min counterMax ((d.activeVal idx sub).toNum + n) := by
  rw [d.bump_activeVal, d.activeVal_setActive_same _ _ _ h]; rfl

/-! Events -/

theorem State.offerEvent_spares (s : State) (r : Nat) (e : EventRec) : Dict.Spares NotEventsLost s.dict (s.offerEvent r e).dict := by
  unfold State.offerEvent
  split
  · exact .refl _
  · dsimp only
    split
    · rw [s.ringPush_frame]; exact .refl _
    · split
      · exact .refl _
      · exact s.dict.bump_spares ..

theorem State.emit_spares (s : State) (frame code arg arg2 : Nat) : Dict.Spares NotEventsLost s.dict (s.emit frame code arg arg2).dict := by
  have h := State.foldl_rel (R := fun a b => Dict.Spares NotEventsLost a.dict b.dict) (fun _ => .refl _) .trans _
    (fun t r => t.offerEvent_spares r ⟨code, arg, frame, s.time, arg2⟩) (s.eventRings code) { s with events := s.events ++ [⟨code, arg, frame, s.time, arg2⟩] }
  exact h

/-- Raising an event counts nothing but EventsLost. -/
theorem State.raiseFor_spares (s : State) (frame code arg arg2 : Nat) : Dict.Spares NotEventsLost s.dict (s.raiseFor frame code arg arg2).dict := by
  unfold State.raiseFor
  dsimp only
  split
  · exact (s.emit_spares ..).trans (State.emit_spares ..)
  · exact s.emit_spares ..

theorem State.raiseFor_prefix (s : State) (frame code arg arg2 : Nat) : s.events <+: (s.raiseFor frame code arg arg2).events := by
  obtain ⟨more, h, -⟩ := s.raiseFor_events frame code arg arg2
  exact ⟨_, h.symm⟩

theorem State.raise_spares (s : State) (code arg : Nat) : Dict.Spares NotEventsLost s.dict (s.raise code arg).dict := s.raiseFor_spares ..
theorem State.raise_prefix (s : State) (code arg : Nat) : s.events <+: (s.raise code arg).events := s.raiseFor_prefix ..

/-- A counter's rise, with or without the event of its saturation. -/
theorem State.count_cases (s : State) (idx sub n : Nat) :
    s.count idx sub n = { s with dict := (s.dict.bump idx sub n).1 } ∨ s.count idx sub n = ({ s with dict := (s.dict.bump idx sub n).1 } : State).raise 0x0112 (objRef idx sub) := by
  unfold State.count
  dsimp only
  split
  · exact .inr rfl
  · exact .inl rfl

/-- A counter's rise counts that counter, and EventsLost where it raises an event. -/
theorem State.count_spares (s : State) (idx sub n : Nat) : Dict.Spares (NotCounted idx sub) s.dict (s.count idx sub n).dict := by
  have h := (s.dict.bump_spares idx sub n).mono (Q := NotCounted idx sub) fun _ _ q => q.1
  rcases s.count_cases idx sub n with e | e <;> rw [e]
  · exact h
  · exact h.trans ((State.raise_spares { s with dict := (s.dict.bump idx sub n).1 } ..).mono (Q := NotCounted idx sub) fun _ _ q => q.2)

theorem State.count_prefix (s : State) (idx sub n : Nat) : s.events <+: (s.count idx sub n).events := by
  rcases s.count_cases idx sub n with e | e <;> rewrite [e]
  · exact List.prefix_rfl
  · exact State.raise_prefix { s with dict := (s.dict.bump idx sub n).1 } ..

/-- R34: the value of a counter after its rise. -/
theorem State.count_value (s : State) (idx sub n : Nat) (h : alSorted s.dict.active = true) (k : NotEventsLost idx sub) :
    ((s.count idx sub n).dict.activeVal idx sub).toNum = min counterMax ((s.dict.activeVal idx sub).toNum + n) := by
  have v := s.dict.bump_value idx sub n h
  rcases s.count_cases idx sub n with e | e <;> rw [e]
  · exact v
  · rw [(State.raise_spares ..).same idx sub k]; exact v

/-- An event is raised where it is raised. -/
theorem State.raised_raiseFor (s : State) (frame code arg arg2 : Nat) : Raised s (s.raiseFor frame code arg arg2) code := by
  obtain ⟨more, h, -⟩ := s.raiseFor_events frame code arg arg2
  exact ⟨_, by rw [h, List.drop_left]; exact List.mem_cons_self .., rfl⟩

theorem State.raised_raise (s : State) (code arg : Nat) : Raised s (s.raise code arg) code := s.raised_raiseFor ..
theorem State.raised_raiseOpen (s : State) (frame code : Nat) : Raised s (s.raiseOpen frame code) code := s.raised_raiseFor ..

/-- What has been raised stays raised. -/
theorem State.raised_of_prefix {r s t u : State} {code : Nat} (h : Raised s t code) (a : r.events <+: s.events) (b : t.events <+: u.events) : Raised r u code := by
  obtain ⟨e, he, hc⟩ := h
  obtain ⟨x, hx⟩ := b
  refine ⟨e, ?_, hc⟩
  have ht : e ∈ t.events.drop r.events.length := (List.drop_sublist_drop_left _ a.length_le).subset he
  rw [← hx, List.drop_append]
  exact List.mem_append_left _ ht

/-! What the Newel has latched -/

/-- R463, R465: a device fault stays, a fall-back cause of a clock stays, and JTAG_TRST_N is as its pad drives it. -/
structure Newel.Latched (n m : Newel) : Prop where
  fault : ∀ b, n.faultCause.testBit b = true → m.faultCause.testBit b = true
  clock : n.degraded.testBit 9 = true → m.degraded.testBit 9 = true
  jtag : m.pins.jtagTrst = n.pins.jtagTrst

theorem Newel.Latched.refl (n : Newel) : n.Latched n := ⟨fun _ => id, id, rfl⟩

theorem Newel.Latched.trans {n m k : Newel} (a : n.Latched m) (b : m.Latched k) : n.Latched k :=
  ⟨fun i h => b.fault i (a.fault i h), fun h => b.clock (a.clock h), b.jtag.trans a.jtag⟩

/-! The work of the frames -/

/-- What the operations on frames and their items do: nothing changes but the frames' work, the items and units, the digests, what the Newel and the links hold, and the records; no
counter but those of R35 moves, nothing latched is cleared, no event is unsaid, and which run-ahead blocks are squashed stays as decided. -/
structure State.Works (s t : State) : Prop where
  frame : t = { s with dict := t.dict, frames := t.frames, host := t.host, disp := t.disp, newel := t.newel, group := t.group, det := t.det, events := t.events, wire := t.wire }
  dict : Dict.Spares NoCounter s.dict t.dict
  squash : t.frames.map (fun w => (w.frame, w.squashAll)) = s.frames.map (fun w => (w.frame, w.squashAll))
  newel : s.newel.Latched t.newel
  events : s.events <+: t.events

namespace State.Works

theorem refl (s : State) : State.Works s s := ⟨rfl, .refl _, rfl, .refl _, List.prefix_rfl⟩

theorem trans {s t u : State} (a : State.Works s t) (b : State.Works t u) : State.Works s u := by
  refine ⟨?_, a.dict.trans b.dict, b.squash.trans a.squash, a.newel.trans b.newel, a.events.trans b.events⟩
  have h := b.frame
  rw [a.frame] at h
  exact h

theorem foldl {α : Type} {f : State → α → State} (h : ∀ s x, State.Works s (f s x)) (xs : List α) (s : State) : State.Works s (xs.foldl f s) :=
  State.foldl_rel refl trans f h xs s

/-- What only the records show. -/
theorem of_notes {s t : State} (h : State.Notes s t) (d : Dict.Spares NoCounter s.dict t.dict) (e : s.events <+: t.events) : State.Works s t :=
  ⟨by rw [h], d, by rw [h], by rw [h]; exact .refl _, e⟩

theorem of_hostWire {s t : State} (h : State.HostWire s t) : State.Works s t := of_notes h.notes (by rw [h]; exact .refl _) (by rw [h])

theorem of_disp (s : State) (d : Dispatch) : State.Works s { s with disp := d } := ⟨rfl, .refl _, rfl, .refl _, List.prefix_rfl⟩

theorem of_det (s : State) (d : Determinism) : State.Works s { s with det := d } := ⟨rfl, .refl _, rfl, .refl _, List.prefix_rfl⟩

theorem of_group (s : State) (g : Group) : State.Works s { s with group := g } := ⟨rfl, .refl _, rfl, .refl _, List.prefix_rfl⟩

theorem of_newel (s : State) {n : Newel} (h : s.newel.Latched n) : State.Works s { s with newel := n } := ⟨rfl, .refl _, rfl, h, List.prefix_rfl⟩

/-- A change to every frame's work that keeps its number and what is decided of its run-ahead blocks. -/
theorem of_frames (s : State) {f : FrameWork → FrameWork} (h : ∀ w, ((f w).frame, (f w).squashAll) = (w.frame, w.squashAll)) : State.Works s { s with frames := s.frames.map f } :=
  ⟨rfl, .refl _, by rw [List.map_map]; exact List.map_congr_left fun w _ => h w, .refl _, List.prefix_rfl⟩

end State.Works

theorem State.raiseFor_works (s : State) (frame code arg arg2 : Nat) : State.Works s (s.raiseFor frame code arg arg2) :=
  .of_notes (s.raiseFor_frame ..) ((s.raiseFor_spares ..).mono fun _ _ h => h.notEventsLost) (s.raiseFor_prefix ..)

theorem State.raise_works (s : State) (code arg : Nat) : State.Works s (s.raise code arg) := s.raiseFor_works ..
theorem State.raiseOpen_works (s : State) (frame code : Nat) : State.Works s (s.raiseOpen frame code) := s.raiseFor_works ..

theorem State.count_works (s : State) (idx sub n : Nat) (h : isCounterIndex idx = true := by decide) (k : sub < 256 := by decide) : State.Works s (s.count idx sub n) :=
  .of_notes (s.count_frame ..) ((s.count_spares ..).mono fun _ _ q => ⟨objKey_ne_of_counter q h k, q.notEventsLost⟩) (s.count_prefix ..)

theorem map_modFirst_of_eq {α β : Type} (p : α → Bool) (f : α → α) (g : α → β) (h : ∀ x, g (f x) = g x) (xs : List α) : (modFirst p f xs).map g = xs.map g := by
  induction xs with
  | nil => rfl
  | cons x xs ih => by_cases e : p x <;> simp [modFirst, e, h, ih]

theorem State.modWork_works (s : State) (n : Nat) (f : FrameWork → FrameWork)
    (h : ∀ w, ((f w).frame, (f w).squashAll) = (w.frame, w.squashAll) := by exact fun _ => rfl) : State.Works s (s.modWork n f) :=
  ⟨rfl, .refl _, map_modFirst_of_eq _ f _ h _, .refl _, List.prefix_rfl⟩

theorem State.modPlan_works (s : State) (n k : Nat) (f : Plan → Plan) : State.Works s (s.modPlan n k f) := s.modWork_works ..

theorem State.signalStatus_works (s : State) : State.Works s s.signalStatus := .of_hostWire s.signalStatus_frame

end Sys2Proof.Machine
end

section
/-!
The operations of the frame cycle, each shown to change no more than `State.Works` says.
-/
namespace Sys2Proof.Machine
open Sys2Proof

namespace State.Works

theorem ite {c : Prop} [Decidable c] {s t u : State} (a : State.Works s t) (b : State.Works s u) : State.Works s (if c then t else u) := by split <;> assumption

theorem optional {c : Prop} [Decidable c] {s t : State} (a : State.Works s t) : State.Works s (if c then s else t) := ite (refl s) a

theorem optional' {c : Prop} [Decidable c] {s t : State} (a : State.Works s t) : State.Works s (if c then t else s) := ite a (refl s)

end State.Works

/-! Masks and statuses -/

theorem State.maskBit_works (s : State) (frame bit : Nat) : State.Works s (s.maskBit frame bit) := by
  unfold State.maskBit
  split
  · exact s.modWork_works ..
  · exact .of_det ..

theorem State.disturb_works (s : State) (frame : Nat) : State.Works s (s.disturb frame) := .optional ((s.maskBit_works ..).trans (State.count_works ..))

theorem State.present_works (s : State) (frame : Nat) : State.Works s (s.present frame) :=
  s.modWork_works _ _ fun w => by split <;> rfl

/-! Items -/

theorem State.settleItems_works (s : State) : State.Works s s.settleItems := .of_disp ..
theorem State.modItem_works (s : State) (serial : Nat) (f : Item → Item) : State.Works s (s.modItem serial f) := .of_disp ..
theorem State.commitItem_works (s : State) (serial : Nat) : State.Works s (s.commitItem serial) := s.modItem_works ..
theorem State.modUnit_works (s : State) (e : Nat) (f : EngineUnit → EngineUnit) : State.Works s (s.modUnit e f) := .of_disp ..
theorem State.chainTo_works (s : State) (flow d : Nat) : State.Works s (s.chainTo flow d) := .of_disp ..

theorem State.delayLoc_works (s : State) (d release : Nat) : State.Works s (s.delayLoc d release).2 := by
  unfold State.delayLoc
  split
  · exact .refl s
  · exact s.count_works ..

theorem State.addItem_works (s : State) (n : NewItem) : State.Works s (s.addItem n) := by
  unfold State.addItem
  extract_lets behind home
  split
  next loc t h =>
  have ht : State.Works s t := by
    split at h
    · cases h; exact .refl s
    · have e : (s.delayLoc home _).2 = t := congrArg Prod.snd h
      exact e ▸ s.delayLoc_works ..
    · cases h; exact .refl s
  exact ht.trans (.of_disp ..)

theorem State.advanceFlow_works (s : State) (flow : Nat) : State.Works s (s.advanceFlow flow) := by
  unfold State.advanceFlow
  split
  · exact .refl s
  · split
    · dsimp only
      split
      · exact ((s.chainTo_works ..).trans (State.delayLoc_works ..)).trans (State.modItem_works ..)
      · exact (s.chainTo_works ..).trans (State.modItem_works ..)
    · exact .refl s

theorem State.dropItem_works (s : State) (serial : Nat) : State.Works s (s.dropItem serial) := by
  unfold State.dropItem
  split
  · exact .refl s
  · dsimp only
    split
    · exact .trans (.of_disp ..) (State.advanceFlow_works ..)
    · exact .of_disp ..

theorem State.cancelItems_works (s : State) (p : Item → Bool) : State.Works s (s.cancelItems p) :=
  .trans (.of_disp ..) (.foldl (fun t (i : Item) => t.dropItem_works i.serial) _ _)

theorem State.feedTiles_works (s : State) : State.Works s s.feedTiles := .foldl (fun t _ => t.addItem_works _) _ _

/-! Digests -/

theorem State.modPhase_works (s : State) (frame phase round : Nat) (f : PhaseDigest → PhaseDigest) : State.Works s (s.modPhase frame phase round f) := .of_det ..

theorem State.phaseReady_works (s : State) (frame phase round : Nat) : State.Works s (s.phaseReady frame phase round) := s.modPhase_works ..

theorem State.recordStep_works (s : State) (frame phase round index : Nat) (content : List Byte) : State.Works s (s.recordStep frame phase round index content) :=
  (s.modPhase_works ..).trans (.of_det ..)

/-! Blocks and rounds -/

theorem State.addBlock_works (s : State) (w : FrameWork) (firstId cls : Nat) (spec replay : Bool) : State.Works s (s.addBlock w firstId cls spec replay) := by
  unfold State.addBlock; exact s.addItem_works _

theorem State.issueBlock_works (s : State) (frame firstId : Nat) : State.Works s (s.issueBlock frame firstId) := by
  unfold State.issueBlock
  split
  · exact .refl s
  · exact (s.modWork_works ..).trans (State.addBlock_works ..)

theorem State.issueBlocks_works (s : State) (frame : Nat) (ids : List Nat) : State.Works s (s.issueBlocks frame ids) := .foldl (fun t i => t.issueBlock_works frame i) _ _

theorem State.replayBlock_works (s : State) (frame firstId : Nat) : State.Works s (s.replayBlock frame firstId) := by
  unfold State.replayBlock
  split
  · exact .optional (.optional (.optional (s.addBlock_works ..)))
  · exact .refl s

theorem State.advanceRounds_works (fuel frame : Nat) (s : State) : State.Works s (State.advanceRounds fuel frame s) := by
  induction fuel generalizing s with
  | zero => exact .refl s
  | succ fuel ih =>
    unfold State.advanceRounds
    split
    · exact .refl s
    · split
      · exact .refl s
      · split
        · exact .refl s
        · refine .optional ?_
          dsimp only
          refine (s.modWork_works ..).trans (.optional' ?_)
          exact .trans (.trans (.ite ((State.count_works ..).trans (State.raiseOpen_works ..)) (State.issueBlocks_works ..)) (State.modWork_works ..)) (ih _)

theorem State.goRounds_works (s : State) (frame : Nat) : State.Works s (s.goRounds frame) := State.advanceRounds_works 5 frame s

theorem State.withdrawBlocks_works (s : State) (frame : Nat) (p : BlockRec → Bool) : State.Works s (s.withdrawBlocks frame p) := by
  unfold State.withdrawBlocks
  split
  · exact .refl s
  · dsimp only
    exact .optional ((((s.cancelItems_works _).trans (State.modWork_works ..)).trans (State.count_works ..)).trans (State.count_works ..))

theorem State.retireProposals_works (s : State) (frame : Nat) : State.Works s (s.retireProposals frame) := by
  unfold State.retireProposals
  split
  · exact .refl s
  · dsimp only
    exact .optional (.trans (.optional (.foldl (fun t _ => t.recordStep_works ..) _ _)) (State.phaseReady_works ..))

theorem State.completeRound0_works (s : State) (frame : Nat) : State.Works s (s.completeRound0 frame) := by
  have h := s.retireProposals_works frame
  unfold State.completeRound0
  dsimp only
  split
  · exact h
  · exact h.trans (.optional' (State.modWork_works ..))

theorem State.issueMissing_works (s : State) (frame : Nat) : State.Works s (s.issueMissing frame) := by
  unfold State.issueMissing
  split
  · exact .refl s
  · dsimp only
    exact .optional (((State.Works.foldl (fun t i => .optional (t.issueBlock_works frame i)) _ _).trans (.foldl (fun t (r : BlockRec) => t.replayBlock_works frame r.firstId) _ _)).trans
      (State.completeRound0_works ..))

theorem State.policyFailed_works (s : State) (frame : Nat) : State.Works s (s.policyFailed frame) :=
  (((((((s.cancelItems_works _).trans (State.withdrawBlocks_works ..)).trans (State.modWork_works ..)).trans (State.count_works ..)).trans (State.raiseOpen_works ..)).trans
    (State.disturb_works ..)).trans (State.completeRound0_works ..)).trans (State.goRounds_works ..)

theorem State.abandonBlock_works (s : State) (frame code mark : Nat) : State.Works s (s.abandonBlock frame code mark) :=
  ((s.modWork_works ..).trans (State.raiseOpen_works ..)).trans (State.count_works ..)

theorem State.abandonItem_works (s : State) (engine : Nat) (i : Item) (code : Nat) : State.Works s (s.abandonItem engine i code) :=
  (((s.modUnit_works ..).trans (State.commitItem_works ..)).trans (State.abandonBlock_works ..)).trans (State.goRounds_works ..)

theorem State.dispose_works (s : State) (frame : Nat) (p : BlockRec → Bool) : State.Works s (s.dispose frame p) := by
  unfold State.dispose
  split
  · exact .refl s
  · dsimp only
    exact (State.Works.trans (.optional ((s.withdrawBlocks_works ..).trans (State.count_works ..))) (.optional ((State.modWork_works ..).trans (State.count_works ..)))).trans
      (State.withdrawBlocks_works ..)

theorem State.disposeAll_works (s : State) (frame : Nat) : State.Works s (s.disposeAll frame) := s.dispose_works ..

end Sys2Proof.Machine
end

section
/-!
TILE_JOB, MAP_READY, RUNAHEAD_TILE_COMPARE and RUNAHEAD_COMMIT_POINT (R81, R82, R119 to R122).
-/
namespace Sys2Proof.Machine
open Sys2Proof

/-! What is sent to the other chips of a group -/

theorem State.send_works (s : State) (m : WireMsg) : State.Works s (s.send m) := .of_hostWire rfl

theorem State.modPort_works (s : State) (p : Nat) (f : PeerPort → PeerPort) : State.Works s (s.modPort p f) := .of_group ..

theorem State.setQp_works (s : State) (n : Nat) (q : QueuePair) : State.Works s (s.setQp n q) := .of_group ..

theorem State.sendQp_works (s : State) (n priority : Nat) (m : WireMsg) : State.Works s (s.sendQp n priority m) := .of_hostWire (s.sendQp_sends ..).1

theorem State.sendInput_works (s : State) (p : Nat) (m : WireMsg) : State.Works s (s.sendInput p m) := .of_hostWire (s.sendInput_sends ..).1

theorem State.sendOn_works (s : State) (p d kind : Nat) (last : Bool) (segment frame version : Nat) (payload : List Byte) :
    State.Works s (s.sendOn p d kind last segment frame version payload) :=
  (State.Works.trans (t := s.modPeer d _) (.of_group ..) (State.sendQp_works ..)).trans (State.count_works ..)

theorem State.sendGroup_works (s : State) (d kind : Nat) (last : Bool) (segment frame version : Nat) (payload : List Byte) :
    State.Works s (s.sendGroup d kind last segment frame version payload) :=
  (s.sendOn_works ..).trans (.optional' (.of_group ..))

theorem State.sendSegments_go_works (d kind frame version : Nat) (parts : List (List Byte)) (n : Nat) (s : State) :
    State.Works s (State.sendSegments.go d kind frame version parts n s) := by
  induction parts generalizing n s with
  | nil => exact .refl s
  | cons b rest ih =>
    cases rest with
    | nil => exact s.sendGroup_works ..
    | cons c rest => exact (s.sendGroup_works ..).trans (ih _ _)

theorem State.sendSegments_works (s : State) (d kind frame version : Nat) (payload : List Byte) : State.Works s (s.sendSegments d kind frame version payload) :=
  State.sendSegments_go_works ..

theorem State.shipVersion_works (s : State) (v : Version) : State.Works s (s.shipVersion v) := by
  unfold State.shipVersion
  refine .optional ?_
  extract_lets held delta bytes t
  have h : State.Works s t := .optional' ((s.count_works ..).trans (State.raiseOpen_works ..))
  split
  · exact h
  · exact h.trans (.trans (.optional (State.sendSegments_works ..)) (State.sendGroup_works ..))

/-! The run-ahead blocks at the commit point -/

theorem State.claimItems_works (s : State) (frame : Nat) (p : Nat → Bool) : State.Works s (s.claimItems frame p) := .trans (.of_disp ..) (State.settleItems_works _)

theorem State.squashItems_works (s : State) (frame : Nat) (p : Nat → Bool) : State.Works s (s.squashItems frame p) :=
  .trans (.of_disp ..) (.optional (State.count_works ..))

theorem State.holdItems_works (s : State) (frame : Nat) (p : Nat → Bool) : State.Works s (s.holdItems frame p) := .of_disp ..

theorem State.buildSteps_works (s : State) (v : Version) : State.Works s (s.buildSteps v) :=
  .trans (.foldl (fun t _ => .optional (t.recordStep_works ..)) _ _) (State.phaseReady_works ..)

/-! Versions changed in place -/

/-- The first element a test accepts, once changed, where the test still accepts it. -/
theorem find?_modFirst {α : Type} (p : α → Bool) (f : α → α) (h : ∀ x, p x = true → p (f x) = true) (xs : List α) : (modFirst p f xs).find? p = (xs.find? p).map f := by
  induction xs with
  | nil => rfl
  | cons x xs ih => by_cases e : p x = true <;> simp [modFirst, e, h, ih]

/-- A version changed under its own number is found changed. -/
theorem State.version?_modVersion (s : State) {n : Nat} {b : Bool} {v : Version} {f : Version → Version} (h : s.version? n b = some v)
    (k : ∀ v, (f v).number = v.number ∧ (f v).spec = v.spec) : (s.modVersion n b f).version? n b = some (f v) := by
  have e := find?_modFirst (fun v : Version => v.number == n && v.spec == b) f (fun v hv => by simpa [k v] using hv) s.world.versions
  simpa [State.version?, State.modVersion, h] using e.trans (congrArg (Option.map f) h)

/-- The number of the newest sealed version stays as a version is changed under its own number. -/
theorem State.newest_modVersion (s : State) (n : Nat) (b : Bool) (f : Version → Version) (k : ∀ v, (f v).number = v.number ∧ (f v).spec = v.spec) :
    (s.modVersion n b f).newest.map (·.number) = s.newest.map (·.number) := by
  have number (vs : List Version) : (vs.filter (fun v => !v.spec)).getLast?.map (·.number) = (((vs.map (fun v => (v.number, v.spec))).filter (fun x => !x.2)).map (·.1)).getLast? := by
    rw [List.filter_map, List.map_map, ← List.getLast?_map]; rfl
  unfold State.newest State.modVersion
  rw [number, number, map_modFirst_of_eq _ f _ fun v => Prod.ext (k v).1 (k v).2]

end Sys2Proof.Machine
end

section
namespace Sys2Proof.Machine
open Sys2Proof

/-! Tile jobs -/

/-- R108 to R116: what a tile of a key holds follows from the inputs, shared or not. -/
theorem buildTile_holds (b : BuildCfg) (v : Version) (parent : List Tile) (k : TileKey) (next : Nat) :
    (buildTile b v parent k next).1.key = k ∧ (buildTile b v parent k next).1.values = tileValues b v.inputs k ∧ (buildTile b v parent k next).1.unknown = tileUnknown b v.inputs k := by
  unfold buildTile
  dsimp only
  split
  next t h =>
    have hf : parent.find? (fun t => t.key == k && t.values == tileValues b v.inputs k && t.unknown == tileUnknown b v.inputs k && !t.lost) = some t := by
      split at h
      · cases h
      · exact h
    have hp := List.find?_some hf
    simp only [Bool.and_eq_true, beq_iff_eq] at hp
    obtain ⟨⟨⟨hk, hv⟩, hu⟩, -⟩ := hp
    exact ⟨hk, hv, hu⟩
  next => simp only [and_self]

/-- The tiles of some keys, one after the other, and the next free tile after them. -/
def buildTiles (b : BuildCfg) (v : Version) (parent : List Tile) (keys : List TileKey) (acc : List Tile × Nat) : List Tile × Nat :=
  keys.foldl (fun (ts, n) k => let (t, m) := buildTile b v parent k n; (ts ++ [t], n + m)) acc

/-- The tiles written for some keys are one for each, each with the content of its key. -/
theorem buildTiles_holds (b : BuildCfg) (v : Version) (parent : List Tile) (keys : List TileKey) (ts : List Tile) (n : Nat) :
    ∃ new, (buildTiles b v parent keys (ts, n)).1 = ts ++ new ∧ new.map (·.key) = keys ∧
      ∀ x ∈ new, x.values = tileValues b v.inputs x.key ∧ x.unknown = tileUnknown b v.inputs x.key := by
  induction keys generalizing ts n with
  | nil => exact ⟨[], (List.append_nil _).symm, rfl, nofun⟩
  | cons k keys ih =>
    obtain ⟨hk, hv, hu⟩ := buildTile_holds b v parent k n
    obtain ⟨new, hnew, hkeys, hall⟩ := ih (ts ++ [(buildTile b v parent k n).1]) (n + (buildTile b v parent k n).2)
    refine ⟨(buildTile b v parent k n).1 :: new, hnew.trans (by simp), by simp [hk, hkeys], ?_⟩
    rintro x (_ | ⟨_, hx⟩)
    · rw [hk]; exact ⟨hv, hu⟩
    · exact hall x hx

/-- The keys of a job's slice in which a version has no tile yet. -/
def State.jobKeys (s : State) (v : Version) (j : Nat × Nat × Nat) : List TileKey :=
  ((s.buildCfg.layersIn j.2.1).map (fun l => (⟨l, j.1, j.2.1, j.2.2⟩ : TileKey))).filter (fun k => !v.tiles.any (fun t => t.key == k))

/-- What a tile job writes. -/
def State.jobTiles (s : State) (v : Version) (j : Nat × Nat × Nat) : List Tile × Nat :=
  buildTiles s.buildCfg v (match v.parent with | some p => s.versionTiles p false | none => []) (s.jobKeys v j) ([], s.world.nextTile)

theorem State.runTileJob_eq (s : State) {n : Nat} {spec : Bool} {v : Version} (j : Nat × Nat × Nat) (h : s.version? n spec = some v) :
    s.runTileJob n spec j = State.modVersion { s with world := { s.world with nextTile := (s.jobTiles v j).2 } } n spec (fun v' => { v' with
      tiles := v'.tiles ++ (s.jobTiles v j).1, jobs := v'.jobs.filter (· != j), tilesNew := v'.tilesNew + ((s.jobTiles v j).2 - s.world.nextTile) }) := by
  unfold State.runTileJob
  rw [h]
  rfl

/-- R120: a tile job changes versions and the count of tiles alone. -/
theorem State.runTileJob_frame (s : State) (n : Nat) (spec : Bool) (j : Nat × Nat × Nat) :
    s.runTileJob n spec j = { s with world := { s.world with versions := (s.runTileJob n spec j).world.versions, nextTile := (s.runTileJob n spec j).world.nextTile } } := by
  cases h : s.version? n spec with
  | none => unfold State.runTileJob; rw [h]
  | some v => rw [s.runTileJob_eq j h]; rfl

/-- R119, R120: after a tile job the version has the tile of every layer with content in the slice, and the job is due no more. -/
theorem State.runTileJob_version (s : State) {n : Nat} {spec : Bool} {v : Version} (j : Nat × Nat × Nat) (h : s.version? n spec = some v) :
    ∃ v', (s.runTileJob n spec j).version? n spec = some v' ∧ v'.jobs = v.jobs.filter (fun i => i ≠ j) ∧ (∀ x ∈ v.tiles, x ∈ v'.tiles) ∧
      (∀ l ∈ s.buildCfg.layersIn j.2.1, ∃ x ∈ v'.tiles, x.key = ⟨l, j.1, j.2.1, j.2.2⟩) ∧
      ∀ x ∈ v'.tiles, x ∈ v.tiles ∨ (x.values = tileValues s.buildCfg v.inputs x.key ∧ x.unknown = tileUnknown s.buildCfg v.inputs x.key) := by
  rw [s.runTileJob_eq j h]
  obtain ⟨new, hnew, hkeys, hall⟩ := buildTiles_holds s.buildCfg v (match v.parent with | some p => s.versionTiles p false | none => []) (s.jobKeys v j) [] s.world.nextTile
  have hnew : (s.jobTiles v j).1 = new := hnew
  refine ⟨_, State.version?_modVersion _ (v := v) h fun _ => ⟨rfl, rfl⟩, ?_, ?_, ?_, ?_⟩
  · simp [bne, beq_eq_decide]
  · exact fun x hx => List.mem_append_left _ hx
  · intro l hl
    by_cases e : ∃ x ∈ v.tiles, x.key = ⟨l, j.1, j.2.1, j.2.2⟩
    · obtain ⟨x, hx, hk⟩ := e
      exact ⟨x, List.mem_append_left _ hx, hk⟩
    · have hk : (⟨l, j.1, j.2.1, j.2.2⟩ : TileKey) ∈ new.map (·.key) := by
        rw [hkeys]
        refine List.mem_filter.2 ⟨List.mem_map_of_mem hl, ?_⟩
        simpa using e
      obtain ⟨x, hx, e⟩ := List.mem_map.1 hk
      exact ⟨x, List.mem_append_right _ (by rw [hnew]; exact hx), e⟩
  · intro x hx
    rcases List.mem_append.1 hx with hx | hx
    · exact .inl hx
    · rw [hnew] at hx; exact .inr (hall x hx)

/-- TILE_JOB as O18 states it. -/
theorem exec_tileJob (s : State) {lane : Nat} {i : Item} {v : Version} (h : s.atUnit 16 .tileJob (fun i => i.lane == lane) = some i) (d : i.dropped = false)
    (hv : s.version? i.version i.spec = some v) :
    ∃ t v', exec (.tileJob lane) s = .next t ∧ t.version? i.version i.spec = some v' ∧ v'.jobs = v.jobs.filter (fun j => j ≠ argJob i.arg) ∧
      (∀ x ∈ v.tiles, x ∈ v'.tiles) ∧
      (∀ l ∈ s.buildCfg.layersIn (argJob i.arg).2.1, ∃ x ∈ v'.tiles, x.key = ⟨l, (argJob i.arg).1, (argJob i.arg).2.1, (argJob i.arg).2.2⟩) ∧
      (∀ x ∈ v'.tiles, x ∈ v.tiles ∨ (x.values = tileValues s.buildCfg v.inputs x.key ∧ x.unknown = tileUnknown s.buildCfg v.inputs x.key)) ∧
      t = { s with world := { s.world with versions := t.world.versions, nextTile := t.world.nextTile }, disp := t.disp } := by
  obtain ⟨v', hv', hrest⟩ := (s.commitItem i.serial).runTileJob_version (argJob i.arg) (v := v) hv
  refine ⟨_, v', ?_, hv', hrest.1, hrest.2.1, hrest.2.2.1, hrest.2.2.2, ?_⟩
  · show execTileJob lane s = _
    unfold execTileJob
    simp only [h, d]
    rfl
  · rw [State.runTileJob_frame]; rfl

end Sys2Proof.Machine
end

section
namespace Sys2Proof.Machine
open Sys2Proof

namespace State.Works
variable {s t : State}

theorem world (h : State.Works s t) : t.world = s.world := by rw [h.frame]
theorem tb (h : State.Works s t) : t.tb = s.tb := by rw [h.frame]
theorem ctl (h : State.Works s t) : t.ctl = s.ctl := by rw [h.frame]
theorem eng (h : State.Works s t) : t.eng = s.eng := by rw [h.frame]
theorem mem (h : State.Works s t) : t.mem = s.mem := by rw [h.frame]
theorem boot (h : State.Works s t) : t.boot = s.boot := by rw [h.frame]
theorem clocks (h : State.Works s t) : t.clocks = s.clocks := by rw [h.frame]

/-- Which run-ahead blocks of a frame are squashed stays as decided. -/
theorem work?_squashAll (h : State.Works s t) (n : Nat) : (t.work? n).map (·.squashAll) = (s.work? n).map (·.squashAll) := by
  have find (ws : List FrameWork) : (ws.find? (fun w => w.frame == n)).map (·.squashAll) = ((ws.map (fun w => (w.frame, w.squashAll))).find? (fun x => x.1 == n)).map (·.2) := by
    rw [List.find?_map, Option.map_map]; rfl
  unfold State.work?
  rw [find, find, h.squash]

end State.Works

/-! A version made ready -/

/-- R119: the newest sealed version is kept. -/
theorem State.version?_retireVersions (s : State) {n : Nat} (h : s.newest.map (·.number) = some n) : s.retireVersions.version? n false = s.version? n false := by
  unfold State.version? State.retireVersions
  dsimp only
  rw [List.find?_filter]
  refine congrArg (fun p => List.find? p s.world.versions) (funext fun v => ?_)
  by_cases e : v.number = n ∧ v.spec = false
  · obtain ⟨hn, hs⟩ := e
    simp [h, hn, hs]
  · simp only [not_and] at e
    cases hs : v.spec <;> simp_all

theorem State.retireVersions_frame (s : State) : s.retireVersions = { s with world := { s.world with versions := s.retireVersions.world.versions } } := rfl

/-- Without a delta that waits, none is begun. -/
theorem State.startDelta_none (s : State) (h : s.world.deltaOpen = []) : s.startDelta = s := by
  unfold State.startDelta; rw [h]

/-- A version marked ready. -/
def State.markReady (s : State) (v : Version) : State := s.modVersion v.number v.spec (fun v => { v with ready := true })

/-- A version that is ready, shipped, with the blocks that waited for it and the rounds that follow. -/
def State.released (s : State) (v : Version) : State :=
  (((if v.spec || v.urgent then s.markReady v else (s.markReady v).buildSteps v).shipVersion v).settleItems.issueMissing v.frame).goRounds v.frame

theorem State.publishVersion_eq (s : State) (v : Version) : s.publishVersion v = (s.released v).retireVersions.startDelta := rfl

theorem State.released_works (s : State) (v : Version) : State.Works (s.markReady v) (s.released v) :=
  ((((State.Works.optional (State.buildSteps_works ..)).trans (State.shipVersion_works ..)).trans (State.settleItems_works _)).trans (State.issueMissing_works ..)).trans
    (State.goRounds_works ..)

/-- MAP_READY: a version without jobs becomes ready with the tiles and inputs that it has (R119, R120). -/
theorem exec_mapReady (s : State) {v : Version}
    (hfind : s.world.versions.find? (fun v => !v.ready && !v.urgent && v.jobs.isEmpty && (v.spec || !s.world.comparing) && s.mapRuns) = some v)
    (hv : s.version? v.number v.spec = some v) (hspec : v.spec = false) (hnew : s.newest = some v) (hopen : s.world.deltaOpen = []) :
    ∃ t v', exec .mapReady s = .next t ∧ t.version? v.number false = some v' ∧ v'.ready = true ∧ v'.tiles = v.tiles ∧ v'.inputs = v.inputs ∧ t.tb = s.tb ∧ t.ctl = s.ctl ∧
      t.eng = s.eng ∧ t.mem = s.mem := by
  have works := s.released_works v
  have hready : (s.released v).version? v.number false = some { v with ready := true } := by
    have h : (s.markReady v).version? v.number v.spec = _ := s.version?_modVersion hv fun _ => ⟨rfl, rfl⟩
    unfold State.version? at h ⊢
    rw [works.world, ← hspec]
    exact h
  have hnewest : (s.released v).newest.map (·.number) = some v.number := by
    have h : (s.markReady v).newest.map (·.number) = _ := s.newest_modVersion v.number v.spec (fun v => { v with ready := true }) fun _ => ⟨rfl, rfl⟩
    rw [hnew] at h
    unfold State.newest at h ⊢
    rw [works.world]
    exact h
  have hdelta : (s.released v).retireVersions.world.deltaOpen = [] := by rw [State.retireVersions_frame, works.world]; exact hopen
  refine ⟨(s.released v).retireVersions, { v with ready := true }, ?_, (State.version?_retireVersions _ hnewest).trans hready, rfl, rfl, rfl, works.tb, works.ctl, works.eng, works.mem⟩
  show execMapReady s = _
  unfold execMapReady
  rw [hfind]
  exact congrArg Host.Outcome.next ((s.publishVersion_eq v).trans (State.startDelta_none _ hdelta))

/-! The comparison of the run-ahead map -/

/-- R122: the tile of a key may be carried over from the run-ahead map. -/
def State.carries (s : State) (v run : Version) (k : TileKey) : Bool := run.tiles.any (fun t => t.key == k) && keepsTile s.buildCfg v.inputs run.inputs k

/-- The tiles carried over, and the keys of those built anew. -/
def State.carriedTiles (s : State) (v run : Version) : List Tile := (run.tiles.filter (fun t => s.world.compare.contains t.key && s.carries v run t.key)).map (fun t => { t with kept := true })
def State.rebuiltKeys (s : State) (v run : Version) : List TileKey := s.world.compare.filter (fun k => !s.carries v run k)

/-- The sealed version once the comparison is over. -/
def State.comparedVersion (s : State) (v run x : Version) : Version :=
  { x with tiles := x.tiles ++ s.carriedTiles v run, jobs := s.buildCfg.sortJobs (x.jobs ++ (s.rebuiltKeys v run).map (fun k => (k.grid, k.slice, k.tile))) }

/-- The map once the comparison is over. -/
def State.compared (s : State) (v run : Version) : State :=
  State.modVersion { s with world := { s.world with compare := [], reversioned := s.world.reversioned ++ s.rebuiltKeys v run } } v.number false (s.comparedVersion v run)

/-- The tiles carried over and those built anew are counted. -/
def State.countCompared (s : State) (kept changed : Nat) : State :=
  let t := if kept = 0 then s else s.count 0x3301 3 kept
  if changed = 0 then t else t.count 0x3301 2 changed

theorem State.countCompared_works (s : State) (kept changed : Nat) : State.Works s (s.countCompared kept changed) :=
  (State.Works.optional (s.count_works ..)).trans (.optional (State.count_works ..))

theorem exec_runaheadTileCompare_eq (s : State) {run v : Version} (hthrottle : s.throttledRun = true) (hrun : s.world.versions.find? (fun v => v.spec) = some run) (hnew : s.newest = some v)
    (hcomparing : s.world.comparing = true) (hkeys : s.world.compare ≠ []) (hjobs : run.jobs = []) :
    exec .runaheadTileCompare s = .next ((s.compared v run).countCompared (s.carriedTiles v run).length (s.rebuiltKeys v run).length).feedTiles := by
  have hgo : (!s.world.comparing || !s.throttledRun || s.world.compare.isEmpty || !run.jobs.isEmpty) = false := by simp [hcomparing, hthrottle, hkeys, hjobs]
  show execRunaheadTileCompare s = _
  unfold execRunaheadTileCompare State.countCompared
  rw [hrun, hnew]
  simp only [hgo, Bool.false_eq_true, if_false, List.length_eq_zero_iff, ← List.isEmpty_iff]
  rfl

/-- RUNAHEAD_TILE_COMPARE: the tiles that pass their layer's test are carried over, and a job stands in for every other (R122). -/
theorem exec_runaheadTileCompare (s : State) {run v : Version} (hthrottle : s.throttledRun = true) (hrun : s.world.versions.find? (fun v => v.spec) = some run) (hnew : s.newest = some v)
    (hcomparing : s.world.comparing = true) (hkeys : s.world.compare ≠ []) (hjobs : run.jobs = [])
    (hv : s.world.versions.find? (fun x => x.number == v.number && x.spec == false) = some v) :
    ∃ t v', exec .runaheadTileCompare s = .next t ∧ t.world.compare = [] ∧ t.world.reversioned = s.world.reversioned ++ s.world.compare.filter (fun k => !s.carries v run k) ∧
      t.version? v.number false = some v' ∧ (∀ x ∈ run.tiles, x.key ∈ s.world.compare → s.carries v run x.key = true → { x with kept := true } ∈ v'.tiles) ∧
      (∀ k ∈ s.world.compare, s.carries v run k = false → (k.grid, k.slice, k.tile) ∈ s.buildCfg.allJobs → (k.grid, k.slice, k.tile) ∈ v'.jobs) := by
  have works := ((s.compared v run).countCompared_works (s.carriedTiles v run).length (s.rebuiltKeys v run).length).trans (State.feedTiles_works _)
  have hversion : (s.compared v run).version? v.number false = some (s.comparedVersion v run v) := State.version?_modVersion _ (v := v) hv fun _ => ⟨rfl, rfl⟩
  refine ⟨_, s.comparedVersion v run v, exec_runaheadTileCompare_eq s hthrottle hrun hnew hcomparing hkeys hjobs, by rw [works.world]; rfl, by rw [works.world]; rfl, ?_, ?_, ?_⟩
  · unfold State.version? at hversion ⊢
    rw [works.world]
    exact hversion
  · intro x hx hk hc
    exact List.mem_append_right _ (List.mem_map.2 ⟨x, List.mem_filter.2 ⟨hx, by simp [hk, hc]⟩, rfl⟩)
  · intro k hk hc hall
    have hmem : (k.grid, k.slice, k.tile) ∈ (s.rebuiltKeys v run).map (fun k => (k.grid, k.slice, k.tile)) := List.mem_map.2 ⟨k, List.mem_filter.2 ⟨hk, by simp [hc]⟩, rfl⟩
    exact List.mem_filter.2 ⟨hall, List.contains_iff_mem.2 (List.mem_append_right _ hmem)⟩

/-! The commit point -/

/-- A frame's work changed under its own number is found changed. -/
theorem State.work?_modWork (s : State) {n : Nat} {w : FrameWork} {f : FrameWork → FrameWork} (h : s.work? n = some w) (k : ∀ w, (f w).frame = w.frame) :
    (s.modWork n f).work? n = some (f w) :=
  (find?_modFirst (fun w : FrameWork => w.frame == n) f (fun w hw => by simpa [k w] using hw) s.frames).trans (congrArg (Option.map f) h)

/-- The comparison ends, and it is decided whether the frame's run-ahead blocks are squashed. -/
def State.decideSquash (s : State) (n : Nat) : State :=
  State.modWork { s with world := { s.world with comparing := false } } n (fun w => { w with squashAll := w.reinitialised })

theorem State.work?_decideSquash (s : State) {w : FrameWork} (h : s.work? w.frame = some w) : (s.decideSquash w.frame).work? w.frame = some { w with squashAll := w.reinitialised } :=
  State.work?_modWork _ (w := w) (f := fun w => { w with squashAll := w.reinitialised }) h fun _ => rfl

/-- What follows of a commit point once the fate of the run-ahead blocks is decided. -/
theorem State.commitPoint_works (s : State) (w : FrameWork) : State.Works (s.decideSquash w.frame) (s.commitPoint w) :=
  (((State.Works.ite (((State.count_works ..).trans (State.raiseOpen_works ..)).trans (State.squashItems_works ..)) ((State.holdItems_works ..).trans (State.claimItems_works ..))).trans
    (State.disposeAll_works ..)).trans (State.issueMissing_works ..)).trans (State.goRounds_works ..)

/-- R82: the squash of a reinitialised frame is reported. -/
theorem State.raised_commitPoint (s : State) {w : FrameWork} (h : w.reinitialised = true) : Raised s (s.commitPoint w) 0x0384 := by
  have e : s.commitPoint w = ((((((s.decideSquash w.frame).count 0x2021 4 1).raiseOpen w.frame 0x0384).squashItems w.frame (fun _ => true)).disposeAll w.frame).issueMissing w.frame).goRounds
      w.frame := by
    unfold State.commitPoint; dsimp only; rw [if_pos h]; rfl
  have hcount : State.Works (s.decideSquash w.frame) ((s.decideSquash w.frame).count 0x2021 4 1) := State.count_works ..
  rw [e]
  exact State.raised_of_prefix (State.raised_raiseOpen _ w.frame 0x0384) hcount.events
    ((((State.squashItems_works ..).trans (State.disposeAll_works ..)).trans (State.issueMissing_works ..)).trans (State.goRounds_works ..)).events

/-- RUNAHEAD_COMMIT_POINT: the comparison ends, and the run-ahead blocks are squashed exactly where the frame was reinitialised (R82). -/
theorem exec_runaheadCommitPoint (s : State) {w : FrameWork} (hw : s.frames.find? (fun w => w.sealed && !w.landed) = some w) (hwork : s.work? w.frame = some w)
    (hcomparing : s.world.comparing = true) (hkeys : s.world.compare = []) :
    ∃ t, exec .runaheadCommitPoint s = .next t ∧ t.world.comparing = false ∧ (w.reinitialised = true → Raised s t 0x0384) ∧
      (∀ w', t.work? w.frame = some w' → w'.squashAll = w.reinitialised) ∧ t.tb = s.tb ∧ t.ctl = s.ctl ∧ t.eng = s.eng := by
  have works := s.commitPoint_works w
  refine ⟨(s.commitPoint w).retireVersions, ?_, by rw [State.retireVersions_frame, works.world]; rfl, s.raised_commitPoint, ?_, works.tb, works.ctl, works.eng⟩
  · show execRunaheadCommitPoint s = _
    unfold execRunaheadCommitPoint
    simp [hw, hcomparing, hkeys]
  · intro w' hw'
    have h := works.work?_squashAll w.frame
    rw [s.work?_decideSquash hwork, show (s.commitPoint w).work? w.frame = some w' from hw'] at h
    exact Option.some.inj h

/-- Settles O18: what each of the four commands leaves, from the lemma that says it for that command. -/
theorem tilesAreBuiltComparedAndReady : Obligations.TilesAreBuiltComparedAndReady := by
  unfold Obligations.TilesAreBuiltComparedAndReady
  exact fun s => ⟨fun lane i v h d hv => exec_tileJob s h d hv, fun v => exec_mapReady s, fun run v => exec_runaheadTileCompare s, fun w => exec_runaheadCommitPoint s⟩

end Sys2Proof.Machine
end

section
/-!
SELECTION_CLOSE (R23, R283): a state in which two items share a serial number, and what the close makes of it.
-/
namespace Sys2Proof.Machine
open Sys2Proof

/-- An item of frame 3, not replayed, pinned, committed or dropped. -/
def closingItem (serial : Nat) (kind : ItemKind) (flow : Option Nat) (loc : ItemLoc) : Item :=
  { serial := serial, kind := kind, level := 0, cls := 4, flow := flow, spec := false, replay := false, pinned := false, late := false, lane := 0, frame := 3, arg := 0, field := 0,
    version := 0, enqueue := 0, home := 0, loc := loc, committed := false, dropped := false }

/-- Frame 3, sealed, with its one round merged. -/
def closingWork : FrameWork := { FrameWork.fresh 3 0 with sealed := true, rounds := [⟨[], true, some []⟩] }

/-- A chip whose list is about to close: one block in service, one at the head of flow 5, and behind that a recheck with the serial number of the block in service. -/
def closingState : State :=
  { State.reset with
    frames := [closingWork]
    disp := { Dispatch.initial with
      items := [closingItem 7 .candidateBlock none (.service 0), closingItem 1 .candidateBlock (some 5) (.ready 0), closingItem 7 .recheck (some 5) (.chain 0)], nextSerial := 8 } }

/-- R274, R283: the block at the head of the flow is cancelled, the flow goes on, and the first item under the new head's serial number, the block in service, is what then waits for the new head's inputs. -/
theorem closingState_sends_back_the_block_in_service :
    ∃ t, exec .selectionClose closingState = .next t ∧ { closingItem 7 .candidateBlock none (.waiting 0 true) with dropped := true } ∈ t.disp.items := by
  have h : (match exec .selectionClose closingState with
      | .next t => t.disp.items.contains { closingItem 7 .candidateBlock none (.waiting 0 true) with dropped := true }
      | _ => false) = true := by decide +kernel
  split at h
  case h_1 t ht => exact ⟨t, ht, List.contains_iff_mem.1 h⟩
  case h_2 => cases h

/-- Refutes O34: the statement speaks of every state, and in one where two items share a serial number a block in service is sent back to a dispatcher's list as its frame's list closes
(`closingState`). -/
theorem not_theSelectionListCloses : ¬ Obligations.TheSelectionListCloses := by
  unfold Obligations.TheSelectionListCloses
  intro h
  obtain ⟨-, hclose⟩ := h closingState closingWork (by decide +kernel) rfl
  obtain ⟨t, w', l, ht, -, -, hitems, -⟩ := hclose (by decide +kernel) (.inr (.inr rfl))
  obtain ⟨u, hu, hmem⟩ := closingState_sends_back_the_block_in_service
  obtain rfl : t = u := by simpa [ht] using hu
  obtain ⟨-, ⟨e, he⟩ | ⟨d, hd⟩⟩ := hitems _ hmem rfl (.inl rfl)
  · simp [closingItem] at he
  · simp [closingItem] at hd

end Sys2Proof.Machine
end

section
/-!
What the consequences of hardware errors keep (R19, R326 to R341, R463 to R466): faults latched, causes set, units and Galleries out of service, ports down.
-/
namespace Sys2Proof.Machine
open Sys2Proof

/-! Faults and causes -/

theorem State.setPins_works (s : State) (f : Pins → Pins) (h : ∀ p, (f p).jtagTrst = p.jtagTrst := by exact fun _ => rfl) : State.Works s (s.setPins f) := by
  unfold State.setPins
  split
  · exact (State.Works.of_newel s (n := { s.newel with pins := f s.newel.pins }) ⟨fun _ => id, id, h _⟩).trans (State.signalStatus_works _)
  · exact .refl s

/-- R463: a fault's cause is latched with those latched before. -/
theorem State.latch_works (s : State) (cause : Nat) : State.Works s { s with newel := { s.newel with faultCause := s.newel.faultCause ||| 2 ^ cause } } :=
  .of_newel s ⟨fun b h => by simp [Nat.testBit_or, h], id, rfl⟩

theorem State.deviceFault_works (s : State) (cause : Nat) : State.Works s (s.deviceFault cause) :=
  ((s.latch_works cause).trans (State.setPins_works _ fun p => { p with fault := true, safeState := true, planOk := false })).trans (.optional' (State.raise_works ..))

/-- R463: a device fault latches its cause. -/
theorem State.deviceFault_latches (s : State) (cause : Nat) : (s.deviceFault cause).newel.faultCause.testBit cause = true := by
  have works : State.Works { s with newel := { s.newel with faultCause := s.newel.faultCause ||| 2 ^ cause } } (s.deviceFault cause) :=
    (State.setPins_works _ fun p => { p with fault := true, safeState := true, planOk := false }).trans (.optional' (State.raise_works ..))
  exact works.newel.fault cause (by simp [Nat.testBit_or, Nat.testBit_two_pow_self])

theorem State.setCause_works (s : State) (cause : Nat) : State.Works s (s.setCause cause) := by
  unfold State.setCause
  dsimp only
  generalize hn : Newel.mk .. = n
  have h : State.Works s { s with newel := n } := .of_newel s (by rw [← hn]; exact ⟨fun _ => id, fun h => by simp [Nat.testBit_or, h], rfl⟩)
  exact h.trans (.optional' (((State.count_works ..).trans (State.raise_works ..)).trans (State.signalStatus_works _)))

/-- R465: cause 9 is set. -/
theorem State.setCause_sets (s : State) : (s.setCause 9).newel.degraded.testBit 9 = true := by
  unfold State.setCause
  dsimp only
  generalize hn : Newel.mk .. = n
  have works : State.Works { s with newel := n } (if (s.newel.degraded == 0) = true then (((State.count { s with newel := n } 0x9002 1 1).raise 0x0A02 9).signalStatus) else { s with newel := n }) :=
    .optional' (((State.count_works ..).trans (State.raise_works ..)).trans (State.signalStatus_works _))
  exact works.newel.clock (by rw [← hn, Nat.testBit_or, Nat.testBit_two_pow_self, Bool.or_true])

/-- A number put together from the bits of a test has those bits. -/
theorem testBit_sumOfBits (p : Nat → Bool) (n : Nat) :
    (List.range n).foldl (fun a b => if p b then a + 2 ^ b else a) 0 < 2 ^ n ∧
      ∀ i < n, ((List.range n).foldl (fun a b => if p b then a + 2 ^ b else a) 0).testBit i = p i := by
  induction n with
  | zero => exact ⟨Nat.one_pos, nofun⟩
  | succ n ih =>
    rw [List.range_succ, List.foldl_append]
    generalize (List.range n).foldl (fun a b => if p b then a + 2 ^ b else a) 0 = a at ih
    obtain ⟨hlt, hbits⟩ := ih
    simp only [List.foldl_cons, List.foldl_nil]
    have htop : a.testBit n = false := Nat.testBit_lt_two_pow hlt
    refine ⟨by split <;> (rw [Nat.pow_succ]; omega), fun i hi => ?_⟩
    rcases Nat.lt_succ_iff_lt_or_eq.1 hi with h | rfl
    · split
      · rw [Nat.add_comm, Nat.testBit_two_pow_add_gt h]; exact hbits i h
      · exact hbits i h
    · split <;> simp_all [Nat.add_comm a, Nat.testBit_two_pow_add_eq]

theorem State.dropCauses_works (s : State) {mask : Nat} (h : mask.testBit 9 = false) : State.Works s (s.dropCauses mask) := by
  unfold State.dropCauses
  extract_lets n left t
  have works : State.Works s t :=
    .of_newel s ⟨fun _ => id, fun k => ((testBit_sumOfBits (fun b => n.degraded.testBit b && !mask.testBit b) 10).2 9 (by decide)).trans (by simp [n, k, h]), rfl⟩
  exact works.trans (.optional' ((State.raiseOpen_works ..).trans (State.signalStatus_works _)))

theorem State.clearCause_works (s : State) {cause : Nat} (h : cause ≠ 9) : State.Works s (s.clearCause cause) :=
  .optional (.ite (.of_newel s ⟨fun _ => id, id, rfl⟩) (s.dropCauses_works (Nat.testBit_two_pow_of_ne h)))

theorem State.recomputeBudget_works (s : State) : State.Works s s.recomputeBudget := by
  unfold State.recomputeBudget
  extract_lets m n t
  have h : State.Works s t := .of_newel s ⟨fun _ => id, id, rfl⟩
  exact h.trans (.ite (t.setCause_works 1) (t.clearCause_works (by decide)))

/-! Units out of service -/

theorem State.endCourse_works (s : State) (unit : Nat) : State.Works s (s.endCourse unit) :=
  .trans (.of_newel s (n := { s.newel with courses := alErase unit s.newel.courses }) ⟨fun _ => id, id, rfl⟩) (.optional (State.clearCause_works _ (cause := 6) (by decide)))

theorem State.modEngine_works (s : State) (e : Nat) (f : ServiceUnit → ServiceUnit) : State.Works s (s.modEngine e f) := .of_disp ..
theorem State.modGallery_works (s : State) (g : Nat) (f : ServiceUnit → ServiceUnit) : State.Works s (s.modGallery g f) := .of_disp ..
theorem State.remapLanes_works (s : State) : State.Works s s.remapLanes := .of_disp ..

theorem State.refuseRejoin_works (s : State) (unit : Nat) (u : ServiceUnit) : State.Works s (s.refuseRejoin unit u) :=
  .optional' ((s.count_works ..).trans (State.raise_works ..))

theorem State.uncorrected_works (s : State) {store : Nat} (unit : Nat) (h : store < 7) : State.Works s (s.uncorrected store unit) := by
  have hc : isCounterIndex (uncorrectedCounter store).1 = true ∧ (uncorrectedCounter store).2 < 256 := by
    revert store; decide
  exact (s.count_works _ _ _ hc.1 hc.2).trans (State.raise_works ..)

theorem State.returnItems_works (s : State) (e : Nat) (home : Item → Nat) : State.Works s (s.returnItems e home) := by
  unfold State.returnItems
  refine (((State.Works.foldl (fun t i => ?_) _ _).trans (.foldl (fun t i => ?_) _ _)).trans (State.modUnit_works ..)).trans (State.settleItems_works _)
  · exact .ite ((t.dropItem_works _).trans (.optional' ((State.count_works ..).trans (State.raise_works ..))))
      (.ite (.ite (t.dropItem_works _) ((t.modItem_works ..).trans (State.count_works ..))) (t.modItem_works ..))
  · split
    · exact t.chainTo_works ..
    · exact .refl t

theorem State.moveLists_works (s : State) (g : Nat) : State.Works s (s.moveLists g) := by
  unfold State.moveLists
  refine (State.Works.foldl (fun t i => ?_) _ _).trans (.of_frames _ fun _ => rfl)
  dsimp only
  split
  · exact (t.delayLoc_works ..).trans (State.modItem_works ..)
  · exact (t.delayLoc_works ..).trans (State.modItem_works ..)
  all_goals exact t.modItem_works ..

theorem State.galleryOut_works (s : State) (g cause : Nat) : State.Works s (s.galleryOut g cause) :=
  ((((((s.modGallery_works ..).trans (.foldl (fun t _ => t.modEngine_works ..) _ _)).trans (State.remapLanes_works _)).trans
    (.foldl (fun t _ => (t.returnItems_works ..).trans (State.endCourse_works ..)) _ _)).trans (State.moveLists_works ..)).trans (State.count_works ..)).trans
      ((State.raise_works ..).trans (State.refuseRejoin_works ..))

theorem State.engineOut_works (s : State) (e cause : Nat) : State.Works s (s.engineOut e cause) := by
  refine .optional ?_
  exact (((((((s.modEngine_works ..).trans (State.remapLanes_works _)).trans (State.returnItems_works ..)).trans (State.endCourse_works ..)).trans (State.count_works ..)).trans
    ((State.raise_works ..).trans (State.refuseRejoin_works ..))).trans (.optional' (State.galleryOut_works ..))).trans (State.recomputeBudget_works _)

/-! Ports -/

theorem State.qpMoves_works (s : State) (p n : Nat) : State.Works s (s.qpMoves p n) := (s.setQp_works ..).trans (.foldl (fun t _ => t.send_works _) _ _)

theorem State.failover_works (s : State) : State.Works s s.failover := by
  unfold State.failover
  refine ((((State.Works.of_group ..).trans ((State.modPort_works ..).trans (State.count_works ..))).trans (.foldl (fun t d => ?_) _ _)).trans
    (.foldl (fun t n => t.qpMoves_works ..) _ _)).trans (((State.modPort_works ..).trans (.foldl (fun t m => t.sendInput_works ..) _ _)).trans (State.raise_works ..))
  exact ((t.setQp_works ..).trans (State.setQp_works ..)).trans (.foldl (fun t _ => t.send_works _) _ _)

theorem State.portDown_works (s : State) (p : Nat) : State.Works s (s.portDown p) :=
  .optional (((s.modPort_works ..).trans (State.raise_works ..)).trans (.optional' (State.failover_works _)))

end Sys2Proof.Machine
end

section
/-!
What an error of a store strikes (R326 to R341), and what no error takes back.
-/
namespace Sys2Proof.Machine
open Sys2Proof

/-! What goes on unharmed -/

/-- The timebase, the commit controller and the clock domains are as they were, nothing latched is cleared, and no event is unsaid. -/
structure State.Onward (s t : State) : Prop where
  tb : t.tb = s.tb
  ctl : t.ctl = s.ctl
  clocks : t.clocks = s.clocks
  newel : s.newel.Latched t.newel
  events : s.events <+: t.events

/-- The same, and start-up's stores are as they were. -/
structure State.Strikes (s t : State) : Prop extends State.Onward s t where
  boot : t.boot = s.boot

/-- The same as `Onward`, and the channels, the versions, what the next seal shares, and the dictionary but for its counters are as they were. -/
structure State.Loses (s t : State) : Prop extends State.Onward s t where
  channels : t.mem.channels = s.mem.channels
  versions : t.world.versions = s.world.versions
  noShare : t.world.noShare = s.world.noShare
  dict : Dict.Spares NoCounter s.dict t.dict

theorem State.Onward.refl (s : State) : State.Onward s s := ⟨rfl, rfl, rfl, .refl _, List.prefix_rfl⟩
theorem State.Strikes.refl (s : State) : State.Strikes s s := ⟨.refl s, rfl⟩
theorem State.Loses.refl (s : State) : State.Loses s s := ⟨.refl s, rfl, rfl, rfl, .refl _⟩

section
variable {s t u : State}

theorem State.Onward.trans (a : State.Onward s t) (b : State.Onward t u) : State.Onward s u :=
  ⟨b.tb.trans a.tb, b.ctl.trans a.ctl, b.clocks.trans a.clocks, a.newel.trans b.newel, a.events.trans b.events⟩

theorem State.Strikes.trans (a : State.Strikes s t) (b : State.Strikes t u) : State.Strikes s u := ⟨a.toOnward.trans b.toOnward, b.boot.trans a.boot⟩

theorem State.Loses.trans (a : State.Loses s t) (b : State.Loses t u) : State.Loses s u :=
  ⟨a.toOnward.trans b.toOnward, b.channels.trans a.channels, b.versions.trans a.versions, b.noShare.trans a.noShare, a.dict.trans b.dict⟩

theorem State.Works.onward (h : State.Works s t) : State.Onward s t := ⟨h.tb, h.ctl, h.clocks, h.newel, h.events⟩
theorem State.Works.strikes (h : State.Works s t) : State.Strikes s t := ⟨h.onward, h.boot⟩
theorem State.Works.loses (h : State.Works s t) : State.Loses s t := ⟨h.onward, by rw [h.mem], by rw [h.world], by rw [h.world], h.dict⟩

end

theorem State.Loses.foldl {α : Type} {f : State → α → State} (h : ∀ s x, State.Loses s (f s x)) (xs : List α) (s : State) : State.Loses s (xs.foldl f s) :=
  State.foldl_rel State.Loses.refl State.Loses.trans f h xs s

theorem State.Onward.foldl {α : Type} {f : State → α → State} (h : ∀ s x, State.Onward s (f s x)) (xs : List α) (s : State) : State.Onward s (xs.foldl f s) :=
  State.foldl_rel State.Onward.refl State.Onward.trans f h xs s

theorem State.freeChoice_loses (s : State) (site n : Nat) : State.Loses s (s.freeChoice site n).2 := ⟨⟨rfl, rfl, rfl, .refl _, List.prefix_rfl⟩, rfl, rfl, rfl, .refl _⟩
theorem State.freeChoice_strikes (s : State) (site n : Nat) : State.Strikes s (s.freeChoice site n).2 := ⟨⟨rfl, rfl, rfl, .refl _, List.prefix_rfl⟩, rfl⟩

/-! Words of Hall (R331) -/

theorem State.strikePolicy_works (s : State) : State.Works s s.strikePolicy := by
  unfold State.strikePolicy
  split
  · dsimp only
    refine State.Works.trans ?_ (State.policyFailed_works ..)
    split
    · exact s.dropItem_works ..
    · exact .refl s
  · exact .refl s

theorem State.losePlan_works (s : State) (k : Nat) : State.Works s (s.losePlan k) := by
  unfold State.losePlan
  split
  · exact .refl s
  · split
    · exact ((s.modPlan_works ..).trans (State.present_works ..)).trans (State.disturb_works ..)
    · exact .refl s

theorem State.rebuildClosed_works (s : State) : State.Works s s.rebuildClosed := by
  unfold State.rebuildClosed
  split
  · exact .refl s
  · exact .optional (s.modWork_works ..)

theorem State.strikeRecord_works (s : State) (half beta : Nat) : State.Works s (s.strikeRecord half beta) := by
  unfold State.strikeRecord
  split
  · exact .refl s
  · exact ((s.withdrawBlocks_works ..).trans (State.issueMissing_works ..)).trans (State.goRounds_works ..)

theorem State.modVersion_strikes (s : State) (n : Nat) (b : Bool) (f : Version → Version) : State.Strikes s (s.modVersion n b f) := ⟨⟨rfl, rfl, rfl, .refl _, List.prefix_rfl⟩, rfl⟩

theorem State.breakPacket_strikes (s : State) (n : Nat) : State.Strikes s (s.breakPacket n) := ⟨⟨rfl, rfl, rfl, .refl _, List.prefix_rfl⟩, rfl⟩

theorem State.strikeDirectory_strikes (s : State) (j k : Nat) : State.Strikes s (s.strikeDirectory j k) := by
  unfold State.strikeDirectory
  split
  · exact .refl s
  · split
    · exact (s.modVersion_strikes ..).trans (State.disturb_works ..).strikes
    · exact .refl s

theorem State.strikeInvocation_strikes (s : State) (slot : Nat) : State.Strikes s (s.strikeInvocation slot) := by
  unfold State.strikeInvocation
  extract_lets engines filters
  have h := s.freeChoice_strikes 8 (engines.length + filters.length)
  split
  next k t e =>
  obtain rfl : (s.freeChoice 8 (engines.length + filters.length)).2 = t := congrArg Prod.snd e
  split
  · exact h.trans ((State.abandonItem_works ..).trans (State.disturb_works ..)).strikes
  · split
    · exact h.trans ((State.breakPacket_strikes ..).trans (State.disturb_works ..).strikes)
    · exact h

theorem State.strikeProgram_strikes (s : State) (slot : Nat) (tally : Bool) : State.Strikes s (s.strikeProgram slot tally) := by
  unfold State.strikeProgram
  split
  · exact s.strikeInvocation_strikes slot
  · split
    · exact .refl s
    · exact ⟨⟨rfl, rfl, rfl, .refl _, List.prefix_rfl⟩, rfl⟩

/-- What an uncorrected error does to the region that holds its word, once it is reported. -/
theorem State.hallError_strikes (s : State) (address : Nat) {r : Nat} (h : s.regionOf (hallBank address) = some r) :
    State.Strikes (s.uncorrected 3 (hallBank address)) (s.hallError address) := by
  unfold State.hallError
  rw [h]
  dsimp only
  split
  · exact (State.deviceFault_works ..).strikes
  · exact (State.strikeRecord_works ..).strikes
  · exact (State.rebuildClosed_works _).strikes
  · exact (State.losePlan_works ..).strikes
  · exact State.strikeDirectory_strikes ..
  · exact (State.strikePolicy_works _).strikes
  · exact (State.strikePolicy_works _).strikes
  · split
    · exact State.strikeProgram_strikes ..
    · exact .refl _
  · exact .refl _

theorem State.hallError_none (s : State) (address : Nat) (h : s.regionOf (hallBank address) = none) : s.hallError address = s := by
  unfold State.hallError; rw [h]

theorem State.hallError_zero (s : State) (address : Nat) (h : s.regionOf (hallBank address) = some 0) : s.hallError address = (s.uncorrected 3 (hallBank address)).deviceFault 3 := by
  unfold State.hallError; rw [h]; rfl

/-- R326: an uncorrected error is reported. -/
theorem State.raised_uncorrected (s : State) {store : Nat} (unit : Nat) : Raised s (s.uncorrected store unit) 0x0802 :=
  State.raised_of_prefix (State.raised_raise (s.count _ _ 1) 0x0802 unit) (s.count_prefix ..) List.prefix_rfl

/-! Channels of GDDR6 (R338 to R341) -/

theorem State.modStream_loses (s : State) (n : Nat) (f : Stream → Stream) : State.Loses s (s.modStream n f) := ⟨⟨rfl, rfl, rfl, .refl _, List.prefix_rfl⟩, rfl, rfl, rfl, .refl _⟩

theorem State.loseEntries_loses (s : State) (n : Nat) (lost : Nat → Bool) : State.Loses s (s.loseEntries n lost) := by
  unfold State.loseEntries
  dsimp only
  split
  · exact .refl s
  · exact (s.modStream_loses ..).trans ((State.raise_works ..).trans (State.disturb_works ..)).loses

theorem State.loseSource_loses (s : State) (n : Nat) : State.Loses s (s.loseSource n) :=
  State.Loses.trans (t := { s with draws := s.draws + (s.stream n).entries }) ⟨⟨rfl, rfl, rfl, .refl _, List.prefix_rfl⟩, rfl, rfl, rfl, .refl _⟩ (State.loseEntries_loses ..)

theorem State.loseSources_loses (s : State) : State.Loses s s.loseSources := .foldl (fun t n => t.loseSource_loses n) _ _

theorem State.loseModel_loses (s : State) (slot : Nat) : State.Loses s (s.loseModel slot) := ⟨⟨rfl, rfl, rfl, .refl _, List.prefix_rfl⟩, rfl, rfl, rfl, .refl _⟩

theorem State.loseDevice_loses (s : State) (part : Nat) : State.Loses s (s.loseDevice part) := by
  unfold State.loseDevice
  split <;> exact ⟨⟨rfl, rfl, rfl, .refl _, List.prefix_rfl⟩, rfl, rfl, rfl, .refl _⟩

/-- R338: only which copies of the journal are good, and what is copied, changes, with what is reported. -/
theorem State.journal_loses (s : State) (r : Option Nat) (j : List JRec) : State.Loses s { s with mem := { s.mem with rereplicating := r }, host := { s.host with journal := j } } :=
  ⟨⟨rfl, rfl, rfl, .refl _, List.prefix_rfl⟩, rfl, rfl, rfl, .refl _⟩

theorem State.loseJournal_loses (s : State) (c : Nat) : State.Loses s (s.loseJournal c) := by
  unfold State.loseJournal
  extract_lets role alive spare mem host t
  have h : State.Loses s t := (s.journal_loses ..).trans ((State.raise_works ..).trans (State.setCause_works ..)).loses
  split
  · exact .refl s
  · split
    · exact s.journal_loses none s.host.journal
    · split
      · exact (s.journal_loses none s.host.journal).trans (State.deviceFault_works ..).loses
      · split
        · exact h.trans (State.deviceFault_works ..).loses
        · exact h

/-- R341: no tile is shared at the next seal. -/
def State.unshare (s : State) : State := { s with world := { s.world with noShare := true } }

/-- R341: what a lost channel held besides tiles and source states. -/
theorem State.loseChannelData_loses (s : State) (c : Nat) :
    State.Loses ((s.loseTiles (s.tileOn (fun a => channelOf a == c))).loseSources).unshare (s.loseChannelData c) := by
  unfold State.loseChannelData
  extract_lets t world u hit v
  have hv : State.Loses u v := by
    refine .foldl (fun x i => ?_) _ _
    split
    next b y e =>
    have hy : State.Loses x y := by
      unfold hit at e
      extract_lets m at e
      split at e
      · cases e; exact .refl x
      · split at e
        · cases e; exact .refl x
        · have h : (x.freeChoice 10 2).2 = y := congrArg Prod.snd e
          exact h ▸ x.freeChoice_loses 10 2
    split
    · exact hy.trans (State.loseModel_loses ..)
    · exact hy
  split
  · exact hv
  next k _ =>
    extract_lets w lo hi host z
    have hw : State.Loses v w := by
      unfold w; split
      · exact ((v.loseDevice_loses 0).trans (State.loseDevice_loses ..)).trans (State.loseDevice_loses ..)
      · exact .refl v
    have hz : State.Loses w z := ⟨⟨rfl, rfl, rfl, .refl _, List.prefix_rfl⟩, rfl, rfl, rfl, .refl _⟩
    exact ((hv.trans hw).trans hz).trans (State.raiseFor_works ..).loses

end Sys2Proof.Machine
end

section
/-!
The stores' errors as commands report them: a lost channel, uncorrected words, and corrected words (R326, R327, R340).
-/
namespace Sys2Proof.Machine
open Sys2Proof

/-! A lost channel -/

theorem State.loseTiles_onward (s : State) (p : Tile → Bool) : State.Onward s (s.loseTiles p) := ⟨rfl, rfl, rfl, .refl _, List.prefix_rfl⟩
theorem State.modChannel_onward (s : State) (c : Nat) (f : Channel → Channel) : State.Onward s (s.modChannel c f) := ⟨rfl, rfl, rfl, .refl _, List.prefix_rfl⟩
theorem State.unshare_onward (s : State) : State.Onward s s.unshare := ⟨rfl, rfl, rfl, .refl _, List.prefix_rfl⟩

theorem State.loseChannelData_onward (s : State) (c : Nat) : State.Onward s (s.loseChannelData c) :=
  (((s.loseTiles_onward _).trans (State.loseSources_loses _).toOnward).trans (State.unshare_onward _)).trans (s.loseChannelData_loses c).toOnward

/-- A channel marked lost, counted, and reported, with what becomes of the journal. -/
def State.markChannelLost (s : State) (c : Nat) : State := (((s.modChannel c (fun x => { x with lost := true })).count 0x8102 4 1).raise 0x0804 c).loseJournal c

theorem State.markChannelLost_loses (s : State) (c : Nat) : State.Loses (s.modChannel c (fun x => { x with lost := true })) (s.markChannelLost c) :=
  ((State.count_works ..).trans (State.raise_works ..)).loses.trans (State.loseJournal_loses ..)

/-- A channel of a second device is lost. -/
def State.secondLoss (s : State) (c : Nat) : Bool := s.mem.channels.zipIdx.any (fun x => x.1.lost && x.2 / 2 != c / 2)

/-- R340: what the loss of a second device adds. -/
def State.exhaustSpare (s : State) (second : Bool) (c : Nat) : State := if second then (s.raise 0x0807 c).deviceFault 2 else s

theorem State.exhaustSpare_works (s : State) (second : Bool) (c : Nat) : State.Works s (s.exhaustSpare second c) := .optional' ((s.raise_works ..).trans (State.deviceFault_works ..))

theorem State.loseChannel_eq (s : State) {c : Nat} (h : c < 32) (k : (s.channel c).lost = false) :
    s.loseChannel c = ((s.markChannelLost c).loseChannelData c).exhaustSpare (s.secondLoss c) c := by
  unfold State.loseChannel
  rw [if_neg (by simp [k]; omega)]
  rfl

theorem State.loseChannel_onward (s : State) (c : Nat) : State.Onward s (s.loseChannel c) := by
  by_cases h : c < 32 ∧ (s.channel c).lost = false
  · rw [s.loseChannel_eq h.1 h.2]
    exact (((s.modChannel_onward ..).trans (s.markChannelLost_loses c).toOnward).trans (State.loseChannelData_onward ..)).trans (State.exhaustSpare_works ..).onward
  · unfold State.loseChannel
    rw [if_pos (by simpa [imp_iff_not_or] using h)]
    exact .refl s

/-! Uncorrected words -/

theorem State.hallError_onward (s : State) (address : Nat) : State.Onward s (s.hallError address) := by
  cases h : s.regionOf (hallBank address) with
  | none => rw [s.hallError_none address h]; exact .refl s
  | some r => exact (s.uncorrected_works _ (by decide)).onward.trans (s.hallError_strikes address h).toOnward

theorem State.strikeSource_loses (s : State) (n : Nat) : State.Loses s (s.strikeSource n) :=
  ((s.freeChoice_loses 9 (s.stream n).entries).trans (State.freeChoice_loses _ 9 2)).trans (State.loseEntries_loses ..)

theorem State.strikeJournal_onward (s : State) (c : Nat) : State.Onward s (s.strikeJournal c) := by
  unfold State.strikeJournal
  dsimp only
  split
  · exact (s.freeChoice_loses 14 _).toOnward
  · exact (s.freeChoice_loses 14 (s.host.journal.length + 1)).toOnward.trans ⟨rfl, rfl, rfl, .refl _, List.prefix_rfl⟩

theorem State.strikeAt_onward (s : State) (c offset : Nat) : State.Onward s (s.strikeAt c offset) := by
  have choice (site n : Nat) : State.Onward s (s.freeChoice site n).2 := (s.freeChoice_loses site n).toOnward
  unfold State.strikeAt
  split
  · dsimp only
    split
    · split
      · exact (s.loseTiles_onward _).trans (State.disturb_works ..).onward
      · split
        · exact (choice 11 129).trans (State.strikeSource_loses ..).toOnward
        · exact choice 11 129
    · split
      · split
        · exact ((choice 12 17).trans (State.loseModel_loses ..).toOnward).trans (State.disturb_works ..).onward
        · exact choice 12 17
      · exact .refl s
  · split
    · exact s.strikeJournal_onward c
    · dsimp only
      split
      · split
        · exact ((choice 13 4).trans (State.loseDevice_loses ..).toOnward).trans (State.disturb_works ..).onward
        · exact choice 13 4
      · exact (s.raiseFor_works ..).onward

theorem State.strikeBlock_onward (s : State) (block : Nat) : State.Onward s (s.strikeBlock block) := by
  unfold State.strikeBlock
  extract_lets c offset lost
  split
  · exact .refl s
  · split
    · exact s.strikeAt_onward c offset
    · split
      · exact .refl s
      · dsimp only
        have h := (s.freeChoice_loses 14 (lost.length + 1)).toOnward
        split
        · exact h
        · exact (h.trans (State.freeChoice_loses _ 14 _).toOnward).trans (State.strikeAt_onward ..)

theorem State.gddrError_onward (s : State) (block : Nat) : State.Onward (s.uncorrected 5 (block / 16777216 % 32)) (s.gddrError block) := by
  unfold State.gddrError
  dsimp only
  have h : State.Onward (s.uncorrected 5 (block / 16777216 % 32))
      (((s.uncorrected 5 (block / 16777216 % 32)).modChannel (block / 16777216 % 32) (fun x => { x with bad := s.badBlocks (block / 16777216 % 32) block })).strikeBlock block) :=
    (State.modChannel_onward ..).trans (State.strikeBlock_onward ..)
  split
  · exact h.trans (State.loseChannel_onward ..)
  · exact h

/-- R326: outside Hall an uncorrected error is first reported. -/
theorem State.uncorrectedError_reports (s : State) {store : Nat} (unit : Nat) (h : store < 7) (k : store ≠ 3) : ∃ n, State.Onward (s.uncorrected store n) (s.uncorrectedError store unit) := by
  unfold State.uncorrectedError
  split
  · exact absurd rfl k
  · exact ⟨_, s.gddrError_onward unit⟩
  · refine ⟨unit, ?_⟩
    dsimp only
    split
    · exact (State.engineOut_works ..).onward
    · exact (State.engineOut_works ..).onward
    · exact (State.strikePolicy_works _).onward
    · split
      · exact ((State.galleryOut_works ..).trans (State.recomputeBudget_works _)).onward
      · exact .refl _
    · exact .refl _

theorem State.uncorrectedError_onward (s : State) {store : Nat} (unit : Nat) (h : store < 7) : State.Onward s (s.uncorrectedError store unit) := by
  by_cases k : store = 3
  · subst k; exact s.hallError_onward unit
  · obtain ⟨n, hn⟩ := s.uncorrectedError_reports unit h k
    exact (s.uncorrected_works n h).onward.trans hn

theorem State.raised_uncorrectedError (s : State) {store : Nat} (unit : Nat) (h : store < 7) (k : store ≠ 3) : Raised s (s.uncorrectedError store unit) 0x0802 := by
  obtain ⟨n, hn⟩ := s.uncorrectedError_reports unit h k
  exact State.raised_of_prefix (s.raised_uncorrected n) List.prefix_rfl hn.events

end Sys2Proof.Machine
end

section
/-!
The commands of the stores: CHANNEL_LOSS, JOURNAL_REREPLICATION_DONE, UNCORRECTED_HALL_ERROR, CORRECTED_ERROR_EVENT and PATROL_SCRUB (R326, R327, R331, R336 to R341).
-/
namespace Sys2Proof.Machine
open Sys2Proof

/-- The device's time before a command from outside, and after. -/
theorem State.at_onward (s : State) (t : Nat) : State.Onward s (s.at t) := ⟨rfl, rfl, rfl, .refl _, List.prefix_rfl⟩

/-! CHANNEL_LOSS -/

/-- Where a tile lies follows from its layer's type, which no error changes. -/
theorem State.tileOn_of_spares {s t : State} (h : Dict.Spares NoCounter s.dict t.dict) (p : Nat → Bool) : t.tileOn p = s.tileOn p := by
  have layer (l : Nat) : t.layerType l = s.layerType l := by
    unfold State.layerType
    split
    next hl => exact congrArg Value.toNum (h.same _ _ ⟨(by decide : ∀ l < 16, isCounterIndex (0x3210 + l) = false) l hl, by decide⟩)
    next => rfl
  funext x
  unfold State.tileOn
  rw [layer]

/-- A tile of a version after a loss is a tile from before, unreadable where the test picks it out. -/
theorem State.mem_loseTiles {s : State} {p : Tile → Bool} {v : Version} {x : Tile} (hv : v ∈ (s.loseTiles p).world.versions) (hx : x ∈ v.tiles) :
    ∃ y : Tile, x = if p y then { y with lost := true } else y := by
  obtain ⟨v', -, rfl⟩ := List.mem_map.1 hv
  obtain ⟨y, -, rfl⟩ := List.mem_map.1 hx
  exact ⟨y, rfl⟩

/-- R341: every tile on a lost channel is unreadable. -/
theorem State.loseChannelData_tiles (s : State) (c : Nat) {v : Version} {x : Tile} (hv : v ∈ (s.loseChannelData c).world.versions) (hx : x ∈ v.tiles)
    (h : s.tileOn (fun a => channelOf a == c) x = true) : x.lost = true := by
  rw [(s.loseChannelData_loses c).versions, show (State.loseSources _).unshare.world.versions = _ from (State.loseSources_loses _).versions] at hv
  obtain ⟨y, rfl⟩ := State.mem_loseTiles hv hx
  split at h
  next => rw [if_pos ‹_›]
  next hy => exact absurd h hy

/-- CHANNEL_LOSS: the channel is marked and keeps its role, its tiles are lost and shared no more, and a second device lost is a device fault (R340, R341, R463). -/
theorem exec_channelLoss (s : State) (t : Nat) {n : Nat} {c : Channel} (hc : s.mem.channels[n]? = some c) (hn : n < 32) (hlost : c.lost = false) :
    ∃ u, exec (.channelLoss t n) s = .next u ∧ (∃ c', u.mem.channels[n]? = some c' ∧ c'.lost = true ∧ c'.role = c.role) ∧ Raised s u 0x0804 ∧ u.world.noShare = true ∧
      (∀ v ∈ u.world.versions, ∀ x ∈ v.tiles, s.tileOn (fun a => channelOf a == n) x = true → x.lost = true) ∧
      (s.mem.channels.zipIdx.any (fun x => x.1.lost && x.2 / 2 != n / 2) = true → Raised s u 0x0807 ∧ u.newel.faultCause.testBit 2 = true) ∧ u.tb = s.tb ∧ u.ctl = s.ctl := by
  have mark := (s.at t).markChannelLost_loses n
  have data := ((s.at t).markChannelLost n).loseChannelData_loses n
  have works := (((s.at t).markChannelLost n).loseChannelData n).exhaustSpare_works ((s.at t).secondLoss n) n
  have onward := (s.at_onward t).trans ((s.at t).loseChannel_onward n)
  have hidle : ((s.at t).channel n).lost = false := by simp [State.channel, hc, hlost]
  refine ⟨(s.at t).loseChannel n, rfl, ?_⟩
  have before : State.Onward s ((s.at t).markChannelLost n) := ((s.at_onward t).trans (State.modChannel_onward ..)).trans mark.toOnward
  rw [State.loseChannel_eq _ hn hidle] at onward ⊢
  refine ⟨⟨{ c with lost := true }, ?_, rfl, rfl⟩, ?_, ?_, ?_, ?_, onward.tb, onward.ctl⟩
  · rw [works.mem, data.channels, show (State.loseSources _).unshare.mem.channels = _ from (State.loseSources_loses _).channels]
    show ((s.at t).markChannelLost n).mem.channels[n]? = _
    rw [mark.channels]
    obtain ⟨hlt, rfl⟩ := List.getElem?_eq_some_iff.1 hc
    simp [State.modChannel, modAt, hlt]
  · have count := ((s.at t).modChannel n (fun x => { x with lost := true })).count_works 0x8102 4 1
    exact State.raised_of_prefix (State.raised_raise _ 0x0804 n) count.events
      (((State.loseJournal_loses _ n).events.trans (State.loseChannelData_onward _ n).events).trans works.events)
  · rw [works.world, data.noShare]; rfl
  · intro v hv x hx hon
    rw [works.world] at hv
    refine State.loseChannelData_tiles _ n hv hx ?_
    rw [State.tileOn_of_spares (s := s) mark.dict]
    exact hon
  · intro hsecond
    rw [show (s.at t).secondLoss n = true from hsecond]
    unfold State.exhaustSpare
    rw [if_pos rfl]
    exact ⟨State.raised_of_prefix (State.raised_raise _ 0x0807 n) (before.trans (State.loseChannelData_onward ..)).events (State.deviceFault_works ..).events, State.deviceFault_latches ..⟩

/-! JOURNAL_REREPLICATION_DONE -/

/-- A channel once the spare has taken a role (R339). -/
def Channel.succeeded (role : Nat) (x : Channel) : Channel := if x.role == role && x.lost then { x with role := 0 } else if x.role == 3 then { x with role := role } else x

/-- The stores once the spare has taken a role. -/
def State.succeed (s : State) (role : Nat) : State :=
  let copied (j : JRec) : JRec := if role == 1 then { j with badA := j.badA || j.badB } else { j with badB := j.badA || j.badB }
  { s with mem := { s.mem with channels := s.mem.channels.map (Channel.succeeded role), rereplicating := none }, host := { s.host with journal := s.host.journal.map copied } }

/-- JOURNAL_REREPLICATION_DONE: the spare takes the lost copy's role (R339). -/
theorem exec_journalRereplicationDone (s : State) (t : Nat) {role : Nat} (hrole : s.mem.rereplicating = some role) (hsorted : alSorted s.dict.active = true) :
    ∃ u, exec (.journalRereplicationDone t) s = .next u ∧ u.mem.rereplicating = none ∧ u.cfg 0x8100 4 = 0xFF ∧ Raised s u 0x0806 ∧ u.mem.channels.length = s.mem.channels.length ∧
      (∀ (k : Nat) (c : Channel), s.mem.channels[k]? = some c → role ≠ 3 →
        (c.role = 3 → u.mem.channels[k]? = some { c with role := role }) ∧ (c.role = role → c.lost = true → u.mem.channels[k]? = some { c with role := 0 })) := by
  have count : State.Works (((s.at t).succeed role).setObj 0x8100 4 0xFF) ((((s.at t).succeed role).setObj 0x8100 4 0xFF).count 0x8102 5 1) := State.count_works ..
  have clear (x : State) : State.Works x (x.clearCause 3) := x.clearCause_works (by decide)
  have works := (count.trans (State.raiseOpen_works _ s.tb.curFrame 0x0806)).trans (clear _)
  refine ⟨(((((s.at t).succeed role).setObj 0x8100 4 0xFF).count 0x8102 5 1).raiseOpen s.tb.curFrame 0x0806).clearCause 3, ?_, by rw [works.mem]; rfl, ?_, ?_, ?_, ?_⟩
  · show execJournalRereplicationDone t s = _
    unfold execJournalRereplicationDone
    dsimp only
    rw [State.at_mem, hrole]
    rfl
  · unfold State.cfg
    have value : (((s.at t).succeed role).setObj 0x8100 4 0xFF).dict.activeVal 0x8100 4 = .num 0xFF := s.dict.activeVal_setActive_same 0x8100 4 _ hsorted
    rw [works.dict.same _ _ ⟨by decide, by decide⟩, value]
    rfl
  · exact State.raised_of_prefix (State.raised_raiseOpen _ s.tb.curFrame 0x0806) count.events (clear _).events
  · rw [works.mem]; exact List.length_map ..
  · intro k c hc hne
    have hk : ((s.at t).succeed role).mem.channels[k]? = some (c.succeeded role) := by simp [State.succeed, hc]
    rw [works.mem, show (((s.at t).succeed role).setObj 0x8100 4 0xFF).mem.channels[k]? = _ from hk]
    exact ⟨fun h3 => by simp [Channel.succeeded, h3, Ne.symm hne], fun hr hl => by simp [Channel.succeeded, hr, hl]⟩

/-! UNCORRECTED_HALL_ERROR -/

theorem hallBank_eq (n : Nat) : hallBank n = n / 131072 % 1024 := by
  simp [hallBank, bitsAt, Nat.shiftRight_eq_div_pow]

/-- An address that no region holds. -/
theorem exec_uncorrectedHallError_none (s : State) (t : Nat) {n : Nat} (h : s.regionOf (n / 131072 % 1024) = none) : exec (.uncorrectedHallError t n) s = .next (s.at t) := by
  rw [← hallBank_eq] at h
  exact congrArg Host.Outcome.next ((s.at t).hallError_none n h)

/-- UNCORRECTED_HALL_ERROR at an address in use: reported, and in region 0 a device fault (R326, R331, R463). -/
theorem exec_uncorrectedHallError (s : State) (t : Nat) {n r : Nat} (h : s.regionOf (n / 131072 % 1024) = some r) :
    ∃ u, exec (.uncorrectedHallError t n) s = .next u ∧ Raised s u 0x0802 ∧ (r = 0 → u.newel.faultCause.testBit 3 = true) ∧ u.tb = s.tb ∧ u.ctl = s.ctl ∧ u.boot = s.boot := by
  rw [← hallBank_eq] at h
  have strikes : State.Strikes _ ((s.at t).hallError n) := (s.at t).hallError_strikes n h
  have onward := (s.at_onward t).trans ((s.at t).hallError_onward n)
  refine ⟨(s.at t).hallError n, rfl, ?_, ?_, onward.tb, onward.ctl, ?_⟩
  · exact State.raised_of_prefix (State.raised_uncorrected (s.at t) (store := 3) _) List.prefix_rfl strikes.events
  · rintro rfl
    rw [State.hallError_zero (s.at t) n h]
    exact State.deviceFault_latches ..
  · rw [strikes.boot, (State.uncorrected_works _ _ (by decide)).boot]; rfl

end Sys2Proof.Machine
end

section
/-!
Corrected errors and scrubs: CORRECTED_ERROR_EVENT and PATROL_SCRUB (R326, R327, R336).
-/
namespace Sys2Proof.Machine
open Sys2Proof

/-! Corrected words (R327) -/

/-- The counter of a store's corrected words is not EventsLost (R34). -/
theorem correctedCounter_notEventsLost {store : Nat} (h : store < 7) : NotEventsLost (correctedCounter store).1 (correctedCounter store).2 := by
  have all : ∀ store < 7, NotEventsLost (correctedCounter store).1 (correctedCounter store).2 := by unfold NotEventsLost; decide
  exact all store h

/-- No event 0x0801 of the store in the last second. -/
def State.correctedDue (s : State) (store : Nat) : Bool := match alGet store s.mem.corrected with | some t => decide (t + 1000000000 ≤ s.time) | none => true

theorem State.correctedDue_iff (s : State) (store : Nat) : s.correctedDue store = true ↔ ∀ t, alGet store s.mem.corrected = some t → t + 1000000000 ≤ s.time := by
  unfold State.correctedDue
  split <;> simp_all

/-- The time of the store's last event is kept. -/
def State.stampCorrected (s : State) (store : Nat) : State := { s with mem := { s.mem with corrected := alSet store s.time s.mem.corrected } }

/-- `n` words of a store are counted. -/
def State.countCorrected (s : State) (store n : Nat) : State := s.count (correctedCounter store).1 (correctedCounter store).2 n

theorem State.countCorrected_frame (s : State) (store n : Nat) : State.Notes s (s.countCorrected store n) := s.count_frame ..

theorem State.correctedErrors_eq (s : State) {store n : Nat} (h : store < 7) (k : n ≠ 0) :
    s.correctedErrors store n = if s.correctedDue store then ((s.countCorrected store n).stampCorrected store).raise 0x0801 store else s.countCorrected store n := by
  have due : (s.countCorrected store n).correctedDue store = s.correctedDue store := by rw [s.countCorrected_frame]; rfl
  unfold State.correctedErrors
  rw [if_neg (by simp [k, h]), ← due]
  rfl

/-- Reporting corrected words keeps every object but EventsLost. -/
theorem State.correctedErrors_dict (s : State) {store n : Nat} (h : store < 7) (k : n ≠ 0) : Dict.Spares NotEventsLost (s.countCorrected store n).dict (s.correctedErrors store n).dict := by
  rw [s.correctedErrors_eq h k]
  split
  · exact ((s.countCorrected store n).stampCorrected store).raise_spares 0x0801 store
  · exact .refl _

theorem State.correctedErrors_value (s : State) {store n : Nat} (h : store < 7) (k : n ≠ 0) (sorted : alSorted s.dict.active = true) :
    ((s.correctedErrors store n).dict.activeVal (correctedCounter store).1 (correctedCounter store).2).toNum =
      min counterMax ((s.dict.activeVal (correctedCounter store).1 (correctedCounter store).2).toNum + n) := by
  rw [(s.correctedErrors_dict h k).same _ _ (correctedCounter_notEventsLost h)]
  exact s.count_value _ _ n sorted (correctedCounter_notEventsLost h)

theorem State.correctedErrors_sorted (s : State) {store n : Nat} (h : store < 7) (k : n ≠ 0) (sorted : alSorted s.dict.active = true) :
    alSorted (s.correctedErrors store n).dict.active = true := (s.correctedErrors_dict h k).sorted ((s.count_spares ..).sorted sorted)

/-- A corrected word changes the time of the store's last event and what counting and reporting write. -/
theorem State.correctedErrors_frame (s : State) {store n : Nat} (h : store < 7) (k : n ≠ 0) :
    State.Notes { s with mem := { s.mem with corrected := (s.correctedErrors store n).mem.corrected } } (s.correctedErrors store n) := by
  rw [s.correctedErrors_eq h k]
  have count := s.countCorrected_frame store n
  split
  · have raise := ((s.countCorrected store n).stampCorrected store).raise_frame 0x0801 store
    unfold State.Notes at *
    rw [raise]
    unfold State.stampCorrected
    rw [count]
  · unfold State.Notes at *
    rw [count]

theorem State.correctedErrors_onward (s : State) {store n : Nat} (h : store < 7) (k : n ≠ 0) : State.Onward s (s.correctedErrors store n) := by
  have count : s.events <+: (s.countCorrected store n).events := s.count_prefix ..
  have frame := s.correctedErrors_frame h k
  refine ⟨by rw [frame], by rw [frame], by rw [frame], by rw [frame]; exact .refl _, ?_⟩
  rw [s.correctedErrors_eq h k]
  split
  · exact count.trans (((s.countCorrected store n).stampCorrected store).raise_prefix 0x0801 store)
  · exact count

theorem State.raised_correctedErrors (s : State) {store n : Nat} (h : store < 7) (k : n ≠ 0) (due : s.correctedDue store = true) : Raised s (s.correctedErrors store n) 0x0801 := by
  have count : s.events <+: (s.countCorrected store n).events := s.count_prefix ..
  rw [s.correctedErrors_eq h k, if_pos due]
  exact State.raised_of_prefix (((s.countCorrected store n).stampCorrected store).raised_raise 0x0801 store) count List.prefix_rfl

theorem State.correctedErrors_mem (s : State) {store n : Nat} (h : store < 7) (k : n ≠ 0) (due : s.correctedDue store = false) : (s.correctedErrors store n).mem = s.mem := by
  rw [s.correctedErrors_eq h k, due, s.countCorrected_frame]
  rfl

/-- CORRECTED_ERROR_EVENT of a store (R327). -/
theorem exec_correctedErrorEvent (s : State) (t : Nat) {n : Nat} (h : n < 7) (sorted : alSorted s.dict.active = true) :
    ∃ u, exec (.correctedErrorEvent t n) s = .next u ∧
      (u.dict.activeVal (correctedCounter n).1 (correctedCounter n).2).toNum = min (2 ^ 64 - 1) ((s.dict.activeVal (correctedCounter n).1 (correctedCounter n).2).toNum + 1) ∧
      ((∀ t', alGet n s.mem.corrected = some t' → t' + 1000000000 ≤ (s.at t).time) → Raised s u 0x0801) ∧
      ((¬∀ t', alGet n s.mem.corrected = some t' → t' + 1000000000 ≤ (s.at t).time) → u.mem = s.mem) ∧
      u = { s.at t with mem := { s.mem with corrected := u.mem.corrected }, dict := u.dict, host := u.host, group := s.group.links u.group, events := u.events, wire := u.wire } := by
  have due := (s.at t).correctedDue_iff n
  refine ⟨(s.at t).correctedErrors n 1, ?_, (s.at t).correctedErrors_value h (by decide) sorted, fun hd => ?_, fun hd => ?_, (s.at t).correctedErrors_frame h (by decide)⟩
  · show Host.Outcome.next _ = _
    rw [if_pos h]
  · exact (s.at t).raised_correctedErrors h (by decide) (due.2 hd)
  · exact (s.at t).correctedErrors_mem h (by decide) (Bool.eq_false_iff.2 fun e => hd (due.1 e))

/-- CORRECTED_ERROR_EVENT of a link: its own counter (R336, R424, R426). -/
theorem exec_correctedErrorEvent_link (s : State) (t : Nat) (sorted : alSorted s.dict.active = true) {p : Nat × Nat × Nat} (hp : p ∈ [(7, 0x8402, 0x0C), (8, 0x8605, 5), (9, 0x8605, 5), (10, 0x8102, 3)]) :
    ∃ u, exec (.correctedErrorEvent t p.1) s = .next u ∧ (u.dict.activeVal p.2.1 p.2.2).toNum = min (2 ^ 64 - 1) ((s.dict.activeVal p.2.1 p.2.2).toNum + 1) ∧ Noted (s.at t) u := by
  refine ⟨(s.at t).count p.2.1 p.2.2 1, ?_, ?_, (s.at t).count_frame ..⟩
  · simp only [List.mem_cons, List.not_mem_nil, or_false] at hp
    obtain rfl | rfl | rfl | rfl := hp <;> rfl
  · have key : ∀ p ∈ [(7, 0x8402, 0x0C), (8, 0x8605, 5), (9, 0x8605, 5), (10, 0x8102, 3)], NotEventsLost p.2.1 p.2.2 := by unfold NotEventsLost; decide
    exact (s.at t).count_value _ _ 1 sorted (key p hp)

/-! What the codes tell apart (R326, R336) -/

theorem length_eraseDups_cons_eq_one (a : Nat) (l : List Nat) : (a :: l).eraseDups.length = 1 ↔ ∀ b ∈ l, b = a := by
  rw [List.eraseDups_cons, List.length_cons]
  cases e : l.filter (fun b => !b == a) with
  | nil =>
    rw [List.filter_eq_nil_iff] at e
    simpa using e
  | cons b k =>
    have hb : b ∈ l.filter (fun b => !b == a) := e ▸ List.mem_cons_self
    rw [List.mem_filter] at hb
    rw [List.eraseDups_cons]
    simp only [List.length_cons, Nat.add_eq_right, Nat.succ_ne_zero, false_iff]
    exact fun h => by simp [h b hb.1] at hb

theorem eccOutcome_corrected_iff (store : Nat) (flips : List Nat) :
    eccOutcome store flips = some .corrected ↔ ((if store == 5 then flips.map (· / 8) else flips).eraseDups).length = 1 := by
  unfold eccOutcome
  split <;> simp_all

/-- A GDDR6 block: an error confined to one byte is corrected. -/
theorem eccOutcome_block {flips : List Nat} (h : flips ≠ []) : eccOutcome 5 flips = some .corrected ↔ ∃ k, ∀ f ∈ flips, f / 8 = k := by
  rw [eccOutcome_corrected_iff]
  obtain _ | ⟨a, l⟩ := flips
  · exact absurd rfl h
  · show (a / 8 :: l.map (· / 8)).eraseDups.length = 1 ↔ _
    rw [length_eraseDups_cons_eq_one]
    constructor
    · exact fun e => ⟨a / 8, by simpa using e⟩
    · rintro ⟨k, hk⟩
      simp only [List.forall_mem_cons] at hk
      obtain ⟨ha, hl⟩ := hk
      simpa [ha] using hl

theorem eccOutcome_single (store b : Nat) : eccOutcome store [b] = some .corrected := by
  rw [eccOutcome_corrected_iff]
  split <;> rfl

/-- A word of another store: two flipped bits are detected. -/
theorem eccOutcome_pair {store a b : Nat} (h : store ≠ 5) (k : a ≠ b) : eccOutcome store [a, b] = some .uncorrected := by
  unfold eccOutcome
  rw [if_neg (by simpa using h), List.eraseDups_cons, List.filter_cons_of_pos (by simpa using k.symm)]
  rfl

/-! PATROL_SCRUB -/

/-- What follows from a word's finding. -/
def State.treatWord (s : State) (store unit : Nat) : EccOutcome → State
  | .clean => s
  | .corrected => s.correctedErrors store 1
  | .uncorrected => s.uncorrectedError store unit

/-- What the scrub does with a word it reads. -/
def State.scrubWord (store : Nat) (s : State) (x : Nat × List Nat) : State := (s.scrubFinds store x.2).2.treatWord store x.1 (s.scrubFinds store x.2).1

theorem exec_patrolScrub (s : State) (t : Nat) {store : Nat} (h : store < 7) (single : List (Nat × Nat)) (found : List (Nat × List Nat)) :
    exec (.patrolScrub t store single found) s = .next ((single.map (fun x => (x.1, [x.2])) ++ found).foldl (State.scrubWord store) (s.at t)) := by
  show execPatrolScrub t store single found s = _
  unfold execPatrolScrub
  rw [if_neg (by omega)]
  congr 2
  funext s x
  unfold State.scrubWord State.treatWord
  split <;> rename_i e <;> rw [e]

theorem State.scrubWord_of_some {store : Nat} {s : State} {x : Nat × List Nat} {o : EccOutcome} (h : eccOutcome store x.2 = some o) : s.scrubWord store x = s.treatWord store x.1 o := by
  have finds : s.scrubFinds store x.2 = (o, s) := by unfold State.scrubFinds; rw [h]
  unfold State.scrubWord
  rw [finds]

theorem State.scrubFinds_onward (s : State) (store : Nat) (flips : List Nat) : State.Onward s (s.scrubFinds store flips).2 := by
  unfold State.scrubFinds
  split
  · exact .refl s
  · dsimp only
    exact (s.freeChoice_loses 15 3).toOnward

theorem State.scrubWord_onward (s : State) {store : Nat} (h : store < 7) (x : Nat × List Nat) : State.Onward s (s.scrubWord store x) := by
  refine (s.scrubFinds_onward store x.2).trans ?_
  unfold State.scrubWord
  cases (s.scrubFinds store x.2).1 with
  | clean => exact .refl _
  | corrected => exact State.correctedErrors_onward _ h (by decide)
  | uncorrected => exact State.uncorrectedError_onward _ _ h

/-- Words without an error leave no trace. -/
theorem exec_patrolScrub_clean (s : State) (t : Nat) {n : Nat} (h : n < 7) {found : List (Nat × List Nat)} (clean : ∀ x ∈ found, eccOutcome n x.2 = some .clean) :
    exec (.patrolScrub t n [] found) s = .next (s.at t) := by
  rw [exec_patrolScrub s t h, List.map_nil, List.nil_append]
  congr 1
  induction found with
  | nil => rfl
  | cons x xs ih =>
    rw [List.foldl_cons, State.scrubWord_of_some (clean x List.mem_cons_self)]
    exact ih fun y hy => clean y (List.mem_cons_of_mem _ hy)

/-- Each corrected word counts one. -/
theorem State.scrub_value {store : Nat} (h : store < 7) (x : Nat × List Nat) (xs : List (Nat × List Nat)) (s : State) (sorted : alSorted s.dict.active = true)
    (all : ∀ y ∈ x :: xs, eccOutcome store y.2 = some .corrected) :
    (((x :: xs).foldl (State.scrubWord store) s).dict.activeVal (correctedCounter store).1 (correctedCounter store).2).toNum =
      min counterMax ((s.dict.activeVal (correctedCounter store).1 (correctedCounter store).2).toNum + (x :: xs).length) := by
  induction xs generalizing x s with
  | nil =>
    rw [List.foldl_cons, State.scrubWord_of_some (all x List.mem_cons_self)]
    exact s.correctedErrors_value h (by decide) sorted
  | cons y ys ih =>
    rw [List.foldl_cons, State.scrubWord_of_some (all x List.mem_cons_self)]
    have rest := ih y (s.correctedErrors store 1) (s.correctedErrors_sorted h (by decide) sorted) fun z hz => all z (List.mem_cons_of_mem _ hz)
    rw [s.correctedErrors_value h (by decide) sorted] at rest
    refine rest.trans ?_
    simp only [List.length_cons]
    omega

theorem exec_patrolScrub_corrected (s : State) (t : Nat) {n : Nat} (h : n < 7) (sorted : alSorted s.dict.active = true) {single : List (Nat × Nat)} {found : List (Nat × List Nat)}
    (any : single ≠ [] ∨ found ≠ []) (all : ∀ x ∈ found, eccOutcome n x.2 = some .corrected) :
    ∃ u, exec (.patrolScrub t n single found) s = .next u ∧ (u.dict.activeVal (correctedCounter n).1 (correctedCounter n).2).toNum =
      min (2 ^ 64 - 1) ((s.dict.activeVal (correctedCounter n).1 (correctedCounter n).2).toNum + (single.length + found.length)) := by
  refine ⟨_, exec_patrolScrub s t h single found, ?_⟩
  have words : ∀ x ∈ single.map (fun x => (x.1, [x.2])) ++ found, eccOutcome n x.2 = some .corrected := by
    intro x hx
    rcases List.mem_append.1 hx with hx | hx
    · obtain ⟨y, -, rfl⟩ := List.mem_map.1 hx
      exact eccOutcome_single n y.2
    · exact all x hx
  have length : single.length + found.length = (single.map (fun x => (x.1, [x.2])) ++ found).length := by simp
  have notNil : single.map (fun x => (x.1, [x.2])) ++ found ≠ [] := by simpa [-not_and, not_and_or] using any
  rw [length]
  generalize single.map (fun x => (x.1, [x.2])) ++ found = l at words notNil
  obtain ⟨x, xs, rfl⟩ := List.exists_cons_of_ne_nil notNil
  exact State.scrub_value h x xs (s.at t) sorted words

/-- A word with an uncorrected error is reported, whatever else the pass finds. -/
theorem exec_patrolScrub_uncorrected (s : State) (t : Nat) {n : Nat} (h : n < 7) (k : n ≠ 3) (single : List (Nat × Nat)) {found : List (Nat × List Nat)}
    (any : ∃ x ∈ found, eccOutcome n x.2 = some .uncorrected) : ∃ u, exec (.patrolScrub t n single found) s = .next u ∧ Raised s u 0x0802 := by
  refine ⟨_, exec_patrolScrub s t h single found, ?_⟩
  obtain ⟨x, hx, bad⟩ := any
  obtain ⟨before, after, split⟩ := List.append_of_mem (List.mem_append_right (single.map (fun x => (x.1, [x.2]))) hx)
  have pass (l : List (Nat × List Nat)) (r : State) : State.Onward r (l.foldl (State.scrubWord n) r) := .foldl (fun r y => r.scrubWord_onward h y) l r
  rw [split, List.foldl_append, List.foldl_cons, State.scrubWord_of_some bad]
  exact State.raised_of_prefix (State.raised_uncorrectedError _ x.1 h k) (pass before (s.at t)).events (pass after _).events

end Sys2Proof.Machine
end

section
/-!
The clock monitor (R19, R464): CLOCK_MONITOR_WINDOW.
-/
namespace Sys2Proof.Machine
open Sys2Proof

/-! The effect of a domain marked FAULT (R464) -/

theorem State.loseSolver_works (s : State) (q : Nat) : State.Works s (s.loseSolver q) := by
  unfold State.loseSolver
  extract_lets struck items t
  have frames : State.Works s t := by
    refine .of_frames s fun w => ?_
    split <;> rfl
  exact frames.trans (.foldl (fun t i => (t.modItem_works ..).trans (State.modPlan_works ..)) _ _)

/-- A domain whose failure degrades the device: a Gallery's, a channel's, a quadrant's, a solver's or an ingress engine's. -/
def Degrading (d : Nat) : Prop := d ≤ 59 ∨ (69 ≤ d ∧ d ≤ 76)

/-- A domain without a fall-back. -/
def Essential (d : Nat) : Prop := (60 ≤ d ∧ d ≤ 68) ∨ d = 81 ∨ d = 82 ∨ (85 ≤ d ∧ d ≤ 87) ∨ d = 89 ∨ 92 ≤ d

/-- Cause 9 for a domain that degrades the device. -/
def State.degrade (s : State) (d : Nat) : State := if d ≤ 59 || (69 ≤ d && d ≤ 76) then s.setCause 9 else s

theorem State.degrade_works (s : State) (d : Nat) : State.Works s (s.degrade d) := .optional' (s.setCause_works 9)

/-- A domain's fault sets its cause first, and what follows takes nothing back. -/
theorem State.domainFault_degrade (s : State) (d : Nat) : State.Onward (s.degrade d) (s.domainFault d) := by
  unfold State.domainFault
  extract_lets t
  show State.Onward t _
  split
  · split
    · exact ((t.galleryOut_works d 1).trans (State.recomputeBudget_works _)).onward
    · exact .refl t
  split
  · exact t.loseChannel_onward (d - 16)
  split
  · exact ((State.Works.optional' t.strikePolicy_works).trans (State.recomputeBudget_works _)).onward
  split
  · exact ((t.loseSolver_works (d - 56)).trans (State.recomputeBudget_works _)).onward
  split
  · exact .refl t
  split
  · exact (t.portDown_works _).onward
  split
  · exact (t.raise_works ..).onward
  · exact (t.deviceFault_works 1).onward

theorem State.domainFault_onward (s : State) (d : Nat) : State.Onward s (s.domainFault d) := (s.degrade_works d).onward.trans (s.domainFault_degrade d)

theorem State.domainFault_cause (s : State) {d : Nat} (h : Degrading d) : (s.domainFault d).newel.degraded.testBit 9 = true := by
  refine (s.domainFault_degrade d).newel.clock ?_
  unfold State.degrade
  rw [if_pos (by simpa [Degrading] using h)]
  exact s.setCause_sets

theorem State.domainFault_latches (s : State) {d : Nat} (h : Essential d) : (s.domainFault d).newel.faultCause.testBit 1 = true := by
  have fault : s.domainFault d = s.deviceFault 1 := by
    unfold Essential at h
    unfold State.domainFault
    simp only [Bool.or_eq_true, Bool.and_eq_true, decide_eq_true_eq, beq_iff_eq]
    iterate 8 rw [if_neg (by omega)]
  rw [fault]
  exact s.deviceFault_latches 1

/-- The effects of the domains marked FAULT, one after the other. -/
theorem State.domainFaults_onward (s : State) (l : List Nat) : State.Onward s (l.foldl (fun s d => s.domainFault d) s) := .foldl (fun s d => s.domainFault_onward d) l s

/-- The effect of one domain of the list, whatever the others add. -/
theorem State.domainFaults_effect (s : State) {l : List Nat} {d : Nat} (h : d ∈ l) : ∃ t : State, State.Onward (t.domainFault d) (l.foldl (fun s d => s.domainFault d) s) := by
  obtain ⟨before, after, rfl⟩ := List.append_of_mem h
  rw [List.foldl_append, List.foldl_cons]
  exact ⟨_, State.domainFaults_onward _ after⟩

/-! What a window finds (R19) -/

/-- The domain is counted: the monitor's own is not, and the debug domain only while its reset is released. -/
def State.Counts (s : State) (jtag : Bool) (d : Nat) : Prop := s.newel.running = true ∧ d ≠ 88 ∧ (d = 90 → jtag = true)

/-- The frequency due of a domain, in sixteenths of a kHz (R17). -/
def State.due (s : State) (d : Nat) : Nat := nominalKhz d * (16 - if throttledDomain d then s.power.step else 0)

/-- The domain was measured more than 5 % off. -/
def State.Outside (s : State) (measured : List (Nat × Nat)) (jtag : Bool) (d : Nat) : Prop :=
  s.Counts jtag d ∧ ∃ khz, alGet d measured = some khz ∧ (20 * (16 * khz) < 19 * s.due d ∨ 21 * s.due d < 20 * (16 * khz))

/-- The window's own finding about a domain. -/
def State.clockOutside (s : State) (window : ClockWindow) (d : Nat) : Bool := s.counted d && (match alGet d window.measured with | some f => s.offFrequency d f | none => false)

/-- The domains a window marks FAULT. -/
def State.clockMarked (s : State) (window : ClockWindow) : List Nat :=
  (List.range 100).filter (fun d => s.clockOutside window d && (match s.clocks[d]? with | some c => c.outside && !c.fault | none => false))

/-- What a window keeps of its finding about a domain. -/
def ClockDomain.judged (c : ClockDomain) (outside marked : Bool) : ClockDomain := { c with outside := outside, fault := c.fault || marked }

/-- The domains with a window's findings. -/
def State.judge (s : State) (window : ClockWindow) : State :=
  { s with clocks := s.clocks.zipIdx.map (fun x => x.1.judged (s.clockOutside window x.2) ((s.clockMarked window).contains x.2)) }

/-- The state in which a window is judged. -/
def State.measure (s : State) (window : ClockWindow) : State := (s.setPads (fun p => { p with jtagTrst := window.jtagTrst })).runDomains window

theorem exec_clockMonitorWindow_eq (s : State) (t : Nat) (window : ClockWindow) :
    exec (.clockMonitorWindow t window) s = .next ((((s.at t).measure window).clockMarked window).foldl (fun s d => s.domainFault d) (((s.at t).measure window).judge window)) := rfl

theorem State.counted_measure (s : State) (window : ClockWindow) (d : Nat) : (s.measure window).counted d = true ↔ s.Counts window.jtagTrst d := by
  show (s.newel.running && d != 88 && (d != 90 || window.jtagTrst)) = true ↔ _
  unfold State.Counts
  simp only [Bool.and_eq_true, bne_iff_ne, Bool.or_eq_true, and_assoc, ne_eq, ← imp_iff_not_or]

theorem State.offFrequency_measure (s : State) (window : ClockWindow) (d khz : Nat) :
    (s.measure window).offFrequency d khz = true ↔ 20 * (16 * khz) < 19 * s.due d ∨ 21 * s.due d < 20 * (16 * khz) := by
  show (decide (320 * khz < 19 * s.due d) || decide (21 * s.due d < 320 * khz)) = true ↔ _
  simp only [Bool.or_eq_true, decide_eq_true_eq]
  omega

theorem State.clockOutside_measure (s : State) (window : ClockWindow) (d : Nat) : (s.measure window).clockOutside window d = true ↔ s.Outside window.measured window.jtagTrst d := by
  unfold State.clockOutside State.Outside
  rw [Bool.and_eq_true, s.counted_measure]
  refine and_congr_right fun _ => ?_
  cases alGet d window.measured with
  | none => simp
  | some khz => simpa using s.offFrequency_measure window d khz

/-- A domain as a window's measurement leaves it: it runs where it was counted and the frequency is not 0 (R20). -/
def ClockDomain.ran (c : ClockDomain) (counted : Bool) : Option Nat → ClockDomain
  | some khz => if counted then { c with running := khz != 0 } else c
  | none => c

theorem ClockDomain.ran_eq (c : ClockDomain) (counted : Bool) (f : Option Nat) : c.ran counted f = { c with running := (c.ran counted f).running } := by
  cases f <;> cases counted <;> rfl

theorem State.measure_clocks (s : State) (window : ClockWindow) (d : Nat) :
    (s.measure window).clocks[d]? = s.clocks[d]?.map (fun c => c.ran ((s.measure window).counted d) (alGet d window.measured)) := by
  show (s.clocks.zipIdx.map _)[d]? = _
  rw [List.getElem?_map, List.getElem?_zipIdx, Option.map_map]
  refine Option.map_congr fun c _ => ?_
  simp only [Function.comp_apply, Nat.zero_add]
  cases alGet d window.measured <;> rfl

theorem State.judge_clocks (s : State) (window : ClockWindow) (d : Nat) :
    (s.judge window).clocks[d]? = s.clocks[d]?.map (fun c => c.judged (s.clockOutside window d) ((s.clockMarked window).contains d)) := by
  show (s.clocks.zipIdx.map _)[d]? = _
  rw [List.getElem?_map, List.getElem?_zipIdx, Option.map_map]
  refine Option.map_congr fun c _ => ?_
  simp

/-- R19: marked are the domains outside their limits in this window and the last. -/
theorem State.mem_clockMarked (s : State) (window : ClockWindow) (d : Nat) {c : ClockDomain} (h : s.clocks[d]? = some c) :
    d ∈ (s.measure window).clockMarked window ↔ d < 100 ∧ c.outside = true ∧ c.fault = false ∧ s.Outside window.measured window.jtagTrst d := by
  unfold State.clockMarked
  rw [List.mem_filter, List.mem_range, s.measure_clocks, h, Option.map_some, c.ran_eq, Bool.and_eq_true, s.clockOutside_measure]
  simp only [Bool.and_eq_true, Bool.not_eq_true']
  tauto

theorem State.clockMarked_nil (s : State) (window : ClockWindow) (h : ∀ (d : Nat) (c : ClockDomain), s.clocks[d]? = some c → c.outside = false) :
    (s.measure window).clockMarked window = [] := by
  refine List.filter_eq_nil_iff.2 fun d _ => ?_
  rw [s.measure_clocks]
  cases e : s.clocks[d]? with
  | none => simp
  | some c => rw [Option.map_some, c.ran_eq]; simp [h d c e]

/-- R19, R20: what a window leaves of each domain, and that the faults it adds are of domains it marks. -/
theorem State.judge_domain (s : State) (window : ClockWindow) {d : Nat} {c : ClockDomain} (hc : s.clocks[d]? = some c) :
    ∃ c', ((s.measure window).judge window).clocks[d]? = some c' ∧ c'.locked = c.locked ∧ (c'.outside = true ↔ s.Outside window.measured window.jtagTrst d) ∧
      (∀ khz, s.Counts window.jtagTrst d → alGet d window.measured = some khz → (c'.running = true ↔ khz ≠ 0)) ∧
      (¬s.Counts window.jtagTrst d ∨ alGet d window.measured = none → c'.running = c.running) ∧
      (c'.fault = true ↔ c.fault = true ∨ (d < 100 ∧ c.outside = true ∧ s.Outside window.measured window.jtagTrst d)) ∧
      (c.fault = false → c'.fault = true → d ∈ (s.measure window).clockMarked window) := by
  have counted := s.counted_measure window d
  have marked := s.mem_clockMarked window d hc
  have fault : ∀ counted f outside, ((c.ran counted f).judged outside (((s.measure window).clockMarked window).contains d)).fault = true ↔ c.fault = true ∨ d ∈ (s.measure window).clockMarked window := by
    intro counted f outside
    rw [c.ran_eq]
    simp [ClockDomain.judged]
  have after := (s.measure window).judge_clocks window d
  rw [s.measure_clocks, hc, Option.map_some, Option.map_some] at after
  refine ⟨_, after, ?_, s.clockOutside_measure window d, fun khz hcount hkhz => ?_, fun hnot => ?_, ?_, fun hc0 hc1 => ((fault ..).1 hc1).resolve_left (by simp [hc0])⟩
  · rw [c.ran_eq]; rfl
  · rw [hkhz, counted.2 hcount]
    exact bne_iff_ne
  · rcases hnot with h | h
    · rw [Bool.eq_false_iff.2 (mt counted.1 h)]
      cases alGet d window.measured <;> rfl
    · rw [h]; rfl
  · refine (fault ..).trans ?_
    rw [marked]
    cases c.fault <;> simp

/-- CLOCK_MONITOR_WINDOW: what a window says of each domain, and what follows from those it marks. -/
theorem exec_clockMonitorWindow (s : State) (t : Nat) (measured : List (Nat × Nat)) (jtag : Bool) :
    ∃ u, exec (.clockMonitorWindow t ⟨measured, jtag⟩) s = .next u ∧ u.clocks.length = s.clocks.length ∧ u.newel.pins.jtagTrst = jtag ∧
      (∀ d c, s.clocks[d]? = some c → ∃ c', u.clocks[d]? = some c' ∧ c'.locked = c.locked ∧ (c'.outside = true ↔ s.Outside measured jtag d) ∧
        (∀ khz, s.Counts jtag d → alGet d measured = some khz → (c'.running = true ↔ khz ≠ 0)) ∧ (¬s.Counts jtag d ∨ alGet d measured = none → c'.running = c.running) ∧
        (c'.fault = true ↔ c.fault = true ∨ (d < 100 ∧ c.outside = true ∧ s.Outside measured jtag d)) ∧
        (c.fault = false → c'.fault = true → Degrading d → u.newel.degraded.testBit 9 = true) ∧
        (c.fault = false → c'.fault = true → Essential d → u.newel.faultCause.testBit 1 = true)) ∧
      ((∀ (d : Nat) (c : ClockDomain), s.clocks[d]? = some c → c.outside = false) →
        u = { s.at t with clocks := u.clocks, newel := { s.newel with pins := { s.newel.pins with jtagTrst := jtag } } }) := by
  have faults := State.domainFaults_onward (((s.at t).measure ⟨measured, jtag⟩).judge ⟨measured, jtag⟩) (((s.at t).measure ⟨measured, jtag⟩).clockMarked ⟨measured, jtag⟩)
  refine ⟨_, exec_clockMonitorWindow_eq s t ⟨measured, jtag⟩, ?_, faults.newel.jtag, fun d c hc => ?_, fun idle => ?_⟩
  · rw [faults.clocks]
    simp [State.judge, State.measure, State.runDomains, State.setPads]
  · obtain ⟨c', after, locked, outside, runs, stays, fault, marked⟩ := (s.at t).judge_domain ⟨measured, jtag⟩ (c := c) hc
    refine ⟨c', (congrArg (·[d]?) faults.clocks).trans after, locked, outside, runs, stays, fault, fun hc0 hc1 hd => ?_, fun hc0 hc1 hd => ?_⟩
    · obtain ⟨r, hr⟩ := State.domainFaults_effect (((s.at t).measure ⟨measured, jtag⟩).judge ⟨measured, jtag⟩) (marked hc0 hc1)
      exact hr.newel.clock (r.domainFault_cause hd)
    · obtain ⟨r, hr⟩ := State.domainFaults_effect (((s.at t).measure ⟨measured, jtag⟩).judge ⟨measured, jtag⟩) (marked hc0 hc1)
      exact hr.newel.fault 1 (r.domainFault_latches hd)
  · rw [show ((s.at t).measure ⟨measured, jtag⟩).clockMarked ⟨measured, jtag⟩ = [] from (s.at t).clockMarked_nil ⟨measured, jtag⟩ idle]
    rfl

end Sys2Proof.Machine
end

section
/-!
The Newel's own errors (R18, R20, R457, R463), and what hardware errors do as a whole.
-/
namespace Sys2Proof.Machine
open Sys2Proof

/-- The safety processor once a device fault is latched: the pins move while it drives them. -/
def Newel.faulted (n : Newel) (cause : Nat) : Newel :=
  { n with faultCause := n.faultCause ||| 2 ^ cause, pins := if n.running then { n.pins with fault := true, safeState := true, planOk := false } else n.pins }

theorem State.setPins_newel (s : State) (f : Pins → Pins) : (s.setPins f).newel = { s.newel with pins := if s.newel.running then f s.newel.pins else s.newel.pins } := by
  unfold State.setPins
  by_cases h : s.newel.running
  · rw [if_pos h, if_pos h]
    exact congrArg State.newel (State.signalStatus_frame _)
  · rw [if_neg h, if_neg h]

/-- A device fault's cause latched, and the pins driven for it (R463). -/
def State.latched (s : State) (cause : Nat) : State :=
  ({ s with newel := { s.newel with faultCause := s.newel.faultCause ||| 2 ^ cause } } : State).setPins (fun p => { p with fault := true, safeState := true, planOk := false })

theorem State.latched_works (s : State) (cause : Nat) : State.Works s (s.latched cause) := (s.latch_works cause).trans (State.setPins_works _ fun p => { p with fault := true, safeState := true, planOk := false })

theorem State.latched_newel (s : State) (cause : Nat) : (s.latched cause).newel = s.newel.faulted cause := State.setPins_newel ..

/-- R463: a cause latched anew is reported. -/
theorem State.deviceFault_eq (s : State) (cause : Nat) : s.deviceFault cause = if s.newel.faultCause.testBit cause = false then (s.latched cause).raise 0x0A01 cause else s.latched cause := by
  unfold State.deviceFault
  dsimp only
  cases s.newel.faultCause.testBit cause <;> rfl

theorem State.deviceFault_newel (s : State) (cause : Nat) : (s.deviceFault cause).newel = s.newel.faulted cause := by
  rw [s.deviceFault_eq]
  split
  · exact (congrArg State.newel (State.raise_frame ..)).trans (s.latched_newel cause)
  · exact s.latched_newel cause

theorem State.raised_deviceFault (s : State) {cause : Nat} (h : s.newel.faultCause.testBit cause = false) : Raised s (s.deviceFault cause) 0x0A01 := by
  rw [s.deviceFault_eq, if_pos h]
  exact State.raised_of_prefix ((s.latched cause).raised_raise 0x0A01 cause) (s.latched_works cause).events List.prefix_rfl

/-- The Newel stops, and with it its clock domains (R18, R20). -/
def State.stopNewel (s : State) : State := ({ s with newel := { s.newel with running := false } } : State).stopNewelClocks

/-- A fault of the Newel itself: it goes on, or its clock has failed. -/
def State.newelFault (s : State) (cause : Nat) (goesOn : Bool) : State := if goesOn then s.deviceFault cause else (s.deviceFault cause).stopNewel

theorem State.stopNewel_clocks (s : State) (d : Nat) : s.stopNewel.clocks[d]? = s.clocks[d]?.map (fun c => if clockSource d = .newelClk then { c with running := false } else c) := by
  show (s.clocks.zipIdx.map _)[d]? = _
  rw [List.getElem?_map, List.getElem?_zipIdx, Option.map_map]
  refine Option.map_congr fun c _ => ?_
  simp

theorem State.newelFault_newel (s : State) (cause : Nat) (goesOn : Bool) : (s.newelFault cause goesOn).newel = { s.newel.faulted cause with running := s.newel.running && goesOn } := by
  cases goesOn
  · show { (s.deviceFault cause).newel with running := false } = _
    rw [s.deviceFault_newel, Bool.and_false]
  · rw [Bool.and_true]
    exact s.deviceFault_newel cause

theorem State.newelFault_clocks (s : State) (cause : Nat) (goesOn : Bool) {d : Nat} {c : ClockDomain} (h : s.clocks[d]? = some c) :
    (s.newelFault cause goesOn).clocks[d]? = some (if goesOn = false ∧ clockSource d = .newelClk then { c with running := false } else c) := by
  have keeps : (s.deviceFault cause).clocks[d]? = some c := by rw [(s.deviceFault_works cause).clocks]; exact h
  cases goesOn
  · refine ((s.deviceFault cause).stopNewel_clocks d).trans ?_
    simp [keeps]
  · rw [if_neg nofun]
    exact keeps

/-- A fault of the Newel changes only what latches and drives it, its clocks, and what its event writes. -/
theorem State.newelFault_frame (s : State) (cause : Nat) (goesOn : Bool) :
    State.SafetyNotes { s with clocks := (s.newelFault cause goesOn).clocks } (s.newelFault cause goesOn) := by
  have fault := s.deviceFault_frame cause
  cases goesOn
  · show State.SafetyNotes { s with clocks := (s.deviceFault cause).stopNewel.clocks } (s.deviceFault cause).stopNewel
    generalize s.deviceFault cause = u at *
    unfold State.SafetyNotes at *
    unfold State.stopNewel State.stopNewelClocks
    rw [fault]
  · show State.SafetyNotes { s with clocks := (s.deviceFault cause).clocks } (s.deviceFault cause)
    generalize s.deviceFault cause = u at *
    unfold State.SafetyNotes at *
    rw [fault]

theorem State.raised_newelFault (s : State) {cause : Nat} (goesOn : Bool) (h : s.newel.faultCause.testBit cause = false) : Raised s (s.newelFault cause goesOn) 0x0A01 := by
  cases goesOn <;> exact s.raised_deviceFault h

/-- NEWEL_LOCKSTEP_MISMATCH, NEWEL_SRAM_ECC_ERROR and NEWEL_CLK_FAILURE, each with its cause and whether the Newel goes on. -/
theorem exec_newelFault (s : State) (t : Nat) {p : Instr × Nat × Bool} (hp : p ∈ [(Instr.newelLockstepMismatch t, 0, true), (Instr.newelSramEccError t, 7, true), (Instr.newelClkFailure t, 1, false)]) :
    exec p.1 s = .next ((s.at t).newelFault p.2.1 p.2.2) := by
  simp only [List.mem_cons, List.not_mem_nil, or_false] at hp
  obtain rfl | rfl | rfl := hp <;> rfl

/-- A fault of the Newel latches its cause, reports it, and drives the pins safe. -/
theorem exec_newelFault_effect (s : State) (t : Nat) {p : Instr × Nat × Bool} (hp : p ∈ [(Instr.newelLockstepMismatch t, 0, true), (Instr.newelSramEccError t, 7, true), (Instr.newelClkFailure t, 1, false)]) :
    ∃ u, exec p.1 s = .next u ∧ u.newel.faultCause = s.newel.faultCause ||| 2 ^ p.2.1 ∧ (s.newel.faultCause.testBit p.2.1 = false → Raised s u 0x0A01) ∧
      (s.newel.running = true → u.newel.pins = { s.newel.pins with fault := true, safeState := true, planOk := false } ∧ u.newel.running = p.2.2) ∧
      (∀ (d : Nat) (c : ClockDomain), s.clocks[d]? = some c → u.clocks[d]? = some (if p.2.2 = false ∧ clockSource d = .newelClk then { c with running := false } else c)) ∧
      u = { s.at t with clocks := u.clocks, newel := { s.newel with pins := u.newel.pins, faultCause := u.newel.faultCause, running := u.newel.running }
                        dict := u.dict, host := u.host, group := s.group.links u.group, events := u.events, wire := u.wire } := by
  have newel := (s.at t).newelFault_newel p.2.1 p.2.2
  refine ⟨_, exec_newelFault s t hp, by rw [newel]; rfl, fun fresh => (s.at t).raised_newelFault p.2.2 fresh, fun runs => ?_, fun d c hc => (s.at t).newelFault_clocks p.2.1 p.2.2 hc, ?_⟩
  · have runs : (s.at t).newel.running = true := runs
    rw [newel, runs, Bool.true_and]
    exact ⟨if_pos runs, rfl⟩
  · refine Eq.trans ((s.at t).newelFault_frame p.2.1 p.2.2) ?_
    rw [newel]
    rfl

/-- Settles O43, command by command: the clock monitor, the Newel's errors, the stores' errors and scrubs, a lost channel and its spare. -/
theorem hardwareErrorsAreReportedAndContained : Obligations.HardwareErrorsAreReportedAndContained := by
  unfold Obligations.HardwareErrorsAreReportedAndContained
  intro s t n
  refine ⟨fun measured jtag => exec_clockMonitorWindow s t measured jtag, fun p hp => exec_newelFault_effect s t hp, exec_uncorrectedHallError_none s t, fun r h => exec_uncorrectedHallError s t h,
    fun h sorted => ?_, fun sorted p hp => exec_correctedErrorEvent_link s t sorted hp, fun flips a b => ?_, fun c => exec_channelLoss s t, fun role => exec_journalRereplicationDone s t⟩
  · exact ⟨exec_correctedErrorEvent s t h sorted, fun found clean => exec_patrolScrub_clean s t h clean, fun single found any all => exec_patrolScrub_corrected s t h sorted any all,
      fun single found any k => exec_patrolScrub_uncorrected s t h k single any⟩
  · exact ⟨fun h => eccOutcome_block h, fun h k => ⟨eccOutcome_single n a, eccOutcome_pair h k⟩⟩

end Sys2Proof.Machine
end

section
/-!
SUPPORT. The stores in their canonical form, as one predicate of the state, and what keeps it.
-/
namespace Sys2Proof.Machine
open Sys2Proof

set_option Elab.async false

/-- The dictionary's tables are in order. -/
structure Dict.Ordered (d : Dict) : Prop where
  active : alSorted d.active = true
  shadow : alSorted d.shadow = true
  saved : alSorted d.saved = true
  saturated : alSorted d.saturated = true
  unsaved : ∀ x, d.unsaved = some x → alSorted x.1 = true

/-- The registers of a processor are whole, and its memories in order: `RegistersWhole` with a name for each part. -/
structure Invocation.Whole (v : Invocation) : Prop where
  general : v.g.length = 64
  first : v.first.length = 8
  vectors : v.v.length = 16
  lanes : ∀ x ∈ v.v, x.length = 8
  predicates : v.p.length = 8
  acc : v.acc.length = 32
  tally : memWf v.tally = true
  mem : memWf v.mem = true

theorem Invocation.whole_iff (v : Invocation) : v.Whole ↔ RegistersWhole v :=
  ⟨fun h => ⟨⟨h.general, h.first, h.vectors, h.lanes, h.predicates, h.acc⟩, h.tally, h.mem⟩,
    fun ⟨⟨general, first, vectors, lanes, predicates, acc⟩, tally, mem⟩ => ⟨general, first, vectors, lanes, predicates, acc, tally, mem⟩⟩

/-- The stores are in order: `StoresInOrder` with a name for each part. -/
structure State.Ordered (s : State) : Prop where
  dict : s.dict.Ordered
  courses : alSorted s.newel.courses = true
  buffer : memWf s.host.buffer = true
  msix : memWf s.host.msix = true
  tallies : ∀ x ∈ s.boot.tallies, memWf x.2 = true
  streams : ∀ x ∈ s.world.streams, memWf x.working = true
  eng : s.eng.Whole
  sorted : alSorted s.processors = true
  processors : ∀ x ∈ s.processors, x.2.Whole

theorem State.ordered_iff (s : State) : s.Ordered ↔ StoresInOrder s :=
  ⟨fun h => ⟨h.dict.active, h.dict.shadow, h.dict.saved, h.dict.saturated, h.dict.unsaved, h.courses, h.buffer, h.msix, h.tallies, h.streams, (Invocation.whole_iff _).1 h.eng, h.sorted, fun x hx => (Invocation.whole_iff _).1 (h.processors x hx)⟩,
    fun ⟨active, shadow, saved, saturated, unsaved, courses, buffer, msix, tallies, streams, eng, sorted, processors⟩ =>
      ⟨⟨active, shadow, saved, saturated, unsaved⟩, courses, buffer, msix, tallies, streams, (Invocation.whole_iff _).2 eng, sorted, fun x hx => (Invocation.whole_iff _).2 (processors x hx)⟩⟩

/-- The parts of the state that `Ordered` speaks of. -/
def State.stores (s : State) := (s.dict, s.newel.courses, s.host.buffer, s.host.msix, s.boot.tallies, s.world.streams, s.eng, s.processors)

variable {s : State}

/-- A state with the same stores. -/
theorem State.Ordered.keep {t : State} (h : s.Ordered) (e : t.stores = s.stores := by rfl) : t.Ordered := by
  simp only [State.stores, Prod.mk.injEq] at e
  obtain ⟨dict, courses, buffer, msix, tallies, streams, eng, processors⟩ := e
  exact ⟨dict ▸ h.dict, courses ▸ h.courses, buffer ▸ h.buffer, msix ▸ h.msix, tallies ▸ h.tallies, streams ▸ h.streams, eng ▸ h.eng, processors ▸ h.sorted, processors ▸ h.processors⟩

theorem State.Ordered.ite {c : Prop} [Decidable c] {a b : State} (h : a.Ordered) (k : b.Ordered) : (if c then a else b).Ordered := by split <;> assumption

theorem State.Ordered.iteSnd {α : Type} {c : Prop} [Decidable c] {a b : α × State} (h : a.2.Ordered) (k : b.2.Ordered) : (if c then a else b).2.Ordered := by split <;> assumption

theorem State.Ordered.foldl {α : Type} {f : State → α → State} {xs : List α} (h : s.Ordered) (k : ∀ s x, s.Ordered → (f s x).Ordered) : (xs.foldl f s).Ordered :=
  State.foldl_inv f k xs s h

/-- What a command leaves, where it leaves a state, is in order. -/
def NextOrdered : Host.Outcome State Fault Refusal → Prop
  | .next t => t.Ordered
  | _ => True

/-- The state of a pair that is taken apart. -/
theorem State.Ordered.of {α : Type} {p : α × State} {a : α} {t : State} (e : p = (a, t)) (h : p.2.Ordered) : t.Ordered := by
  subst e
  exact h

theorem State.Ordered.mapStreams (h : s.Ordered) {f : Stream → Stream} (k : ∀ x, memWf x.working = true → memWf (f x).working = true) :
    ∀ x ∈ s.world.streams.map f, memWf x.working = true := by
  intro x hx
  obtain ⟨y, hy, rfl⟩ := List.mem_map.1 hx
  exact k y (h.streams y hy)

theorem State.Ordered.after {a b : State} (h : a.Ordered) (k : a.Ordered → b.Ordered) : b.Ordered := k h

/-! The dictionary's tables -/

theorem Dict.Ordered.setActive {d : Dict} (h : d.Ordered) (idx sub : Nat) (v : Value) : (d.setActive idx sub v).Ordered :=
  { h with active := Dict.setActive_sorted d idx sub v h.active }

theorem Dict.Ordered.bump {d : Dict} (h : d.Ordered) (idx sub n : Nat) : (d.bump idx sub n).1.Ordered := by
  obtain ⟨active, saturated, same⟩ := Dict.bump_sorted d idx sub n h.active h.saturated
  exact { active, saturated, shadow := by rw [same]; exact h.shadow, saved := by rw [same]; exact h.saved, unsaved := by rw [same]; exact h.unsaved }

/-- A fact that each step of a fold over a dictionary keeps. -/
theorem Dict.Ordered.foldl {α : Type} {d : Dict} {f : Dict → α → Dict} {xs : List α} (h : d.Ordered) (k : ∀ d x, d.Ordered → (f d x).Ordered) : (xs.foldl f d).Ordered := by
  induction xs generalizing d with
  | nil => exact h
  | cons x xs ih => exact ih (k d x h)

theorem Dict.Ordered.clearCounters {d : Dict} (h : d.Ordered) (idx mask : Nat) : (d.clearCounters idx mask).Ordered := by
  have cleared : ((List.range 64).foldl (fun d i => if mask.testBit i then { d with active := alErase (objKey idx (i + 1)) d.active } else d) d).Ordered :=
    h.foldl fun d i h => by split; exacts [{ h with active := alSorted_alErase _ h.active }, h]
  refine { cleared with saturated := ?_ }
  unfold Dict.clearCounters
  dsimp only
  split
  · exact alSorted_alErase _ cleared.saturated
  · exact alSorted_alSet _ _ cleared.saturated

/-- A table filled by a fold. -/
theorem alSorted_foldl {α β : Type} {f : List (Nat × α) → β → List (Nat × α)} {xs : List β} {m : List (Nat × α)} (h : alSorted m = true)
    (k : ∀ m x, alSorted m = true → alSorted (f m x) = true) : alSorted (xs.foldl f m) = true := by
  induction xs generalizing m with
  | nil => exact h
  | cons x xs ih => exact ih (k m x h)

/-! Tables of memories and of registers -/

theorem mem_alSet {α : Type} {k : Nat} {v : α} {m : List (Nat × α)} {x : Nat × α} (h : x ∈ alSet k v m) : x = (k, v) ∨ x ∈ m := by
  induction m with
  | nil => simpa [alSet] using h
  | cons y rest ih =>
    obtain ⟨j, w⟩ := y
    by_cases l : k < j
    · simpa [alSet, l] using h
    · by_cases e : j = k
      · subst e
        simp only [alSet, lt_irrefl, if_false, beq_self_eq_true, if_true, List.mem_cons] at h
        exact h.imp_right (List.mem_cons_of_mem _)
      · simp only [alSet, l, beq_iff_eq, e, if_false, List.mem_cons] at h
        rcases h with h | h
        · exact .inr (h ▸ List.mem_cons_self ..)
        · exact (ih h).imp_right (List.mem_cons_of_mem _)

theorem mem_of_alGet {α : Type} {k : Nat} {v : α} {m : List (Nat × α)} (h : alGet k m = some v) : (k, v) ∈ m := by
  induction m with
  | nil => simp [alGet] at h
  | cons y rest ih =>
    obtain ⟨j, w⟩ := y
    by_cases e : j = k
    · simp only [alGet, e, beq_self_eq_true, if_true, Option.some.injEq] at h
      exact e ▸ h ▸ List.mem_cons_self ..
    · simp only [alGet, beq_iff_eq, e, if_false] at h
      exact List.mem_cons_of_mem _ (ih h)

/-- What holds of each value of a table holds of each when one more is set. -/
theorem forall_mem_alSet {α : Type} {P : α → Prop} {m : List (Nat × α)} (h : ∀ x ∈ m, P x.2) (k : Nat) {v : α} (hv : P v) : ∀ x ∈ alSet k v m, P x.2 := by
  intro x hx
  rcases mem_alSet hx with rfl | hx
  · exact hv
  · exact h x hx

theorem forall_mem_alErase {α : Type} {P : α → Prop} {m : List (Nat × α)} (h : ∀ x ∈ m, P x.2) (k : Nat) : ∀ x ∈ alErase k m, P x.2 := fun x hx => h x ((alErase_sublist k m).subset hx)

theorem forall_mem_modAt {α : Type} {P : α → Prop} {xs : List α} (h : ∀ x ∈ xs, P x) (n : Nat) {f : α → α} (k : ∀ x, P x → P (f x)) : ∀ x ∈ modAt xs n f, P x := by
  intro x hx
  unfold modAt at hx
  split at hx
  next v hv =>
    rcases List.mem_or_eq_of_mem_set hx with hx | rfl
    · exact h x hx
    · exact k v (h v (List.mem_of_getElem? hv))
  · exact h x hx

theorem Invocation.Whole.initial : Invocation.initial.Whole := (Invocation.whole_iff _).2 (by decide)

theorem State.Ordered.processor (h : s.Ordered) (n : Nat) : (s.processor n).Whole := by
  unfold State.processor
  split
  · exact h.eng
  · cases e : alGet n s.processors with
    | none => exact Invocation.Whole.initial
    | some v => exact h.processors _ (mem_of_alGet e)

/-! Engine instructions keep the registers whole -/

section
variable {v : Invocation} (h : v.Whole)
include h

/-- An invocation with the same registers and memories. -/
theorem Invocation.Whole.keep {w : Invocation} (e : (w.g, w.first, w.v, w.p, w.acc, w.tally, w.mem) = (v.g, v.first, v.v, v.p, v.acc, v.tally, v.mem) := by rfl) : w.Whole := by
  simp only [Prod.mk.injEq] at e
  obtain ⟨g, first, vectors, p, acc, tally, mem⟩ := e
  exact ⟨g ▸ h.general, first ▸ h.first, vectors ▸ h.vectors, vectors ▸ h.lanes, p ▸ h.predicates, acc ▸ h.acc, tally ▸ h.tally, mem ▸ h.mem⟩

theorem Invocation.Whole.setG (r : Nat) (x : Word) : (v.setG r x).Whole := by
  unfold Invocation.setG
  split
  · exact h
  · exact { h with general := (List.length_set ..).trans h.general }

theorem Invocation.Whole.setP (r : Nat) (x : Bool) : (v.setP r x).Whole := by
  unfold Invocation.setP
  split
  · exact h
  · exact { h with predicates := (List.length_set ..).trans h.predicates }

theorem Invocation.Whole.setV (r : Nat) {x : List Word} (hx : x.length = 8) : (v.setV r x).Whole := by
  refine { h with vectors := (List.length_set ..).trans h.vectors, lanes := fun y hy => ?_ }
  rcases List.mem_or_eq_of_mem_set hy with hy | rfl
  · exact h.lanes y hy
  · exact hx

theorem Invocation.Whole.getV_length (r : Nat) : (v.getV r).length = 8 := by
  unfold Invocation.getV
  cases e : v.v[r]? with
  | none => rfl
  | some x => exact h.lanes x (List.mem_of_getElem? e)

theorem Invocation.Whole.withMem {m : List Host.Cell} (hm : memWf m = true) : ({ v with mem := m } : Invocation).Whole := { h with mem := hm }

theorem Invocation.Whole.withTally {m : List Host.Cell} (hm : memWf m = true) : ({ v with tally := m } : Invocation).Whole := { h with tally := hm }

theorem Invocation.Whole.goto (pc : Nat) : (v.goto pc).Whole := h.keep
theorem Invocation.Whole.next : v.next.Whole := h.keep
theorem Invocation.Whole.fault : v.fault.Whole := h.keep
theorem Invocation.Whole.endWith (code : Nat) : (v.endWith code).Whole := h.keep

theorem Invocation.Whole.when {f : Invocation → Invocation} (pred : BitVec 3) (hf : v.Whole → (f v).Whole) : (v.when pred f).Whole := by
  unfold Invocation.when
  split
  · exact hf h
  · exact h.next

theorem Invocation.Whole.storeLocal (a : Nat) (bytes : List Byte) : (v.storeLocal a bytes).Whole := by
  have stored : ({ v with mem := memWriteBytes v.mem a bytes } : Invocation).Whole := h.withMem (memWf_memWriteBytes _ _ h.mem)
  unfold Invocation.storeLocal
  dsimp only
  split
  · exact h.fault
  split
  · split
    · exact stored.next
    · exact h.fault
  · split
    · exact stored.next
    · split
      · exact h.keep
      · exact h.fault

theorem Invocation.Whole.atomic (op : AtomicOp) (a operand : Nat) : (v.atomic op a operand).Whole := by
  unfold Invocation.atomic
  split
  · exact (h.withTally (memWf_memWriteNat _ _ _ h.tally)).next
  · exact h.fault

theorem Invocation.Whole.setPair (rd : BitVec 6) (p : F32 × F32) : (v.setPair rd p).Whole := ((h.setG ..).setG ..).next

/-- The registers as an invocation finds them as it begins. -/
theorem Invocation.Whole.begin {regs : List Word} (hr : regs.length = 64) : (v.begin regs).Whole := by
  exact { h with
    general := hr
    first := by simp [Invocation.begin, hr]
    vectors := by simp [Invocation.begin]
    lanes := by simp [Invocation.begin]
    predicates := by simp [Invocation.begin] }

theorem Invocation.Whole.treadAt (env : EngEnv) (pose : Nat) : (v.treadAt env pose).Whole := Invocation.Whole.begin (v := { v with pose := pose }) h.keep rfl

theorem Invocation.Whole.resume (env : EngEnv) : (v.resume env).Whole := by
  have cleared : ({ v with acc := List.replicate 32 0#32, merit := none, mem := [] } : Invocation).Whole := { h with acc := rfl, mem := rfl }
  unfold Invocation.resume
  split
  · exact h
  · split
    · exact h.treadAt ..
    · exact cleared.treadAt ..
  · exact cleared.treadAt ..
  · exact Invocation.Whole.begin (v := { v with output := [] }) h.keep (by simp [h.first])

theorem Invocation.Whole.ialu (rd ra rb : BitVec 6) (pred : BitVec 3) (fn : BitVec 5) : (engIalu rd ra rb pred fn v).Whole := by unfold engIalu; exact h.when _ fun h => (h.setG ..).next
theorem Invocation.Whole.icmp (rd ra rb : BitVec 6) (pred : BitVec 3) (fn : BitVec 5) : (engIcmp rd ra rb pred fn v).Whole := by unfold engIcmp; exact h.when _ fun h => (h.setP ..).next
theorem Invocation.Whole.falu (rd ra rb : BitVec 6) (pred : BitVec 3) (fn : BitVec 5) : (engFalu rd ra rb pred fn v).Whole := by unfold engFalu; exact h.when _ fun h => (h.setG ..).next
theorem Invocation.Whole.fcmp (rd ra rb : BitVec 6) (pred : BitVec 3) (fn : BitVec 5) : (engFcmp rd ra rb pred fn v).Whole := by unfold engFcmp; exact h.when _ fun h => (h.setP ..).next
theorem Invocation.Whole.plog (rd ra rb : BitVec 6) (pred : BitVec 3) (fn : BitVec 5) : (engPlog rd ra rb pred fn v).Whole := by unfold engPlog; exact h.when _ fun h => (h.setP ..).next
theorem Invocation.Whole.crc32c (rd ra rb : BitVec 6) (pred : BitVec 3) (fn : BitVec 5) : (engCrc32c rd ra rb pred fn v).Whole := by unfold engCrc32c; exact h.when _ fun h => (h.setG ..).next
theorem Invocation.Whole.bswap32 (rd ra : BitVec 6) (pred : BitVec 3) : (engBswap32 rd ra pred v).Whole := by unfold engBswap32; exact h.when _ fun h => (h.setG ..).next
theorem Invocation.Whole.bswap16 (rd ra : BitVec 6) (pred : BitVec 3) : (engBswap16 rd ra pred v).Whole := by unfold engBswap16; exact h.when _ fun h => (h.setG ..).next
theorem Invocation.Whole.addi (rd ra : BitVec 6) (imm : BitVec 14) : (engAddi rd ra imm v).Whole := by unfold engAddi; exact (h.setG ..).next
theorem Invocation.Whole.ori (rd ra : BitVec 6) (imm : BitVec 14) : (engOri rd ra imm v).Whole := by unfold engOri; exact (h.setG ..).next
theorem Invocation.Whole.andi (rd ra : BitVec 6) (imm : BitVec 14) : (engAndi rd ra imm v).Whole := by unfold engAndi; exact (h.setG ..).next
theorem Invocation.Whole.lui (rd : BitVec 6) (imm : BitVec 20) : (engLui rd imm v).Whole := by unfold engLui; exact (h.setG ..).next
theorem Invocation.Whole.bfx (rd ra : BitVec 6) (pos widthLess1 : BitVec 5) : (engBfx rd ra pos widthLess1 v).Whole := by unfold engBfx; exact (h.setG ..).next
theorem Invocation.Whole.stwS (rd ra : BitVec 6) (imm : BitVec 14) : (engStwS rd ra imm v).Whole := by unfold engStwS; exact h.storeLocal ..
theorem Invocation.Whole.vstS (rd ra : BitVec 6) (imm : BitVec 14) : (engVstS rd ra imm v).Whole := by unfold engVstS; exact h.storeLocal ..
theorem Invocation.Whole.atomAddI32 (ra rb : BitVec 6) (pred : BitVec 3) : (engAtomAddI32 ra rb pred v).Whole := by unfold engAtomAddI32; exact h.when _ fun h => h.atomic ..
theorem Invocation.Whole.atomAddI64 (ra rb : BitVec 6) (pred : BitVec 3) : (engAtomAddI64 ra rb pred v).Whole := by unfold engAtomAddI64; exact h.when _ fun h => h.atomic ..
theorem Invocation.Whole.atomAddU16q7s (ra rb : BitVec 6) (pred : BitVec 3) : (engAtomAddU16q7s ra rb pred v).Whole := by unfold engAtomAddU16q7s; exact h.when _ fun h => h.atomic ..
theorem Invocation.Whole.yield (pred : BitVec 3) : (engYield pred v).Whole := by unfold engYield; exact h.when _ fun h => h.keep

theorem Invocation.Whole.valu (rd ra rb : BitVec 6) (pred : BitVec 3) (fn : BitVec 5) : (engValu rd ra rb pred fn v).Whole := by
  refine h.when pred fun h => Invocation.Whole.next ?_
  split
  · exact h.setV _ rfl
  · exact h.setG ..
  · exact h.setV _ ((List.length_set ..).trans (h.getV_length _))
  · exact h.setG ..
  · exact h.setG ..
  · exact h.setV _ (by simp [h.getV_length])

theorem Invocation.Whole.ldwS (rd ra : BitVec 6) (imm : BitVec 14) : (engLdwS rd ra imm v).Whole := by
  unfold engLdwS
  split
  · exact (h.setG ..).next
  · exact h.fault

theorem Invocation.Whole.vldS (rd ra : BitVec 6) (imm : BitVec 14) : (engVldS rd ra imm v).Whole := by
  unfold engVldS
  split
  · exact (h.setV _ (by simp [wordsLE])).next
  · exact h.fault

theorem Invocation.Whole.ldwT (env : EngEnv) (rd ra : BitVec 6) (imm : BitVec 14) : (engLdwT env rd ra imm v).Whole := by
  unfold engLdwT
  dsimp only
  split
  · exact h.fault
  split
  · exact (h.keep.setG ..).next
  · exact h.keep

theorem Invocation.Whole.ldwH (rd ra : BitVec 6) (imm : BitVec 14) : (engLdwH rd ra imm v).Whole := by
  unfold engLdwH
  dsimp only
  split
  · exact (h.setG ..).next
  · exact h.fault

theorem Invocation.Whole.atomAddF32 (ra rb : BitVec 6) (pred : BitVec 3) : (engAtomAddF32 ra rb pred v).Whole := by
  refine h.when pred fun h => ?_
  have added := h.atomic .addF32 (v.getG ra.toNat).toNat (v.getG rb.toNat).toNat
  dsimp only
  split
  · exact added
  · exact added.keep

theorem Invocation.Whole.poseSphere (env : EngEnv) (rd ra : BitVec 6) (pred : BitVec 3) : (engPoseSphere env rd ra pred v).Whole := by
  refine h.when pred fun h => ?_
  split
  · exact h.fault
  · exact h.setPair ..

theorem Invocation.Whole.poseAxle (env : EngEnv) (rd ra : BitVec 6) (pred : BitVec 3) : (engPoseAxle env rd ra pred v).Whole := by
  refine h.when pred fun h => ?_
  split
  · exact h.fault
  · exact h.setPair ..

theorem Invocation.Whole.query (env : EngEnv) (rd ra rb : BitVec 6) (pred : BitVec 3) : (engQuery env rd ra rb pred v).Whole := by
  refine h.when pred fun h => ?_
  dsimp only
  split
  · exact h.fault
  split
  · exact h.keep
  split
  · exact (h.keep.setG ..).next
  split
  · exact (h.keep.setG ..).next
  · exact h.keep

theorem Invocation.Whole.lookup (env : EngEnv) (rd ra rb : BitVec 6) (pred : BitVec 3) : (engLookup env rd ra rb pred v).Whole := by
  refine h.when pred fun h => ?_
  dsimp only
  split
  · exact h.fault
  split
  · exact h.endWith 7
  split
  · exact (h.setG ..).next
  split
  · exact (h.keep.setG ..).next
  · exact h.keep

theorem Invocation.Whole.accumulate (ra : BitVec 6) (pred : BitVec 3) (fn : BitVec 5) : (engAcc ra pred fn v).Whole := by
  refine h.when pred fun h => ?_
  have added (x : Word) : ({ v with acc := setAt v.acc fn.toNat x } : Invocation).Whole := { h with acc := (List.length_set ..).trans h.acc }
  dsimp only
  split
  · exact (added _).next
  · exact (added _).endWith 7

theorem Invocation.Whole.merit (ra : BitVec 6) (pred : BitVec 3) : (engMerit ra pred v).Whole := by
  refine h.when pred fun h => ?_
  split
  · exact h.keep
  · exact h.fault

theorem Invocation.Whole.scg (env : EngEnv) (rd rb : BitVec 6) (pred : BitVec 3) : (engScg env rd rb pred v).Whole :=
  h.when pred fun h => ((((h.setG ..).setG ..).setG ..).setG ..).next

theorem Invocation.Whole.br (pred : BitVec 3) (inv : Bool) (offset : BitVec 12) : (engBr pred inv offset v).Whole := by
  unfold engBr
  split
  · exact h.goto _
  · exact h.next

theorem Invocation.Whole.loop (rs : BitVec 6) (body bound : BitVec 10) : (engLoop rs body bound v).Whole := by
  unfold engLoop
  dsimp only
  split
  · exact h.fault
  split
  · exact h.goto _
  · exact h.keep

theorem Invocation.Whole.reject (ra : BitVec 6) (pred : BitVec 3) (code : BitVec 8) : (engReject ra pred code v).Whole := by
  refine h.when pred fun h => ?_
  extract_lets c
  split
  · exact h.endWith _
  · exact h.fault

/-- Every engine instruction keeps the registers whole. -/
theorem Invocation.Whole.op (env : EngEnv) (i : Instr) : (engOp env i v).Whole := by
  cases i
  case ialu => exact h.ialu ..
  case icmp => exact h.icmp ..
  case falu => exact h.falu ..
  case fcmp => exact h.fcmp ..
  case valu => exact h.valu ..
  case plog => exact h.plog ..
  case bswap32 => exact h.bswap32 ..
  case bswap16 => exact h.bswap16 ..
  case crc32c => exact h.crc32c ..
  case addi => exact h.addi ..
  case ori => exact h.ori ..
  case andi => exact h.andi ..
  case lui => exact h.lui ..
  case bfx => exact h.bfx ..
  case ldwS => exact h.ldwS ..
  case stwS => exact h.stwS ..
  case vldS => exact h.vldS ..
  case vstS => exact h.vstS ..
  case ldwT => exact h.ldwT ..
  case ldwH => exact h.ldwH ..
  case atomAddI32 => exact h.atomAddI32 ..
  case atomAddI64 => exact h.atomAddI64 ..
  case atomAddU16q7s => exact h.atomAddU16q7s ..
  case atomAddF32 => exact h.atomAddF32 ..
  case poseSphere => exact h.poseSphere ..
  case poseAxle => exact h.poseAxle ..
  case query => exact h.query ..
  case lookup => exact h.lookup ..
  case acc => exact h.accumulate ..
  case merit => exact h.merit ..
  case scg => exact h.scg ..
  case br => exact h.br ..
  case loop => exact h.loop ..
  case yield => exact h.yield ..
  case reject => exact h.reject ..
  all_goals exact h

/-- A whole run keeps the registers whole. -/
theorem Invocation.Whole.run (env : EngEnv) (fuel : Nat) : (engRun env fuel v).Whole := by
  induction fuel generalizing v with
  | zero => exact h.fault
  | succ fuel ih =>
    unfold engRun
    split
    · exact h
    split
    · exact h.fault
    split
    · exact h.fault
    · exact ih (h.op ..)

end

/-! Dictionary -/

theorem State.Ordered.setObj (h : s.Ordered) (idx sub n : Nat) : (s.setObj idx sub n).Ordered := { h with dict := h.dict.setActive .. }

/-! Ops -/

theorem State.Ordered.at (h : s.Ordered) (t : Nat) : (s.at t).Ordered :=
  h.keep

theorem State.Ordered.atTick (h : s.Ordered) (t : Nat) : (s.atTick t).Ordered :=
  h.keep

theorem State.Ordered.atTime (h : s.Ordered) (t : Nat) : (s.atTime t).Ordered :=
  h.keep

theorem State.Ordered.send (h : s.Ordered) (m : WireMsg) : (s.send m).Ordered :=
  h.keep

theorem State.Ordered.draw (h : s.Ordered) : s.draw.2.Ordered :=
  h.keep

theorem State.Ordered.setQp (h : s.Ordered) (n : Nat) (q : QueuePair) : (s.setQp n q).Ordered :=
  h.keep

theorem State.Ordered.modPort (h : s.Ordered) (p : Nat) (f : PeerPort → PeerPort) : (s.modPort p f).Ordered :=
  h.keep

theorem State.Ordered.sendQp (h : s.Ordered) (n priority : Nat) (m : WireMsg) : (s.sendQp n priority m).Ordered :=
  have h := h.ite (h.modPort ..)
  have h := h.setQp ..
  h.ite (h.send ..)

theorem State.Ordered.sendInput (h : s.Ordered) (p : Nat) (m : WireMsg) : (s.sendInput p m).Ordered :=
  (h.modPort ..).ite (h.send ..)

theorem State.Ordered.setRing (h : s.Ordered) (r : Nat) (x : Ring) : (s.setRing r x).Ordered :=
  h.keep

theorem State.Ordered.setUdp (h : s.Ordered) (c : Nat) (u : UdpClient) : (s.setUdp c u).Ordered :=
  h.keep

theorem State.Ordered.sendMgmt (h : s.Ordered) (m : WireMsg) : (s.sendMgmt m).Ordered :=
  h.ite (h.send ..)

theorem State.Ordered.sendRecords (h : s.Ordered) (c : Nat) (records : List (List Byte)) : (s.sendRecords c records).Ordered := by
  unfold State.sendRecords
  dsimp only
  split
  · exact
      have h := h.setUdp ..
      (h.sendMgmt ..).ite (h.sendInput ..)
  exact h

theorem State.Ordered.deliverEntry (h : s.Ordered) (r index : Nat) (bytes : List Byte) : (s.deliverEntry r index bytes).Ordered := by
  unfold State.deliverEntry
  dsimp only
  split
  · split
    · exact { h with buffer := memWf_memWriteBytes _ _ h.buffer }
    · exact h.send ..
  · exact h.sendQp ..
  · exact ((h.setUdp ..).ite h).sendRecords ..

theorem State.Ordered.moderate (h : s.Ordered) (r : Nat) (atOnce : Bool) : (s.moderate r atOnce).Ordered := by
  unfold State.moderate
  split
  · exact h
  exact ((h.setRing ..).send ..).ite (h.setRing ..)

theorem State.Ordered.ringPush (h : s.Ordered) (r : Nat) (mk : Bool → List Byte) (atOnce : Bool) : (s.ringPush r mk atOnce).Ordered := by
  unfold State.ringPush
  split
  · exact h
  exact (h.setRing ..).ite (((h.setRing ..).deliverEntry ..).moderate ..)

theorem State.Ordered.ringResumes (h : s.Ordered) (r : Nat) (st : RingState) : (s.ringResumes r st).Ordered := by
  unfold State.ringResumes
  split
  · exact h
  exact h.ite ((h.setRing ..).foldl fun _ _ h => (h.deliverEntry ..).moderate ..)

theorem State.Ordered.offerEvent (h : s.Ordered) (r : Nat) (e : EventRec) : (s.offerEvent r e).Ordered := by
  unfold State.offerEvent
  split
  · exact h
  split
  · exact h.ringPush ..
  split
  · exact h.setRing ..
  · exact { h with dict := h.dict.bump .. }

theorem State.Ordered.emit (h : s.Ordered) (frame code arg arg2 : Nat) : (s.emit frame code arg arg2).Ordered :=
  h.keep.foldl fun _ _ h => h.offerEvent ..

theorem State.Ordered.raiseFor (h : s.Ordered) (frame code arg arg2 : Nat) : (s.raiseFor frame code arg arg2).Ordered :=
  have h := h.emit ..
  (h.emit ..).ite h

theorem State.Ordered.raise (h : s.Ordered) (code arg : Nat) : (s.raise code arg).Ordered :=
  h.raiseFor ..

theorem State.Ordered.raiseOpen (h : s.Ordered) (frame code : Nat) : (s.raiseOpen frame code).Ordered :=
  h.raiseFor ..

theorem State.Ordered.count (h : s.Ordered) (idx sub n : Nat) : (s.count idx sub n).Ordered :=
  have bumped : State.Ordered { s with dict := (s.dict.bump idx sub n).1 } := { h with dict := h.dict.bump .. }
  (bumped.raise ..).ite bumped

theorem State.Ordered.drainEvents (h : s.Ordered) (n r : Nat) : (State.drainEvents n r s).Ordered := by
  induction n generalizing s with
  | zero => exact h
  | succ n ih =>
    unfold State.drainEvents
    split
    · exact h
    split
    · exact h
    split
    · exact ih ((h.setRing ..).ringPush ..)
    · exact h.ite ((h.setRing ..).ringPush ..)

theorem State.Ordered.signalStatus (h : s.Ordered) : s.signalStatus.Ordered := by
  unfold State.signalStatus
  dsimp only
  split
  · exact h
  exact
    have h := h.keep
    (h.send ..).ite h

theorem State.Ordered.setPads (h : s.Ordered) (f : Pins → Pins) : (s.setPads f).Ordered :=
  h.keep

theorem State.Ordered.setPins (h : s.Ordered) (f : Pins → Pins) : (s.setPins f).Ordered :=
  h.keep.signalStatus.ite h

theorem State.Ordered.deviceFault (h : s.Ordered) (cause : Nat) : (s.deviceFault cause).Ordered :=
  have h := h.keep
  have h := h.setPins ..
  (h.raise ..).ite h

theorem State.Ordered.setCause (h : s.Ordered) (cause : Nat) : (s.setCause cause).Ordered :=
  have h := h.keep
  (((h.count ..).raise ..).signalStatus).ite h

theorem State.Ordered.dropCauses (h : s.Ordered) (mask : Nat) : (s.dropCauses mask).Ordered :=
  have h := h.keep
  ((h.raiseOpen ..).signalStatus).ite h

theorem State.Ordered.clearCause (h : s.Ordered) (cause : Nat) : (s.clearCause cause).Ordered :=
  h.ite (h.keep.ite (h.dropCauses ..))

theorem State.Ordered.modWork (h : s.Ordered) (frame : Nat) (f : FrameWork → FrameWork) : (s.modWork frame f).Ordered :=
  h.keep

theorem State.Ordered.frameStatus (h : s.Ordered) (frame n : Nat) : (s.frameStatus frame n).Ordered :=
  h.modWork ..

theorem State.Ordered.maskBit (h : s.Ordered) (frame bit : Nat) : (s.maskBit frame bit).Ordered := by
  unfold State.maskBit
  split
  · exact h.modWork ..
  exact h.keep

theorem State.Ordered.choice (h : s.Ordered) (frame bit : Nat) (once : Bool) : (s.choice frame bit once).Ordered :=
  h.ite (((h.maskBit ..).count ..).count ..)

theorem State.Ordered.disturb (h : s.Ordered) (frame : Nat) : (s.disturb frame).Ordered :=
  h.ite ((h.maskBit ..).count ..)

theorem State.Ordered.setProcessor (h : s.Ordered) (n : Nat) {v : Invocation} (hv : v.Whole) : (s.setProcessor n v).Ordered := by
  unfold State.setProcessor
  split
  · exact { h with eng := hv }
  · exact { h with sorted := alSorted_alSet _ _ h.sorted, processors := forall_mem_alSet h.processors _ hv }

theorem State.Ordered.takeInHand (h : s.Ordered) (n : Nat) {v : Invocation} (hv : v.Whole) : (s.takeInHand n v).Ordered :=
  { h with
    eng := hv
    sorted := s.takeInHand_sorted n v h.sorted
    processors := by
      unfold State.takeInHand
      dsimp only
      split
      · exact h.processors
      · exact forall_mem_alErase (forall_mem_alSet h.processors _ h.eng) _ }

theorem State.Ordered.zeroScratchpad (h : s.Ordered) (e : Nat) : (s.zeroScratchpad e).Ordered :=
  h.setProcessor e { h.processor e with mem := rfl }

theorem State.Ordered.raiseOnce (h : s.Ordered) (frame code : Nat) : (s.raiseOnce frame code).Ordered := by
  unfold State.raiseOnce
  split
  · exact h.ite ((h.modWork ..).raiseOpen ..)
  exact h.raiseOpen ..

theorem State.Ordered.driveSafe (h : s.Ordered) : s.driveSafe.Ordered :=
  h.setPins ..

theorem State.Ordered.roleChanged (h : s.Ordered) : s.roleChanged.Ordered :=
  (h.setPins ..).driveSafe

/-! Items -/

theorem State.Ordered.remapLanes (h : s.Ordered) : s.remapLanes.Ordered := h.keep (by simp only [State.stores, State.remapLanes])

theorem State.Ordered.delayLoc (h : s.Ordered) (d release : Nat) : (s.delayLoc d release).2.Ordered :=
  .iteSnd h (h.count ..)

theorem State.Ordered.settleItems (h : s.Ordered) : s.settleItems.Ordered :=
  h.keep

theorem State.Ordered.addItem (h : s.Ordered) (n : NewItem) : (s.addItem n).Ordered := by
  unfold State.addItem
  extract_lets behind home
  refine State.Ordered.keep (s := Prod.snd (match behind, n.release with
    | some _, _ => (ItemLoc.chain home, s)
    | none, some r => s.delayLoc home r
    | none, none => (if s.inputsExist n.kind n.frame n.spec then .ready home else .waiting home true, s))) ?_
  split
  · exact h
  · exact h.delayLoc ..
  · exact h

theorem State.Ordered.modItem (h : s.Ordered) (serial : Nat) (f : Item → Item) : (s.modItem serial f).Ordered :=
  h.keep

theorem State.Ordered.chainTo (h : s.Ordered) (flow d : Nat) : (s.chainTo flow d).Ordered :=
  h.keep

theorem State.Ordered.advanceFlow (h : s.Ordered) (flow : Nat) : (s.advanceFlow flow).Ordered := by
  unfold State.advanceFlow
  split
  · exact h
  split
  · dsimp only
    split
    · exact ((h.chainTo ..).delayLoc ..).modItem ..
    exact (h.chainTo ..).modItem ..
  exact h

theorem State.Ordered.dropItem (h : s.Ordered) (serial : Nat) : (s.dropItem serial).Ordered := by
  unfold State.dropItem
  split
  · exact h
  dsimp only
  split
  · exact h.keep.advanceFlow ..
  exact h.keep

theorem State.Ordered.cancelItems (h : s.Ordered) (p : Item → Bool) : (s.cancelItems p).Ordered :=
  have h := h.keep
  h.foldl fun _ _ h => h.dropItem ..

theorem State.Ordered.commitItem (h : s.Ordered) (serial : Nat) : (s.commitItem serial).Ordered :=
  h.modItem ..

theorem State.Ordered.nextAtEngine (h : s.Ordered) (engine : Nat) : (s.nextAtEngine engine).Ordered := by
  unfold State.nextAtEngine
  split
  · exact h
  split
  · exact h.modItem ..
  exact h

theorem State.Ordered.modUnit (h : s.Ordered) (engine : Nat) (f : EngineUnit → EngineUnit) : (s.modUnit engine f).Ordered :=
  h.keep

/-! GroupOps -/

theorem State.Ordered.modPeer (h : s.Ordered) (c : Nat) (f : Peer → Peer) : (s.modPeer c f).Ordered :=
  h.keep

theorem State.Ordered.sendOn (h : s.Ordered) (p d kind : Nat) (last : Bool) (segment frame version : Nat) (payload : List Byte) : (s.sendOn p d kind last segment frame version payload).Ordered :=
  ((h.modPeer ..).sendQp ..).count ..

theorem State.Ordered.chargePeer (h : s.Ordered) (kind bytes : Nat) : (s.chargePeer kind bytes).Ordered :=
  h.keep.ite h

theorem State.Ordered.sendGroup (h : s.Ordered) (d kind : Nat) (last : Bool) (segment frame version : Nat) (payload : List Byte) : (s.sendGroup d kind last segment frame version payload).Ordered :=
  (h.sendOn ..).chargePeer ..

theorem State.Ordered.sendSegments_go (h : s.Ordered) (d kind frame version : Nat) (parts : List (List Byte)) (n : Nat) : (State.sendSegments.go d kind frame version parts n s).Ordered := by
  induction parts generalizing s n with
  | nil => exact h
  | cons b bs ih =>
    cases bs with
    | nil => exact h.sendGroup ..
    | cons c cs => exact ih (h.sendGroup ..) (n + 1)

theorem State.Ordered.sendSegments (h : s.Ordered) (d kind frame version : Nat) (payload : List Byte) : (s.sendSegments d kind frame version payload).Ordered :=
  h.sendSegments_go ..

/-! Stair -/

theorem State.Ordered.startReevals (h : s.Ordered) (frame : Nat) (laneOf : Nat → Nat) : (s.startReevals frame laneOf).Ordered := by
  unfold State.startReevals
  split
  · exact h
  exact h.foldl fun _ _ h => ((h.modWork ..).addItem ..).ite h

theorem State.Ordered.withdrawEntry (h : s.Ordered) (frame cid : Nat) : (s.withdrawEntry frame cid).Ordered :=
  (h.modWork ..).count ..

theorem State.Ordered.corruptEvent (h : s.Ordered) : s.corruptEvent.Ordered :=
  have h := h.keep
  (h.setCause ..).ite h

theorem State.Ordered.excludedEvent (h : s.Ordered) : s.excludedEvent.Ordered :=
  h.keep.setCause ..

theorem State.Ordered.integrityFault (h : s.Ordered) (frame cid : Nat) : (s.integrityFault frame cid).Ordered := by
  unfold State.integrityFault
  split
  · exact h
  exact
    have h := h.withdrawEntry ..
    have h := ((h.count ..).raiseOpen ..).frameStatus ..
    have h := h.corruptEvent
    ((((((h.modWork ..).count ..).raiseOpen ..).frameStatus ..).disturb ..).excludedEvent).ite ((h.modWork ..).startReevals ..)

theorem State.Ordered.mergeGallery (h : s.Ordered) (w : FrameWork) (g : Nat) (r : BlockRec) : (s.mergeGallery w g r).Ordered :=
  have h := h.modWork ..
  have h := h.ite (h.count ..)
  h.foldl fun _ _ h => h.integrityFault ..

theorem State.Ordered.mergeTop (h : s.Ordered) (w : FrameWork) : (s.mergeTop w).Ordered :=
  have h := h.modWork ..
  have h := h.ite (h.count ..)
  h.foldl fun _ _ h => h.integrityFault ..

theorem State.Ordered.rebuildLists (h : s.Ordered) (frame : Nat) : (s.rebuildLists frame).Ordered := by
  unfold State.rebuildLists
  split
  · exact h
  exact
    have h := h.modWork ..
    h.foldl fun _ _ h => h.integrityFault ..

/-! Blocks -/

theorem State.Ordered.addBlock (h : s.Ordered) (w : FrameWork) (firstId cls : Nat) (spec replay : Bool) : (s.addBlock w firstId cls spec replay).Ordered := by
  unfold State.addBlock
  exact h.addItem ..

theorem State.Ordered.issueBlock (h : s.Ordered) (frame firstId : Nat) : (s.issueBlock frame firstId).Ordered := by
  unfold State.issueBlock
  split
  · exact h
  exact (h.modWork ..).addBlock ..

theorem State.Ordered.issueBlocks (h : s.Ordered) (frame : Nat) (ids : List Nat) : (s.issueBlocks frame ids).Ordered :=
  h.foldl fun _ _ h => h.issueBlock ..

theorem State.Ordered.replayBlock (h : s.Ordered) (frame firstId : Nat) : (s.replayBlock frame firstId).Ordered := by
  unfold State.replayBlock
  split
  · exact h.ite (h.ite (h.ite (h.addBlock ..)))
  exact h

theorem State.Ordered.advanceRounds (h : s.Ordered) (fuel frame : Nat) : (State.advanceRounds fuel frame s).Ordered := by
  induction fuel generalizing s with
  | zero => exact h
  | succ fuel ih =>
    unfold State.advanceRounds
    split
    · exact h
    split
    · exact h
    split
    · exact h
    split
    · exact h
    have h := h.modWork frame
    dsimp only
    split
    · exact ih (State.Ordered.modWork ((((h _).count ..).raiseOpen ..).ite ((h _).issueBlocks ..)) ..)
    · exact h _

theorem State.Ordered.goRounds (h : s.Ordered) (frame : Nat) : (s.goRounds frame).Ordered := h.advanceRounds ..

theorem State.Ordered.withdrawBlocks (h : s.Ordered) (frame : Nat) (p : BlockRec → Bool) : (s.withdrawBlocks frame p).Ordered := by
  unfold State.withdrawBlocks
  split
  · exact h
  exact h.ite ((((h.cancelItems ..).modWork ..).count ..).count ..)

/-! EngineCmd -/

theorem State.Ordered.setTally (h : s.Ordered) (slot : Option Nat) {tally : List Host.Cell} (ht : memWf tally = true) : (s.setTally slot tally).Ordered := by
  unfold State.setTally
  split
  · exact { h with tallies := forall_mem_alSet (P := (memWf · = true)) h.tallies _ ht }
  · exact h

theorem State.Ordered.fpAtomicChoice (h : s.Ordered) (frame : Nat) (took : Bool) : (s.fpAtomicChoice frame took).Ordered :=
  (h.choice ..).ite h

theorem State.Ordered.abandonBlock (h : s.Ordered) (frame code mark : Nat) : (s.abandonBlock frame code mark).Ordered :=
  ((h.modWork ..).raiseOpen ..).count ..

theorem State.Ordered.abandonItem (h : s.Ordered) (engine : Nat) (i : Item) (code : Nat) : (s.abandonItem engine i code).Ordered :=
  (((h.modUnit ..).commitItem ..).abandonBlock ..).goRounds ..

theorem State.Ordered.breakPacket (h : s.Ordered) (n : Nat) : (s.breakPacket n).Ordered := { h with streams := forall_mem_modAt h.streams n fun _ h => h }

theorem State.Ordered.faultInHand (h : s.Ordered) : s.faultInHand.Ordered := by
  unfold State.faultInHand
  split
  · split
    · exact h.abandonItem ..
    exact h
  exact h.breakPacket ..

theorem State.Ordered.engSet (h : s.Ordered) {v : Invocation} (hv : v.Whole) : (s.engSet v).Ordered :=
  have set : State.Ordered { s with eng := v } := { h with eng := hv }
  set.faultInHand.ite set

theorem State.Ordered.engHere (h : s.Ordered) : s.engHere.Whole := h.eng.resume _

theorem State.Ordered.tallyOf (h : s.Ordered) (slot : Option Nat) : memWf (s.tallyOf slot) = true := by
  unfold State.tallyOf
  split
  next k =>
    cases e : alGet k s.boot.tallies with
    | none => rfl
    | some m => exact h.tallies _ (mem_of_alGet e)
  · rfl

theorem State.Ordered.engApply (h : s.Ordered) (i : Instr) {f : EngEnv → Invocation → Invocation} (k : ∀ env v, v.Whole → (f env v).Whole) : (s.engApply i f).Ordered :=
  (h.engSet (k _ _ h.engHere)).ite h

theorem State.Ordered.engTally (h : s.Ordered) (i : Instr) {f : Invocation → Invocation} (k : ∀ v, v.Whole → (f v).Whole) : (s.engTally i f).Ordered := by
  have added : (f { s.engHere with fpAtomic := false, tally := s.tallyOf s.engHere.progSlot }).Whole := k _ { h.engHere with tally := h.tallyOf s.engHere.progSlot }
  have tally := added.tally
  unfold State.engTally
  dsimp only
  generalize f _ = v at added tally ⊢
  exact State.Ordered.ite (((h.ite (h.setTally _ tally)).fpAtomicChoice ..).engSet added) h

theorem execIalu_ordered (h : s.Ordered) (rd ra rb : BitVec 6) (pred : BitVec 3) (fn : BitVec 5) : NextOrdered (execIalu rd ra rb pred fn s) := h.engApply _ fun _ _ h => h.ialu ..

theorem execIcmp_ordered (h : s.Ordered) (rd ra rb : BitVec 6) (pred : BitVec 3) (fn : BitVec 5) : NextOrdered (execIcmp rd ra rb pred fn s) := h.engApply _ fun _ _ h => h.icmp ..

theorem execFalu_ordered (h : s.Ordered) (rd ra rb : BitVec 6) (pred : BitVec 3) (fn : BitVec 5) : NextOrdered (execFalu rd ra rb pred fn s) := h.engApply _ fun _ _ h => h.falu ..

theorem execFcmp_ordered (h : s.Ordered) (rd ra rb : BitVec 6) (pred : BitVec 3) (fn : BitVec 5) : NextOrdered (execFcmp rd ra rb pred fn s) := h.engApply _ fun _ _ h => h.fcmp ..

theorem execValu_ordered (h : s.Ordered) (rd ra rb : BitVec 6) (pred : BitVec 3) (fn : BitVec 5) : NextOrdered (execValu rd ra rb pred fn s) := h.engApply _ fun _ _ h => h.valu ..

theorem execPlog_ordered (h : s.Ordered) (rd ra rb : BitVec 6) (pred : BitVec 3) (fn : BitVec 5) : NextOrdered (execPlog rd ra rb pred fn s) := h.engApply _ fun _ _ h => h.plog ..

theorem execBswap32_ordered (h : s.Ordered) (rd ra : BitVec 6) (pred : BitVec 3) : NextOrdered (execBswap32 rd ra pred s) := h.engApply _ fun _ _ h => h.bswap32 ..

theorem execBswap16_ordered (h : s.Ordered) (rd ra : BitVec 6) (pred : BitVec 3) : NextOrdered (execBswap16 rd ra pred s) := h.engApply _ fun _ _ h => h.bswap16 ..

theorem execCrc32c_ordered (h : s.Ordered) (rd ra rb : BitVec 6) (pred : BitVec 3) (fn : BitVec 5) : NextOrdered (execCrc32c rd ra rb pred fn s) := h.engApply _ fun _ _ h => h.crc32c ..

theorem execAddi_ordered (h : s.Ordered) (rd ra : BitVec 6) (imm : BitVec 14) : NextOrdered (execAddi rd ra imm s) := h.engApply _ fun _ _ h => h.addi ..

theorem execOri_ordered (h : s.Ordered) (rd ra : BitVec 6) (imm : BitVec 14) : NextOrdered (execOri rd ra imm s) := h.engApply _ fun _ _ h => h.ori ..

theorem execAndi_ordered (h : s.Ordered) (rd ra : BitVec 6) (imm : BitVec 14) : NextOrdered (execAndi rd ra imm s) := h.engApply _ fun _ _ h => h.andi ..

theorem execLui_ordered (h : s.Ordered) (rd : BitVec 6) (imm : BitVec 20) : NextOrdered (execLui rd imm s) := h.engApply _ fun _ _ h => h.lui ..

theorem execBfx_ordered (h : s.Ordered) (rd ra : BitVec 6) (pos widthLess1 : BitVec 5) : NextOrdered (execBfx rd ra pos widthLess1 s) := h.engApply _ fun _ _ h => h.bfx ..

theorem execLdwS_ordered (h : s.Ordered) (rd ra : BitVec 6) (imm : BitVec 14) : NextOrdered (execLdwS rd ra imm s) := h.engApply _ fun _ _ h => h.ldwS ..

theorem execStwS_ordered (h : s.Ordered) (rd ra : BitVec 6) (imm : BitVec 14) : NextOrdered (execStwS rd ra imm s) := h.engApply _ fun _ _ h => h.stwS ..

theorem execVldS_ordered (h : s.Ordered) (rd ra : BitVec 6) (imm : BitVec 14) : NextOrdered (execVldS rd ra imm s) := h.engApply _ fun _ _ h => h.vldS ..

theorem execVstS_ordered (h : s.Ordered) (rd ra : BitVec 6) (imm : BitVec 14) : NextOrdered (execVstS rd ra imm s) := h.engApply _ fun _ _ h => h.vstS ..

theorem execLdwT_ordered (h : s.Ordered) (rd ra : BitVec 6) (imm : BitVec 14) : NextOrdered (execLdwT rd ra imm s) := h.engApply _ fun _ _ h => h.ldwT ..

theorem execLdwH_ordered (h : s.Ordered) (rd ra : BitVec 6) (imm : BitVec 14) : NextOrdered (execLdwH rd ra imm s) := h.engApply _ fun _ _ h => h.ldwH ..

theorem execAtomAddI32_ordered (h : s.Ordered) (ra rb : BitVec 6) (pred : BitVec 3) : NextOrdered (execAtomAddI32 ra rb pred s) := h.engTally _ fun _ h => h.atomAddI32 ..

theorem execAtomAddI64_ordered (h : s.Ordered) (ra rb : BitVec 6) (pred : BitVec 3) : NextOrdered (execAtomAddI64 ra rb pred s) := h.engTally _ fun _ h => h.atomAddI64 ..

theorem execAtomAddU16q7s_ordered (h : s.Ordered) (ra rb : BitVec 6) (pred : BitVec 3) : NextOrdered (execAtomAddU16q7s ra rb pred s) := h.engTally _ fun _ h => h.atomAddU16q7s ..

theorem execAtomAddF32_ordered (h : s.Ordered) (ra rb : BitVec 6) (pred : BitVec 3) : NextOrdered (execAtomAddF32 ra rb pred s) := h.engTally _ fun _ h => h.atomAddF32 ..

theorem execPoseSphere_ordered (h : s.Ordered) (rd ra : BitVec 6) (pred : BitVec 3) : NextOrdered (execPoseSphere rd ra pred s) := h.engApply _ fun _ _ h => h.poseSphere ..

theorem execPoseAxle_ordered (h : s.Ordered) (rd ra : BitVec 6) (pred : BitVec 3) : NextOrdered (execPoseAxle rd ra pred s) := h.engApply _ fun _ _ h => h.poseAxle ..

theorem execQuery_ordered (h : s.Ordered) (rd ra rb : BitVec 6) (pred : BitVec 3) : NextOrdered (execQuery rd ra rb pred s) := 
  have h := h.engApply _ fun _ _ h => h.query ..
  h.ite (h.count ..)

theorem execLookup_ordered (h : s.Ordered) (rd ra rb : BitVec 6) (pred : BitVec 3) : NextOrdered (execLookup rd ra rb pred s) := h.engApply _ fun _ _ h => h.lookup ..

theorem execAcc_ordered (h : s.Ordered) (ra : BitVec 6) (pred : BitVec 3) (fn : BitVec 5) : NextOrdered (execAcc ra pred fn s) := h.engApply _ fun _ _ h => h.accumulate ..

theorem execMerit_ordered (h : s.Ordered) (ra : BitVec 6) (pred : BitVec 3) : NextOrdered (execMerit ra pred s) := h.engApply _ fun _ _ h => h.merit ..

theorem execScg_ordered (h : s.Ordered) (rd rb : BitVec 6) (pred : BitVec 3) : NextOrdered (execScg rd rb pred s) := h.engApply _ fun _ _ h => h.scg ..

theorem execBr_ordered (h : s.Ordered) (pred : BitVec 3) (inv : Bool) (offset : BitVec 12) : NextOrdered (execBr pred inv offset s) := h.engApply _ fun _ _ h => h.br ..

theorem execLoop_ordered (h : s.Ordered) (rs : BitVec 6) (body bound : BitVec 10) : NextOrdered (execLoop rs body bound s) := h.engApply _ fun _ _ h => h.loop ..

theorem execYield_ordered (h : s.Ordered) (pred : BitVec 3) : NextOrdered (execYield pred s) := h.engApply _ fun _ _ h => h.yield ..

theorem execReject_ordered (h : s.Ordered) (ra : BitVec 6) (pred : BitVec 3) (code : BitVec 8) : NextOrdered (execReject ra pred code s) := h.engApply _ fun _ _ h => h.reject ..

end Sys2Proof.Machine
end

section
/-!
SUPPORT. The stores in order, continued: proposals, checks, selection, refinement, budgets and units.
-/
namespace Sys2Proof.Machine
open Sys2Proof

set_option Elab.async false

variable {s : State}

/-! Checker -/

theorem State.Ordered.countChecks (h : s.Ordered) (runs : List CandRun) (first : Nat → Bool) : (s.countChecks runs first).Ordered :=
  have h := h.ite (h.count ..)
  have h := h.ite (h.count ..)
  have h := h.ite (h.count ..)
  have h := h.ite (h.count ..)
  have h := h.ite (h.count ..)
  have h := h.ite (h.count ..)
  have h := h.foldl fun _ _ h => h.ite (h.count ..)
  h.ite (h.count ..)

/-! Digest -/

theorem State.Ordered.modPhase (h : s.Ordered) (frame phase round : Nat) (f : PhaseDigest → PhaseDigest) : (s.modPhase frame phase round f).Ordered :=
  h.keep

theorem State.Ordered.retireSteps (h : s.Ordered) (n : Nat) : (s.retireSteps n).Ordered :=
  h.keep

theorem State.Ordered.recordStep (h : s.Ordered) (frame phase round index : Nat) (content : List Byte) : (s.recordStep frame phase round index content).Ordered :=
  (h.modPhase ..).retireSteps ..

theorem State.Ordered.recordOnce (h : s.Ordered) (frame phase round index : Nat) (content : List Byte) : (s.recordOnce frame phase round index content).Ordered :=
  h.ite (h.recordStep ..)

theorem State.Ordered.phaseReady (h : s.Ordered) (frame phase round : Nat) : (s.phaseReady frame phase round).Ordered :=
  h.modPhase ..

/-! Proposal -/

theorem State.Ordered.countExpansions (h : s.Ordered) (w : FrameWork) (window last : Nat) (exps : List Expansion) : (s.countExpansions w window last exps).Ordered :=
  have h := h.modWork ..
  have h := (h.ite (h.count ..)).ite h
  have h := h.ite (h.count ..)
  have h := h.ite (h.count ..)
  h.ite ((h.ite (h.count ..)).raiseOnce ..)

theorem CheckEnv.invocation_whole (c : CheckEnv) (e : Expansion) {tally : List Host.Cell} (h : memWf tally = true) : (c.invocation e tally).Whole := by
  unfold CheckEnv.invocation
  split
  · exact { Invocation.Whole.initial with tally := h }
  · exact { Invocation.Whole.initial with tally := h }

theorem State.Ordered.firstInvocation (h : s.Ordered) (engine : Nat) (i : Item) (exps : List Expansion) : (s.firstInvocation engine i exps).Whole := by
  unfold State.firstInvocation
  dsimp only
  split
  · exact (CheckEnv.invocation_whole _ _ (h.tallyOf _)).treadAt ..
  · exact h.processor _

theorem State.Ordered.fillWindow (h : s.Ordered) (engine : Nat) (w : FrameWork) (i : Item) : (s.fillWindow engine w i).Ordered := by
  unfold State.fillWindow
  dsimp only
  split
  · exact h
  · exact
      have h := h.modUnit ..
      (((h.takeInHand _ (h.firstInvocation ..)).count ..).ite h).countExpansions ..

theorem execExpanderWindowFill_ordered (h : s.Ordered) (engine : Nat) : NextOrdered (execExpanderWindowFill engine s) := by
  unfold execExpanderWindowFill
  split
  · exact h
  split
  · exact h.fillWindow ..
  exact h

theorem State.Ordered.retireProposals (h : s.Ordered) (frame : Nat) : (s.retireProposals frame).Ordered := by
  unfold State.retireProposals
  split
  · exact h
  exact h.ite ((h.ite (h.foldl fun _ _ h => h.recordStep ..)).phaseReady ..)

theorem State.Ordered.completeRound0 (h : s.Ordered) (frame : Nat) : (s.completeRound0 frame).Ordered := by
  unfold State.completeRound0
  dsimp only
  split
  · exact h.retireProposals ..
  exact ((h.retireProposals ..).modWork ..).ite (h.retireProposals ..)

theorem State.Ordered.policyFailed (h : s.Ordered) (frame : Nat) : (s.policyFailed frame).Ordered :=
  (((((((h.cancelItems ..).withdrawBlocks ..).modWork ..).count ..).raiseOpen ..).disturb ..).completeRound0 ..).goRounds ..

theorem State.Ordered.emitPolicyBlock (h : s.Ordered) (frame : Nat) (scene : List Byte) (b : Nat) : (s.emitPolicyBlock frame scene b).Ordered := by
  unfold State.emitPolicyBlock
  dsimp only
  split
  · exact h.modWork ..
  exact (h.modWork ..).ite (((h.modWork ..).replayBlock ..).ite ((h.modWork ..).ite ((h.modWork ..).issueBlock ..)))

theorem execPolicyRun_ordered (h : s.Ordered) (failAfter : Option Nat) : NextOrdered (execPolicyRun failAfter s) := by
  unfold execPolicyRun
  split
  · exact h
  dsimp only
  split
  · exact h.commitItem ..
  split
  · exact h.commitItem ..
  split
  · exact ((((h.commitItem ..).modWork ..).count ..).foldl fun _ _ h => h.emitPolicyBlock ..).policyFailed ..
  exact (((((h.commitItem ..).modWork ..).count ..).foldl fun _ _ h => h.emitPolicyBlock ..).completeRound0 ..).goRounds ..

/-! Checking -/

/-- What a candidate's check leaves of the memories and registers it ran with is in order. -/
structure CandRun.Ordered (r : CandRun) : Prop where
  tally : memWf r.tally = true
  inv : ∀ v, r.inv = some v → v.Whole

theorem treadStep_whole (c : CheckEnv) {v : Invocation} (h : v.Whole) (i : Nat) : (treadStep c v i).Whole := by
  unfold treadStep
  split
  · exact h.keep
  · exact (h.treadAt ..).run ..

theorem checkPoses_whole (c : CheckEnv) (ps : List Pose) (i : Nat) (before : Option (Pose × Nat)) {v : Invocation} (h : v.Whole) (probe : Probe) : (checkPoses c ps i before v probe).inv.Whole := by
  induction ps generalizing i before v probe with
  | nil => exact h
  | cons p ps ih =>
    unfold checkPoses
    dsimp only
    split
    · split
      · exact ih _ _ (treadStep_whole c h i) _
      · exact treadStep_whole c h i
      · exact treadStep_whole c h i
    · exact h

theorem checkCandidate_ordered (c : CheckEnv) (e : Expansion) {tally : List Host.Cell} (h : memWf tally = true) : (checkCandidate c e tally).Ordered := by
  have ran := checkPoses_whole c e.poses 0 none (c.invocation_whole e h) Probe.zero
  unfold checkCandidate
  dsimp only
  split
  · exact ⟨h, nofun⟩
  split
  · exact ⟨h, nofun⟩
  · exact ⟨ran.tally, fun v e => Option.some.inj e ▸ ran⟩

theorem checkAll_ordered (c : CheckEnv) (es : List Expansion) {tally : List Host.Cell} (h : memWf tally = true) : ∀ r ∈ checkAll c es tally, r.Ordered := by
  induction es generalizing tally with
  | nil => exact List.forall_mem_nil _
  | cons e es ih =>
    have first := checkCandidate_ordered c e h
    unfold checkAll
    generalize checkCandidate c e tally = r at first ⊢
    dsimp only
    split
    · exact List.forall_mem_singleton.2 first
    · exact List.forall_mem_cons.2 ⟨first, ih first.tally⟩

theorem State.Ordered.itemRuns (h : s.Ordered) (engine : Nat) (w : FrameWork) (i : Item) : ∀ r ∈ s.itemRuns engine w i, r.Ordered :=
  checkAll_ordered _ _ (h.tallyOf _)

theorem State.Ordered.afterRuns (h : s.Ordered) (engine : Nat) (w : FrameWork) (c : CheckEnv) {runs : List CandRun} (hr : ∀ r ∈ runs, r.Ordered) : (s.afterRuns engine w c runs).Ordered := by
  have tallies : (match runs.getLast? with | some r => if s.onOldTally engine then s else s.setTally c.tallySlot r.tally | none => s).Ordered := by
    split
    next r e => exact h.ite (h.setTally _ (hr r (List.mem_of_getLast? e)).tally)
    · exact h
  unfold State.afterRuns
  extract_lets s1 s2
  have registers : s2.Ordered := by
    unfold s2
    split
    next v e =>
      obtain ⟨r, mem, inv⟩ := List.mem_filterMap.1 (List.mem_of_getLast? e)
      exact State.Ordered.setProcessor tallies _ ((hr r mem).inv v inv)
    · exact tallies
  clear_value s2
  exact
    have h := registers.fpAtomicChoice ..
    have h := h.countChecks ..
    have h := h.modWork ..
    have h := (h.raiseOnce ..).ite h
    (((h.raiseOpen ..).disturb ..).ite h).modUnit ..

theorem State.Ordered.dispose (h : s.Ordered) (frame : Nat) (p : BlockRec → Bool) : (s.dispose frame p).Ordered := by
  unfold State.dispose
  split
  · exact h
  exact
    have h := h.ite ((h.withdrawBlocks ..).count ..)
    (h.ite ((h.modWork ..).count ..)).withdrawBlocks ..

theorem State.Ordered.disposeBlock (h : s.Ordered) (frame beta : Nat) : (s.disposeBlock frame beta).Ordered :=
  h.dispose ..

theorem State.Ordered.disposeAll (h : s.Ordered) (frame : Nat) : (s.disposeAll frame).Ordered :=
  h.dispose ..

theorem State.Ordered.commitRecord (h : s.Ordered) (engine : Nat) (w : FrameWork) (i : Item) (runs : List CandRun) : (s.commitRecord engine w i runs).Ordered :=
  have h := h.modWork ..
  (h.ite (h.disposeBlock ..)).ite ((h.withdrawBlocks ..).ite h)

theorem State.Ordered.runBlock (h : s.Ordered) (engine : Nat) (w : FrameWork) (i : Item) : (s.runBlock engine w i).Ordered :=
  have h := (h.afterRuns _ _ _ (h.itemRuns _ _ _)).commitItem ..
  ((h.abandonBlock ..).goRounds ..).ite ((h.goRounds ..).ite ((h.commitRecord ..).goRounds ..))

theorem execCandidateBlock_ordered (h : s.Ordered) (engine : Nat) : NextOrdered (execCandidateBlock engine s) := by
  unfold execCandidateBlock
  split
  · exact h
  split
  · exact h.commitItem ..
  exact h.ite (h.runBlock ..)

theorem State.Ordered.runSingle (h : s.Ordered) (engine : Nat) (w : FrameWork) (i : Item) : (s.runSingle engine w i).Ordered :=
  have h := (h.afterRuns _ _ _ (h.itemRuns _ _ _)).commitItem ..
  have h := h.modWork ..
  ((h.abandonBlock ..).goRounds ..).ite ((h.goRounds ..).ite ((h.modWork ..).goRounds ..))

theorem execCandidateSingle_ordered (h : s.Ordered) (engine : Nat) : NextOrdered (execCandidateSingle engine s) := by
  unfold execCandidateSingle
  split
  · exact h
  split
  · exact h.commitItem ..
  exact h.ite (h.runSingle ..)

theorem State.Ordered.finishServing (h : s.Ordered) (engine : Nat) : (s.finishServing engine).Ordered := by
  unfold State.finishServing
  split
  · exact h
  split
  · exact h
  exact
    have h := h.foldl fun _ _ h => h.fillWindow ..
    (h.runBlock ..).ite (h.runSingle ..)

theorem State.Ordered.finishOld (h : s.Ordered) (n : Nat) : (s.finishOld n).Ordered :=
  have h := h.cancelItems ..
  h.foldl fun _ _ h => h.finishServing ..

/-! Selection -/

theorem execGalleryMerge_ordered (h : s.Ordered) (gallery beta : Nat) : NextOrdered (execGalleryMerge gallery beta s) := by
  unfold execGalleryMerge
  dsimp only
  split
  · exact h
  split
  · exact h.mergeGallery ..
  exact h

theorem execTopStairMerge_ordered (h : s.Ordered) : NextOrdered (execTopStairMerge s) := by
  unfold execTopStairMerge
  split
  · exact h
  exact (h.mergeTop ..).goRounds ..

theorem execListRebuild_ordered (h : s.Ordered) : NextOrdered (execListRebuild s) := by
  unfold execListRebuild
  split
  · exact h
  exact (h.rebuildLists ..).goRounds ..

/-! Refine -/

theorem State.Ordered.modPlan (h : s.Ordered) (frame pos : Nat) (f : Plan → Plan) : (s.modPlan frame pos f).Ordered :=
  h.modWork ..

theorem State.Ordered.setUpPlans (h : s.Ordered) (frame : Nat) (list : ClosedList) : (s.setUpPlans frame list).Ordered := by
  unfold State.setUpPlans
  dsimp only
  split
  · exact h.ite (((h.raiseOnce ..).count ..).frameStatus ..)
  exact
    have h := (h.ite (((h.raiseOnce ..).count ..).frameStatus ..)).modWork ..
    (h.foldl fun _ _ h => h.addItem ..).ite h

theorem State.Ordered.retireChecks (h : s.Ordered) (w : FrameWork) : (s.retireChecks w).Ordered :=
  have h := h.foldl fun _ _ h => h.recordStep ..
  h.foldl fun _ _ h => h.phaseReady ..

theorem State.Ordered.writeClosed (h : s.Ordered) (frame : Nat) (l : ClosedList) : (s.writeClosed frame l).Ordered :=
  have h := h.modWork ..
  have h := ((h.ite (h.count ..)).frameStatus ..).ite (h.ite (h.count ..))
  have h := (((h.ite (h.count ..)).ite ((h.ite (h.count ..)).count ..)).frameStatus ..).ite ((h.ite (h.count ..)).ite ((h.ite (h.count ..)).count ..))
  have h := h.ite (h.count ..)
  have h := ((h.raiseOnce ..).frameStatus ..).ite h
  (((h.frameStatus ..).ite h).frameStatus ..).ite ((h.frameStatus ..).ite h)

theorem State.Ordered.sendList (h : s.Ordered) (w : FrameWork) (l : ClosedList) : (s.sendList w l).Ordered := by
  unfold State.sendList
  dsimp only
  split
  · exact h.sendSegments ..
  exact h

theorem State.Ordered.closingFaults (h : s.Ordered) (w : FrameWork) : (s.closingFaults w).Ordered :=
  (h.foldl fun _ _ h => h.integrityFault ..).ite h

theorem State.Ordered.closeFrame (h : s.Ordered) (w : FrameWork) : (s.closeFrame w).Ordered := by
  unfold State.closeFrame
  extract_lets s1 s2 w s3 s4 own lists expected ls merged s5 s6
  have h : s4.Ordered := (((h.ite (h.choice ..)).closingFaults ..).cancelItems ..).retireChecks ..
  clear_value s4
  split
  · split
    · have h : s6.Ordered := (((h.count ..).choice ..).ite h).writeClosed ..
      exact (h.setUpPlans ..).ite h
    · exact (h.writeClosed ..).sendList ..
  · exact (h.writeClosed ..).setUpPlans ..

theorem State.Ordered.plansWaiting (h : s.Ordered) (frame : Nat) : (s.plansWaiting frame).Ordered := by
  unfold State.plansWaiting
  split
  · split
    · exact (h.setUpPlans ..).ite h
    exact h
  exact h

theorem execSelectionClose_ordered (h : s.Ordered) : NextOrdered (execSelectionClose s) := by
  unfold execSelectionClose
  split
  · exact h
  exact h.ite ((h.closeFrame ..).ite (((h.closeFrame ..).ite h).ite ((h.atTick ..).closeFrame ..)))

theorem State.Ordered.retireRefine (h : s.Ordered) (frame pos : Nat) : (s.retireRefine frame pos).Ordered := by
  unfold State.retireRefine
  split
  · exact (h.recordOnce ..).ite h
  exact h

theorem State.Ordered.retireRecheck (h : s.Ordered) (frame pos : Nat) : (s.retireRecheck frame pos).Ordered := by
  unfold State.retireRecheck
  split
  · exact h
  split
  · exact (h.recordOnce ..).ite h
  exact h

theorem State.Ordered.present (h : s.Ordered) (frame : Nat) : (s.present frame).Ordered :=
  h.modWork ..

theorem State.Ordered.neverStarted (h : s.Ordered) (frame pos : Nat) : (s.neverStarted frame pos).Ordered :=
  (((h.modPlan ..).count ..).frameStatus ..).choice ..

theorem execReference_ordered (h : s.Ordered) (engine : Nat) : NextOrdered (execReference engine s) := by
  unfold execReference
  split
  · exact h
  dsimp only
  split
  · exact h.commitItem ..
  split
  · exact h.commitItem ..
  exact
    have h := (h.commitItem ..).modPlan ..
    (h.present ..).ite ((h.neverStarted ..).ite (h.addItem ..))

theorem State.Ordered.cacheIterate (h : s.Ordered) (place : Nat) (kept : Option (List QpPart)) : (s.cacheIterate place kept).Ordered :=
  h.keep

theorem State.Ordered.endQp (h : s.Ordered) (frame pos : Nat) (outcome : QpOutcome) : (s.endQp frame pos outcome).Ordered := by
  unfold State.endQp
  split
  · exact h
  split
  · exact h
  exact
    have h := h.cacheIterate ..
    have h := h.modPlan ..
    have h := ((h.count ..).frameStatus ..).ite h
    have h := ((h.count ..).frameStatus ..).ite h
    have h := (((h.count ..).frameStatus ..).choice ..).ite h
    ((h.count ..).frameStatus ..).ite h

theorem execQpInstance_ordered (h : s.Ordered) (place : Nat) : NextOrdered (execQpInstance place s) := by
  unfold execQpInstance
  split
  · exact h
  split
  · exact h
  split
  · exact h
  change State.Ordered _
  extract_lets sig entry
  clear_value entry
  split
  next iterate s1 e =>
  have h : s1.Ordered := by
    split at e
    · exact (Prod.mk.inj e).2 ▸ h
    split at e
    · exact (Prod.mk.inj e).2 ▸ h
    · exact (Prod.mk.inj e).2 ▸ ((h.cacheIterate ..).count ..).frameStatus ..
  exact
    have h := h.modPlan ..
    h.ite (h.count ..)

theorem execQpIteration_ordered (h : s.Ordered) (place : Nat) : NextOrdered (execQpIteration place s) := by
  unfold execQpIteration
  split
  · exact h
  split
  · exact h
  split
  · exact h
  split
  · exact h
  dsimp only
  split
  · exact (((h.ite ((h.count ..).frameStatus ..)).modPlan ..).endQp ..).commitItem ..
  split
  · exact (((h.ite ((h.count ..).frameStatus ..)).modPlan ..).modPlan ..).count ..
  exact (((((h.ite ((h.count ..).frameStatus ..)).modPlan ..).modPlan ..).count ..).endQp ..).commitItem ..

theorem execSolverStop_ordered (h : s.Ordered) : NextOrdered (execSolverStop s) := by
  unfold execSolverStop
  split
  · exact h
  split
  · exact h
  exact
    have h := h.atTick ..
    have h := h.modWork ..
    (h.foldl fun _ _ h => (h.endQp ..).ite ((h.neverStarted ..).ite h)).cancelItems ..

theorem State.Ordered.addRecheck (h : s.Ordered) (frame pos : Nat) : (s.addRecheck frame pos).Ordered := by
  unfold State.addRecheck
  exact h.addItem ..

theorem execTimeScaling_ordered (h : s.Ordered) (place : Nat) : NextOrdered (execTimeScaling place s) := by
  unfold execTimeScaling
  split
  · exact h
  split
  · exact h
  exact
    have h := ((h.count ..).frameStatus ..).ite h
    have h := h.modPlan ..
    have h := h.retireRefine ..
    (h.present ..).ite (h.addRecheck ..)

theorem execRecheck_ordered (h : s.Ordered) (engine : Nat) : NextOrdered (execRecheck engine s) := by
  unfold execRecheck
  split
  · exact h
  dsimp only
  split
  · exact h.commitItem ..
  split
  · exact h.commitItem ..
  split
  · exact h.commitItem ..
  exact
    have h := ((h.commitItem ..).raiseOnce ..).ite (h.commitItem ..)
    have h := ((h.raiseOpen ..).disturb ..).ite h
    have h := h.modPlan ..
    have h := ((h.count ..).frameStatus ..).ite h
    have h := (h.retireRecheck ..).ite h
    (((h.addRecheck ..).count ..).ite h).present ..

/-! Sentry -/

theorem execSentryCheck_ordered (h : s.Ordered) (place : Nat) : NextOrdered (execSentryCheck place s) := by
  unfold execSentryCheck
  split
  · exact h
  split
  · exact h
  split
  · exact h
  split
  · exact h
  dsimp only
  split
  · exact (h.count ..).modPlan ..
  exact
    have h := (h.count ..).modPlan ..
    (h.count ..).ite h

/-! Budget -/

theorem State.Ordered.recomputeBudget (h : s.Ordered) : s.recomputeBudget.Ordered :=
  have h := h.keep
  (h.setCause ..).ite (h.clearCause ..)

/-! Units -/

theorem State.Ordered.modEngine (h : s.Ordered) (e : Nat) (f : ServiceUnit → ServiceUnit) : (s.modEngine e f).Ordered :=
  h.keep

theorem State.Ordered.modGallery (h : s.Ordered) (g : Nat) (f : ServiceUnit → ServiceUnit) : (s.modGallery g f).Ordered :=
  h.keep

theorem State.Ordered.refuseRejoin (h : s.Ordered) (unit : Nat) (u : ServiceUnit) : (s.refuseRejoin unit u).Ordered :=
  ((h.count ..).raise ..).ite h

theorem State.Ordered.uncorrected (h : s.Ordered) (store unit : Nat) : (s.uncorrected store unit).Ordered :=
  (h.count ..).raise ..

theorem State.Ordered.returnItems (h : s.Ordered) (e : Nat) (home : Item → Nat) : (s.returnItems e home).Ordered := by
  unfold State.returnItems
  extract_lets mine one s1 s2
  have h : s1.Ordered := h.foldl fun s i h => by
    unfold one
    dsimp only
    split
    · exact
        have h := h.dropItem ..
        ((h.count ..).raise ..).ite h
    · exact ((h.dropItem ..).ite ((h.modItem ..).count ..)).ite (h.modItem ..)
  have h : s2.Ordered := h.foldl fun s i h => by
    split
    · exact h.chainTo ..
    · exact h
  exact (h.modUnit ..).settleItems

theorem State.Ordered.moveLists (h : s.Ordered) (g : Nat) : (s.moveLists g).Ordered := by
  unfold State.moveLists
  dsimp only
  refine State.Ordered.keep (State.Ordered.foldl h fun s i h => ?_)
  split
  · exact (h.delayLoc ..).modItem ..
  · exact (h.delayLoc ..).modItem ..
  all_goals exact h.modItem ..

theorem State.Ordered.beginCourse (h : s.Ordered) (unit : Nat) : (s.beginCourse unit).Ordered := { h with courses := alSorted_alSet _ _ h.courses }

theorem State.Ordered.clearSelfTest (h : s.Ordered) : s.clearSelfTest.Ordered :=
  h.ite (h.clearCause ..)

theorem State.Ordered.endCourse (h : s.Ordered) (unit : Nat) : (s.endCourse unit).Ordered :=
  State.Ordered.clearSelfTest { h with courses := alSorted_alErase _ h.courses }

theorem State.Ordered.galleryOut (h : s.Ordered) (g cause : Nat) : (s.galleryOut g cause).Ordered :=
  have h := h.modGallery ..
  have h := h.foldl fun _ _ h => h.modEngine ..
  have h := h.remapLanes
  ((((h.foldl fun _ _ h => (h.returnItems ..).endCourse ..).moveLists ..).count ..).raise ..).refuseRejoin ..

theorem State.Ordered.engineOut (h : s.Ordered) (e cause : Nat) : (s.engineOut e cause).Ordered := by
  unfold State.engineOut
  split
  · exact h
  exact
    have h := (h.modEngine ..).remapLanes
    have h := (h.returnItems ..).endCourse ..
    have h := ((h.count ..).raise ..).refuseRejoin ..
    ((h.galleryOut ..).ite h).recomputeBudget

theorem State.Ordered.pendRejoins (h : s.Ordered) : s.pendRejoins.Ordered :=
  h.ite h.keep

theorem State.Ordered.enterService (h : s.Ordered) (tick : Nat) : (s.enterService tick).Ordered := by
  unfold State.enterService
  dsimp only
  split
  · exact h
  exact
    have h := h.foldl fun _ _ h => ((h.modGallery ..).count ..).raise ..
    ((h.foldl fun _ _ h => (((h.modEngine ..).beginCourse ..).count ..).raise ..).remapLanes).recomputeBudget

end Sys2Proof.Machine
end

section
/-!
SUPPORT. The stores in order, continued: the timebase, commits, the host port and the sources.
-/
namespace Sys2Proof.Machine
open Sys2Proof

set_option Elab.async false

variable {s : State}

/-! Timebase -/

theorem State.Ordered.modTb (h : s.Ordered) (f : Timebase → Timebase) : (s.modTb f).Ordered :=
  h.keep

theorem State.Ordered.cancelCommit (h : s.Ordered) : s.cancelCommit.Ordered :=
  (h.keep.raiseOpen ..).ite h

theorem State.Ordered.firstLock (h : s.Ordered) : s.firstLock.Ordered := by
  unfold State.firstLock
  exact (h.modTb ..).modTb ..

theorem State.Ordered.enterLocked (h : s.Ordered) : s.enterLocked.Ordered := by
  unfold State.enterLocked
  split
  · exact h
  exact
    have h := (h.modTb ..).raiseOpen ..
    have h := h.clearCause ..
    (h.ite h.firstLock).signalStatus

theorem State.Ordered.enterHoldover (h : s.Ordered) : s.enterHoldover.Ordered :=
  (((h.modTb ..).raiseOpen ..).setCause ..).ite h

theorem State.Ordered.sourceChanged (h : s.Ordered) : s.sourceChanged.Ordered :=
  State.Ordered.ite (State.Ordered.modTb h.keep ..).enterLocked (State.Ordered.modTb h.keep ..).signalStatus

theorem State.Ordered.startTimebase (h : s.Ordered) : s.startTimebase.Ordered :=
  have h := h.keep
  ((h.modTb ..).enterLocked).ite h

theorem State.Ordered.skipTicks (h : s.Ordered) : s.skipTicks.Ordered :=
  h.modTb ..

theorem State.Ordered.numberInputs (h : s.Ordered) (n : Nat) : (s.numberInputs n).Ordered :=
  { h with streams := h.mapStreams fun _ k => k }

theorem State.Ordered.tickAt (h : s.Ordered) (n : Nat) : (s.tickAt n).Ordered := by
  unfold State.tickAt
  exact (((h.atTick ..).modTb ..).numberInputs ..).setPads ..

theorem State.Ordered.setPeriod (h : s.Ordered) (k : Nat) : (s.setPeriod k).Ordered := by
  unfold State.setPeriod
  exact h.modTb ..

theorem State.Ordered.syncWith (h : s.Ordered) (m : SyncMsg) : (s.syncWith m).Ordered := by
  unfold State.syncWith
  extract_lets off changed s1 lim s2 s3
  have h : s2.Ordered := ((h.modTb ..).enterHoldover).ite (h.modTb ..)
  clear_value s2
  exact (h.modTb ..).ite (((h.modTb ..).enterLocked).ite (h.modTb ..))

theorem execSync_ordered (h : s.Ordered) (t : Nat) (m : SyncMsg) : NextOrdered (execSync t m s) :=
  have h := h.at ..
  (h.syncWith ..).ite h

theorem execAnnounce_ordered (h : s.Ordered) (t : Nat) (m : GptpMsg) : NextOrdered (execAnnounce t m s) :=
  have h := h.at ..
  h.ite (((h.enterHoldover.modTb ..).ite h).modTb ..)

theorem execPdelayReq_ordered (h : s.Ordered) (t : Nat) (m : GptpMsg) : NextOrdered (execPdelayReq t m s) :=
  have h := h.at ..
  ((h.send ..).send ..).ite h

theorem execPdelayReqIssue_ordered (h : s.Ordered) (t : Nat) : NextOrdered (execPdelayReqIssue t s) :=
  have h := h.at ..
  ((h.send ..).modTb ..).ite h

theorem execSyncTimeout_ordered (h : s.Ordered) (t : Nat) : NextOrdered (execSyncTimeout t s) :=
  have h := h.at ..
  h.ite (h.enterHoldover.modTb ..)

theorem execHoldoverLimit_ordered (h : s.Ordered) : NextOrdered (execHoldoverLimit s) :=
  ((((((h.at ..).modTb ..).raiseOpen ..).setCause ..).cancelCommit).signalStatus).ite h

theorem execPpsIn_ordered (h : s.Ordered) (t : Nat) : NextOrdered (execPpsIn t s) :=
  (h.at ..).modTb ..

theorem execPpsOut_ordered (h : s.Ordered) : NextOrdered (execPpsOut s) :=
  ((h.atTime ..).modTb ..).setPads ..

/-! Layout -/

theorem State.Ordered.layHall (h : s.Ordered) : s.layHall.Ordered := by
  unfold State.layHall
  extract_lets v hm halls banks regions old moved users uses leaving kept m
  clear_value moved m
  refine { h with tallies := ?_ }
  dsimp only
  split
  · exact List.forall_mem_nil _
  · exact h.tallies

theorem State.Ordered.wakeBanks (h : s.Ordered) (frame : Nat) : (s.wakeBanks frame).Ordered :=
  h.keep.ite h

/-! Commit -/

theorem State.Ordered.dueSave (h : s.Ordered) : s.dueSave.Ordered := by
  refine { h with dict := { h.dict with unsaved := fun x e => ?_ } }
  obtain rfl := Option.some.inj e
  exact alSorted_foldl (alSorted_sublist List.filter_sublist h.dict.active) fun _ _ => alSorted_alSet _ _

theorem State.Ordered.installImage (h : s.Ordered) (idx : Nat) : (s.installImage idx).Ordered := by
  unfold State.installImage
  extract_lets b hd vals s1
  have h : s1.Ordered := h.foldl fun _ _ h => h.setObj ..
  exact { h with tallies := forall_mem_alErase (P := (memWf · = true)) h.tallies _ }

theorem State.Ordered.modStream (h : s.Ordered) (n : Nat) (f : Stream → Stream) (k : ∀ x, memWf x.working = true → memWf (f x).working = true := by exact fun _ h => h) :
    (s.modStream n f).Ordered := { h with streams := forall_mem_modAt h.streams n k }

theorem State.Ordered.dueReloads (h : s.Ordered) (keys : List Nat) (before : State) : (s.dueReloads before keys).Ordered := by
  unfold State.dueReloads
  refine State.Ordered.foldl (h.ite h.keep) fun s n h => ?_
  extract_lets newImage touched s1
  have h : s1.Ordered := (h.modStream ..).ite h
  exact (h.modStream _ _ fun _ _ => rfl).ite h

theorem State.Ordered.drainDone (h : s.Ordered) (c : Nat) : (s.drainDone c).Ordered :=
  h.ite h.keep

theorem State.Ordered.applyRings (h : s.Ordered) (before : State) : (s.applyRings before).Ordered := by
  unfold State.applyRings
  extract_lets gone leaving s1 keep p2 s2 p3 s3 s4 fresh outstanding
  have h : s1.Ordered := h.foldl fun s c h => h.keep
  have h : s3.Ordered := h.keep
  have h : s4.Ordered := h.foldl fun s c h => h.drainDone c
  exact h.foldl fun s r h => h.setRing ..

theorem State.Ordered.applyGroup (h : s.Ordered) : s.applyGroup.Ordered :=
  h.keep.roleChanged

theorem State.Ordered.dropStaged (h : s.Ordered) : s.dropStaged.Ordered := { h with dict := { h.dict with shadow := rfl } }

theorem State.Ordered.endSession (h : s.Ordered) (id : Nat) : (s.endSession id).Ordered := by
  unfold State.endSession
  split
  · exact h
  exact
    have h := h.keep
    h.ite (h.keep.ite h.dropStaged)

theorem State.Ordered.closeByCommit (h : s.Ordered) (keys : List Nat) (before : State) : (s.closeByCommit before keys).Ordered :=
  h.foldl fun _ _ h => h.endSession ..

theorem State.Ordered.sentryOff (h : s.Ordered) : s.sentryOff.Ordered :=
  h.keep.dropCauses ..

theorem State.Ordered.hotCourses (h : s.Ordered) (before : List Nat) : (s.hotCourses before).Ordered :=
  have h := h.foldl fun _ _ h => h.endCourse ..
  h.foldl fun _ _ h => h.beginCourse ..

theorem State.Ordered.applyChanges (h : s.Ordered) (k : Nat) (keys : List Nat) (before : State) : (s.applyChanges before k keys).Ordered := by
  unfold State.applyChanges
  exact
    have h := (h.setPeriod ..).ite h
    have h := h.sourceChanged.ite h
    have h := h.keep.ite h
    have h := h.keep.ite h
    have h := h.sentryOff.ite h
    have h := h.foldl fun _ _ h => h.installImage ..
    have h := h.dueReloads ..
    have h := (h.applyRings ..).ite h
    have h := h.closeByCommit ..
    have h := h.applyGroup.ite h
    have h := h.keep.ite h
    have h := h.layHall
    h.ite ((h.hotCourses ..).raiseOpen ..)

theorem State.Ordered.commitNow (h : s.Ordered) (k : Nat) : (s.commitNow k).Ordered := by
  have staged : (s.dict.shadow.foldl (fun d p => d.setActive (p.1 / 256) (p.1 % 256) p.2) s.dict).Ordered := h.dict.foldl fun d x h => h.setActive ..
  unfold State.commitNow
  dsimp only
  generalize List.foldl _ s.dict s.dict.shadow = d at staged ⊢
  have taken := State.Ordered.applyChanges (s := { s with dict := { d with shadow := [] } , ctl := { s.ctl with st := .idle, target := 0, owner := 0, activeSetId := (s.ctl.activeSetId + 1) % u32Mod, stagedRev := 0, committed := true } })
    { h with dict := { staged with shadow := rfl } } k s.changedKeys s
  exact (State.Ordered.ite taken.dueSave taken).recomputeBudget.signalStatus

theorem State.Ordered.commitAt (h : s.Ordered) (n : Nat) : (s.commitAt n).Ordered :=
  h.ite ((h.commitNow ..).ite (h.cancelCommit.ite h))

/-! HostOps -/

theorem State.Ordered.guardBand (h : s.Ordered) (stamp frame : Nat) : (s.guardBand stamp frame).Ordered :=
  ((h.count ..).choice ..).ite h

theorem State.Ordered.modRecord (h : s.Ordered) (id : Nat) (f : JRec → JRec) : (s.modRecord id f).Ordered :=
  h.keep

theorem State.Ordered.trimJournal (h : s.Ordered) : s.trimJournal.Ordered :=
  h.keep

theorem State.Ordered.signalPause (h : s.Ordered) : s.signalPause.Ordered := by
  unfold State.signalPause
  split
  · exact h
  exact
    have h := h.keep
    h.foldl fun _ _ h => h.send ..

theorem State.Ordered.takeDescriptor (h : s.Ordered) : s.takeDescriptor.2.Ordered :=
  .iteSnd h.keep (h.ite ((h.keep.count ..).raiseOpen ..))

theorem State.Ordered.takeRoom (h : s.Ordered) (payload : Nat) : (s.takeRoom payload).2.Ordered := by
  unfold State.takeRoom
  split
  next free s1 e =>
  have h : s1.Ordered := .of e h.takeDescriptor
  refine State.Ordered.signalPause ?_
  split
  · exact h
  split
  · exact h
  · exact h.ite ((State.Ordered.count h.keep ..).raiseOpen ..)

theorem State.Ordered.mirror (h : s.Ordered) (j : JRec) : (s.mirror j).2.Ordered := by
  unfold State.mirror
  split
  · exact h
  split
  · exact (h.sendGroup ..).keep
  split
  · exact h
  exact
    have h := (h.keep.raise ..).setCause ..
    (h.deviceFault ..).ite h

theorem State.Ordered.journalWrite (h : s.Ordered) (j : JRec) : (s.journalWrite j).Ordered :=
  (h.mirror ..).keep

theorem State.Ordered.postRecord (h : s.Ordered) (d : Desc) (kind status length frame : Nat) (replayed original : Bool) : (s.postRecord d kind status length frame replayed original).Ordered :=
  h.ringPush ..

theorem State.Ordered.setOutcome (h : s.Ordered) (id status length : Nat) : (s.setOutcome id status length).Ordered :=
  h.keep.modRecord ..

theorem State.Ordered.retireRecord (h : s.Ordered) (j : JRec) : (s.retireRecord j).Ordered :=
  ((h.modRecord ..).mirror ..).trimJournal

theorem State.Ordered.ringCompletes (h : s.Ordered) (client status : Nat) : (s.ringCompletes client status).Ordered := by
  unfold State.ringCompletes
  split
  · exact h.setRing ..
  exact h

theorem State.Ordered.completeDesc (h : s.Ordered) (j : JRec) (d : Desc) : (s.completeDesc j d).Ordered :=
  have h := h.modRecord ..
  have h := h.mirror ..
  have h := (h.postRecord ..).count ..
  have h := (h.ringCompletes ..).retireRecord ..
  (h.drainDone ..).ite h

theorem State.Ordered.completeRecord (h : s.Ordered) (id : Nat) : (s.completeRecord id).Ordered := by
  unfold State.completeRecord
  split
  · exact h
  split
  · exact h
  split
  · exact h.retireRecord ..
  exact h.completeDesc ..

theorem State.Ordered.queuePacket (h : s.Ordered) (n : Nat) (bytes : List Byte) (stamp journal : Nat) (target : Option Nat) (frame : Nat) : (s.queuePacket n bytes stamp journal target frame).Ordered := by
  unfold State.queuePacket
  exact (h.modStream ..).addItem ..

theorem State.Ordered.queueCommand (h : s.Ordered) (d : Desc) (journal : Nat) : (s.queueCommand d journal).Ordered := by
  unfold State.queueCommand
  exact h.addItem ..

theorem State.Ordered.unfedPacket (h : s.Ordered) (id : Nat) : (s.unfedPacket id).Ordered :=
  (h.setOutcome ..).completeRecord ..

theorem State.Ordered.finishAccept (h : s.Ordered) (id : Nat) : (s.finishAccept id).Ordered := by
  unfold State.finishAccept
  split
  · exact h
  dsimp only
  split
  · exact (h.modRecord ..).queuePacket ..
  refine .after (a := State.count (State.postRecord _ ..) ..) (State.Ordered.count (State.Ordered.postRecord ?_ ..) ..) fun h => State.Ordered.ite ?_ (h.queueCommand ..)
  · split
    · exact (h.modRecord ..).setRing ..
    · exact h.modRecord ..
  · split
    · exact h.queuePacket ..
    · exact h.unfedPacket ..

theorem State.Ordered.resumeAccepted (h : s.Ordered) (j : JRec) : (s.resumeAccepted j).Ordered := by
  unfold State.resumeAccepted
  dsimp only
  split
  · exact ((h.modRecord ..).count ..).queuePacket ..
  split
  · split
    · exact ((h.modRecord ..).count ..).queuePacket ..
    exact ((h.modRecord ..).count ..).unfedPacket ..
  exact ((h.modRecord ..).count ..).queueCommand ..

theorem State.Ordered.replayPacket (h : s.Ordered) (frame : Nat) (e : Nat × Nat × List Byte) : (s.replayPacket frame e).Ordered :=
  h.ite (h.keep.queuePacket ..)

theorem State.Ordered.feedBacklog (h : s.Ordered) : s.feedBacklog.Ordered := by
  unfold State.feedBacklog
  dsimp only
  split
  · exact h.foldl fun _ _ h => (h.resumeAccepted ..).ite h
  exact ((h.foldl fun _ _ h => (h.resumeAccepted ..).ite h).foldl fun _ _ h => h.replayPacket ..).keep

theorem State.Ordered.applyMirrored (h : s.Ordered) (j : JRec) : (s.applyMirrored j).Ordered := by
  unfold State.applyMirrored
  dsimp only
  split
  · exact h.queuePacket ..
  split
  · split
    · exact h.queuePacket ..
    exact h
  exact h

theorem State.Ordered.admitMirrored (h : s.Ordered) : s.admitMirrored.Ordered := by
  refine h.foldl fun s m h => ?_
  split
  · exact h
  split
  · exact h
  extract_lets applies
  split
  next room s1 e =>
  have h : s1.Ordered := .of e (.iteSnd h.takeDescriptor h)
  exact h.ite (State.Ordered.sendGroup (State.Ordered.ite (State.Ordered.applyMirrored h.keep ..) h.keep) ..)

theorem State.Ordered.acceptRecord (h : s.Ordered) (j : JRec) : (s.acceptRecord j).Ordered := by
  unfold State.acceptRecord
  dsimp only
  split
  · exact (((h.journalWrite ..).guardBand ..).ite (h.journalWrite ..)).ite ((((h.journalWrite ..).guardBand ..).ite (h.journalWrite ..)).finishAccept ..)
  exact ((h.journalWrite ..).guardBand ..).ite (h.journalWrite ..)

theorem State.Ordered.acceptNetwork (h : s.Ordered) (n : Nat) (bytes : List Byte) : (s.acceptNetwork n bytes).Ordered := by
  unfold State.acceptNetwork
  split
  next ok s1 e =>
  have h : s1.Ordered := .of e (.iteSnd h (h.takeRoom ..))
  exact h.ite (h.acceptRecord ..)

/-! Source -/

theorem Stream.putTile_working (x : Stream) (cell : F64) (ref : Pt) (t : SrcTile) : (x.putTile cell ref t).1.working = x.working := by
  unfold Stream.putTile
  dsimp only
  split
  · rfl
  split
  · rfl
  split <;> rfl

theorem Stream.putSegment_working (x : Stream) (ref : Pt) (r : RouteSeg) : (x.putSegment ref r).1.working = x.working := by
  unfold Stream.putSegment
  split
  · rfl
  split
  · rfl
  dsimp only
  split <;> rfl

theorem Stream.apply_working (x : Stream) (cell : F64) (ref : Pt) (r : UpdRec) : (x.apply cell ref r).1.working = x.working := by
  cases r with
  | rasterTile t => exact x.putTile_working cell ref t
  | segment g => exact x.putSegment_working ref g
  | _ => rfl

theorem Stream.applyAll_working (x : Stream) (cell : F64) (ref : Pt) (rs : List (Nat × Nat × Nat × UpdRec)) : (x.applyAll cell ref rs).1.working = x.working :=
  List.foldlRecOn (motive := fun p : Stream × Nat => p.1.working = x.working) rs _ rfl fun _ h _ _ => (Stream.apply_working ..).trans h

theorem State.Ordered.stream (h : s.Ordered) (n : Nat) : memWf (s.stream n).working = true := by
  unfold State.stream
  cases e : s.world.streams[n]? with
  | none => rfl
  | some x => exact h.streams x (List.mem_of_getElem? e)

theorem State.Ordered.takePacket (h : s.Ordered) (n frame : Nat) (p : HeldPacket) (test : Option Nat) : (s.takePacket n frame p test).Ordered := by
  unfold State.takePacket
  split
  · exact
      have h := (h.modStream ..).count ..
      (((h.disturb ..).ite h).setOutcome ..).completeRecord ..
  · split
    next x evicted e =>
    have same : x.working = (s.stream n).working := by rw [← Stream.applyAll_working (s.stream n), e]
    exact
      have h := State.Ordered.modStream h _ _ fun _ _ => same.symm ▸ h.stream n
      have h := (h.count ..).count ..
      have h := h.ite (h.count ..)
      ((((h.count ..).raiseFor ..).ite h).setOutcome ..).completeRecord ..

theorem State.Ordered.takeStream (h : s.Ordered) (frame n : Nat) (test : Option Nat) : (s.takeStream frame n test).Ordered :=
  have h := h.modStream ..
  h.foldl fun _ _ h => h.takePacket ..

theorem State.Ordered.newMapFrame (h : s.Ordered) (f : Nat) : (s.newMapFrame f).Ordered :=
  h.ite { h with streams := h.mapStreams fun _ k => k }

theorem State.Ordered.expireAgents (h : s.Ordered) (now : Nat) : (s.expireAgents now).Ordered :=
  h.foldl fun _ _ h => h.ite (h.ite ((h.modStream ..).count ..))

theorem State.Ordered.reportStale (h : s.Ordered) (frame n : Nat) : (s.reportStale frame n).Ordered :=
  (h.count ..).raiseFor ..

theorem State.Ordered.showStale (h : s.Ordered) : s.showStale.Ordered :=
  (h.setObj ..).setObj ..

theorem State.Ordered.reportLayers (h : s.Ordered) (frame bits : Nat) : (s.reportLayers frame bits).Ordered :=
  h.ite ((h.count ..).raiseOpen ..)

theorem State.Ordered.sealStale (h : s.Ordered) (frame now : Nat) : (s.sealStale frame now).2.Ordered :=
  have h := h.foldl fun _ _ h => have h := h.modStream ..; (h.reportStale ..).ite h; have h := h.showStale.reportLayers ..; (h.setCause ..).ite (h.clearCause ..)

theorem State.Ordered.staleAfterSeal (h : s.Ordered) (frame n now : Nat) : (s.staleAfterSeal frame n now).Ordered := by
  unfold State.staleAfterSeal
  split
  · exact h
  exact
    have h := ((h.modStream ..).showStale).reportStale ..
    have h := (h.reportLayers ..).ite h
    (h.setCause ..).ite h

theorem State.Ordered.overflowAgents (h : s.Ordered) (frame : Nat) (inp : Inputs) : (s.overflowAgents frame inp).Ordered :=
  h.ite ((h.count ..).raiseOpen ..)

end Sys2Proof.Machine
end

section
/-!
SUPPORT. The stores in order, continued: streams, scenes, frames, lock-step and publication.
-/
namespace Sys2Proof.Machine
open Sys2Proof

set_option Elab.async false

variable {s : State}

/-! Streams -/

theorem execStreamPacketArrivalUdp_ordered (h : s.Ordered) (t destination : Nat) (bytes : List Byte) : NextOrdered (execStreamPacketArrivalUdp t destination bytes s) := by
  unfold execStreamPacketArrivalUdp
  dsimp only
  split
  · exact ((h.at ..).acceptNetwork ..).ite (h.at ..)
  exact h.at ..

theorem State.Ordered.nak (h : s.Ordered) (qp : Nat) : (s.nak qp).Ordered :=
  h.keep.sendInput ..

theorem execStreamPacketArrivalRoce_ordered (h : s.Ordered) (t : Nat) (r : RoceRequest) (bytes : List Byte) : NextOrdered (execStreamPacketArrivalRoce t r bytes s) := by
  unfold execStreamPacketArrivalRoce
  dsimp only
  split
  · exact h.at ..
  split
  · exact (h.at ..).nak ..
  split
  · exact (h.at ..).acceptNetwork ..
  exact (h.at ..).ite ((h.at ..).nak ..)

theorem State.Ordered.modBuf (h : s.Ordered) (n : Nat) (f : StreamBuf → StreamBuf) : (s.modBuf n f).Ordered :=
  h.modStream ..

theorem State.Ordered.copyToSentry (h : s.Ordered) (n : Nat) (p : InPacket) (output : List Nat) (closed : Bool) : (s.copyToSentry n p output closed).Ordered :=
  h.ite ((h.count ..).ite h.keep)

theorem State.Ordered.openPacket (h : s.Ordered) (n : Nat) (p : InPacket) (rest : List (List Nat × Bool × Nat)) (output : List Nat) (closed : Bool) : (s.openPacket n p rest output closed).Ordered :=
  h.modStream ..

theorem State.Ordered.filterRun (h : s.Ordered) (n : Nat) (p : InPacket) : (s.filterRun n (s.stream n) p).Whole := by
  have tally : memWf ((alGet (s.cfg (0x3100 + n) 4) s.boot.tallies).getD []) = true := by
    cases e : alGet (s.cfg (0x3100 + n) 4) s.boot.tallies with
    | none => rfl
    | some m => exact h.tallies _ (mem_of_alGet e)
  exact (Invocation.Whole.begin (v := { Invocation.initial with
    kind := .filter, code := progCode (s.stream n).program, consts := progConsts (s.stream n).program, tallyLength := (progHeader (s.stream n).program).tallyLength,
    tally := (alGet (s.cfg (0x3100 + n) 4) s.boot.tallies).getD [], mem := (s.stream n).working, packet := p.bytes, progSlot := some (s.cfg (0x3100 + n) 4), frame := p.frame })
    { Invocation.Whole.initial with tally, mem := h.stream n } rfl).run _ _

theorem State.Ordered.beginFilter (h : s.Ordered) (n : Nat) (i : Item) : (s.beginFilter n i).Ordered := by
  unfold State.beginFilter
  dsimp only
  split
  · exact h
  next p _ =>
    have ran := h.filterRun n p
    refine h.ite ?_
    generalize s.filterRun n (s.stream n) p = v at ran ⊢
    exact (((((h.setTally _ ran.tally).fpAtomicChoice ..).modStream _ _ fun _ _ => ran.mem).openPacket ..).takeInHand _ ran)

theorem State.Ordered.beginFilters (h : s.Ordered) : s.beginFilters.Ordered :=
  h.foldl fun _ _ h => h.beginFilter ..

theorem State.Ordered.pumpRuns (h : s.Ordered) (n : Nat) (runs : List FilterRun) : (State.pumpRuns n runs s).Ordered := by
  induction runs generalizing s with
  | nil => exact h.modStream ..
  | cons r runs ih =>
    unfold State.pumpRuns
    split
    next buf rest e =>
    extract_lets s1 s2
    have h : s1.Ordered := h.modBuf ..
    have h : s2.Ordered := h.ite (h.count ..)
    exact (ih (h.copyToSentry ..)).ite (h.modStream ..)

theorem State.Ordered.pump (h : s.Ordered) (n : Nat) : (s.pump n).Ordered :=
  h.pumpRuns ..

theorem State.Ordered.filterPacket (h : s.Ordered) (n : Nat) (i : Item) : (s.filterPacket n i).Ordered :=
  have h := (h.beginFilter ..).pump ..
  h.ite (h.commitItem ..)

theorem execFilterInvocation_ordered (h : s.Ordered) (stream : Nat) : NextOrdered (execFilterInvocation stream s) := by
  unfold execFilterInvocation
  split
  · exact h.pump ..
  exact h.filterPacket ..

theorem execStreamReadStart_ordered (h : s.Ordered) (stream : Nat) : NextOrdered (execStreamReadStart stream s) := by
  unfold execStreamReadStart
  dsimp only
  split
  · exact h
  exact (h.modBuf ..).ite h

theorem State.Ordered.bankOut (h : s.Ordered) (n bank : Nat) : (s.bankOut n bank).Ordered :=
  h.ite (((h.modBuf ..).count ..).raise ..)

theorem State.Ordered.countParity (h : s.Ordered) (n : Nat) (bad : List BufWord) : (s.countParity n bad).Ordered := by
  unfold State.countParity
  split
  · exact h
  exact
    have h := (h.modBuf ..).count ..
    have h := (h.bankOut ..).ite h
    (h.bankOut ..).ite h

theorem State.Ordered.routeUrgent (h : s.Ordered) (stream : Nat) (p : HeldPacket) : (s.routeUrgent stream p).Ordered :=
  (h.modStream ..).ite (h.keep.ite (((h.count ..).raise ..).modStream ..))

theorem execPacketApply_ordered (h : s.Ordered) (stream : Nat) (flips : List (Nat × Nat)) : NextOrdered (execPacketApply stream flips s) := by
  unfold execPacketApply
  split
  · exact h
  split
  · exact h
  dsimp only
  split
  · exact (h.modBuf ..).countParity ..
  exact
    have h := (h.modBuf ..).countParity ..
    (h.routeUrgent ..).ite (h.modStream ..)

theorem State.Ordered.bankTested (h : s.Ordered) (n bank : Nat) (passed : Bool) : (s.bankTested n bank passed).Ordered :=
  h.ite ((h.ite (h.modBuf ..)).ite (((h.bankOut ..).ite h).modBuf ..))

theorem execStreamBankReturn_ordered (h : s.Ordered) (stream bank : Nat) : NextOrdered (execStreamBankReturn stream bank s) :=
  h.ite ((h.modBuf ..).raise ..)

theorem State.Ordered.endRunning (h : s.Ordered) (n : Nat) : (s.endRunning n).Ordered :=
  have h := h.modStream ..
  h.foldl fun _ _ h => by
    dsimp only
    split
    · exact (h.copyToSentry ..).commitItem ..
    · exact h.copyToSentry ..

theorem State.Ordered.flushBuffer (h : s.Ordered) (n : Nat) : (s.flushBuffer n).Ordered :=
  have h := h.endRunning ..
  have h := h.modStream ..
  (h.ite (h.count ..)).raise ..

theorem execFlush_ordered (h : s.Ordered) (stream : Nat) : NextOrdered (execFlush stream s) :=
  (h.flushBuffer ..).ite h

theorem execSentryPacket_ordered (h : s.Ordered) : NextOrdered (execSentryPacket s) := by
  unfold execSentryPacket
  split
  · exact h
  exact
    have h := h.keep
    h.keep.ite (h.count ..)

/-! SceneOps -/

theorem State.Ordered.modVersion (h : s.Ordered) (number : Nat) (spec : Bool) (f : Version → Version) : (s.modVersion number spec f).Ordered :=
  h.keep

theorem State.Ordered.showVersion (h : s.Ordered) (v : Version) : (s.showVersion v).Ordered :=
  ((h.setObj ..).setObj ..).setObj ..

theorem State.Ordered.retireVersions (h : s.Ordered) : s.retireVersions.Ordered :=
  h.keep

theorem State.Ordered.shipVersion (h : s.Ordered) (v : Version) : (s.shipVersion v).Ordered := by
  unfold State.shipVersion
  split
  · exact h
  dsimp only
  split
  · exact ((h.count ..).raiseOpen ..).ite h
  exact ((((h.count ..).raiseOpen ..).ite h).ite ((((h.count ..).raiseOpen ..).ite h).sendSegments ..)).sendGroup ..

theorem State.Ordered.shipScene (h : s.Ordered) (frame version : Nat) (bytes : List Byte) : (s.shipScene frame version bytes).Ordered :=
  (h.sendSegments ..).ite h

/-! FrameOps -/

theorem State.Ordered.dropFrames (h : s.Ordered) (p : FrameWork → Bool) : (s.dropFrames p).Ordered :=
  (h.cancelItems ..).keep

theorem State.Ordered.dropRunAhead (h : s.Ordered) : s.dropRunAhead.Ordered :=
  (h.dropFrames ..).keep

theorem State.Ordered.makeImage (h : s.Ordered) : s.makeImage.2.Ordered :=
  h.keep

theorem State.Ordered.loadCarried (h : s.Ordered) (c : Carried) : (s.loadCarried c).Ordered := by
  refine { h with streams := fun x hx => ?_ }
  obtain ⟨⟨y, n⟩, hy, rfl⟩ := List.mem_map.1 hx
  dsimp only
  split
  · exact memWf_memOf _
  · exact h.streams y (List.fst_mem_of_mem_zipIdx hy)

theorem State.Ordered.openWork (h : s.Ordered) (n number : Nat) (start : StartState) (reinit speculative : Bool) : (s.openWork n number start reinit speculative).Ordered :=
  h.modWork ..

theorem State.Ordered.reportContinuation (h : s.Ordered) (n : Nat) : (s.reportContinuation n).Ordered := by
  unfold State.reportContinuation
  split
  · exact ((h.count ..).raiseOpen ..).ite h
  exact h

theorem State.Ordered.issueMissing (h : s.Ordered) (n : Nat) : (s.issueMissing n).Ordered := by
  unfold State.issueMissing
  split
  · exact h
  split
  · exact h
  exact
    have h := h.foldl fun _ _ h => h.ite (h.issueBlock ..)
    (h.foldl fun _ _ h => h.replayBlock ..).completeRound0 ..

theorem State.Ordered.feedTiles (h : s.Ordered) : s.feedTiles.Ordered :=
  h.foldl fun _ _ h => h.addItem ..

theorem State.Ordered.runTileJob (h : s.Ordered) (number : Nat) (spec : Bool) (j : Nat × Nat × Nat) : (s.runTileJob number spec j).Ordered := by
  unfold State.runTileJob
  split
  · exact h
  exact h.keep.modVersion ..

theorem State.Ordered.holdPacket (h : s.Ordered) (n : Nat) (p : HeldPacket) : (s.holdPacket n p).Ordered :=
  h.modStream ..

theorem State.Ordered.deferDelta (h : s.Ordered) (n : Nat) (p : HeldPacket) : (s.deferDelta n p).Ordered :=
  ((h.count ..).raise ..).holdPacket ..

theorem State.Ordered.takeDelta (h : s.Ordered) (n : Nat) (w : FrameWork) (p : HeldPacket) : (s.takeDelta n w p).Ordered :=
  have h := (h.takePacket ..).modStream ..
  (h.staleAfterSeal ..).ite h

theorem State.Ordered.startDelta (h : s.Ordered) : s.startDelta.Ordered := by
  unfold State.startDelta
  split
  · refine h.ite ?_
    extract_lets p1 s1 s2 b inputs changed number stamp v' p3 s3
    have h : s1.Ordered := h.keep
    have h : s2.Ordered := h.takeDelta ..
    clear_value s2 v' number changed
    have h : s3.Ordered := h.keep
    exact (h.ite (h.count ..)).feedTiles
  · exact h

theorem State.Ordered.repeatRechecks (h : s.Ordered) (frame : Nat) : (s.repeatRechecks frame).Ordered := by
  unfold State.repeatRechecks
  split
  · exact h
  exact h.ite (h.foldl fun _ _ h => (h.addRecheck ..).count ..)

/-! Lockstep -/

theorem State.Ordered.sendLevel (h : s.Ordered) (x : Search) : (s.sendLevel x).Ordered := by
  unfold State.sendLevel
  split
  · exact h
  exact h.sendGroup ..

theorem State.Ordered.startSearch (h : s.Ordered) : s.startSearch.Ordered := by
  unfold State.startSearch
  split
  · exact h.keep.sendLevel ..
  exact h

theorem State.Ordered.keepDigests (h : s.Ordered) (frame : Nat) : (s.keepDigests frame).Ordered :=
  have h := h.keep
  (h.foldl fun _ _ h => h.raiseOpen ..).startSearch

theorem State.Ordered.reportDivergence (h : s.Ordered) (x : Search) (index mine theirs : Nat) : (s.reportDivergence x index mine theirs).Ordered :=
  have h := h.keep
  have h := (h.count ..).raiseOpen ..
  (h.keep.setCause ..).ite h

theorem State.Ordered.rootsDiffer (h : s.Ordered) (frame phase round theirs : Nat) : (s.rootsDiffer frame phase round theirs).Ordered := by
  unfold State.rootsDiffer
  split
  · exact h.count ..
  exact
    have h := h.keep
    (h.reportDivergence ..).ite ((h.raiseOpen ..).ite h.keep.startSearch)

theorem State.Ordered.comparePhase (h : s.Ordered) (frame phase round : Nat) : (s.comparePhase frame phase round).Ordered := by
  unfold State.comparePhase
  split
  · split
    · exact h
    exact
      have h := (h.modPhase ..).count ..
      h.ite (h.rootsDiffer ..)
  exact h

theorem execDigestFinal_ordered (h : s.Ordered) (frame phase round : Nat) : NextOrdered (execDigestFinal frame phase round s) := by
  unfold execDigestFinal
  split
  · exact h
  split
  · exact h
  dsimp only
  split
  · exact h.modPhase ..
  exact ((h.modPhase ..).sendGroup ..).comparePhase ..

theorem execDigestMissing_ordered (h : s.Ordered) (frame phase round : Nat) : NextOrdered (execDigestMissing frame phase round s) := by
  unfold execDigestMissing
  dsimp only
  split
  · exact (h.atTick ..).ite ((((h.atTick ..).modPhase ..).count ..).raiseOpen ..)
  exact h.atTick ..

theorem State.Ordered.takeLevel (h : s.Ordered) (x : Search) (left right : Nat) : (s.takeLevel x left right).Ordered :=
  ((h.keep.reportDivergence ..).startSearch).ite (h.keep.sendLevel ..)

theorem State.Ordered.bisectFrom (h : s.Ordered) (frame : Nat) (payload : List Byte) : (s.bisectFrom frame payload).Ordered := by
  unfold State.bisectFrom
  dsimp only
  split
  · exact h
  split
  · exact (h.ite ((h.takeLevel ..).ite ((h.keep.sendLevel ..).takeLevel ..))).ite (h.ite h.keep)
  exact h.ite ((h.keep.sendLevel ..).takeLevel ..)

theorem State.Ordered.digestFrom (h : s.Ordered) (frame : Nat) (payload : List Byte) : (s.digestFrom frame payload).Ordered :=
  h.ite (h.keep.comparePhase ..)

/-! SelfTest -/

theorem State.Ordered.loadEngine (h : s.Ordered) (e : Nat) : (s.loadEngine e).Ordered :=
  (h.zeroScratchpad ..).modUnit ..

theorem State.Ordered.placeSlices (h : s.Ordered) (frame release : Nat) : (s.placeSlices frame release).Ordered :=
  have h := h.keep
  h.foldl fun _ _ h => h.addItem ..

theorem State.Ordered.nextBankSlice (h : s.Ordered) (now : Nat) : (s.nextBankSlice now).Ordered := by
  unfold State.nextBankSlice
  split
  · exact h.keep.ite h
  exact h

/-! Publish -/

theorem State.Ordered.sentryLanding (h : s.Ordered) (w : FrameWork) (chosen : Option Nat) : (s.sentryLanding w chosen).2.Ordered := by
  unfold State.sentryLanding
  refine .iteSnd h ?_
  split
  · exact h.keep
  extract_lets p v z latched out sd pd pn s1 s2 n p3 s3 p4 s4
  have h : s1.Ordered := by
    unfold s1
    generalize v = verdict
    split
    · exact ((h.count ..).raiseOpen ..).keep
    · exact (h.count ..).raiseOpen ..
    · exact h.keep
  have h : s2.Ordered := (h.setCause ..).ite h
  have h : s3.Ordered := ((((State.Ordered.clearCause h.keep ..).ite h.keep).ite h).ite h.keep)
  have h : s4.Ordered := h.keep
  exact h.ite ((h.count ..).choice ..)

theorem State.Ordered.beginHold (h : s.Ordered) (frame : Nat) : (s.beginHold frame).Ordered :=
  have h := h.keep
  ((h.count ..).raiseOpen ..).ite h

theorem State.Ordered.passHold (h : s.Ordered) (frame : Nat) : (s.passHold frame).Ordered := by
  unfold State.passHold
  split
  · exact h
  exact (h.keep.raiseOpen ..).ite h.keep

theorem State.Ordered.landPins (h : s.Ordered) (frame status : Nat) : (s.landPins frame status).Ordered := by
  unfold State.landPins
  extract_lets s1 ok s2 p3
  have h : s2.Ordered := (((h.beginHold ..).ite (h.passHold ..)).ite h).setPins ..
  clear_value s2
  exact State.Ordered.driveSafe h.keep

theorem State.Ordered.endSpan (h : s.Ordered) : s.endSpan.Ordered :=
  have h := h.keep.dropCauses ..
  (h.dropCauses ..).ite h

theorem State.Ordered.judgeLockstep (h : s.Ordered) (frame : Nat) : (s.judgeLockstep frame).Ordered :=
  have h := h.keep
  (h.dropCauses ..).ite h

theorem State.Ordered.retirePlans (h : s.Ordered) (w : FrameWork) : (s.retirePlans w).Ordered :=
  have h := h.foldl fun _ _ h => (h.retireRefine ..).retireRecheck ..
  have h := h.foldl fun _ _ h => h.phaseReady ..
  h.foldl fun _ _ h => h.phaseReady ..

theorem State.Ordered.writeSlot (h : s.Ordered) (w : FrameWork) (body points : List Byte) : (s.writeSlot w body points).Ordered := by
  unfold State.writeSlot
  dsimp only
  split
  · exact h
  exact ((h.count ..).raise ..).ite h.keep

theorem State.Ordered.postPublication (h : s.Ordered) (record : List Byte) : (s.postPublication record).Ordered :=
  h.foldl fun _ _ h => (h.count ..).ite (h.ringPush ..)

theorem State.Ordered.sendPlan (h : s.Ordered) (w : FrameWork) (record : List Byte) (controls : List Control) : (s.sendPlan w record controls).Ordered :=
  (h.foldl fun _ _ h => h.sendSegments ..).ite h

theorem State.Ordered.remember (h : s.Ordered) (w : FrameWork) (controls : Option (List Control)) : (s.remember w controls).Ordered :=
  h.keep

theorem State.Ordered.publish (h : s.Ordered) (w : FrameWork) (x : Published) : (s.publish w x).Ordered := by
  unfold State.publish
  extract_lets status s1 s2 controls
  have h : s1.Ordered := h.count ..
  have h : s2.Ordered := h.ite ((h.raiseOpen ..).frameStatus ..)
  clear_value s2
  split
  · exact h
  extract_lets body sealed' record s3 s4 p5 s5 s6
  have h : s4.Ordered := (h.writeSlot ..).remember ..
  clear_value s4
  have h : s5.Ordered := h.keep
  exact (((h.postPublication ..).sendPlan ..).recordStep ..).phaseReady ..

theorem State.Ordered.writeMask (h : s.Ordered) (frame : Nat) : (s.writeMask frame).Ordered := by
  unfold State.writeMask
  split
  · exact h
  exact
    have h := h.keep
    h.ite (((h.count ..).ite h).raiseFor ..)

theorem State.Ordered.landPlan (h : s.Ordered) (w : FrameWork) : (s.landPlan w).Ordered := by
  unfold State.landPlan
  extract_lets final s1 s2
  have h : s2.Ordered := ((((h.count ..).frameStatus ..).choice ..).ite h).retirePlans ..
  split
  next out s3 e =>
  have h : s3.Ordered := .of e (h.sentryLanding ..)
  refine ((h.remember ..).phaseReady ..).ite ?_
  extract_lets plan
  clear_value plan
  split
  next version s4 e =>
  have h : s4.Ordered := by
    split at e
    · exact (Prod.mk.inj e).2 ▸ h
    · exact (Prod.mk.inj e).2 ▸ h.draw
  exact (h.publish ..).landPins ..

theorem State.Ordered.landFrame (h : s.Ordered) (w : FrameWork) : (s.landFrame w).Ordered := by
  unfold State.landFrame
  extract_lets s1 s2 s3 p4 s4 s5 p6 s6 s7 s8 p9 s9
  have h : s2.Ordered := (h.ite (h.atTick ..)).endSpan.judgeLockstep ..
  clear_value s2
  have h : s3.Ordered := (h.landPlan ..).ite (h.ite (h.remember ..)).driveSafe
  clear_value s3
  have h : s4.Ordered := by
    unfold s4
    split
    · exact h.keep
    · exact h
  clear_value s4
  have h : s5.Ordered := h.writeMask ..
  clear_value s5
  have h : s6.Ordered := h.keep
  have h : s8.Ordered := (h.cancelItems ..).modWork ..
  clear_value s8
  have h : s9.Ordered := by
    unfold s9
    split
    · exact h.keep.ite h
    · exact h
  exact h.pendRejoins.placeSlices ..

theorem State.Ordered.publicationFails (h : s.Ordered) (frame : Nat) : (s.publicationFails frame).Ordered :=
  have h := h.keep
  have h := (h.setPins ..).beginHold ..
  have h := ((h.count ..).raiseOpen ..).driveSafe
  (h.deviceFault ..).ite h

theorem execPublicationFailure_ordered (h : s.Ordered) : NextOrdered (execPublicationFailure s) := by
  unfold execPublicationFailure
  split
  · exact h
  exact (h.ite (h.atTick ..)).publicationFails ..

theorem execRelease_ordered (h : s.Ordered) (t slot generation : Nat) : NextOrdered (execRelease t slot generation s) := by
  have h := h.at t
  unfold execRelease
  generalize s.at t = s1 at h
  change State.Ordered _
  dsimp only
  split
  · exact h
  · exact h.ite (h.keep.ite (h.count ..))

end Sys2Proof.Machine
end

section
/-!
SUPPORT. The stores in order, continued: frames, service, memory errors and power.
-/
namespace Sys2Proof.Machine
open Sys2Proof

set_option Elab.async false

variable {s : State}

/-! Frame -/

theorem State.Ordered.releaseDue (h : s.Ordered) (now : Nat) : (s.releaseDue now).Ordered :=
  have h := h.keep
  h.foldl fun _ _ h => by
    split
    · exact (h.delayLoc ..).modItem ..
    · exact h

theorem State.Ordered.takeRole (h : s.Ordered) (role : Nat) : (s.takeRole role).Ordered := by
  unfold State.takeRole
  extract_lets pub group s1 group2 s2 s3
  have h : s1.Ordered := h.keep.ite h
  clear_value s1
  have h : s2.Ordered := State.Ordered.roleChanged h.keep
  clear_value s2
  have h : s3.Ordered := h.foldl fun _ _ h => h.sendGroup ..
  exact (h.count ..).raiseOpen ..

theorem State.Ordered.admitPeer (h : s.Ordered) (c : Nat) : (s.admitPeer c).Ordered := by
  unfold State.admitPeer
  extract_lets p s1 g1 s2 g2 s3
  refine h.ite ?_
  have h : s1.Ordered := ((h.modPeer ..).count ..).raise ..
  clear_value s1
  have h : s2.Ordered := (State.Ordered.clearCause h.keep ..).ite h
  clear_value s2
  have k : s3.Ordered := h.keep
  exact (k.foldl fun _ _ h => h.mirror ..).ite h

theorem State.Ordered.clearPeers (h : s.Ordered) : s.clearPeers.Ordered :=
  (h.clearCause ..).ite h

theorem State.Ordered.groupTick (h : s.Ordered) : s.groupTick.Ordered := by
  unfold State.groupTick
  extract_lets g1 s1 s2 digest g2
  have h : s1.Ordered := by
    unfold s1
    split
    · exact State.Ordered.roleChanged h.keep
    · exact State.Ordered.takeRole h.keep _
    · exact h
  clear_value s1
  have h : s2.Ordered := (State.Ordered.foldl h fun _ _ h => h.admitPeer ..).clearPeers
  exact h.keep

theorem State.Ordered.beginFrame (h : s.Ordered) (n : Nat) : (s.beginFrame n).Ordered := by
  unfold State.beginFrame
  extract_lets s1 s2 world s3 carry det s4 fresh
  have h : s2.Ordered := ((h.dropRunAhead.ite h).dropFrames ..).keepDigests ..
  clear_value s2
  have h : s3.Ordered := { h with streams := h.mapStreams fun _ k => k }
  clear_value s3
  have h : s4.Ordered := h.keep
  clear_value s4
  exact h.dropRunAhead.ite ((h.modWork ..).ite h.keep)

theorem State.Ordered.schedule (h : s.Ordered) {n : Nat} {t : State} (e : s.schedule = some (n, t)) : t.Ordered := by
  unfold State.schedule at e
  dsimp only at e
  split at e
  · cases e
  split at e
  · cases e
  split at e
  · obtain ⟨-, rfl⟩ := Prod.mk.inj (Option.some.inj e)
    exact ((h.modTb ..).ite ((h.modTb ..).count ..)).raise ..
  · obtain ⟨-, rfl⟩ := Prod.mk.inj (Option.some.inj e)
    exact h.modTb ..

theorem execFrameTick_ordered (h : s.Ordered) : NextOrdered (execFrameTick s) := by
  refine State.Ordered.ite h ?_
  split
  · exact h
  next n s1 e =>
  have h := h.schedule e
  extract_lets k2 d2 s2 set s3 s4
  have h : s2.Ordered := State.Ordered.finishOld (State.Ordered.keep (h.tickAt n)) _
  clear_value s2
  have h : s3.Ordered := (h.beginFilters.ite h).commitAt ..
  have h : s4.Ordered := (h.enterService ..).ite h
  exact ((h.remapLanes.releaseDue ..).groupTick).beginFrame ..

theorem execProgramReload_ordered (h : s.Ordered) (ingress : Bool) (number : Nat) : NextOrdered (execProgramReload ingress number s) := by
  unfold execProgramReload
  split
  · exact (h.modStream ..).ite h
  split
  · exact (h.modUnit ..).ite h
  exact h

theorem State.Ordered.sentryApply (h : s.Ordered) (p : SentryHeld) : (s.sentryApply p).Ordered :=
  h.keep

theorem State.Ordered.sentrySeal (h : s.Ordered) (frame mapFrame now landing : Nat) (start : StartState) : (s.sentrySeal frame mapFrame now landing start).Ordered := by
  unfold State.sentrySeal
  extract_lets n1 s1 due n2 s2 s3 sources drawn n4
  have h : s1.Ordered := h.ite h.keep
  clear_value s1
  have h : s2.Ordered := h.keep
  clear_value s2
  have h : s3.Ordered := h.foldl fun _ _ h => (h.sentryApply ..).ite (h.count ..)
  exact h.keep

theorem State.Ordered.beginCompare (h : s.Ordered) (frame : Nat) (run sealedV : Version) : (s.beginCompare frame run sealedV).Ordered := by
  unfold State.beginCompare
  extract_lets noKeep b keysOf undone all reversioned w1 s1 s2 s3 s4 d5 s5 s6
  have h : s1.Ordered := h.keep
  clear_value s1
  have h : s2.Ordered := (h.choice ..).ite h
  have h : s3.Ordered := h.modVersion ..
  have h : s4.Ordered := (h.cancelItems ..).ite h
  clear_value s4
  have h : s5.Ordered := h.keep
  have h : s6.Ordered := h.ite (h.count ..)
  exact h.modVersion ..

theorem State.Ordered.sealSources (h : s.Ordered) (frame now : Nat) : (s.sealSources frame now).2.2.Ordered := by
  unfold State.sealSources
  extract_lets left opened w1 s1 s2 s3 egoN egoPay s4 ego w5 s5 s6 test payloads s7
  have h : s1.Ordered := h.keep
  clear_value s1
  have h : s2.Ordered := h.foldl fun _ x h => h.deferDelta ..
  have h : s3.Ordered := h.foldl fun _ x h => h.holdPacket ..
  have h : s4.Ordered := h.takeStream ..
  clear_value s4
  have h : s5.Ordered := h.keep
  have h : s6.Ordered := by
    unfold s6
    generalize ego = found
    split
    · exact h.newMapFrame _
    · exact h
  clear_value s6
  have h : s7.Ordered := h.foldl fun _ _ h => h.ite (h.takeStream ..)
  split
  next stale s8 e => exact .of e ((h.expireAgents ..).sealStale ..)

theorem State.Ordered.sealVersion (h : s.Ordered) (frame now stale : Nat) (inp : Inputs) (reinit : Bool) : (s.sealVersion frame now stale inp reinit).2.Ordered := by
  unfold State.sealVersion
  extract_lets run number egoStale v w1 s1 s2 s3 w4
  have h : s1.Ordered := h.keep
  clear_value s1
  have h : s2.Ordered := (h.showVersion ..).count ..
  have h : s3.Ordered := by
    unfold s3
    generalize run = found
    split
    · exact h.beginCompare ..
    · exact h
  exact h.keep

theorem State.Ordered.sendCheckpoint (h : s.Ordered) (frame : Nat) : (s.sendCheckpoint frame).Ordered := by
  unfold State.sendCheckpoint
  split
  · exact h
  exact h.makeImage.keep.sendSegments ..

theorem State.Ordered.takeDumps (h : s.Ordered) (frame : Nat) : (s.takeDumps frame).Ordered :=
  h.foldl fun _ _ h => h.makeImage.keep

theorem State.Ordered.sealFrame (h : s.Ordered) (w : FrameWork) : (s.sealFrame w).Ordered := by
  unfold State.sealFrame
  extract_lets now landing s1 carried
  have h : s1.Ordered := (h.sendCheckpoint ..).takeDumps ..
  clear_value s1
  split
  next stale payloads s2 e =>
  have h : s2.Ordered := by
    have k := h.sealSources w.frame now
    rwa [e] at k
  split
  next start reinit e3 =>
  extract_lets s3 w4 s4 inp s5
  have h : s3.Ordered := h.sentrySeal ..
  clear_value s3
  have h : s4.Ordered := h.keep
  have h : s5.Ordered := h.overflowAgents ..
  clear_value s5
  split
  next v s6 e4 =>
  have h : s6.Ordered := .of e4 (h.sealVersion ..)
  exact ((((h.openWork ..).reportContinuation ..).recordStep ..).phaseReady ..).retireVersions.feedTiles

theorem execSeal_ordered (h : s.Ordered) : NextOrdered (execSeal s) := by
  unfold execSeal
  split
  · exact h
  exact h.ite ((h.ite (h.atTick ..)).sealFrame ..)

theorem execRunaheadTileCompare_ordered (h : s.Ordered) : NextOrdered (execRunaheadTileCompare s) := by
  unfold execRunaheadTileCompare
  split
  · split
    · exact h
    exact
      have h := h.keep
      have h := h.modVersion ..
      have h := h.ite (h.count ..)
      (h.ite (h.count ..)).feedTiles
  exact h

theorem State.Ordered.claimItems (h : s.Ordered) (frame : Nat) (p : Nat → Bool) : (s.claimItems frame p).Ordered :=
  h.keep.settleItems

theorem State.Ordered.squashItems (h : s.Ordered) (frame : Nat) (p : Nat → Bool) : (s.squashItems frame p).Ordered :=
  have h := h.keep
  h.ite (h.count ..)

theorem State.Ordered.holdItems (h : s.Ordered) (frame : Nat) (p : Nat → Bool) : (s.holdItems frame p).Ordered :=
  h.keep

theorem State.Ordered.commitPoint (h : s.Ordered) (w : FrameWork) : (s.commitPoint w).Ordered :=
  have h := h.keep
  have h := h.modWork ..
  ((((((h.count ..).raiseOpen ..).squashItems ..).ite ((h.holdItems ..).claimItems ..)).disposeAll ..).issueMissing ..).goRounds ..

theorem execRunaheadCommitPoint_ordered (h : s.Ordered) : NextOrdered (execRunaheadCommitPoint s) := by
  unfold execRunaheadCommitPoint
  split
  · exact ((h.commitPoint ..).retireVersions).ite h
  exact h

theorem execTileJob_ordered (h : s.Ordered) (lane : Nat) : NextOrdered (execTileJob lane s) := by
  unfold execTileJob
  split
  · exact h
  exact
    have h := h.commitItem ..
    h.ite (h.runTileJob ..)

theorem State.Ordered.buildSteps (h : s.Ordered) (v : Version) : (s.buildSteps v).Ordered :=
  (h.foldl fun _ _ h => h.ite (h.recordStep ..)).phaseReady ..

theorem State.Ordered.publishVersion (h : s.Ordered) (v : Version) : (s.publishVersion v).Ordered :=
  have h := h.modVersion ..
  ((((((h.ite (h.buildSteps ..)).shipVersion ..).settleItems).issueMissing ..).goRounds ..).retireVersions).startDelta

theorem execMapReady_ordered (h : s.Ordered) : NextOrdered (execMapReady s) := by
  unfold execMapReady
  split
  · exact h
  exact h.publishVersion ..

theorem State.Ordered.policyAbsent (h : s.Ordered) (frame : Nat) : (s.policyAbsent frame).Ordered :=
  ((((h.modWork ..).raiseOpen ..).disturb ..).completeRound0 ..).goRounds ..

theorem State.Ordered.judgePolicy (h : s.Ordered) (w : FrameWork) (same reruns : Bool) : (s.judgePolicy w same reruns).Ordered := by
  unfold State.judgePolicy
  dsimp only
  split
  · exact h
  split
  · exact ((((h.claimItems ..).disposeAll ..).issueMissing ..).retireProposals ..).goRounds ..
  exact
    have h := (h.cancelItems ..).squashItems ..
    have h := h.modWork ..
    have h := h.disposeAll ..
    (h.addItem ..).ite (h.policyAbsent ..)

theorem State.Ordered.sceneDone (h : s.Ordered) (frame : Nat) (spec : Bool) (bytes : List Byte) (numeric : Nat) : (s.sceneDone frame spec bytes numeric).Ordered := by
  unfold State.sceneDone
  split
  · exact h
  split
  · exact
      have h := h.keep
      (h.addItem ..).ite h
  exact h.keep.judgePolicy ..

theorem execSceneTensorEmit_ordered (h : s.Ordered) : NextOrdered (execSceneTensorEmit s) := by
  unfold execSceneTensorEmit
  dsimp only
  split
  · exact h
  exact ((h.count ..).shipScene ..).sceneDone ..

theorem execBuildEndPromotion_ordered (h : s.Ordered) : NextOrdered (execBuildEndPromotion s) := by
  unfold execBuildEndPromotion
  split
  · exact h
  dsimp only
  split
  · exact (h.atTick ..).modWork ..
  exact
    have h := ((h.atTick ..).count ..).modWork ..
    h.keep.ite h

theorem execUrgentDelta_ordered (h : s.Ordered) (stream : Nat) : NextOrdered (execUrgentDelta stream s) := by
  unfold execUrgentDelta
  split
  · split
    · exact h
    exact
      have h := h.keep
      (h.takeDelta ..).ite ((h.deferDelta ..).ite ((((((h.keep.modWork ..).present ..).settleItems).count ..).choice ..).startDelta))
  exact h

theorem State.Ordered.meetUrgent (h : s.Ordered) (v : Version) : (s.meetUrgent v).Ordered := by
  unfold State.meetUrgent
  dsimp only
  split
  · exact (((h.modWork ..).repeatRechecks ..).settleItems).ite ((h.modWork ..).withdrawBlocks ..)
  exact h.modWork ..

theorem execUrgentVersionSeal_ordered (h : s.Ordered) : NextOrdered (execUrgentVersionSeal s) := by
  unfold execUrgentVersionSeal
  change State.Ordered _
  split
  · exact h
  next v _ =>
  extract_lets s1 s2
  have h : s1.Ordered := ((h.modVersion ..).showVersion ..).count ..
  have h : s2.Ordered := (h.modVersion ..).meetUrgent ..
  cases s2.version? v.number false with
  | none => exact h
  | some v => exact h.publishVersion v

theorem State.Ordered.resumeLive (h : s.Ordered) (last : Nat) : (s.resumeLive last).Ordered :=
  have h := h.keep
  (((h.count ..).ite h).modTb ..).signalStatus

theorem State.Ordered.landReplay (h : s.Ordered) (w : FrameWork) : (s.landReplay w).Ordered := by
  unfold State.landReplay
  extract_lets d1 s1 s2 d3
  have h : s2.Ordered := by
    have k : s1.Ordered := h.keep
    unfold s2
    clear_value s1
    split
    · refine State.Ordered.ite ?_ h
      have k {r} := (k.count 0x7212 7 1).setOutcome r 0 0
      dsimp only
      split
      · exact k.commitItem ..
      · exact k
    · exact h
  clear_value s2
  split
  · exact (State.Ordered.modTb h.keep ..).signalStatus
  · exact h.resumeLive ..
  · exact h

theorem execLanding_ordered (h : s.Ordered) : NextOrdered (execLanding s) := by
  unfold execLanding
  split
  · exact h
  exact h.ite ((((h.landFrame ..).wakeBanks ..).landReplay ..).retireVersions)

theorem State.Ordered.beginRunAhead (h : s.Ordered) (w : FrameWork) (v : Version) (start : StartState) (landing : Nat) : (s.beginRunAhead w v start landing).Ordered :=
  (h.keep.keep.openWork ..).feedTiles

theorem State.Ordered.runAhead (h : s.Ordered) (w : FrameWork) : (s.runAhead w).Ordered := by
  unfold State.runAhead
  dsimp only
  split
  · exact h
  split
  · exact h.count ..
  split
  · exact h.beginRunAhead ..
  exact h

theorem execSlackStart_ordered (h : s.Ordered) : NextOrdered (execSlackStart s) := by
  unfold execSlackStart
  split
  · exact h
  exact ((((h.ite (h.atTick ..)).modWork ..).runAhead ..).releaseDue ..).nextBankSlice ..

/-! Service -/

theorem execDispatcherTick_ordered (h : s.Ordered) (t tick : Nat) : NextOrdered (execDispatcherTick t tick s) :=
  have h := h.at ..
  (h.releaseDue ..).ite h

theorem execLoadRanking_ordered (h : s.Ordered) : NextOrdered (execLoadRanking s) :=
  h.keep

theorem State.Ordered.moveUnit (h : s.Ordered) (g : Nat) (head : Item) : (s.moveUnit g head).Ordered :=
  h.keep

theorem execSteal_ordered (h : s.Ordered) (gallery : Nat) : NextOrdered (execSteal gallery s) := by
  unfold execSteal
  split
  · exact h
  split
  · exact h
  dsimp only
  split
  · exact h.count ..
  exact ((h.foldl fun _ _ h => h.moveUnit ..).count ..).count ..

theorem State.Ordered.takeLanes (h : s.Ordered) (i : Item) (lanes : List Nat) : (s.takeLanes i lanes).Ordered :=
  have h := h.modPlan ..
  (h.modWork ..).ite h

theorem State.Ordered.stirEngines (h : s.Ordered) (dispatcher : Nat) : (s.stirEngines dispatcher).Ordered :=
  (h.foldl fun _ _ h => h.nextAtEngine ..).ite h

theorem execItemAssign_ordered (h : s.Ordered) (t dispatcher : Nat) : NextOrdered (execItemAssign t dispatcher s) := by
  unfold execItemAssign
  dsimp only
  split
  · exact h.at ..
  split
  · split
    · exact (h.at ..).stirEngines ..
    split
    · exact (h.at ..).stirEngines ..
    exact (((h.at ..).modItem ..).count ..).stirEngines ..
  split
  · exact h.at ..
  exact ((((h.at ..).takeLanes ..).ite (h.at ..)).modItem ..).count ..

theorem State.Ordered.afterItem (h : s.Ordered) (i : Item) : (s.afterItem i).Ordered := by
  unfold State.afterItem
  extract_lets s1 s2
  have h : s1.Ordered := by
    unfold s1
    split
    · exact ((h.modUnit ..).ite h).nextAtEngine ..
    · exact h
  clear_value s1
  have h : s2.Ordered := by
    unfold s2
    split
    · refine State.Ordered.goRounds ?_ _
      split
      · exact (h.replayBlock ..).ite h
      · exact h
    · refine State.Ordered.goRounds ?_ _
      split
      · exact h.startReevals ..
      · exact h
    · exact h.feedTiles
    · exact h.completeRecord ..
    · exact h
  exact h.retireVersions

theorem execItemRetire_ordered (h : s.Ordered) (t serial : Nat) : NextOrdered (execItemRetire t serial s) := by
  unfold execItemRetire
  dsimp only
  split
  · exact ((((h.at ..).dropItem ..).afterItem ..).feedBacklog).ite (h.at ..)
  exact h.at ..

theorem execItemAdmission_ordered (h : s.Ordered) : NextOrdered (execItemAdmission s) :=
  h.feedBacklog.takeDescriptor.admitMirrored.signalPause

theorem execEngineLeavesService_ordered (h : s.Ordered) (engine : Nat) (cause : LeaveCause) : NextOrdered (execEngineLeavesService engine cause s) :=
  h.ite (((h.uncorrected ..).ite h).engineOut ..)

theorem execGalleryLeavesService_ordered (h : s.Ordered) (gallery : Nat) (cause : LeaveCause) : NextOrdered (execGalleryLeavesService gallery cause s) :=
  ((((h.uncorrected ..).ite h).galleryOut ..).recomputeBudget).ite h

theorem State.Ordered.adminOut (h : s.Ordered) (engines : Bool) (index mask : Nat) : ((s.adminOut engines index mask).getD s).Ordered := by
  unfold State.adminOut
  split
  · exact h
  split
  · extract_lets s1 s2
    have h : s1.Ordered := h.setObj ..
    have h : s2.Ordered := h.foldl fun s k h => (h.modEngine ..).ite ((h.modEngine ..).ite h)
    exact h.remapLanes.recomputeBudget
  · extract_lets s1 drains s2 s3 s4
    have h : s1.Ordered := h.setObj ..
    have h : s2.Ordered := h.foldl fun s g h => h.modGallery ..
    have h : s3.Ordered := h.foldl fun s g h => (h.modGallery ..).ite h
    have h : s4.Ordered := h.remapLanes
    exact (State.Ordered.foldl h fun s g h => h.moveLists g).recomputeBudget

theorem execAdminOutWrite_ordered (h : s.Ordered) (engines : Bool) (index mask : Nat) : NextOrdered (execAdminOutWrite engines index mask s) :=
  h.ite (h.adminOut ..)

theorem execDrainComplete_ordered (h : s.Ordered) (engine : Bool) (number : Nat) : NextOrdered (execDrainComplete engine number s) := by
  unfold execDrainComplete
  dsimp only
  split
  · split
    · exact h
    exact
      have h := ((h.modEngine ..).remapLanes).endCourse ..
      ((h.galleryOut ..).ite h).recomputeBudget
  split
  · exact h
  exact
    have h := h.modGallery ..
    ((h.foldl fun _ _ h => (h.modEngine ..).endCourse ..).remapLanes).recomputeBudget

theorem State.Ordered.bistFailure (h : s.Ordered) (unit : Nat) : (s.bistFailure unit).Ordered :=
  (h.count ..).raise ..

theorem State.Ordered.rejoinFails (h : s.Ordered) (engine : Bool) (number : Nat) : (s.rejoinFails engine number).Ordered :=
  ((((h.modEngine ..).ite (h.modGallery ..)).keep).bistFailure ..).refuseRejoin ..

theorem State.Ordered.rejoinSlice (h : s.Ordered) (engine : Bool) (number : Nat) (passed : Bool) : (s.rejoinSlice engine number passed).Ordered := by
  unfold State.rejoinSlice
  extract_lets u n slack s1 n1
  have k : s1.Ordered := h.count ..
  exact h.ite (k.keep.ite (k.rejoinFails ..))

theorem execRejoinRegister_ordered (h : s.Ordered) (engine : Bool) (number : Nat) (digestEqual : Bool) : NextOrdered (execRejoinRegister engine number digestEqual s) := by
  unfold execRejoinRegister
  change State.Ordered _
  extract_lets u n1 s1 at' s2 s3
  have k : s1.Ordered := h.keep
  have l : s2.Ordered := k.foldl fun s e h => h.loadEngine e
  have l : s3.Ordered := l.keep
  exact h.ite (State.Ordered.ite (((k.loadEngine ..).modEngine ..).ite (l.modGallery ..)) (h.rejoinFails ..))

theorem State.Ordered.segmentPassed (h : s.Ordered) (unit segments : Nat) : (s.segmentPassed unit segments).Ordered := by
  unfold State.segmentPassed
  split
  · exact h
  · exact State.Ordered.clearSelfTest { h with courses := alSorted_alSet _ _ h.courses }

theorem State.Ordered.hallBankFails (h : s.Ordered) (b : Nat) : (s.hallBankFails b).Ordered :=
  ((h.keep.keep.endCourse ..).count ..).raise ..

theorem State.Ordered.engineSlice (h : s.Ordered) (e : Nat) (r : SliceResult) : (s.engineSlice e r).Ordered :=
  ((h.bistFailure ..).engineOut ..).ite (((h.segmentPassed ..).nextAtEngine ..).ite ((((h.loadEngine ..).segmentPassed ..).nextAtEngine ..).ite (((h.loadEngine ..).bistFailure ..).engineOut ..)))

theorem State.Ordered.bankSlice (h : s.Ordered) (u : Nat) (passed : Bool) : (s.bankSlice u passed).Ordered := by
  unfold State.bankSlice
  extract_lets n1 s1 s2 s3
  have h : s1.Ordered := State.Ordered.count h.keep ..
  clear_value s1
  have k : s2.Ordered := h.bankTested ..
  have h : s3.Ordered := ((h.segmentPassed ..).ite ((h.bistFailure ..).hallBankFails ..)).ite (k.ite (k.bistFailure ..))
  exact h.nextBankSlice ..

theorem execSelfTestSlice_ordered (h : s.Ordered) (t unit : Nat) (result : SliceResult) : NextOrdered (execSelfTestSlice t unit result s) := by
  unfold execSelfTestSlice
  dsimp only
  split
  · split
    · exact (h.at ..).rejoinSlice ..
    exact (((h.at ..).dropItem ..).count ..).engineSlice ..
  exact ((h.at ..).bankSlice ..).ite (h.at ..)

theorem State.Ordered.abandonSlice (h : s.Ordered) (unit : Nat) : (s.abandonSlice unit).Ordered :=
  ((h.atTick ..).count ..).raise ..

theorem execSliceAbandon_ordered (h : s.Ordered) (slice : AbandonedSlice) : NextOrdered (execSliceAbandon slice s) := by
  unfold execSliceAbandon
  split
  · split
    · exact h
    exact
      have h := ((h.dropItem ..).abandonSlice ..).loadEngine ..
      (h.nextAtEngine ..).ite ((h.bistFailure ..).engineOut ..)
  exact (h.keep.abandonSlice ..).ite h

theorem execCoverageOverdue_ordered (h : s.Ordered) (t unit : Nat) : NextOrdered (execCoverageOverdue t unit s) := by
  unfold execCoverageOverdue
  extract_lets s1 interval
  have h : s1.Ordered := h.at t
  clear_value s1
  change State.Ordered _
  split
  · exact h
  · extract_lets late mark s2
    have marked {s : State} (h : s.Ordered) (k : Nat) : (mark s k).Ordered := { h with courses := alSorted_alSet _ _ h.courses }
    have k : s2.Ordered := ((marked h 1).count ..).raise ..
    exact (((marked k 2).setCause 6).ite k).ite (((marked h 2).setCause 6).ite h)

theorem State.Ordered.singularCut (h : s.Ordered) (unit : Nat) : (s.singularCut unit).Ordered :=
  have h := h.keep
  ((h.count ..).deviceFault ..).ite h

theorem State.Ordered.loseJob (h : s.Ordered) (number : Nat) (spec : Bool) (j : Nat × Nat × Nat) : (s.loseJob number spec j).Ordered :=
  (h.runTileJob ..).modVersion ..

theorem State.Ordered.cutOff (h : s.Ordered) (i : Item) (domain : Nat) : (s.cutOff i domain).Ordered := by
  unfold State.cutOff
  extract_lets s0 ended s1 s2 s3 s4 s5 n s6
  have h : s0.Ordered := h.count ..
  clear_value s0
  have after {s : State} (h : s.Ordered) : (ended s).Ordered := (h.dropItem ..).afterItem ..
  split
  · exact after ((h.abandonBlock ..).disturb ..)
  · exact after (((h.modWork ..).abandonBlock ..).disturb ..)
  · refine after ?_
    have h : s2.Ordered := h.raise ..
    split
    · exact (h.modPlan ..).present ..
    · exact h
  · exact after (State.Ordered.present (((((h.raise ..).modPlan ..).draw).count ..).frameStatus ..) ..)
  · exact after ((((h.loseJob ..).raise ..).disturb ..).singularCut ..)
  · exact after ((h.raise ..).endQp ..)
  · refine after (State.Ordered.raise (State.Ordered.pump ?_ _) _ _)
    unfold s6
    split
    · exact h.breakPacket ..
    · exact h.openPacket ..
  · exact after ((h.raise ..).setOutcome ..)
  · split
    · exact ((h.dropItem ..).bistFailure ..).engineOut ..
    · exact h.dropItem ..
  · exact after (h.policyFailed ..)

theorem execItemCutOff_ordered (h : s.Ordered) (t : Nat) (what : CutOff) : NextOrdered (execItemCutOff t what s) := by
  unfold execItemCutOff
  dsimp only
  split
  · split
    · exact ((h.at ..).cutOff ..).ite (h.at ..)
    exact h.at ..
  · split
    · exact h.at ..
    exact (((((h.at ..).count ..).raise ..).modPlan ..).present ..).singularCut ..
  · split
    · exact
        have h := ((h.at ..).count ..).raise ..
        (h.singularCut ..).ite h
    exact h.at ..
  split
  · exact h.at ..
  exact (((h.at ..).count ..).publicationFails ..).singularCut ..

/-! PeerOps -/

theorem State.Ordered.resendAll (h : s.Ordered) (n : Nat) : (s.resendAll n).Ordered :=
  (h.setQp ..).foldl fun _ _ h => h.send ..

theorem State.Ordered.reestablish (h : s.Ordered) (c : Nat) : (s.reestablish c).Ordered :=
  h.foldl fun _ _ h => (h.setQp ..).resendAll ..

theorem State.Ordered.qpMoves (h : s.Ordered) (p n : Nat) : (s.qpMoves p n).Ordered :=
  have h := h.setQp ..
  h.foldl fun _ _ h => h.send ..

theorem State.Ordered.failover (h : s.Ordered) : s.failover.Ordered :=
  have h := h.keep
  have h := (h.modPort ..).count ..
  have h := h.foldl fun _ _ h => have h := h.setQp ..; have h := h.setQp ..; h.foldl fun _ _ h => h.send ..; have h := h.foldl fun _ _ h => h.qpMoves ..; ((h.modPort ..).foldl fun _ _ h => h.sendInput ..).raise ..

theorem State.Ordered.portDown (h : s.Ordered) (p : Nat) : (s.portDown p).Ordered := by
  unfold State.portDown
  split
  · exact h
  exact
    have h := (h.modPort ..).raise ..
    h.failover.ite h

theorem State.Ordered.clientsRecover (h : s.Ordered) (n : Nat) : (s.clientsRecover n).Ordered :=
  h.foldl fun _ _ h => h.foldl fun _ _ h => by split; exacts [(h.setRing ..).ite h, h]

/-! Memory -/

theorem State.Ordered.freeChoice (h : s.Ordered) (site n : Nat) : (s.freeChoice site n).2.Ordered :=
  h.draw

theorem State.Ordered.correctedErrors (h : s.Ordered) (store n : Nat) : (s.correctedErrors store n).Ordered := by
  unfold State.correctedErrors
  split
  · exact h
  exact
    have h := h.count ..
    (h.keep.raise ..).ite h

theorem State.Ordered.linkCorrected (h : s.Ordered) (store : Nat) : (s.linkCorrected store).Ordered := by
  unfold State.linkCorrected
  split
  · exact h.count ..
  · exact h.count ..
  · exact h.count ..
  · exact h.count ..
  exact h

theorem execCorrectedErrorEvent_ordered (h : s.Ordered) (t store : Nat) : NextOrdered (execCorrectedErrorEvent t store s) :=
  ((h.at ..).correctedErrors ..).ite ((h.at ..).linkCorrected ..)

theorem State.Ordered.loseTiles (h : s.Ordered) (p : Tile → Bool) : (s.loseTiles p).Ordered :=
  h.keep

theorem State.Ordered.losePlan (h : s.Ordered) (k : Nat) : (s.losePlan k).Ordered := by
  unfold State.losePlan
  split
  · exact h
  split
  · exact ((h.modPlan ..).present ..).disturb ..
  exact h

theorem State.Ordered.strikePolicy (h : s.Ordered) : s.strikePolicy.Ordered := by
  unfold State.strikePolicy
  split
  · exact .after (by split; exacts [h.dropItem .., h]) fun h => h.policyFailed ..
  exact h

theorem State.Ordered.rebuildClosed (h : s.Ordered) : s.rebuildClosed.Ordered := by
  unfold State.rebuildClosed
  split
  · exact h
  exact h.ite (h.modWork ..)

theorem State.Ordered.strikeInvocation (h : s.Ordered) (slot : Nat) : (s.strikeInvocation slot).Ordered := by
  unfold State.strikeInvocation
  dsimp only
  split
  · exact ((h.freeChoice ..).abandonItem ..).disturb ..
  split
  · exact ((h.freeChoice ..).breakPacket ..).disturb ..
  exact h.freeChoice ..

theorem State.Ordered.strikeRecord (h : s.Ordered) (half beta : Nat) : (s.strikeRecord half beta).Ordered := by
  unfold State.strikeRecord
  split
  · exact h
  exact ((h.withdrawBlocks ..).issueMissing ..).goRounds ..

theorem State.Ordered.strikeDirectory (h : s.Ordered) (j k : Nat) : (s.strikeDirectory j k).Ordered := by
  unfold State.strikeDirectory
  split
  · exact h
  split
  · exact (h.modVersion ..).disturb ..
  exact h

theorem State.Ordered.strikeProgram (h : s.Ordered) (slot : Nat) (tally : Bool) : (s.strikeProgram slot tally).Ordered :=
  (h.strikeInvocation ..).ite (h.ite h.keep)

theorem State.Ordered.hallError (h : s.Ordered) (address : Nat) : (s.hallError address).Ordered := by
  unfold State.hallError
  split
  · exact h
  dsimp only
  split
  · exact (h.uncorrected ..).deviceFault ..
  · exact (h.uncorrected ..).strikeRecord ..
  · exact (h.uncorrected ..).rebuildClosed
  · exact (h.uncorrected ..).losePlan ..
  · exact (h.uncorrected ..).strikeDirectory ..
  · exact (h.uncorrected ..).strikePolicy
  · exact (h.uncorrected ..).strikePolicy
  · split
    · exact (h.uncorrected ..).strikeProgram ..
    exact h.uncorrected ..
  exact h.uncorrected ..

theorem execUncorrectedHallError_ordered (h : s.Ordered) (t address : Nat) : NextOrdered (execUncorrectedHallError t address s) :=
  (h.at ..).hallError ..

theorem State.Ordered.modChannel (h : s.Ordered) (c : Nat) (f : Channel → Channel) : (s.modChannel c f).Ordered :=
  h.keep

theorem State.Ordered.loseEntries (h : s.Ordered) (n : Nat) (lost : Nat → Bool) : (s.loseEntries n lost).Ordered :=
  h.ite (((h.modStream ..).raise ..).disturb ..)

theorem State.Ordered.loseSource (h : s.Ordered) (n : Nat) : (s.loseSource n).Ordered :=
  h.keep.loseEntries ..

theorem State.Ordered.strikeSource (h : s.Ordered) (n : Nat) : (s.strikeSource n).Ordered := by
  unfold State.strikeSource
  split
  next k s1 e1 =>
  have h : s1.Ordered := .of e1 (h.freeChoice ..)
  split
  next two s2 e2 =>
  have h : s2.Ordered := .of e2 (h.freeChoice ..)
  exact h.loseEntries ..

theorem State.Ordered.loseSources (h : s.Ordered) : s.loseSources.Ordered :=
  h.foldl fun _ _ h => h.loseSource ..

theorem State.Ordered.loseModel (h : s.Ordered) (slot : Nat) : (s.loseModel slot).Ordered :=
  h.keep

theorem State.Ordered.loseDevice (h : s.Ordered) (part : Nat) : (s.loseDevice part).Ordered := by
  unfold State.loseDevice
  split
  · exact h.keep
  · exact h.keep
  · exact h.keep
  exact h

theorem State.Ordered.loseChannelData (h : s.Ordered) (c : Nat) : (s.loseChannelData c).Ordered := by
  unfold State.loseChannelData
  extract_lets s1 w2 s2 hit s3
  have h : s1.Ordered := (h.loseTiles ..).loseSources
  clear_value s1
  have h : s2.Ordered := h.keep
  clear_value s2
  have struck {s : State} (h : s.Ordered) (i : Nat) : (hit s i).2.Ordered := .iteSnd h (.iteSnd h (by
    split
    next k t e => exact .of e (h.freeChoice ..)))
  have h : s3.Ordered := h.foldl fun s i h => (State.Ordered.loseModel (struck h i) i).ite (struck h i)
  clear_value s3
  split
  · exact h
  · extract_lets s4 lo hi p5 s5
    have h : s4.Ordered := (((h.loseDevice ..).loseDevice ..).loseDevice ..).ite h
    clear_value s4
    have h : s5.Ordered := { h with buffer := memWf_memClear _ _ h.buffer }
    exact h.raiseFor ..

theorem State.Ordered.loseJournal (h : s.Ordered) (c : Nat) : (s.loseJournal c).Ordered := by
  unfold State.loseJournal
  dsimp only
  split
  · exact h
  split
  · exact h.keep
  split
  · exact h.keep.deviceFault ..
  exact
    have h := (h.keep.raise ..).setCause ..
    (h.deviceFault ..).ite h

theorem State.Ordered.loseChannel (h : s.Ordered) (c : Nat) : (s.loseChannel c).Ordered := by
  unfold State.loseChannel
  split
  · exact h
  exact
    have h := ((h.modChannel ..).count ..).raise ..
    have h := (h.loseJournal ..).loseChannelData ..
    ((h.raise ..).deviceFault ..).ite h

theorem execChannelLoss_ordered (h : s.Ordered) (t channel : Nat) : NextOrdered (execChannelLoss t channel s) :=
  (h.at ..).loseChannel ..

theorem execJournalRereplicationDone_ordered (h : s.Ordered) (t : Nat) : NextOrdered (execJournalRereplicationDone t s) := by
  unfold execJournalRereplicationDone
  dsimp only
  split
  · exact h.at ..
  exact (((((h.at ..).keep).setObj ..).count ..).raiseOpen ..).clearCause ..

theorem State.Ordered.strikeJournal (h : s.Ordered) (c : Nat) : (s.strikeJournal c).Ordered := by
  unfold State.strikeJournal
  dsimp only
  split
  · exact h.freeChoice ..
  exact (h.freeChoice ..).keep

theorem State.Ordered.strikeAt (h : s.Ordered) (c offset : Nat) : (s.strikeAt c offset).Ordered := by
  unfold State.strikeAt
  refine State.Ordered.ite ?_ ?_
  · extract_lets a struck
    refine State.Ordered.ite (State.Ordered.ite ((h.loseTiles ..).disturb ..) ?_) (State.Ordered.ite ?_ h)
    · split
      next n s1 e =>
      have h : s1.Ordered := .of e (h.freeChoice ..)
      exact (h.strikeSource ..).ite h
    · split
      next i s1 e =>
      have h : s1.Ordered := .of e (h.freeChoice ..)
      exact ((h.loseModel ..).disturb ..).ite h
  · split
    · exact h.strikeJournal ..
    · extract_lets tail
      refine State.Ordered.ite ?_ (h.raiseFor ..)
      split
      next part s1 e =>
      have h : s1.Ordered := .of e (h.freeChoice ..)
      exact ((h.loseDevice ..).disturb ..).ite h

theorem State.Ordered.strikeBlock (h : s.Ordered) (block : Nat) : (s.strikeBlock block).Ordered := by
  unfold State.strikeBlock
  dsimp only
  split
  · exact h
  split
  · exact h.strikeAt ..
  split
  · exact h
  split
  · exact h.freeChoice ..
  exact ((h.freeChoice ..).freeChoice ..).strikeAt ..

theorem State.Ordered.gddrError (h : s.Ordered) (block : Nat) : (s.gddrError block).Ordered :=
  have h := ((h.uncorrected ..).modChannel ..).strikeBlock ..
  (h.loseChannel ..).ite h

theorem State.Ordered.uncorrectedError (h : s.Ordered) (store unit : Nat) : (s.uncorrectedError store unit).Ordered := by
  unfold State.uncorrectedError
  split
  · exact h.hallError ..
  · exact h.gddrError ..
  dsimp only
  split
  · exact (h.uncorrected ..).engineOut ..
  · exact (h.uncorrected ..).engineOut ..
  · exact (h.uncorrected ..).strikePolicy
  · exact (((h.uncorrected ..).galleryOut ..).recomputeBudget).ite (h.uncorrected ..)
  exact h.uncorrected ..

theorem State.Ordered.scrubFinds (h : s.Ordered) (store : Nat) (flips : List Nat) : (s.scrubFinds store flips).2.Ordered := by
  unfold State.scrubFinds
  split
  · exact h
  · split
    next k s1 e => exact .of e (h.freeChoice ..)

theorem execPatrolScrub_ordered (h : s.Ordered) (t store : Nat) (single : List (Nat × Nat)) (several : List (Nat × List Nat)) : NextOrdered (execPatrolScrub t store single several s) := by
  refine State.Ordered.ite (h.at t) ((h.at t).foldl fun s x h => ?_)
  have found := h.scrubFinds store x.2
  split
  next s1 e => exact .of e found
  next s1 e => exact (State.Ordered.of e found).correctedErrors ..
  next s1 e => exact (State.Ordered.of e found).uncorrectedError ..

theorem State.Ordered.loseSolver (h : s.Ordered) (q : Nat) : (s.loseSolver q).Ordered :=
  have h := h.keep
  h.foldl fun _ _ h => (h.modItem ..).modPlan ..

theorem State.Ordered.domainFault (h : s.Ordered) (d : Nat) : (s.domainFault d).Ordered :=
  have h := (h.setCause ..).ite h
  (((h.galleryOut ..).recomputeBudget).ite h).ite ((h.loseChannel ..).ite (((h.strikePolicy.ite h).recomputeBudget).ite (((h.loseSolver ..).recomputeBudget).ite (h.ite ((h.portDown ..).ite ((h.raise ..).ite (h.deviceFault ..)))))))

theorem State.Ordered.stopNewelClocks (h : s.Ordered) : s.stopNewelClocks.Ordered :=
  h.keep

theorem State.Ordered.runDomains (h : s.Ordered) (window : ClockWindow) : (s.runDomains window).Ordered :=
  h.keep

theorem execClockMonitorWindow_ordered (h : s.Ordered) (t : Nat) (window : ClockWindow) : NextOrdered (execClockMonitorWindow t window s) := by
  unfold execClockMonitorWindow
  extract_lets s1 outside marked s2
  have h : s1.Ordered := ((h.at t).setPads ..).runDomains ..
  clear_value s1
  have h : s2.Ordered := h.keep
  exact State.Ordered.foldl h fun _ _ h => h.domainFault ..

theorem execNewelLockstepMismatch_ordered (h : s.Ordered) (t : Nat) : NextOrdered (execNewelLockstepMismatch t s) :=
  (h.at ..).deviceFault ..

theorem execNewelSramEccError_ordered (h : s.Ordered) (t : Nat) : NextOrdered (execNewelSramEccError t s) :=
  (h.at ..).deviceFault ..

theorem execNewelClkFailure_ordered (h : s.Ordered) (t : Nat) : NextOrdered (execNewelClkFailure t s) :=
  (((h.at ..).deviceFault ..).keep).stopNewelClocks

/-! PowerCmd -/

theorem State.Ordered.modPower (h : s.Ordered) (f : Power → Power) : (s.modPower f).Ordered :=
  h.keep

theorem State.Ordered.countThrottled (h : s.Ordered) : s.countThrottled.Ordered :=
  (h.modPower ..).count ..

theorem State.Ordered.endWindow (h : s.Ordered) (r : PowerReading) : (s.endWindow r).Ordered := by
  unfold State.endWindow
  exact h.modPower ..

theorem execThrottleEvaluation_ordered (h : s.Ordered) (t : Nat) (window : Option PowerReading) : NextOrdered (execThrottleEvaluation t window s) := by
  unfold execThrottleEvaluation
  dsimp only
  split
  · exact h.at ..
  exact
    have h := (h.at ..).countThrottled
    .after (by split; exacts [h.endWindow .., h]) fun h => have h := h.modPower ..; h.ite ((h.modPower ..).ite ((h.modPower ..).ite ((h.modPower ..).ite h)))

theorem State.Ordered.writeVoltage (h : s.Ordered) (k : Nat) (acknowledged : Bool) : (s.writeVoltage k acknowledged).Ordered :=
  ((h.modPower ..).send ..).ite ((h.modPower ..).count ..)

theorem execStepChange_ordered (h : s.Ordered) (t : Nat) (acknowledged : Bool) : NextOrdered (execStepChange t acknowledged s) := by
  unfold execStepChange
  dsimp only
  split
  · exact h.at ..
  split
  · exact ((((((h.at ..).countThrottled).modPower ..).modPower ..).count ..).ite (((h.at ..).countThrottled).modPower ..)).writeVoltage ..
  exact
    have h := (((h.at ..).countThrottled).modPower ..).writeVoltage ..
    (h.modPower ..).ite h

theorem execCoreVoltageSettled_ordered (h : s.Ordered) (t : Nat) : NextOrdered (execCoreVoltageSettled t s) := by
  unfold execCoreVoltageSettled
  dsimp only
  split
  · exact ((h.at ..).countThrottled).modPower ..
  exact h.at ..

theorem State.Ordered.powerFault (h : s.Ordered) (cause : Nat) : (s.powerFault cause).Ordered :=
  ((h.modPower ..).ite ((h.modPower ..).ite h)).deviceFault ..

theorem execTemperatureSample_ordered (h : s.Ordered) (t : Nat) (temps : List F32) : NextOrdered (execTemperatureSample t temps s) := by
  unfold execTemperatureSample
  dsimp only
  split
  · exact h.at ..
  exact
    have h := ((h.at ..).count ..).ite (h.at ..)
    have h := h.modPower ..
    have h := h.setPads ..
    have h := (h.modPower ..).ite h
    (h.powerFault ..).ite h

theorem execRailExcursion_ordered (h : s.Ordered) (t rail : Nat) (past : Bool) : NextOrdered (execRailExcursion t rail past s) :=
  have h := h.at ..
  h.ite ((h.keep.count ..).ite (h.powerFault ..))

end Sys2Proof.Machine
end

section
/-!
SUPPORT. The stores in order, continued: the commit check, the rule interpreter, flash and start-up.
-/
namespace Sys2Proof.Machine
open Sys2Proof

set_option Elab.async false

variable {s : State}

/-! Determ -/

theorem State.Ordered.replayEnable (h : s.Ordered) (on : Bool) : (s.replayEnable on).Ordered := by
  unfold State.replayEnable
  split
  · exact h
  dsimp only
  split
  · exact ((h.setObj ..).keep).signalStatus
  · exact ((h.setObj ..).keep).signalStatus
  · exact ((h.setObj ..).keep).signalStatus
  · exact (((h.setObj ..).keep).signalStatus).ite ((h.setObj ..).resumeLive ..)
  exact h.setObj ..

theorem execReplayEnableWrite_ordered (h : s.Ordered) (enable : Bool) : NextOrdered (execReplayEnableWrite enable s) :=
  (h.replayEnable ..).ite h

/-! RuleVm -/

theorem State.Ordered.ruleDo (h : s.Ordered) (len : Nat) (f : List Int → RuleResult) : (s.ruleDo len f).Ordered := by
  unfold State.ruleDo
  extract_lets r
  refine State.Ordered.ite h.keep ?_
  split
  · exact h
  · exact h.keep
  · exact h.keep
  · exact h.ite h.keep

theorem execRuleEnd_ordered (h : s.Ordered) : NextOrdered (execRuleEnd s) :=
  h.ruleDo ..

theorem execPushi_ordered (h : s.Ordered) (imm : BitVec 32) : NextOrdered (execPushi imm s) :=
  h.ruleDo ..

theorem execPushq_ordered (h : s.Ordered) (imm : BitVec 64) : NextOrdered (execPushq imm s) :=
  h.ruleDo ..

theorem execLd_ordered (h : s.Ordered) (idx : BitVec 16) (sub : BitVec 8) : NextOrdered (execLd idx sub s) :=
  h.ruleDo ..

theorem execLdact_ordered (h : s.Ordered) (idx : BitVec 16) (sub : BitVec 8) : NextOrdered (execLdact idx sub s) :=
  h.ruleDo ..

theorem execRuleAdd_ordered (h : s.Ordered) : NextOrdered (execRuleAdd s) :=
  h.ruleDo ..

theorem execRuleSub_ordered (h : s.Ordered) : NextOrdered (execRuleSub s) :=
  h.ruleDo ..

theorem execRuleMul_ordered (h : s.Ordered) : NextOrdered (execRuleMul s) :=
  h.ruleDo ..

theorem execRuleDiv_ordered (h : s.Ordered) : NextOrdered (execRuleDiv s) :=
  h.ruleDo ..

theorem execRuleAnd_ordered (h : s.Ordered) : NextOrdered (execRuleAnd s) :=
  h.ruleDo ..

theorem execRuleOr_ordered (h : s.Ordered) : NextOrdered (execRuleOr s) :=
  h.ruleDo ..

theorem execRuleXor_ordered (h : s.Ordered) : NextOrdered (execRuleXor s) :=
  h.ruleDo ..

theorem execRuleShl_ordered (h : s.Ordered) : NextOrdered (execRuleShl s) :=
  h.ruleDo ..

theorem execRuleShr_ordered (h : s.Ordered) : NextOrdered (execRuleShr s) :=
  h.ruleDo ..

theorem execRuleNeg_ordered (h : s.Ordered) : NextOrdered (execRuleNeg s) :=
  h.ruleDo ..

theorem execRuleEq_ordered (h : s.Ordered) : NextOrdered (execRuleEq s) :=
  h.ruleDo ..

theorem execRuleNe_ordered (h : s.Ordered) : NextOrdered (execRuleNe s) :=
  h.ruleDo ..

theorem execRuleLt_ordered (h : s.Ordered) : NextOrdered (execRuleLt s) :=
  h.ruleDo ..

theorem execRuleLe_ordered (h : s.Ordered) : NextOrdered (execRuleLe s) :=
  h.ruleDo ..

theorem execRuleNot_ordered (h : s.Ordered) : NextOrdered (execRuleNot s) :=
  h.ruleDo ..

theorem execRuleDup_ordered (h : s.Ordered) : NextOrdered (execRuleDup s) :=
  h.ruleDo ..

theorem execRuleDrop_ordered (h : s.Ordered) : NextOrdered (execRuleDrop s) :=
  h.ruleDo ..

theorem execRuleSwap_ordered (h : s.Ordered) : NextOrdered (execRuleSwap s) :=
  h.ruleDo ..

theorem execRuleAssert_ordered (h : s.Ordered) (code : BitVec 8) : NextOrdered (execRuleAssert code s) :=
  h.ruleDo ..

theorem execRuleJz_ordered (h : s.Ordered) (offset : BitVec 8) : NextOrdered (execRuleJz offset s) :=
  h.ruleDo ..

theorem State.Ordered.ruleOp (h : s.Ordered) (i : Instr) : (s.ruleOp i).Ordered := by
  cases i
  case ruleEnd => exact execRuleEnd_ordered h
  case pushi => exact execPushi_ordered h ..
  case pushq => exact execPushq_ordered h ..
  case ld => exact execLd_ordered h ..
  case ldact => exact execLdact_ordered h ..
  case ruleAdd => exact execRuleAdd_ordered h
  case ruleSub => exact execRuleSub_ordered h
  case ruleMul => exact execRuleMul_ordered h
  case ruleDiv => exact execRuleDiv_ordered h
  case ruleAnd => exact execRuleAnd_ordered h
  case ruleOr => exact execRuleOr_ordered h
  case ruleXor => exact execRuleXor_ordered h
  case ruleShl => exact execRuleShl_ordered h
  case ruleShr => exact execRuleShr_ordered h
  case ruleNeg => exact execRuleNeg_ordered h
  case ruleEq => exact execRuleEq_ordered h
  case ruleNe => exact execRuleNe_ordered h
  case ruleLt => exact execRuleLt_ordered h
  case ruleLe => exact execRuleLe_ordered h
  case ruleNot => exact execRuleNot_ordered h
  case ruleDup => exact execRuleDup_ordered h
  case ruleDrop => exact execRuleDrop_ordered h
  case ruleSwap => exact execRuleSwap_ordered h
  case ruleAssert => exact execRuleAssert_ordered h ..
  case ruleJz => exact execRuleJz_ordered h ..
  all_goals exact h

theorem State.Ordered.ruleRun (h : s.Ordered) (ops : List (Nat × Instr)) : (State.ruleRun ops s).Ordered := by
  induction ops generalizing s with
  | nil => exact h
  | cons o ops ih => exact (ih (h.ruleOp o.2)).ite (h.ruleOp o.2)

theorem State.Ordered.ruleProgram (h : s.Ordered) (b : List Byte) : (s.ruleProgram b).2.Ordered := by
  unfold State.ruleProgram
  split
  · exact h
  next ops _ =>
    have ran : (State.ruleRun ops { s with rule := RuleVm.initial }).Ordered := State.Ordered.ruleRun h.keep ops
    dsimp only
    split
    · exact ran
    · exact ran

/-! Check -/

theorem State.Ordered.rulePrograms (h : s.Ordered) (ks : List Nat) : (State.rulePrograms ks s).2.Ordered := by
  induction ks generalizing s with
  | nil => exact h
  | cons k ks ih =>
    unfold State.rulePrograms
    extract_lets b
    refine State.Ordered.iteSnd (ih h) ?_
    have ran := h.ruleProgram b
    split
    next t e => exact .of e ran
    next t e => exact ih (.of e ran)

theorem State.Ordered.checkView (h : s.Ordered) : s.checkView.2.2.Ordered := by
  have ran := h.rulePrograms (List.range 32)
  unfold State.checkView
  generalize State.rulePrograms (List.range 32) s = found at ran ⊢
  extract_lets +onlyGivenNames v
  clear_value v
  split
  · exact h
  split
  · exact h
  obtain ⟨rule, t⟩ := found
  have h : t.Ordered := ran
  cases rule with
  | some x => exact h
  | none =>
    generalize State.resources s v s.stagedImages = resources
    cases resources.find? (fun r => !r.2) with
    | none => exact h
    | some x => exact h

theorem State.Ordered.recordCheck (h : s.Ordered) (f : CheckFound) (margin : Option Int) : (s.recordCheck f margin).Ordered :=
  h.keep

/-! Flash -/

theorem State.Ordered.modBoot (h : s.Ordered) (f : Boot → Boot) (k : (f s.boot).tallies = s.boot.tallies := by rfl) : (s.modBoot f).Ordered :=
  { h with tallies := fun x hx => h.tallies x (k ▸ hx) }

theorem State.Ordered.modSlot (h : s.Ordered) (k : Nat) (f : FwSlot → FwSlot) : (s.modSlot k f).Ordered :=
  h.modBoot ..

theorem State.Ordered.headerWrite (h : s.Ordered) : s.headerWrite.Ordered :=
  h.modBoot ..

theorem State.Ordered.headerRead (h : s.Ordered) (bad : List Nat) : (s.headerRead bad).Ordered := by
  unfold State.headerRead
  dsimp only
  split
  · exact h
  exact h.modBoot ..

theorem State.Ordered.modArea (h : s.Ordered) (f : SettingsArea → SettingsArea) : (s.modArea f).Ordered :=
  h.modSlot ..

theorem State.Ordered.logStagedDom (h : s.Ordered) (key : Nat) (b : List Byte) : (s.logStagedDom key b).Ordered :=
  h.modArea ..

theorem State.Ordered.saveSettings (h : s.Ordered) : s.saveSettings.Ordered := by
  unfold State.saveSettings
  split
  · exact h
  next vals setId e =>
  have saved := h.dict.unsaved _ e
  extract_lets a changed staged keeps objects s1 d2 s2
  have h : s1.Ordered := h.modArea ..
  clear_value s1
  have h : s2.Ordered := { h with dict := { h.dict with saved, unsaved := nofun } }
  exact h.modBoot ..

theorem execSettingsSave_ordered (h : s.Ordered) : NextOrdered (execSettingsSave s) :=
  h.ite h.saveSettings

theorem State.Ordered.convertSettings (h : s.Ordered) (set : ObjMap × Nat) (hs : alSorted set.1 = true) : (s.convertSettings set).Ordered := by
  unfold State.convertSettings
  extract_lets kept lost format area s1 d2 s2
  have h : s1.Ordered := h.modArea ..
  clear_value s1
  have h : s2.Ordered := { h with dict := { h.dict with saved := alSorted_sublist List.filter_sublist hs } }
  exact (h.modBoot ..).raiseOpen ..

/-- The set that a log gives is in order: it is filled entry by entry. -/
theorem replayLog_sorted (key : List Byte) (log since waiting : List LogEntry) {found : Option (ObjMap × Nat)} (h : ∀ x, found = some x → alSorted x.1 = true) :
    ∀ x, replayLog key log since waiting found = some x → alSorted x.1 = true := by
  induction log generalizing since waiting found with
  | nil => exact h
  | cons e log ih =>
    cases e with
    | commit q setId n keeps mac =>
      unfold replayLog
      split
      · exact h
      · refine ih _ _ fun x e => ?_
        obtain rfl := Option.some.inj e
        refine alSorted_foldl ?_ fun m e k => ?_
        · cases found with
          | none => rfl
          | some f => exact h f rfl
        · split
          · exact alSorted_alSet _ _ k
          · split
            · exact alSorted_alSet _ _ k
            · exact k
          · exact k
    | object => exact ih _ _ h
    | stagedDom => exact ih _ _ h

theorem SettingsArea.load_sorted {a : SettingsArea} {key : List Byte} {x : ObjMap × Nat} (e : a.load key = some x) : alSorted x.1 = true := by
  unfold SettingsArea.load at e
  split at e
  · cases e
  · exact replayLog_sorted key a.log [] [] (found := none) (fun _ e => nomatch e) x e

theorem State.Ordered.findSaved (h : s.Ordered) (own other : Bool) : (s.findSaved own other).Ordered := by
  unfold State.findSaved
  extract_lets x y s1 d2 from' s2 area s3
  have h : s1.Ordered := h.modBoot ..
  clear_value s1
  split
  next set setId e =>
    split at e
    · exact { h with dict := { h.dict with saved := SettingsArea.load_sorted e, unsaved := nofun } }
    · cases e
  · generalize e : from' = found
    split
    next set =>
      unfold from' at e
      split at e
      · exact h.convertSettings set (SettingsArea.load_sorted e)
      · cases e
    · have h : s2.Ordered := { h with dict := { h.dict with saved := rfl, unsaved := nofun } }
      exact ((h.modArea ..).ite h).raiseOpen ..

theorem State.Ordered.loadDoms (h : s.Ordered) : s.loadDoms.Ordered := by
  unfold State.loadDoms
  extract_lets before doms s1 s2 s3 tread d4 s4 s5
  have h : s1.Ordered := { h with dict := h.dict.foldl fun _ _ h => h.setActive .. }
  clear_value s1
  have h : s2.Ordered := h.modBoot ..
  have h : s3.Ordered := h.foldl fun _ _ h => h.installImage ..
  clear_value s3
  have h : s4.Ordered := h.keep
  have h : s5.Ordered := h.foldl fun _ _ h => h.modStream ..
  exact (((h.applyRings ..).closeByCommit ..).layHall).signalStatus

theorem execStoredDomLoad_ordered (h : s.Ordered) (t : Nat) : NextOrdered (execStoredDomLoad t s) :=
  have h := h.at ..
  h.loadDoms.ite h

theorem State.Ordered.activate (h : s.Ordered) (slot : Nat) : ((s.activate slot).getD s).Ordered := by
  unfold State.activate
  split
  · exact State.Ordered.headerWrite (h.modBoot ..)
  · exact h

theorem execFirmwareActivate_ordered (h : s.Ordered) (slot : Nat) : NextOrdered (execFirmwareActivate slot s) :=
  State.Ordered.ite (h.activate slot) h

theorem State.Ordered.confirm (h : s.Ordered) : (s.confirm.getD s).Ordered := by
  unfold State.confirm
  extract_lets k s1 s2
  split
  · exact h
  · have h : s1.Ordered := h.modSlot ..
    have h : s2.Ordered := h.modSlot ..
    exact State.Ordered.headerWrite (h.modBoot ..)

theorem execFirmwareConfirm_ordered (h : s.Ordered) : NextOrdered (execFirmwareConfirm s) :=
  State.Ordered.ite h.confirm h

/-! Startup -/

theorem Dict.Ordered.initial : Dict.initial.Ordered := ⟨rfl, rfl, rfl, rfl, fun _ => nofun⟩

/-- The stores are in order in reset. -/
theorem State.Ordered.reset : State.reset.Ordered where
  dict := .initial
  courses := rfl
  buffer := rfl
  msix := rfl
  tallies := List.forall_mem_nil _
  streams := fun x hx => by rw [List.eq_of_mem_replicate hx]; rfl
  eng := .initial
  sorted := rfl
  processors := List.forall_mem_nil _

theorem State.Ordered.coldHold (_ : s.Ordered) (kind : ResetKind) (floating : Bool) : (s.coldHold kind floating).Ordered :=
  State.Ordered.reset.keep

theorem execColdResetAssert_ordered (h : s.Ordered) (t : Nat) (pcie : Bool) : NextOrdered (execColdResetAssert t pcie s) :=
  (h.at ..).coldHold ..

theorem execPwrGoodFall_ordered (h : s.Ordered) (t : Nat) : NextOrdered (execPwrGoodFall t s) :=
  (h.at ..).coldHold ..

theorem execVddAonLoss_ordered (h : s.Ordered) (t : Nat) : NextOrdered (execVddAonLoss t s) :=
  (h.at ..).coldHold ..

theorem execVddNewelLoss_ordered (h : s.Ordered) (t : Nat) : NextOrdered (execVddNewelLoss t s) :=
  (((h.at ..).keep).stopNewelClocks).signalStatus

theorem Dict.Ordered.loadFixed {d : Dict} (h : d.Ordered) : d.loadFixed.Ordered :=
  Dict.Ordered.foldl { h with active := alSorted_sublist List.filter_sublist h.active, shadow := rfl } fun _ _ h => h.setActive ..

theorem State.Ordered.warmHold (h : s.Ordered) : s.warmHold.Ordered :=
  { State.Ordered.reset with
    dict := Dict.Ordered.loadFixed { Dict.Ordered.initial with saved := h.dict.saved }
    buffer := h.buffer
    msix := h.msix }

theorem execWarmRstNAssert_ordered (h : s.Ordered) (t : Nat) : NextOrdered (execWarmRstNAssert t s) :=
  have h := h.at ..
  h.ite (h.warmHold.ite (h.modBoot ..))

theorem State.Ordered.chooseSlot (h : s.Ordered) : s.chooseSlot.2.Ordered := by
  unfold State.chooseSlot
  dsimp only
  split
  · exact
      have h := h.modBoot ..
      .iteSnd ((h.modSlot ..).headerWrite) ((h.modSlot ..).headerWrite)
  split
  · exact .iteSnd ((h.modSlot ..).headerWrite) (((h.modSlot ..).headerWrite).raiseOpen ..)
  exact h

theorem State.Ordered.bootSlot (h : s.Ordered) (f : BootFacts) : (s.bootSlot f).2.Ordered := by
  unfold State.bootSlot
  dsimp only
  split
  · exact h.chooseSlot
  exact
    have h := h.chooseSlot.ite ((h.chooseSlot.modSlot ..).headerWrite)
    .iteSnd h (h.ite ((h.modSlot ..).headerWrite))

theorem State.Ordered.showFirmware (h : s.Ordered) : s.showFirmware.Ordered :=
  h.ite ((h.setObj ..).setObj ..)

theorem State.Ordered.stopAt (h : s.Ordered) (stage status : Nat) : (s.stopAt stage status).Ordered :=
  (h.modBoot ..).setPins ..

theorem State.Ordered.bist (h : s.Ordered) (f : BootFacts) : (s.bist f).Ordered := by
  unfold State.bist
  extract_lets a has passes goes engine gallery d1 s1 bad badG s2 s3
  have h (es gs : List ServiceUnit) : State.Ordered { s with disp := { s.disp with engines := es, galleries := gs } } := h.keep
  have h : s1.Ordered := h _ _
  clear_value s1
  have h : s2.Ordered := h.foldl fun _ _ h => ((((h.count ..).raise ..).count ..).raise ..).refuseRejoin ..
  have h : s3.Ordered := h.foldl fun _ _ h => (((((h.count ..).raise ..).ite h).count ..).raise ..).refuseRejoin ..
  exact h.remapLanes

theorem State.Ordered.loadStored (h : s.Ordered) (f : BootFacts) : (s.loadStored f).Ordered := by
  unfold State.loadStored
  extract_lets s1 c2 s2 s3
  have h : s1.Ordered := h.findSaved ..
  clear_value s1
  have h : s2.Ordered := { h with dict := h.dict.loadFixed }
  have h : s3.Ordered := h.modBoot ..
  exact h.layHall.applyGroup

theorem State.Ordered.placeJournal (h : s.Ordered) : s.placeJournal.Ordered :=
  have h := h.keep
  h.foldl fun _ _ h => h.loseJournal ..

theorem State.Ordered.beginCourses (h : s.Ordered) : s.beginCourses.Ordered :=
  have h := h.foldl fun _ _ h => h.beginCourse ..
  h.foldl fun _ _ h => h.beginCourse ..

theorem State.Ordered.enterReady (h : s.Ordered) (f : BootFacts) : (s.enterReady f).Ordered := by
  unfold State.enterReady
  extract_lets s1 s2 s3 s4 n5 s5 s6 s7
  have h : s1.Ordered := h.startTimebase
  clear_value s1
  have h : s2.Ordered := h.keep
  clear_value s2
  have h : s3.Ordered := h.skipTicks
  have h : s4.Ordered := h.modBoot ..
  clear_value s4
  have h : s5.Ordered := h.keep
  have h : s7.Ordered := (h.setPads ..).setPins ..
  exact h.driveSafe.beginCourses.signalStatus

theorem State.Ordered.coldFrom4 (h : s.Ordered) (f : BootFacts) : (s.coldFrom4 f).Ordered := by
  unfold State.coldFrom4
  split
  · exact h.stopAt ..
  dsimp only
  split
  · exact (h.foldl fun _ _ h => h.loseChannel ..).stopAt ..
  split
  · exact (h.foldl fun _ _ h => h.loseChannel ..).stopAt ..
  exact
    have h := ((h.foldl fun _ _ h => h.loseChannel ..).modBoot ..).bist ..
    (h.stopAt ..).ite (((h.loadStored ..).placeJournal).enterReady ..)

theorem State.Ordered.coldSequence (h : s.Ordered) (f : BootFacts) : (s.coldSequence f).Ordered := by
  unfold State.coldSequence
  refine State.Ordered.ite (h.stopAt ..) ?_
  extract_lets s1 s2 d3 n3
  have h : s1.Ordered := h.keep
  clear_value s1
  have h : s2.Ordered := h.modBoot ..
  clear_value s2
  split
  · exact h.stopAt ..
  next area _ =>
  refine State.Ordered.ite (h.stopAt ..) (State.Ordered.ite (h.stopAt ..) ?_)
  extract_lets s3 s4
  have h : s3.Ordered := { h with dict := { h.dict with } }
  clear_value s3
  have h : s4.Ordered := h.modBoot ..
  have found := (h.headerRead f.badHeaders).bootSlot f
  split
  next s5 e => exact (State.Ordered.of e found).stopAt ..
  next k s5 e => exact ((State.Ordered.modBoot (.of e found) ..).showFirmware).coldFrom4 ..

theorem execPowerOnReset_ordered (h : s.Ordered) (t : Nat) (pcie : Bool) (facts : BootFacts) : NextOrdered (execPowerOnReset t pcie facts s) :=
  have h := h.at t
  h.ite (State.Ordered.coldSequence h.keep ..)

theorem State.Ordered.recoverJournal (h : s.Ordered) : s.recoverJournal.Ordered :=
  h.keep.keep.ite (h.keep.raiseOpen ..)

theorem State.Ordered.keepTables (h : s.Ordered) : s.keepTables.Ordered :=
  h.keep

theorem State.Ordered.warmSequence (h : s.Ordered) (f : BootFacts) : (s.warmSequence f).Ordered := by
  unfold State.warmSequence
  split
  · exact h.stopAt ..
  split
  · exact h.stopAt ..
  dsimp only
  split
  · exact ((h.foldl fun _ _ h => h.loseChannel ..).showFirmware).stopAt ..
  split
  · exact ((((h.foldl fun _ _ h => h.loseChannel ..).showFirmware).recoverJournal).bist ..).stopAt ..
  exact
    have h := (((((h.foldl fun _ _ h => h.loseChannel ..).showFirmware).recoverJournal).bist ..).loadStored ..).keepTables
    (h.ite (h.setObj ..)).enterReady ..

theorem State.Ordered.clearWarm (h : s.Ordered) : s.clearWarm.Ordered :=
  h.keep.dropCauses ..

theorem execWarmRstNRelease_ordered (h : s.Ordered) (t : Nat) (facts : BootFacts) : NextOrdered (execWarmRstNRelease t facts s) := by
  unfold execWarmRstNRelease
  dsimp only
  split
  · exact h.at ..
  exact
    have h := (h.at ..).modBoot ..
    (h.clearWarm.warmSequence ..).ite ((h.modBoot ..).coldFrom4 ..)

theorem execAttestationReportBuild_ordered (h : s.Ordered) (t : Nat) : NextOrdered (execAttestationReportBuild t s) := by
  unfold execAttestationReportBuild
  dsimp only
  split
  · exact h.at ..
  exact ((h.at ..).draw).modBoot ..

end Sys2Proof.Machine
end

section
/-!
SUPPORT. The stores in order, continued: the dictionary protocol, rings and host commands.
-/
namespace Sys2Proof.Machine
open Sys2Proof

set_option Elab.async false

variable {s : State}

/-! Odp -/

theorem State.Ordered.modSession (h : s.Ordered) (id : Nat) (f : Session → Session) : (s.modSession id f).Ordered :=
  h.keep

theorem State.Ordered.odpSend (h : s.Ordered) (x : Session) (kind opcode flags xid status : Nat) (payload : List Byte) : (s.odpSend x kind opcode flags xid status payload).2.Ordered :=
  h.modSession ..

theorem State.Ordered.odpRead (h : s.Ordered) (flags : Nat) (p : List Byte) : (s.odpRead flags p).2.Ordered := by
  unfold State.odpRead
  dsimp only
  split
  · exact h
  split
  · exact h
  exact .iteSnd h (.iteSnd h h)

theorem State.Ordered.odpBlockRead (h : s.Ordered) (flags : Nat) (p : List Byte) : (s.odpBlockRead flags p).2.Ordered := by
  unfold State.odpBlockRead
  dsimp only
  split
  · exact h
  split
  · exact h
  exact .iteSnd h (.iteSnd h (.iteSnd h (.iteSnd h h)))

theorem State.Ordered.odpSubscribe (h : s.Ordered) (x : Session) (p : List Byte) : (s.odpSubscribe x p).2.Ordered := by
  unfold State.odpSubscribe
  dsimp only
  split
  · exact h
  split
  · exact h
  exact .iteSnd h (.iteSnd h (h.modSession ..))

theorem State.Ordered.clearCounters (h : s.Ordered) (idx mask : Nat) : State.Ordered { s with dict := s.dict.clearCounters idx mask } :=
  { h with dict := h.dict.clearCounters .. }

theorem State.Ordered.optionGetD {o : Option State} {t : State} (e : o = some t) (h : (o.getD s).Ordered) : t.Ordered := by
  subst e
  exact h

theorem State.Ordered.writeObj (h : s.Ordered) (idx sub n : Nat) : (s.writeObj idx sub n).2.Ordered := by
  unfold State.writeObj
  extract_lets plain
  have k : plain.Ordered := h.setObj ..
  refine .iteSnd (h.clearCounters ..) (.iteSnd ?_ (.iteSnd ?_ (.iteSnd (.iteSnd h (h.replayEnable ..)) (.iteSnd ((h.flushBuffer ..).ite h) (.iteSnd ?_ (.iteSnd ?_ (k.dueSave.ite k)))))))
  · split
    next t e => exact .optionGetD e (h.adminOut ..)
    · exact h
  · split
    next t e => exact .optionGetD e (h.adminOut ..)
    · exact h
  · split
    next t e => exact .optionGetD e (h.activate ..)
    · exact h
  · split
    next t e => exact .optionGetD e h.confirm
    · exact h

theorem State.Ordered.odpWrite (h : s.Ordered) (p : List Byte) : (s.odpWrite p).2.Ordered := by
  unfold State.odpWrite
  dsimp only
  split
  · exact h
  split
  · exact h
  split
  · exact h
  split
  · exact h
  exact h.writeObj ..

theorem State.Ordered.stageValue (h : s.Ordered) (x : Session) (idx sub : Nat) (v : Value) : (s.stageValue x idx sub v).2.Ordered :=
  .iteSnd h { h with dict := { h.dict with shadow := alSorted_alSet _ _ h.dict.shadow } }

theorem State.Ordered.gate (h : s.Ordered) {x : Session} {t : State} (e : s.gate x = .ok t) : t.Ordered := by
  unfold State.gate at e
  split at e
  · cases e
  split at e
  · cases e
  · exact Except.ok.inj e ▸ h.keep.ite h

theorem State.Ordered.odpStage (h : s.Ordered) (x : Session) (p : List Byte) : (s.odpStage x p).2.Ordered := by
  unfold State.odpStage
  extract_lets r
  refine .iteSnd h ?_
  split
  · exact h
  split
  · exact h
  next s1 e =>
  have h := h.gate e
  refine .iteSnd h ?_
  split
  · exact h
  · exact h.stageValue ..

theorem State.Ordered.odpCheck (h : s.Ordered) (x : Session) (p : List Byte) : (s.odpCheck x p).2.Ordered := by
  unfold State.odpCheck
  refine .iteSnd h ?_
  split
  · exact h
  next s1 e =>
  have h := h.gate e
  have k := h.checkView
  split
  next f margin s2 e2 =>
  have h : s2.Ordered := by rwa [e2] at k
  have h : (s2.recordCheck f margin).Ordered := h.recordCheck ..
  exact h.keep.ite (h.keep.ite h)

theorem State.Ordered.odpCommit (h : s.Ordered) (x : Session) (p : List Byte) : (s.odpCommit x p).2.Ordered := by
  unfold State.odpCommit
  split
  · exact h
  exact
    have h := h.keep
    .iteSnd h.keep ((h.count ..).ite h)

theorem State.Ordered.odpAbort (h : s.Ordered) (x : Session) (p : List Byte) : (s.odpAbort x p).2.Ordered :=
  .iteSnd h (.iteSnd h (.iteSnd h (.iteSnd h h.dropStaged.keep)))

theorem State.Ordered.setXfer (h : s.Ordered) (x : Session) (key : Nat) (t : Option BlockXfer) : (s.setXfer x key t).Ordered :=
  h.keep

theorem State.Ordered.verifyDom (h : s.Ordered) (idx sub : Nat) (b : List Byte) : (s.verifyDom idx sub b).2.Ordered :=
  .iteSnd (.iteSnd (h.setObj ..) (h.setObj ..)) (.iteSnd h (.iteSnd h (.iteSnd h (.iteSnd h h))))

theorem State.Ordered.acceptFirmware (h : s.Ordered) (b : List Byte) : (s.acceptFirmware b).2.Ordered :=
  .iteSnd ((h.modSlot ..).headerWrite) (.iteSnd ((h.modSlot ..).headerWrite) ((h.modSlot ..).headerWrite))

theorem State.Ordered.erasedTo (h : s.Ordered) (n : Nat) : (s.erasedTo n).2.Ordered := by
  unfold State.erasedTo
  extract_lets k blocks
  refine .iteSnd h ?_
  split
  next d s1 e =>
  have h : s1.Ordered := .of e (h.freeChoice ..)
  exact .iteSnd (h.modSlot ..) h

theorem State.Ordered.firmwareSegment (h : s.Ordered) (x : Session) (key total before : Nat) (got : List Byte) (last : Bool) : (s.firmwareSegment x key total before got last).2.Ordered := by
  unfold State.firmwareSegment
  extract_lets answer s1
  have answered {s : State} (h : s.Ordered) (e n : Nat) (t : Option BlockXfer) : (answer e n t s).2.Ordered := h.setXfer ..
  have h : s1.Ordered := (State.Ordered.headerWrite (h.modSlot ..)).ite h
  clear_value s1
  split
  next erased s2 e =>
  have h : s2.Ordered := .of e (h.erasedTo ..)
  refine .iteSnd (answered h ..) (.iteSnd (answered h ..) (.iteSnd (answered h ..) ?_))
  split
  · exact answered h ..
  · refine .iteSnd (answered h ..) (.iteSnd (answered h ..) ?_)
    split
    next code s3 e => exact answered (.of e (h.acceptFirmware ..)) ..

theorem State.Ordered.writeNonce (h : s.Ordered) (b : List Byte) : (s.writeNonce b).Ordered :=
  h.modBoot ..

theorem State.Ordered.stageDom (h : s.Ordered) (x : Session) (r : ObjRef) (b : List Byte) : (s.stageDom x r b).2.Ordered :=
  .iteSnd (h.verifyDom ..) ((((h.verifyDom ..).stageValue ..).logStagedDom ..).ite ((h.verifyDom ..).stageValue ..))

theorem State.Ordered.odpBlockWrite (h : s.Ordered) (x : Session) (flags : Nat) (p : List Byte) : (s.odpBlockWrite x flags p).2.Ordered := by
  unfold State.odpBlockWrite
  extract_lets r key shadow total
  refine .iteSnd h ?_
  split
  · exact h
  refine .iteSnd h ?_
  split
  · exact h
  next s1 e =>
  have h : s1.Ordered := by
    split at e
    · exact h.gate e
    · exact Except.ok.inj e ▸ h
  extract_lets t before s2
  split
  · exact h.setXfer x key none
  next got _ =>
    refine .iteSnd (h.firmwareSegment ..) (.iteSnd (h.setXfer x key (some ⟨x.id, key, total, got⟩)) ?_)
    have h : s2.Ordered := h.setXfer ..
    exact .iteSnd h (.iteSnd (h.stageDom ..) (h.writeNonce ..))

theorem State.Ordered.odpRun (h : s.Ordered) (x : Session) (opcode flags : Nat) (p : List Byte) : (s.odpRun x opcode flags p).2.Ordered := by
  unfold State.odpRun
  split
  · exact h
  split
  · exact h.odpRead ..
  · exact h.odpWrite ..
  · exact h.odpBlockRead ..
  · exact h.odpBlockWrite ..
  · exact h.odpStage ..
  · exact h.odpCheck ..
  · exact h.odpCommit ..
  · exact h.odpAbort ..
  exact h.odpSubscribe ..

theorem State.Ordered.odpRequest (h : s.Ordered) (x : Session) (opcode flags xid : Nat) (p : List Byte) : (s.odpRequest x opcode flags xid p).2.Ordered := by
  unfold State.odpRequest
  split
  · exact h.count ..
  exact .iteSnd h (((h.count ..).odpRun ..).modSession ..)

theorem State.Ordered.odpSetup (h : s.Ordered) (tr : Transport) (opcode : Nat) (m : OdpMsg) : (s.odpSetup tr opcode m).2.Ordered :=
  .iteSnd h (.iteSnd (h.count ..) (.iteSnd (h.count ..) h.draw.keep))

theorem State.Ordered.odpAccept (h : s.Ordered) (kind opcode : Nat) (m : OdpMsg) : (s.odpAccept kind opcode m).2.Ordered := by
  unfold State.odpAccept
  split
  · exact h
  split
  · exact h.endSession ..
  split
  · exact
      have h := h.count ..
      (h.endSession ..).ite (h.modSession ..)
  exact .iteSnd ((h.modSession ..).count ..) (h.modSession ..)

theorem State.Ordered.odpProcess (h : s.Ordered) (tr : Transport) (kind opcode : Nat) (m : OdpMsg) : (s.odpProcess tr kind opcode m).2.Ordered := by
  unfold State.odpProcess
  refine .iteSnd h (.iteSnd (h.odpSetup ..) ?_)
  have heard := h.odpAccept kind opcode m
  split
  next s1 e => exact .of e heard
  next x s1 e =>
    have h := State.Ordered.of e heard
    refine .iteSnd (h.odpSend x 1 opcode 0 m.xid 0x010E []) (.iteSnd (h.endSession ..) (.iteSnd h ?_))
    split
    next r s2 e2 =>
    have h : s2.Ordered := .of e2 (h.odpRequest ..)
    split
    next y _ => exact h.odpSend y 1 r.opcode r.flags m.xid r.status r.payload
    · exact h

theorem State.Ordered.placeMailbox (h : s.Ordered) (c : Nat) (b : List Byte) : (s.placeMailbox c b).Ordered := by
  unfold State.placeMailbox
  dsimp only
  split
  · exact h.keep.send ..
  exact h.keep

theorem State.Ordered.odpDeliver (h : s.Ordered) (tr : Transport) (b : List Byte) : (s.odpDeliver tr b).Ordered := by
  unfold State.odpDeliver
  split
  · exact h.placeMailbox ..
  · exact h.sendInput ..
  · exact h.sendMgmt ..
  exact h.send ..

theorem State.Ordered.odpMessage (h : s.Ordered) (t kind opcode : Nat) (m : OdpMsg) : (s.odpMessage t kind opcode m).Ordered := by
  have run := (h.at t).odpProcess m.transport kind opcode m
  unfold State.odpMessage
  split
  next b s1 e => exact (State.Ordered.of e run).odpDeliver ..
  next s1 e => exact .of e run

theorem execRead_ordered (h : s.Ordered) (t : Nat) (m : OdpMsg) : NextOrdered (execRead t m s) :=
  h.odpMessage ..

theorem execWrite_ordered (h : s.Ordered) (t : Nat) (m : OdpMsg) : NextOrdered (execWrite t m s) :=
  h.odpMessage ..

theorem execBlockRead_ordered (h : s.Ordered) (t : Nat) (m : OdpMsg) : NextOrdered (execBlockRead t m s) :=
  h.odpMessage ..

theorem execBlockWrite_ordered (h : s.Ordered) (t : Nat) (m : OdpMsg) : NextOrdered (execBlockWrite t m s) :=
  h.odpMessage ..

theorem execStage_ordered (h : s.Ordered) (t : Nat) (m : OdpMsg) : NextOrdered (execStage t m s) :=
  h.odpMessage ..

theorem execCheck_ordered (h : s.Ordered) (t : Nat) (m : OdpMsg) : NextOrdered (execCheck t m s) :=
  h.odpMessage ..

theorem execCommit_ordered (h : s.Ordered) (t : Nat) (m : OdpMsg) : NextOrdered (execCommit t m s) :=
  h.odpMessage ..

theorem execAbort_ordered (h : s.Ordered) (t : Nat) (m : OdpMsg) : NextOrdered (execAbort t m s) :=
  h.odpMessage ..

theorem execSubscribe_ordered (h : s.Ordered) (t : Nat) (m : OdpMsg) : NextOrdered (execSubscribe t m s) :=
  h.odpMessage ..

theorem execSetupRequest_ordered (h : s.Ordered) (t : Nat) (m : OdpMsg) : NextOrdered (execSetupRequest t m s) :=
  h.odpMessage ..

theorem execClose_ordered (h : s.Ordered) (t : Nat) (m : OdpMsg) : NextOrdered (execClose t m s) :=
  h.odpMessage ..

theorem execKeepAlive_ordered (h : s.Ordered) (t : Nat) (m : OdpMsg) : NextOrdered (execKeepAlive t m s) :=
  h.odpMessage ..

theorem execSessionIdleTimeout_ordered (h : s.Ordered) (session : Nat) : NextOrdered (execSessionIdleTimeout session s) := by
  unfold execSessionIdleTimeout
  split
  · exact h.keep.endSession ..
  exact h

theorem execKeepAliveTimer_ordered (h : s.Ordered) (session : Nat) : NextOrdered (execKeepAliveTimer session s) := by
  unfold execKeepAliveTimer
  change State.Ordered _
  split
  · extract_lets s1
    have h : s1.Ordered := h.keep
    split
    next b s2 e => exact (State.Ordered.of e (h.odpSend ..)).odpDeliver ..
  · exact h

theorem execSubscriptionNotice_ordered (h : s.Ordered) (session idx sub : Nat) : NextOrdered (execSubscriptionNotice session idx sub s) := by
  unfold execSubscriptionNotice
  change State.Ordered _
  split
  · split
    · extract_lets v due payload s1
      refine h.ite ?_
      have h : s1.Ordered := h.modSession ..
      split
      next b s2 e => exact (State.Ordered.of e (h.odpSend ..)).odpDeliver ..
    · exact h
  · exact h

theorem execCounterClear_ordered (h : s.Ordered) (idx mask : Nat) : NextOrdered (execCounterClear idx mask s) :=
  State.Ordered.ite (h.clearCounters ..) h

/-! HostRings -/

theorem State.Ordered.ringDoorbell (h : s.Ordered) (r v : Nat) : (s.ringDoorbell r v).Ordered := by
  unfold State.ringDoorbell
  split
  · exact h
  next x _ =>
  extract_lets size far back s1
  have k : s1.Ordered := h.setRing ..
  exact h.ite ((((h.setRing ..).count ..).raise ..).ite ((h.setRing ..).ite ((k.drainEvents ..).ite k)))

theorem execDoorbell_ordered (h : s.Ordered) (t ring value : Nat) : NextOrdered (execDoorbell t ring value s) :=
  have h := h.at ..
  (h.ringDoorbell ..).ite h

theorem State.Ordered.refuseDesc (h : s.Ordered) (r : Nat) (d : Desc) (status : Nat) (original : Bool) : (s.refuseDesc r d status original).Ordered :=
  .after (by split; exacts [h.setRing .., h]) fun h => have h := h.ringPush ..; have h := h.count ..; (h.count ..).ite h

theorem State.Ordered.takeDesc (h : s.Ordered) (r : Nat) (d : Desc) (payload : List Byte) (payloadOk : Bool) : (s.takeDesc r d payload payloadOk).Ordered := by
  unfold State.takeDesc
  split
  · exact h
  split
  · exact h.refuseDesc ..
  exact h.keep

theorem State.Ordered.hostWrote (h : s.Ordered) (address : Nat) (bytes : List Byte) : (s.hostWrote address bytes).Ordered :=
  { h with buffer := memWf_memWriteBytes _ _ h.buffer }

theorem State.Ordered.payloadOf (h : s.Ordered) (d : Desc) (payload : List Byte) (readOk : Bool) : (s.payloadOf d payload readOk).2.2.Ordered := by
  unfold State.payloadOf
  dsimp only
  split
  · exact h
  split
  · split
    · exact h.hostWrote ..
    · exact h
  · exact h

theorem execDescriptorFetch_ordered (h : s.Ordered) (t ring : Nat) (bytes payload : List Byte) (readOk : Bool) : NextOrdered (execDescriptorFetch t ring bytes payload readOk s) :=
  have h := h.at ..
  h.ite ((h.takeRoom ..).ite (((((h.takeRoom ..).hostWrote ..).ite (h.takeRoom ..)).payloadOf ..).takeDesc ..))

theorem execDescriptorAccept_ordered (h : s.Ordered) (t : Nat) : NextOrdered (execDescriptorAccept t s) := by
  unfold execDescriptorAccept
  dsimp only
  split
  · exact h.at ..
  exact (h.at ..).ite ((((h.at ..).keep).refuseDesc ..).ite (((h.at ..).takeRoom ..).ite ((((h.at ..).takeRoom ..).keep).acceptRecord ..)))

theorem execInterruptModerationTimer_ordered (h : s.Ordered) (t ring : Nat) : NextOrdered (execInterruptModerationTimer t ring s) := by
  unfold execInterruptModerationTimer
  dsimp only
  split
  · exact (((h.at ..).setRing ..).send ..).ite (h.at ..)
  exact h.at ..

theorem State.Ordered.bar4Access (h : s.Ordered) (x : Bar4Access) : (s.bar4Access x).Ordered := by
  unfold State.bar4Access
  dsimp only
  split
  · exact (h.count ..).ite h
  exact
    have h := h.hostWrote ..
    (h.count ..).ite h

theorem execApertureBaseWrite_ordered (h : s.Ordered) (w : ApertureWrite) : NextOrdered (execApertureBaseWrite w s) := by
  unfold execApertureBaseWrite
  split
  · exact h
  exact
    have h := h.foldl fun _ _ h => h.bar4Access ..
    h.keep.ite h

theorem State.Ordered.resumeCompleting (h : s.Ordered) (j : JRec) : (s.resumeCompleting j).Ordered :=
  .after (by split; exacts [h.ite ((h.setRing ..).deliverEntry ..), h]) fun h => (h.modRecord ..).mirror ..

theorem State.Ordered.resume (h : s.Ordered) : s.resume.Ordered :=
  have h := h.foldl fun _ _ h => h.resumeCompleting ..
  have h := h.keep.feedBacklog
  have h := (h.raiseOpen ..).ite h
  ((h.foldl fun _ _ h => h.ite (h.ringResumes ..)).trimJournal).signalStatus

theorem execRecoveryControl_ordered (h : s.Ordered) (t value : Nat) : NextOrdered (execRecoveryControl t value s) :=
  have h := h.at ..
  h.resume.ite h

theorem execReqLen_ordered (h : s.Ordered) (t channel : Nat) (length : Option Nat) (bytes : List Byte) (vector : Option Nat) : NextOrdered (execReqLen t channel length bytes vector s) := by
  have h := h.at t
  unfold execReqLen
  generalize s.at t = s1 at h
  refine State.Ordered.ite h ?_
  extract_lets p2 s2
  have h : s2.Ordered := by
    unfold s2
    split
    · exact h.keep
    · exact h
  clear_value s2
  split
  · exact h
  · split
    next kind opcode m e =>
    have run := h.odpProcess (.mailbox channel) kind opcode m
    split
    next b s3 e => exact (State.Ordered.of e run).placeMailbox ..
    next s3 e => exact .of e run

theorem State.Ordered.refuseReserved (h : s.Ordered) (r : Nat) : (s.refuseReserved r).Ordered := by
  unfold State.refuseReserved
  split
  · exact h.setRing ..
  exact h

theorem execRoceDoorbell_ordered (h : s.Ordered) (t qp ring value : Nat) : NextOrdered (execRoceDoorbell t qp ring value s) :=
  have h := h.at ..
  (h.ringDoorbell ..).ite h

theorem execRoceConsumerSend_ordered (h : s.Ordered) (t qp ring : Nat) (body : ConsumerBody) : NextOrdered (execRoceConsumerSend t qp ring body s) :=
  have h := h.at ..
  ((h.ringDoorbell ..).ite (h.refuseReserved ..)).ite h

theorem State.Ordered.refuseDatagram (h : s.Ordered) (client : Nat) : (s.refuseDatagram client).Ordered :=
  (h.count ..).raise ..

theorem State.Ordered.udpHeard (h : s.Ordered) (c : Nat) (d : UdpDatagram) : (s.udpHeard c d).Ordered :=
  ((h.setUdp ..).ringDoorbell ..).ite ((h.setUdp ..).refuseReserved ..)

theorem execUdpDescriptorDatagram_ordered (h : s.Ordered) (t : Nat) (d : UdpDatagram) : NextOrdered (execUdpDescriptorDatagram t d s) := by
  have h := h.at t
  unfold execUdpDescriptorDatagram
  generalize s.at t = s1 at h
  change State.Ordered _
  extract_lets c s2 ring rung
  refine h.ite ((h.refuseDatagram ..).ite ?_)
  have h : s2.Ordered := h.udpHeard ..
  clear_value s2
  refine h.ite ?_
  split
  next room s3 e =>
  have h : s3.Ordered := .of e (h.takeRoom ..)
  refine h.ite ?_
  extract_lets s4
  have h : s4.Ordered := by
    unfold s4
    split
    · exact h.setRing ..
    · exact h
  exact (h.refuseDesc ..).ite (h.takeDesc ..)

theorem execUdpAcknowledgement_ordered (h : s.Ordered) (t : Nat) (d : UdpDatagram) : NextOrdered (execUdpAcknowledgement t d s) :=
  have h := h.at ..
  h.ite ((h.refuseDatagram ..).ite (h.udpHeard ..))

theorem execUdpRecordResend_ordered (h : s.Ordered) (t client : Nat) : NextOrdered (execUdpRecordResend t client s) := by
  unfold execUdpRecordResend
  dsimp only
  split
  · exact h.at ..
  exact
    have h := (h.at ..).setUdp ..
    h.foldl fun _ _ h => h.sendRecords ..

theorem execLinkTrained_ordered (h : s.Ordered) (t speed width : Nat) : NextOrdered (execLinkTrained t speed width s) := by
  unfold execLinkTrained
  dsimp only
  split
  · exact h.at ..
  exact
    have h := (h.at ..).keep
    ((h.raiseOpen ..).ite h).signalStatus

theorem memWf_foldl {α : Type} {f : List Host.Cell → α → List Host.Cell} (xs : List α) {m : List Host.Cell} (h : memWf m = true) (k : ∀ m x, memWf m = true → memWf (f m x) = true) :
    memWf (xs.foldl f m) = true := by
  induction xs generalizing m with
  | nil => exact h
  | cons x xs ih => exact ih (k m x h)

theorem State.Ordered.configWrites (h : s.Ordered) (w : ConfigWrite) : (s.configWrites w).Ordered := by
  have msix : memWf (if s.boot.ready then w.msix.foldl (fun m p => memWriteBytes m p.1 (p.2.take (32768 - p.1))) s.host.msix else s.host.msix) = true := by
    split
    · exact memWf_foldl _ h.msix fun _ _ h => memWf_memWriteBytes _ _ h
    · exact h.msix
  exact { h with msix }

theorem execBusMasterEnableWrite_ordered (h : s.Ordered) (t : Nat) (w : ConfigWrite) : NextOrdered (execBusMasterEnableWrite t w s) :=
  have h := h.at ..
  h.ite ((h.configWrites ..).keep)

/-! HostCmds -/

theorem State.Ordered.endHost (h : s.Ordered) (c : HostCmd) (status length : Nat) : (s.endHost c status length).Ordered :=
  (((h.count ..).ite h).setOutcome ..).commitItem ..

theorem State.Ordered.withPayload (h : s.Ordered) (c : HostCmd) {f : State → State} (k : s.Ordered → (f s).Ordered) : (s.withPayload c f).Ordered :=
  (k h).ite (h.endHost ..)

theorem State.Ordered.writeResult (h : s.Ordered) (c : HostCmd) (wrote : Bool) (address : Nat) (b : List Byte) (status : Nat) : (s.writeResult c wrote address b status).Ordered :=
  (h.endHost ..).ite (((h.send ..).endHost ..).ite (((h.hostWrote ..).endHost ..).ite (h.endHost ..)))

theorem execNop_ordered (h : s.Ordered) (record : Nat) : NextOrdered (execNop record s) := by
  unfold execNop
  split
  · exact h.endHost ..
  exact h

theorem execStreamData_ordered (h : s.Ordered) (record : Nat) : NextOrdered (execStreamData record s) := by
  unfold execStreamData
  split
  · exact (h.filterPacket ..).ite h
  exact h

theorem execDictionary_ordered (h : s.Ordered) (t : Nat) (run : HostRun) : NextOrdered (execDictionary t run s) := by
  have h := h.at t
  unfold execDictionary
  generalize s.at t = s1 at h
  change State.Ordered _
  dsimp only
  split
  · exact h
  next c _ =>
  refine h.withPayload c fun h => ?_
  split
  next b s2 e => exact (State.Ordered.of e (h.odpProcess ..)).writeResult ..
  next s2 e => exact (State.Ordered.of e (h.odpProcess ..)).endHost ..

theorem State.Ordered.setModel (h : s.Ordered) (slot : Nat) (x : ModelSlot) : (s.setModel slot x).Ordered :=
  h.keep

theorem execLoadModel_ordered (h : s.Ordered) (run : HostRun) (operationsKnown : Bool) : NextOrdered (execLoadModel run operationsKnown s) := by
  unfold execLoadModel
  change State.Ordered _
  split
  · exact h
  · exact (h.endHost ..).ite ((h.endHost ..).ite (h.withPayload _ fun h => ((h.setModel ..).signalStatus).endHost ..))

theorem State.Ordered.loadProgram (h : s.Ordered) (session idx : Nat) (b : List Byte) : (s.loadProgram session idx b).2.Ordered := by
  unfold State.loadProgram
  split
  · refine .iteSnd h ?_
    split
    · exact h
    next s1 e =>
      have h := h.gate e
      exact .iteSnd h (h.stageDom ..)
  · exact h

theorem execLoadProgram_ordered (h : s.Ordered) (t : Nat) (run : HostRun) : NextOrdered (execLoadProgram t run s) := by
  have h := h.at t
  unfold execLoadProgram
  generalize s.at t = s1 at h
  change State.Ordered _
  dsimp only
  split
  · exact h
  next c _ =>
  exact h.withPayload c fun h => (h.loadProgram ..).endHost ..

theorem State.Ordered.beginReplay (h : s.Ordered) (record n tick : Nat) (load : Option Carried) (packets : List (Nat × Nat × List Byte)) : (s.beginReplay record n tick load packets).Ordered := by
  unfold State.beginReplay
  extract_lets s1 s2 d3 s3 set s4 s5 s6
  have h : s1.Ordered := by
    unfold s1
    split
    · exact h.dropRunAhead.loadCarried _
    · exact h
  clear_value s1
  have h : s2.Ordered := h.modTb ..
  clear_value s2
  have h : s3.Ordered := State.Ordered.finishOld h.keep _
  clear_value s3
  have h : s4.Ordered := (h.beginFilters.ite h).commitAt ..
  have h : s5.Ordered := (h.enterService ..).ite h
  have h : s6.Ordered := ((h.remapLanes.releaseDue ..).groupTick).beginFrame ..
  exact h.feedBacklog

theorem execReplay_ordered (h : s.Ordered) (run : HostRun) (checkpoint : List Byte) : NextOrdered (execReplay run checkpoint s) := by
  unfold execReplay
  change State.Ordered _
  split
  · exact h
  next c _ =>
  refine h.ite ((h.endHost ..).ite ((h.endHost ..).ite (h.withPayload c fun h => (h.endHost ..).ite (State.Ordered.ite ?_ (h.beginReplay ..)))))
  split
  · exact h.beginReplay ..
  · exact h.endHost ..

theorem execRegenerate_ordered (h : s.Ordered) (run : HostRun) : NextOrdered (execRegenerate run s) := by
  unfold execRegenerate
  split
  · exact h
  dsimp only
  split
  · exact (h.count ..).endHost ..
  split
  · exact (h.count ..).endHost ..
  split
  · exact (h.count ..).endHost ..
  exact ((h.count ..).endHost ..).ite ((h.count ..).writeResult ..)

theorem State.Ordered.writeDump (h : s.Ordered) (c : HostCmd) (wrote : Bool) (what frame steps : Nat) (body : List Byte) : (s.writeDump c wrote what frame steps body).Ordered :=
  (h.endHost ..).ite (h.writeResult ..)

theorem execDump_ordered (h : s.Ordered) (run : HostRun) : NextOrdered (execDump run s) := by
  unfold execDump
  split
  · exact h
  dsimp only
  split
  · split
    · exact h.keep.writeDump ..
    exact (h.endHost ..).ite h
  split
  · exact h.writeDump ..
  exact h.endHost ..

end Sys2Proof.Machine
end

section
/-!
SUPPORT. The stores in order, continued: the chip group, and every command.
-/
namespace Sys2Proof.Machine
open Sys2Proof

set_option Elab.async false

variable {s : State}

/-! Peer -/

theorem State.Ordered.groupMalformed (h : s.Ordered) (sender : Nat) : (s.groupMalformed sender).Ordered :=
  (h.raise ..).reestablish ..

theorem State.Ordered.groupAccept (h : s.Ordered) (kind : Nat) (m : GroupMsg) : (s.groupAccept kind m).2.Ordered := by
  unfold State.groupAccept
  split
  · exact h
  exact
    have h := h.count ..
    .iteSnd (h.count ..) (.iteSnd (h.groupMalformed ..) (h.modPeer ..))

theorem State.Ordered.groupTake (h : s.Ordered) (t kind : Nat) (m : GroupMsg) {f : State → State} (k : ∀ s : State, s.Ordered → (f s).Ordered) : (s.groupTake t kind m f).Ordered := by
  have heard := (h.at t).groupAccept kind m
  unfold State.groupTake
  split
  next s1 e => exact k _ (.of e heard)
  next s1 e => exact .of e heard

theorem State.Ordered.assemble (h : s.Ordered) (kind : Nat) (m : GroupMsg) : (s.assemble kind m).2.Ordered :=
  .iteSnd h.keep h.keep

theorem State.Ordered.judgeStep (h : s.Ordered) (m : GroupMsg) (tick : Nat) : (s.judgeStep m tick).Ordered := by
  unfold State.judgeStep
  split
  · exact h
  dsimp only
  split
  · exact
      have h := h.ite (h.count ..)
      ((h.ite (h.raise ..)).modPeer ..).setCause ..
  exact h.modPeer ..

theorem State.Ordered.hearFindings (h : s.Ordered) (m : GroupMsg) : (s.hearFindings m).Ordered :=
  h.ite (h.foldl fun _ _ h => h.ite ((h.modPeer ..).ite (h.modPeer ..)))

theorem State.Ordered.meetPrimary (h : s.Ordered) (m : GroupMsg) (role : Nat) : (s.meetPrimary m role).Ordered :=
  h.keep.ite h

theorem execHello_ordered (h : s.Ordered) (t : Nat) (m : GroupMsg) : NextOrdered (execHello t m s) :=
  h.groupTake t 1 m fun s h => by
    extract_lets tick role s1 s2 g3 s3
    have h : s2.Ordered := (h.modPeer ..).meetPrimary ..
    clear_value s2
    have h : s3.Ordered := (State.Ordered.roleChanged h.keep).ite h
    exact ((h.hearFindings ..).judgeStep ..).clearPeers

theorem execHelloTimer_ordered (h : s.Ordered) (t : Nat) : NextOrdered (execHelloTimer t s) :=
  (h.at t).ite (State.Ordered.foldl (State.Ordered.keep (h.at t)) fun _ _ h => h.foldl fun _ _ h => h.sendOn ..)

theorem execMapSegment_ordered (h : s.Ordered) (t : Nat) (m : GroupMsg) : NextOrdered (execMapSegment t m s) :=
  h.groupTake t 2 m fun s h => by
    dsimp only
    split
    · exact State.Ordered.sendGroup h.keep ..
    · exact h.keep

theorem State.Ordered.judgeStale (h : s.Ordered) (layers : Nat) : (s.judgeStale layers).Ordered :=
  (h.setCause ..).ite (h.clearCause ..)

theorem State.Ordered.openReceived (h : s.Ordered) (v : Version) (changed : List TileKey) : (s.openReceived v changed).Ordered := by
  unfold State.openReceived
  split
  · exact h
  dsimp only
  split
  · split
    · exact (((((((h.keep.sentrySeal ..).ite h.keep).openWork ..).reportContinuation ..).judgeStale ..).showVersion ..).plansWaiting ..).commitPoint ..
    exact ((((((h.keep.sentrySeal ..).ite h.keep).openWork ..).reportContinuation ..).judgeStale ..).showVersion ..).plansWaiting ..
  exact (((((((((h.keep.sentrySeal ..).ite h.keep).openWork ..).reportContinuation ..).judgeStale ..).showVersion ..).plansWaiting ..).settleItems).issueMissing ..).goRounds ..

theorem State.Ordered.openRunAhead (h : s.Ordered) (v : Version) : (s.openRunAhead v).Ordered :=
  h.ite (((h.keep.keep.openWork ..).issueMissing ..).goRounds ..)

theorem State.Ordered.takeVersion (h : s.Ordered) (m : GroupMsg) : (s.takeVersion m).Ordered :=
  have h := h.keep
  ((h.openRunAhead ..).ite (((((((h.keep.meetUrgent ..).judgeStale ..).showVersion ..).settleItems).issueMissing ..).goRounds ..).ite (h.openReceived ..))).retireVersions

theorem execVersion_ordered (h : s.Ordered) (t : Nat) (m : GroupMsg) : NextOrdered (execVersion t m s) :=
  h.groupTake t 3 m fun s h => by
    extract_lets s1
    have h : s1.Ordered := by
      unfold s1
      split
      · exact h.sendGroup ..
      · exact h
    exact (h.takeVersion ..).ite h

theorem execScene_ordered (h : s.Ordered) (t : Nat) (m : GroupMsg) : NextOrdered (execScene t m s) :=
  h.groupTake t 4 m fun s h => by
    have parts := h.assemble 4 m
    split
    next b s1 e =>
      have h := State.Ordered.of e parts
      split
      · exact h.sceneDone ..
      · exact h
    next s1 e => exact .of e parts

theorem execSubstituteVersion_ordered (h : s.Ordered) : NextOrdered (execSubstituteVersion s) := by
  unfold execSubstituteVersion
  split
  · exact h.ite (((((((((((((h.atTick ..).keep).showVersion ..).count ..).count ..).count ..).raiseOpen ..).judgeStale ..).sentrySeal ..).openWork ..).plansWaiting ..).goRounds ..).retireVersions)
  exact h

theorem execList_ordered (h : s.Ordered) (t : Nat) (m : GroupMsg) : NextOrdered (execList t m s) :=
  h.groupTake t 5 m fun s h => by
    have parts := h.assemble 5 m
    dsimp only
    split
    next s1 e => exact .of e parts
    next b s1 e =>
      have h := State.Ordered.of e parts
      exact (h.groupMalformed ..).ite (h.ite h.keep)

theorem execPlan_ordered (h : s.Ordered) (t : Nat) (m : GroupMsg) : NextOrdered (execPlan t m s) :=
  h.groupTake t 6 m fun s h => by
    have parts := h.assemble 6 m
    dsimp only
    split
    next s1 e => exact .of e parts
    next b s1 e =>
      have h := State.Ordered.of e parts
      split
      next s2 e =>
        have h : s2.Ordered := by
          split at e
          · exact Option.some.inj e ▸ h.keep
          · exact Option.some.inj e ▸ h.remember ..
          · cases e
        exact h.ite h.keep
      · exact h

theorem execDigest_ordered (h : s.Ordered) (t : Nat) (m : GroupMsg) : NextOrdered (execDigest t m s) :=
  h.groupTake t 7 m fun _ h => h.digestFrom ..

theorem execBisect_ordered (h : s.Ordered) (t : Nat) (m : GroupMsg) : NextOrdered (execBisect t m s) :=
  h.groupTake t 8 m fun _ h => h.bisectFrom ..

theorem execMirror_ordered (h : s.Ordered) (t : Nat) (m : GroupMsg) : NextOrdered (execMirror t m s) :=
  h.groupTake t 9 m fun s h => by
    extract_lets j mine waits old g p s1
    have h : s1.Ordered := by
      unfold s1
      generalize old = found
      split
      · exact h.keep
      · exact h.ite h.keep
    exact (h.admitMirrored.signalPause).ite (h.ite (h.sendGroup ..))

theorem execMirrorAck_ordered (h : s.Ordered) (t : Nat) (m : GroupMsg) : NextOrdered (execMirrorAck t m s) :=
  h.groupTake t 0x0A m fun s h => State.Ordered.foldl (State.Ordered.keep h) fun s p h => by
    split
    · exact (h.finishAccept ..).ite h
    · exact h

theorem State.Ordered.mirrorLost (h : s.Ordered) (c : Nat) : (s.mirrorLost c).Ordered :=
  have h := h.keep
  have h := (h.raise ..).setCause ..
  have h := (h.deviceFault ..).ite h
  h.foldl fun _ _ h => h.finishAccept ..

theorem execTakeover_ordered (h : s.Ordered) (t : Nat) (m : GroupMsg) : NextOrdered (execTakeover t m s) :=
  h.groupTake t 0x0B m fun _ h => h.modPeer ..

theorem execCheckpoint_ordered (h : s.Ordered) (t : Nat) (m : GroupMsg) : NextOrdered (execCheckpoint t m s) :=
  h.groupTake t 0x0C m fun s h => by
    have parts := h.assemble 0x0C m
    split
    next b s1 e =>
      have h := State.Ordered.of e parts
      split
      · exact (h.dropRunAhead.loadCarried ..).ite h
      · exact h
    next s1 e => exact .of e parts

theorem State.Ordered.takeMirrored (h : s.Ordered) (j : JRec) : (s.takeMirrored j).Ordered := by
  unfold State.takeMirrored
  dsimp only
  split
  · exact h.keep.resumeCompleting ..
  · exact h.keep.ite (h.keep.completeRecord ..)
  exact h.keep

theorem State.Ordered.announce (h : s.Ordered) : s.announce.Ordered :=
  h.ite (h.send ..)

theorem State.Ordered.becomePrimary (h : s.Ordered) : s.becomePrimary.Ordered :=
  have h := (h.takeRole ..).announce
  have h := h.keep
  have h := (h.foldl fun _ _ h => h.takeMirrored ..).feedBacklog
  (h.raiseOpen ..).ite h

theorem execPeerLoss_ordered (h : s.Ordered) (t chip : Nat) : NextOrdered (execPeerLoss t chip s) := by
  have h := h.at t
  unfold execPeerLoss
  generalize s.at t = s1 at h
  change State.Ordered _
  extract_lets p silent mirrors s2 s3 s4
  refine h.ite ?_
  have h : s3.Ordered := (((h.modPeer ..).count ..).raise ..).setCause ..
  have h : s4.Ordered := (h.mirrorLost ..).ite h
  exact h.becomePrimary.ite (h.keep.ite h)

theorem execPortFailover_ordered (h : s.Ordered) (t : Nat) : NextOrdered (execPortFailover t s) :=
  have h := h.at ..
  h.failover.ite h

theorem execPortLinkDown_ordered (h : s.Ordered) (t port : Nat) : NextOrdered (execPortLinkDown t port s) :=
  (h.at ..).portDown ..

theorem execPortLinkUp_ordered (h : s.Ordered) (t port : Nat) : NextOrdered (execPortLinkUp t port s) := by
  unfold execPortLinkUp
  dsimp only
  split
  · exact h.at ..
  exact
    have h := (h.at ..).modPort ..
    h.failover.ite h

theorem State.Ordered.resumePriority (h : s.Ordered) (p priority : Nat) : (s.resumePriority p priority).Ordered :=
  have h := h.foldl fun _ _ h => have h := h.setQp ..; h.foldl fun _ _ h => h.send ..; ((h.modPort ..).foldl fun _ _ h => h.send ..).ite h

theorem execPfcPause_ordered (h : s.Ordered) (t port priority : Nat) (pause : Bool) : NextOrdered (execPfcPause t port priority pause s) :=
  have h := h.at ..
  h.ite ((h.modPort ..).ite ((h.modPort ..).resumePriority ..))

theorem execCnp_ordered (h : s.Ordered) (t qp : Nat) : NextOrdered (execCnp t qp s) :=
  have h := h.at ..
  h.ite ((h.setQp ..).count ..)

theorem execEcnCePacket_ordered (h : s.Ordered) (t qp : Nat) : NextOrdered (execEcnCePacket t qp s) :=
  have h := h.at ..
  ((h.setQp ..).send ..).ite h

theorem execRateRecoveryTimer_ordered (h : s.Ordered) (t qp : Nat) : NextOrdered (execRateRecoveryTimer t qp s) :=
  have h := h.at ..
  (h.setQp ..).ite h

theorem execRoceAck_ordered (h : s.Ordered) (t qp message : Nat) : NextOrdered (execRoceAck t qp message s) :=
  have h := h.at ..
  h.ite ((h.setQp ..).modPort ..)

theorem execRoceAckTimeout_ordered (h : s.Ordered) (t qp : Nat) : NextOrdered (execRoceAckTimeout t qp s) :=
  have h := h.at ..
  h.ite (((h.setQp ..).resendAll ..).ite ((h.setQp ..).clientsRecover ..))

theorem execRoceConnectionReestablished_ordered (h : s.Ordered) (t qp : Nat) : NextOrdered (execRoceConnectionReestablished t qp s) := by
  unfold execRoceConnectionReestablished
  dsimp only
  split
  · exact h.at ..
  exact
    have h := (h.at ..).setQp ..
    (h.ite (h.foldl fun _ _ h => h.ringResumes ..)).resendAll ..

/-! Dispatch -/

/-- Every command keeps the stores in order. -/
theorem exec_ordered (h : s.Ordered) (i : Instr) : NextOrdered (exec i s) :=
  match i with
  | .read t m => execRead_ordered h t m
  | .write t m => execWrite_ordered h t m
  | .blockRead t m => execBlockRead_ordered h t m
  | .blockWrite t m => execBlockWrite_ordered h t m
  | .stage t m => execStage_ordered h t m
  | .check t m => execCheck_ordered h t m
  | .commit t m => execCommit_ordered h t m
  | .abort t m => execAbort_ordered h t m
  | .subscribe t m => execSubscribe_ordered h t m
  | .setupRequest t m => execSetupRequest_ordered h t m
  | .close t m => execClose_ordered h t m
  | .keepAlive t m => execKeepAlive_ordered h t m
  | .sessionIdleTimeout session => execSessionIdleTimeout_ordered h session
  | .keepAliveTimer session => execKeepAliveTimer_ordered h session
  | .subscriptionNotice session idx sub => execSubscriptionNotice_ordered h session idx sub
  | .counterClear idx mask => execCounterClear_ordered h idx mask
  | .ruleEnd => execRuleEnd_ordered h
  | .pushi imm => execPushi_ordered h imm
  | .pushq imm => execPushq_ordered h imm
  | .ld idx sub => execLd_ordered h idx sub
  | .ldact idx sub => execLdact_ordered h idx sub
  | .ruleAdd => execRuleAdd_ordered h
  | .ruleSub => execRuleSub_ordered h
  | .ruleMul => execRuleMul_ordered h
  | .ruleDiv => execRuleDiv_ordered h
  | .ruleAnd => execRuleAnd_ordered h
  | .ruleOr => execRuleOr_ordered h
  | .ruleXor => execRuleXor_ordered h
  | .ruleShl => execRuleShl_ordered h
  | .ruleShr => execRuleShr_ordered h
  | .ruleNeg => execRuleNeg_ordered h
  | .ruleEq => execRuleEq_ordered h
  | .ruleNe => execRuleNe_ordered h
  | .ruleLt => execRuleLt_ordered h
  | .ruleLe => execRuleLe_ordered h
  | .ruleNot => execRuleNot_ordered h
  | .ruleDup => execRuleDup_ordered h
  | .ruleDrop => execRuleDrop_ordered h
  | .ruleSwap => execRuleSwap_ordered h
  | .ruleAssert code => execRuleAssert_ordered h code
  | .ruleJz offset => execRuleJz_ordered h offset
  | .sync t m => execSync_ordered h t m
  | .announce t m => execAnnounce_ordered h t m
  | .pdelayReq t m => execPdelayReq_ordered h t m
  | .pdelayReqIssue t => execPdelayReqIssue_ordered h t
  | .syncTimeout t => execSyncTimeout_ordered h t
  | .holdoverLimit => execHoldoverLimit_ordered h
  | .ppsIn t => execPpsIn_ordered h t
  | .ppsOut => execPpsOut_ordered h
  | .frameTick => execFrameTick_ordered h
  | .programReload ingress number => execProgramReload_ordered h ingress number
  | .settingsSave => execSettingsSave_ordered h
  | .seal => execSeal_ordered h
  | .runaheadTileCompare => execRunaheadTileCompare_ordered h
  | .runaheadCommitPoint => execRunaheadCommitPoint_ordered h
  | .tileJob lane => execTileJob_ordered h lane
  | .mapReady => execMapReady_ordered h
  | .sceneTensorEmit => execSceneTensorEmit_ordered h
  | .buildEndPromotion => execBuildEndPromotion_ordered h
  | .streamPacketArrivalUdp t destination bytes => execStreamPacketArrivalUdp_ordered h t destination bytes
  | .streamPacketArrivalRoce t r bytes => execStreamPacketArrivalRoce_ordered h t r bytes
  | .filterInvocation stream => execFilterInvocation_ordered h stream
  | .streamReadStart stream => execStreamReadStart_ordered h stream
  | .packetApply stream flips => execPacketApply_ordered h stream flips
  | .streamBankReturn stream bank => execStreamBankReturn_ordered h stream bank
  | .flush stream => execFlush_ordered h stream
  | .urgentDelta stream => execUrgentDelta_ordered h stream
  | .urgentVersionSeal => execUrgentVersionSeal_ordered h
  | .policyRun failAfter => execPolicyRun_ordered h failAfter
  | .expanderWindowFill engine => execExpanderWindowFill_ordered h engine
  | .candidateBlock engine => execCandidateBlock_ordered h engine
  | .ialu rd ra rb pred fn => execIalu_ordered h rd ra rb pred fn
  | .icmp rd ra rb pred fn => execIcmp_ordered h rd ra rb pred fn
  | .falu rd ra rb pred fn => execFalu_ordered h rd ra rb pred fn
  | .fcmp rd ra rb pred fn => execFcmp_ordered h rd ra rb pred fn
  | .valu rd ra rb pred fn => execValu_ordered h rd ra rb pred fn
  | .plog rd ra rb pred fn => execPlog_ordered h rd ra rb pred fn
  | .bswap32 rd ra pred => execBswap32_ordered h rd ra pred
  | .bswap16 rd ra pred => execBswap16_ordered h rd ra pred
  | .crc32c rd ra rb pred fn => execCrc32c_ordered h rd ra rb pred fn
  | .addi rd ra imm => execAddi_ordered h rd ra imm
  | .ori rd ra imm => execOri_ordered h rd ra imm
  | .andi rd ra imm => execAndi_ordered h rd ra imm
  | .lui rd imm => execLui_ordered h rd imm
  | .bfx rd ra pos widthLess1 => execBfx_ordered h rd ra pos widthLess1
  | .ldwS rd ra imm => execLdwS_ordered h rd ra imm
  | .stwS rd ra imm => execStwS_ordered h rd ra imm
  | .vldS rd ra imm => execVldS_ordered h rd ra imm
  | .vstS rd ra imm => execVstS_ordered h rd ra imm
  | .ldwT rd ra imm => execLdwT_ordered h rd ra imm
  | .ldwH rd ra imm => execLdwH_ordered h rd ra imm
  | .atomAddI32 ra rb pred => execAtomAddI32_ordered h ra rb pred
  | .atomAddI64 ra rb pred => execAtomAddI64_ordered h ra rb pred
  | .atomAddU16q7s ra rb pred => execAtomAddU16q7s_ordered h ra rb pred
  | .atomAddF32 ra rb pred => execAtomAddF32_ordered h ra rb pred
  | .poseSphere rd ra pred => execPoseSphere_ordered h rd ra pred
  | .poseAxle rd ra pred => execPoseAxle_ordered h rd ra pred
  | .query rd ra rb pred => execQuery_ordered h rd ra rb pred
  | .lookup rd ra rb pred => execLookup_ordered h rd ra rb pred
  | .acc ra pred fn => execAcc_ordered h ra pred fn
  | .merit ra pred => execMerit_ordered h ra pred
  | .scg rd rb pred => execScg_ordered h rd rb pred
  | .br pred inv offset => execBr_ordered h pred inv offset
  | .loop rs body bound => execLoop_ordered h rs body bound
  | .yield pred => execYield_ordered h pred
  | .reject ra pred code => execReject_ordered h ra pred code
  | .galleryMerge gallery beta => execGalleryMerge_ordered h gallery beta
  | .topStairMerge => execTopStairMerge_ordered h
  | .listRebuild => execListRebuild_ordered h
  | .candidateSingle engine => execCandidateSingle_ordered h engine
  | .selectionClose => execSelectionClose_ordered h
  | .reference engine => execReference_ordered h engine
  | .qpInstance place => execQpInstance_ordered h place
  | .qpIteration place => execQpIteration_ordered h place
  | .solverStop => execSolverStop_ordered h
  | .timeScaling place => execTimeScaling_ordered h place
  | .recheck engine => execRecheck_ordered h engine
  | .sentryCheck place => execSentryCheck_ordered h place
  | .sentryPacket => execSentryPacket_ordered h
  | .landing => execLanding_ordered h
  | .publicationFailure => execPublicationFailure_ordered h
  | .slackStart => execSlackStart_ordered h
  | .release t slot generation => execRelease_ordered h t slot generation
  | .dispatcherTick t tick => execDispatcherTick_ordered h t tick
  | .loadRanking => execLoadRanking_ordered h
  | .steal gallery => execSteal_ordered h gallery
  | .itemAssign t dispatcher => execItemAssign_ordered h t dispatcher
  | .itemRetire t serial => execItemRetire_ordered h t serial
  | .itemAdmission => execItemAdmission_ordered h
  | .engineLeavesService engine cause => execEngineLeavesService_ordered h engine cause
  | .galleryLeavesService gallery cause => execGalleryLeavesService_ordered h gallery cause
  | .adminOutWrite engines index mask => execAdminOutWrite_ordered h engines index mask
  | .drainComplete engine number => execDrainComplete_ordered h engine number
  | .rejoinRegister engine number passed => execRejoinRegister_ordered h engine number passed
  | .selfTestSlice t unit result => execSelfTestSlice_ordered h t unit result
  | .sliceAbandon slice => execSliceAbandon_ordered h slice
  | .coverageOverdue t unit => execCoverageOverdue_ordered h t unit
  | .itemCutOff t what => execItemCutOff_ordered h t what
  | .clockMonitorWindow t window => execClockMonitorWindow_ordered h t window
  | .newelLockstepMismatch t => execNewelLockstepMismatch_ordered h t
  | .uncorrectedHallError t address => execUncorrectedHallError_ordered h t address
  | .correctedErrorEvent t store => execCorrectedErrorEvent_ordered h t store
  | .channelLoss t channel => execChannelLoss_ordered h t channel
  | .journalRereplicationDone t => execJournalRereplicationDone_ordered h t
  | .doorbell t ring value => execDoorbell_ordered h t ring value
  | .descriptorFetch t ring bytes payload readOk => execDescriptorFetch_ordered h t ring bytes payload readOk
  | .descriptorAccept t => execDescriptorAccept_ordered h t
  | .nop record => execNop_ordered h record
  | .streamData record => execStreamData_ordered h record
  | .dictionary t run => execDictionary_ordered h t run
  | .loadModel run operationsKnown => execLoadModel_ordered h run operationsKnown
  | .loadProgram t run => execLoadProgram_ordered h t run
  | .replay run checkpoint => execReplay_ordered h run checkpoint
  | .regenerate run => execRegenerate_ordered h run
  | .dump run => execDump_ordered h run
  | .interruptModerationTimer t ring => execInterruptModerationTimer_ordered h t ring
  | .apertureBaseWrite value => execApertureBaseWrite_ordered h value
  | .recoveryControl t value => execRecoveryControl_ordered h t value
  | .reqLen t channel length bytes vector => execReqLen_ordered h t channel length bytes vector
  | .roceDoorbell t qp ring value => execRoceDoorbell_ordered h t qp ring value
  | .roceConsumerSend t qp ring body => execRoceConsumerSend_ordered h t qp ring body
  | .udpDescriptorDatagram t d => execUdpDescriptorDatagram_ordered h t d
  | .udpAcknowledgement t d => execUdpAcknowledgement_ordered h t d
  | .udpRecordResend t client => execUdpRecordResend_ordered h t client
  | .linkTrained t speed width => execLinkTrained_ordered h t speed width
  | .hello t m => execHello_ordered h t m
  | .helloTimer t => execHelloTimer_ordered h t
  | .mapSegment t m => execMapSegment_ordered h t m
  | .version t m => execVersion_ordered h t m
  | .scene t m => execScene_ordered h t m
  | .list t m => execList_ordered h t m
  | .plan t m => execPlan_ordered h t m
  | .digest t m => execDigest_ordered h t m
  | .digestFinal frame phase round => execDigestFinal_ordered h frame phase round
  | .digestMissing frame phase round => execDigestMissing_ordered h frame phase round
  | .bisect t m => execBisect_ordered h t m
  | .mirror t m => execMirror_ordered h t m
  | .mirrorAck t m => execMirrorAck_ordered h t m
  | .takeover t m => execTakeover_ordered h t m
  | .checkpoint t m => execCheckpoint_ordered h t m
  | .peerLoss t chip => execPeerLoss_ordered h t chip
  | .portFailover t => execPortFailover_ordered h t
  | .cnp t qp => execCnp_ordered h t qp
  | .ecnCePacket t qp => execEcnCePacket_ordered h t qp
  | .rateRecoveryTimer t qp => execRateRecoveryTimer_ordered h t qp
  | .substituteVersion => execSubstituteVersion_ordered h
  | .replayEnableWrite value => execReplayEnableWrite_ordered h value
  | .powerOnReset t pcie facts => execPowerOnReset_ordered h t pcie facts
  | .warmRstNAssert t => execWarmRstNAssert_ordered h t
  | .warmRstNRelease t facts => execWarmRstNRelease_ordered h t facts
  | .pwrGoodFall t => execPwrGoodFall_ordered h t
  | .storedDomLoad t => execStoredDomLoad_ordered h t
  | .firmwareActivate slot => execFirmwareActivate_ordered h slot
  | .firmwareConfirm => execFirmwareConfirm_ordered h
  | .attestationReportBuild t => execAttestationReportBuild_ordered h t
  | .throttleEvaluation t window => execThrottleEvaluation_ordered h t window
  | .stepChange t acknowledged => execStepChange_ordered h t acknowledged
  | .temperatureSample t temps => execTemperatureSample_ordered h t temps
  | .railExcursion t rail high => execRailExcursion_ordered h t rail high
  | .coldResetAssert t pcie => execColdResetAssert_ordered h t pcie
  | .newelClkFailure t => execNewelClkFailure_ordered h t
  | .newelSramEccError t => execNewelSramEccError_ordered h t
  | .vddNewelLoss t => execVddNewelLoss_ordered h t
  | .vddAonLoss t => execVddAonLoss_ordered h t
  | .patrolScrub t store single several => execPatrolScrub_ordered h t store single several
  | .coreVoltageSettled t => execCoreVoltageSettled_ordered h t
  | .portLinkDown t port => execPortLinkDown_ordered h t port
  | .portLinkUp t port => execPortLinkUp_ordered h t port
  | .pfcPause t port priority pause => execPfcPause_ordered h t port priority pause
  | .roceAck t qp message => execRoceAck_ordered h t qp message
  | .roceAckTimeout t qp => execRoceAckTimeout_ordered h t qp
  | .roceConnectionReestablished t qp => execRoceConnectionReestablished_ordered h t qp
  | .busMasterEnableWrite t enable => execBusMasterEnableWrite_ordered h t enable

/-- Every step keeps the stores in order: it takes the front command off the queue, which is no store, and gives the command its meaning. -/
theorem step_ordered (h : s.Ordered) : NextOrdered (step s) := by
  unfold step
  split
  · exact h
  · exact exec_ordered (State.Ordered.keep h) _

/-- Settles O59: each operation of the model keeps the stores in order, and so does each command, which is made of them. -/
theorem everyStepKeepsTheStoresInOrder : Obligations.EveryStepKeepsTheStoresInOrder := by
  unfold Obligations.EveryStepKeepsTheStoresInOrder
  intro s t h e
  have kept := step_ordered (s.ordered_iff.2 h)
  rw [e] at kept
  exact t.ordered_iff.1 kept

end Sys2Proof.Machine
end

section
/-!
SUPPORT. What the clearing of counters leaves of the dictionary (R35), and the counters' statement.
-/
namespace Sys2Proof.Machine
open Sys2Proof

set_option Elab.async false

/-- The active values once the counters of the bits below `n` of a mask are cleared. -/
def Dict.cleared (d : Dict) (idx mask n : Nat) : Dict :=
  (List.range n).foldl (fun d i => if mask.testBit i then { d with active := alErase (objKey idx (i + 1)) d.active } else d) d

/-- The sticky bits that a mask leaves. -/
def stickyKept (old mask : Nat) : Nat := (List.range 64).foldl (fun a i => if old.testBit i && !mask.testBit i then a + 2 ^ i else a) 0

theorem testBit_stickyKept {old mask k : Nat} (h : k < 64) : (stickyKept old mask).testBit k = (old.testBit k && !mask.testBit k) :=
  (testBit_sumOfBits (fun i => old.testBit i && !mask.testBit i) 64).2 k h

theorem Dict.cleared_succ (d : Dict) (idx mask n : Nat) :
    d.cleared idx mask (n + 1) = if mask.testBit n then { d.cleared idx mask n with active := alErase (objKey idx (n + 1)) (d.cleared idx mask n).active } else d.cleared idx mask n := by
  simp only [Dict.cleared, List.range_succ, List.foldl_append, List.foldl_cons, List.foldl_nil]

theorem Dict.cleared_other (d : Dict) (idx mask n : Nat) : d.cleared idx mask n = { d with active := (d.cleared idx mask n).active } := by
  induction n with
  | zero => rfl
  | succ n ih =>
    rw [Dict.cleared_succ]
    split
    · rw [ih]
    · exact ih

theorem Dict.cleared_sorted {d : Dict} (h : alSorted d.active = true) (idx mask n : Nat) : alSorted (d.cleared idx mask n).active = true := by
  induction n with
  | zero => exact h
  | succ n ih =>
    rw [Dict.cleared_succ]
    split
    · exact alSorted_alErase _ ih
    · exact ih

/-- A key keeps its value unless it is that of a counter cleared. -/
theorem Dict.cleared_get {d : Dict} (h : alSorted d.active = true) (idx mask n k : Nat) :
    alGet k (d.cleared idx mask n).active = if ∃ i, i < n ∧ mask.testBit i = true ∧ k = objKey idx (i + 1) then none else alGet k d.active := by
  induction n with
  | zero => simp [Dict.cleared]
  | succ n ih =>
    rw [Dict.cleared_succ]
    by_cases m : mask.testBit n = true
    · rw [if_pos m]
      by_cases e : k = objKey idx (n + 1)
      · rw [if_pos ⟨n, n.lt_succ_self, m, e⟩, e]
        exact alGet_alErase_same _ (Dict.cleared_sorted h ..)
      · refine (alGet_alErase_other e _).trans (ih.trans (if_congr ⟨fun ⟨i, hi, hm, hk⟩ => ⟨i, hi.trans n.lt_succ_self, hm, hk⟩, fun ⟨i, hi, hm, hk⟩ => ⟨i, ?_, hm, hk⟩⟩ rfl rfl))
        exact (Nat.lt_succ_iff_lt_or_eq.1 hi).resolve_right fun c => e (c ▸ hk)
    · rw [if_neg m, ih]
      refine if_congr ⟨fun ⟨i, hi, hm, hk⟩ => ⟨i, hi.trans n.lt_succ_self, hm, hk⟩, fun ⟨i, hi, hm, hk⟩ => ⟨i, ?_, hm, hk⟩⟩ rfl rfl
      exact (Nat.lt_succ_iff_lt_or_eq.1 hi).resolve_right fun c => m (c ▸ hm)

theorem objKey_inj {i j n k : Nat} (hn : n < 256) (hk : k < 256) (h : objKey i n = objKey j k) : i = j ∧ n = k := by
  unfold objKey at h
  omega

/-- A key is that of a counter that the mask names. -/
theorem cleared_key_iff {idx i mask n : Nat} (hn : n < 256) :
    (∃ k, k < 64 ∧ mask.testBit k = true ∧ objKey i n = objKey idx (k + 1)) ↔ i = idx ∧ 1 ≤ n ∧ n ≤ 64 ∧ mask.testBit (n - 1) = true := by
  constructor
  · rintro ⟨k, hk, hm, e⟩
    obtain ⟨rfl, rfl⟩ := objKey_inj hn (by omega) e
    exact ⟨rfl, by omega, by omega, hm⟩
  · rintro ⟨rfl, h1, h64, hm⟩
    exact ⟨n - 1, by omega, hm, by rw [Nat.sub_add_cancel h1]⟩

/-- The sticky bits of an index put at some value, and left out of the table at 0. -/
def stickySet (idx kept : Nat) (m : List (Nat × Nat)) : List (Nat × Nat) := if kept == 0 then alErase idx m else alSet idx kept m

theorem alGetD_stickySet {m : List (Nat × Nat)} (h : alSorted m = true) (idx kept i : Nat) : alGetD i 0 (stickySet idx kept m) = if i = idx then kept else alGetD i 0 m := by
  by_cases e : i = idx
  · subst e
    by_cases z : kept = 0
    · simp [stickySet, z, alGetD, alGet_alErase_same _ h]
    · simp [stickySet, z, alGetD, alGet_alSet_same]
  · by_cases z : kept = 0
    · simp [stickySet, z, e, alGetD, alGet_alErase_other e]
    · simp [stickySet, z, e, alGetD, alGet_alSet_other e]

theorem Dict.clearCounters_eq (d : Dict) (idx mask : Nat) :
    d.clearCounters idx mask = { d with active := (d.cleared idx mask 64).active, saturated := stickySet idx (stickyKept (alGetD idx 0 d.saturated) mask) d.saturated } := by
  have whole : d.clearCounters idx mask
      = { d.cleared idx mask 64 with saturated := stickySet idx (stickyKept (alGetD idx 0 (d.cleared idx mask 64).saturated) mask) (d.cleared idx mask 64).saturated } := rfl
  rw [whole, Dict.cleared_other]

theorem Dict.default_of_active (d : Dict) (active : ObjMap) (saturated : List (Nat × Nat)) : ({ d with active, saturated } : Dict).default = d.default := rfl

theorem Dict.activeVal_clearCounters {d : Dict} (h : alSorted d.active = true) (idx mask i n : Nat) (hn : n < 256) :
    (d.clearCounters idx mask).activeVal i n = if i = idx ∧ 1 ≤ n ∧ n ≤ 64 ∧ mask.testBit (n - 1) = true then d.default i n else d.activeVal i n := by
  rw [Dict.clearCounters_eq]
  simp only [Dict.activeVal, Dict.default_of_active, Dict.cleared_get h, cleared_key_iff hn]
  split <;> rfl

/-- A default comes of the object and the part, whatever values are held. -/
theorem Dict.default_counter (d : Dict) {idx : Nat} (h : isCounterIndex idx = true) (n : Nat) : d.default idx n = objDefault idx n := by
  have others : idx ≠ 0x1018 ∧ idx ≠ 0x8601 ∧ idx ≠ 0x8602 ∧ idx ≠ 0xA000 := by
    refine ⟨?_, ?_, ?_, ?_⟩ <;>
    · rintro rfl
      exact absurd h (by decide)
  obtain ⟨a, b, c, e⟩ := others
  simp [Dict.default, a, b, c, e]

/-- Settles O7: each clause reads off what clearing leaves of one value or one sticky bit. -/
theorem clearMaskZeroesItsCounters : Obligations.ClearMaskZeroesItsCounters := by
  unfold Obligations.ClearMaskZeroesItsCounters
  intro s idx mask counter active saturated
  have sticky (i : Nat) : alGetD i 0 (s.dict.clearCounters idx mask).saturated = if i = idx then stickyKept (alGetD idx 0 s.dict.saturated) mask else alGetD i 0 s.dict.saturated := by
    rw [Dict.clearCounters_eq]
    exact alGetD_stickySet saturated ..
  refine ⟨{ s with dict := s.dict.clearCounters idx mask }, by simp [exec, execCounterClear, counter], ?_, fun n h1 h64 hm => ⟨?_, ?_⟩, fun n h1 h64 hm => ?_, fun i n hn other => ?_,
    fun i other => (sticky i).trans (if_neg other)⟩
  · rw [Dict.clearCounters_eq]
  · rw [Dict.activeVal_clearCounters active _ _ _ _ (by omega), if_pos ⟨rfl, h1, h64, hm⟩, Dict.default_counter _ counter]
  · rw [sticky, if_pos rfl, testBit_stickyKept (by omega), hm, Bool.not_true, Bool.and_false]
  · rw [sticky, if_pos rfl, testBit_stickyKept (by omega), hm, Bool.not_false, Bool.and_true]
  · rw [Dict.activeVal_clearCounters active _ _ _ _ hn, if_neg other]

end Sys2Proof.Machine
end

section
/-!
SUPPORT. Reloads, saves and reset: the statements on them.
-/
namespace Sys2Proof.Machine
open Sys2Proof

set_option Elab.async false

theorem modAt_of_getElem? {α : Type} {xs : List α} {n : Nat} {x : α} (h : xs[n]? = some x) (f : α → α) : modAt xs n f = xs.set n (f x) := by
  simp only [modAt, h]

theorem exec_programReload_engine (s : State) {n : Nat} {u : EngineUnit} (hu : s.disp.units[n]? = some u) (due : u.reloadDue = true) (idle : s.serving n = none) :
    exec (.programReload false n) s = .next { s with disp := { s.disp with units := s.disp.units.set n { u with program := s.treadImage, reloadDue := false } } } := by
  simp [exec, execProgramReload, hu, due, idle, State.modUnit, modAt_of_getElem? hu]

theorem exec_programReload_ingress (s : State) {n : Nat} {x : Stream} (hn : n < 128) (hx : s.world.streams[n]? = some x) (due : x.reloadDue = true) (idle : x.running = []) :
    exec (.programReload true n) s = .next { s with world := { s.world with streams := s.world.streams.set n { x with program := s.filterImage n, reloadDue := false } } } := by
  simp [exec, execProgramReload, State.stream, hx, due, idle, hn, State.modStream, modAt_of_getElem? hx]

/-- A save moves the values to be saved into the flash: of the state, the dictionary's saved set and the flash area change. -/
theorem State.saveSettings_of_unsaved (s : State) {vals : ObjMap} {id : Nat} (h : s.dict.unsaved = some (vals, id)) :
    ∃ boot, s.saveSettings = { s with dict := { s.dict with saved := vals, savedSetId := id, unsaved := none }, boot := boot } := by
  unfold State.saveSettings
  rw [h]
  exact ⟨_, rfl⟩

/-- Settles O14: each reload and the save are given by one equation for its next state. -/
theorem reloadsAndSettingsSaves : Obligations.ReloadsAndSettingsSaves := by
  unfold Obligations.ReloadsAndSettingsSaves
  refine fun s n => ⟨fun u => exec_programReload_engine s, fun x => exec_programReload_ingress s, fun vals id cold warm unsaved => ?_⟩
  obtain ⟨boot, saved⟩ := s.saveSettings_of_unsaved unsaved
  refine ⟨_, congrArg Host.Outcome.next (if_neg (by simp [cold, warm])), ?_⟩
  rw [saved]
  exact ⟨rfl, rfl, rfl, rfl, rfl⟩

theorem State.reset_numbersUnique : NumbersUnique State.reset :=
  ⟨.nil, List.forall_mem_nil _, .nil, List.forall_mem_nil _, List.forall_mem_nil _, List.forall_mem_nil _⟩

/-- Settles O58: reset is written out in the model, and each value is read off it. -/
theorem resetStandsAsTheSpecGives : Obligations.ResetStandsAsTheSpecGives := by
  unfold Obligations.ResetStandsAsTheSpecGives
  exact ⟨rfl, rfl, rfl, rfl, rfl, rfl, rfl, rfl, rfl, rfl, rfl, rfl, rfl, rfl, rfl, rfl, rfl, fun _ _ => rfl, rfl, fun x hx => by rw [List.eq_of_mem_replicate hx], rfl, rfl, rfl, rfl, rfl, rfl,
    (State.ordered_iff _).1 .reset, State.reset_numbersUnique⟩

end Sys2Proof.Machine
end

section
/-!
SUPPORT. The rule interpreter (R60 to R62): what one operation does on the stack of a running rule, and the statements on its operations.
-/
namespace Sys2Proof.Machine
open Sys2Proof

set_option Elab.async false

theorem next_congr {s t : State} (e : s = t) : (.next s : Host.Outcome State Fault Refusal) = .next t := congrArg _ e

section
variable {s : State} {st : List Int} (h : RuleAt s st) (len : Nat)
include h

/-- On a running rule that no jump skips, an operation does what its result on the stack says. -/
theorem State.ruleDo_running (f : List Int → RuleResult) : s.ruleDo len f = match f st with
    | .absent => s
    | .pass => { s with rule := { s.rule with status := .passed, opIndex := s.rule.opIndex + 1 } }
    | .fail code => ruleFailed s code
    | .go st' skip => if 32 < st'.length then s else ruleWent s st' skip := by
  obtain ⟨running, noSkip, rfl, -⟩ := h
  have hand : (if s.rule.status == .running then s.rule else RuleVm.initial) = s.rule := if_pos (beq_iff_eq.2 running)
  unfold State.ruleDo
  rw [hand]
  exact if_neg (by simp [noSkip])

theorem State.ruleDo_pass {f : List Int → RuleResult} (e : f st = .pass) :
    s.ruleDo len f = { s with rule := { s.rule with status := .passed, opIndex := s.rule.opIndex + 1 } } := by rw [State.ruleDo_running h, e]

theorem State.ruleDo_fail {f : List Int → RuleResult} {code : Nat} (e : f st = .fail code) : s.ruleDo len f = ruleFailed s code := by rw [State.ruleDo_running h, e]

theorem State.ruleDo_go {f : List Int → RuleResult} {st' : List Int} {skip : Nat} (e : f st = .go st' skip) (l : st'.length ≤ 32) : s.ruleDo len f = ruleWent s st' skip := by
  rw [State.ruleDo_running h, e]
  exact if_neg (Nat.not_lt.2 l)

/-- A value is pushed where there is room for it. -/
theorem State.ruleDo_push {f : List Int → RuleResult} {v : Int} {st' : List Int} (e : f st = rulePush (some v) st') (l : st'.length < 32) : s.ruleDo len f = ruleWent s (v :: st') 0 :=
  State.ruleDo_go h len e l

/-- An exact result is pushed where it fits, and fails the rule where it does not. -/
theorem State.ruleDo_checked {f : List Int → RuleResult} {x : Int} {st' : List Int} (e : f st = rulePush (checked x) st') (l : st'.length < 32) : s.ruleDo len f = rulePushed s st' x := by
  have range : fitsI64 x = true ↔ -2 ^ 63 ≤ x ∧ x < 2 ^ 63 := by
    rw [fitsI64, Bool.and_eq_true, decide_eq_true_eq, decide_eq_true_eq]
    unfold i64Min i64Max
    omega
  unfold rulePushed
  split
  next fits => exact State.ruleDo_push h len (e.trans (by rw [checked, if_pos (range.2 fits)])) l
  next far => exact State.ruleDo_fail h len (e.trans (by rw [checked, if_neg (mt range.1 far)]; rfl))

end

theorem room_of_ruleAt_two {s : State} {a b : Int} {st : List Int} (h : RuleAt s (b :: a :: st)) : st.length < 32 := by
  have := h.2.2.2
  simp only [List.length_cons] at this
  omega

theorem room_of_ruleAt_one {s : State} {a : Int} {st : List Int} (h : RuleAt s (a :: st)) : st.length < 32 := h.2.2.2

section
variable {s : State} {a b : Int} {st : List Int} {f : Int → Int → Option Int} {g : Int → Option Int}

theorem State.ruleDo_bin (h : RuleAt s (b :: a :: st)) {v : Int} (e : f a b = some v) : s.ruleDo 1 (ruleBin f) = ruleWent s (v :: st) 0 :=
  State.ruleDo_push h 1 (congrArg (rulePush · st) e) (room_of_ruleAt_two h)

theorem State.ruleDo_bin_checked (h : RuleAt s (b :: a :: st)) {x : Int} (e : f a b = checked x) : s.ruleDo 1 (ruleBin f) = rulePushed s st x :=
  State.ruleDo_checked h 1 (congrArg (rulePush · st) e) (room_of_ruleAt_two h)

theorem State.ruleDo_un (h : RuleAt s (a :: st)) {v : Int} (e : g a = some v) : s.ruleDo 1 (ruleUn g) = ruleWent s (v :: st) 0 :=
  State.ruleDo_push h 1 (congrArg (rulePush · st) e) (room_of_ruleAt_one h)

theorem State.ruleDo_un_checked (h : RuleAt s (a :: st)) {x : Int} (e : g a = checked x) : s.ruleDo 1 (ruleUn g) = rulePushed s st x :=
  State.ruleDo_checked h 1 (congrArg (rulePush · st) e) (room_of_ruleAt_one h)

theorem State.ruleDo_test (h : RuleAt s (b :: a :: st)) (p : Int → Int → Bool) : s.ruleDo 1 (ruleBin (ruleTest p)) = ruleWent s ((if p a b then 1 else 0) :: st) 0 :=
  State.ruleDo_bin h rfl

end

/-- The signed value of the low bits of a number is that of the bit vector. -/
theorem signedOf_eq_toInt {w : Nat} (h : 0 < w) (n : Nat) : signedOf w n = (BitVec.ofNat w n).toInt := by
  have half : 2 ^ w = 2 * 2 ^ (w - 1) := by rw [← Nat.pow_succ', Nat.succ_eq_add_one, Nat.sub_add_cancel h]
  unfold signedOf
  rw [BitVec.toInt_eq_toNat_cond, BitVec.toNat_ofNat]
  dsimp only
  split <;> split <;> omega

theorem wrapI64_eq_toInt (x : Int) : wrapI64 x = (BitVec.ofInt 64 x).toInt := by
  have low : BitVec.ofNat 64 (unsignedOf 64 x) = BitVec.ofInt 64 x := by
    refine BitVec.eq_of_toNat_eq ?_
    rw [BitVec.toNat_ofNat, BitVec.toNat_ofInt, unsignedOf, Nat.mod_eq_of_lt]
    omega
  rw [wrapI64, signedOf_eq_toInt (by decide), low]

/-- SHL: the low 64 bits of the exact product. -/
theorem wrapI64_mul_two_pow (a : Int) (n : Nat) : wrapI64 (a * ((2 ^ n : Nat) : Int)) = (BitVec.ofInt 64 a <<< n).toInt := by
  rw [wrapI64_eq_toInt, BitVec.ofInt_mul, BitVec.ofInt_natCast, BitVec.shiftLeft_eq_mul_twoPow,
    BitVec.eq_of_toNat_eq ((BitVec.toNat_ofNat _ _).trans (BitVec.toNat_twoPow 64 n).symm)]

/-- SHR: the quotient rounded down. -/
theorem div_two_pow_eq_sshiftRight {a : Int} (h : Int64 a) (n : Nat) : a / ((2 ^ n : Nat) : Int) = ((BitVec.ofInt 64 a).sshiftRight n).toInt := by
  rw [BitVec.toInt_sshiftRight, Int.shiftRight_eq_div_pow, BitVec.toInt_ofInt_eq_self (by decide) h.1 h.2]

theorem ruleShift_of_le {b : Int} (h0 : 0 ≤ b) (h63 : b ≤ 63) (site : Nat) (f : Int → Nat → Int) (a : Int) : ruleShift site f a b = some (f a b.toNat) := if_pos ⟨h0, h63⟩

/-- Settles O8: each operation is one of three forms on the stack, an exact result, a bitwise one and a shift. -/
theorem ruleArithmeticPushesTheExactResult : Obligations.RuleArithmeticPushesTheExactResult := by
  unfold Obligations.RuleArithmeticPushesTheExactResult
  intro s a b st ha hb
  refine ⟨fun h => ?_, fun h => next_congr (State.ruleDo_un_checked h rfl)⟩
  have exact' {f : Int → Int → Option Int} {x : Int} (e : f a b = checked x) := next_congr (State.ruleDo_bin_checked h e)
  have pushed {f : Int → Int → Option Int} {v : Int} (e : f a b = some v) := next_congr (State.ruleDo_bin h e)
  refine ⟨exact' rfl, exact' rfl, exact' rfl, next_congr ?_, pushed rfl, pushed rfl, pushed rfl, fun h0 h63 => ⟨pushed ?_, pushed ?_⟩⟩
  · split
    next zero => exact State.ruleDo_fail h 1 (by simp [ruleBin, zero, rulePush])
    next nonzero => exact State.ruleDo_bin_checked h (if_neg (by simpa using nonzero))
  · rw [ruleShift_of_le h0 h63, wrapI64_mul_two_pow]
  · rw [ruleShift_of_le h0 h63, div_two_pow_eq_sshiftRight ha]

/-- Settles O9: each test pushes its truth value, and each stack operation gives its stack. -/
theorem ruleTestsAndStackOperations : Obligations.RuleTestsAndStackOperations := by
  unfold Obligations.RuleTestsAndStackOperations
  intro s a b st
  refine ⟨fun h => ?_, fun h => ?_, fun h room => ⟨fun v => next_congr (State.ruleDo_push h 5 rfl room), fun v => next_congr (State.ruleDo_push h 9 rfl room)⟩⟩
  · refine ⟨next_congr ((State.ruleDo_test h _).trans ?_), next_congr ((State.ruleDo_test h _).trans ?_),
      next_congr ((State.ruleDo_test h _).trans ?_), next_congr ((State.ruleDo_test h _).trans ?_),
      next_congr (State.ruleDo_go h 1 (st' := a :: b :: st) rfl h.2.2.2)⟩
    · simp only [beq_iff_eq]
    · simp only [bne_iff_ne, ne_eq, ite_not]
    · simp only [decide_eq_true_eq]
    · simp only [decide_eq_true_eq]
  · have room := room_of_ruleAt_one h
    refine ⟨next_congr (State.ruleDo_un h ?_), next_congr (State.ruleDo_go h 1 (st' := st) rfl room.le),
      fun more => next_congr (State.ruleDo_go h 1 (st' := a :: a :: st) rfl (Nat.succ_le_succ more))⟩
    simp only [beq_iff_eq]

/-! Loads and control (R60, R62) -/

/-- A load pushes what its value converts to, and fails where that is nothing. -/
theorem State.ruleLoad_of_find (s : State) (staged : Bool) {idx sub : Nat} {row : ObjRow} (find : objFind idx sub = some row) (readable : row.access ≠ .wo) :
    s.ruleLoad staged idx sub = loadConvert row.ty (s.objVal staged idx sub) := by
  simp [State.ruleLoad, find, readable]

theorem State.ruleLoad_of_undefined (s : State) (staged : Bool) {idx sub : Nat} (find : objFind idx sub = none) : s.ruleLoad staged idx sub = none := by
  simp [State.ruleLoad, find]

theorem loadConvert_unsigned {ty : ObjType} (h : ty ∈ [.bool, .u8, .u16, .u32, .u64, .time]) (n : Nat) : loadConvert ty (.num n) = if n < 2 ^ 63 then some (n : Int) else none := by
  simp only [List.mem_cons, List.not_mem_nil, or_false] at h
  rcases h with rfl | rfl | rfl | rfl | rfl | rfl <;> rfl

/-- The value times 2^16 out of its fixed-point form. -/
theorem floatToRule_eq (fix : Int) (k : Nat) : floatToRule fix k = checked (Int.tdiv (fix * 2 ^ 16) (2 ^ (k + 16))) := by
  have same : Int.tdiv (fix * 2 ^ 16) (2 ^ (k + 16)) = Int.tdiv fix ((2 ^ k : Nat) : Int) := by
    rw [pow_add, Int.mul_tdiv_mul_of_pos_left _ _ (by decide), Nat.cast_pow, Nat.cast_ofNat]
  rw [same]
  rfl

theorem exec_load (s : State) {ld : Instr × Bool} {idx : BitVec 16} {sub : BitVec 8}
    (hld : ld = (.ld idx sub, true) ∨ ld = (.ldact idx sub, false)) : exec ld.1 s = .next (s.ruleDo 4 (rulePush (s.ruleLoad ld.2 idx.toNat sub.toNat))) := by
  rcases hld with rfl | rfl <;> rfl

/-- Settles O10: a load pushes its value's conversion, and each control operation has one result on the stack. -/
theorem ruleLoadsAndControl : Obligations.RuleLoadsAndControl := by
  unfold Obligations.RuleLoadsAndControl
  refine fun s st => ⟨fun ld idx sub hld h room => ?_, fun h => next_congr (State.ruleDo_pass h 1 rfl), fun a c h => next_congr ?_, fun a n h => next_congr ?_⟩
  · rw [exec_load s hld]
    refine ⟨fun find => next_congr (State.ruleDo_fail h 4 (by rw [s.ruleLoad_of_undefined _ find]; rfl)), fun row find readable => ?_⟩
    rw [s.ruleLoad_of_find _ find readable]
    refine ⟨fun b value => ?_, fun n value => ?_⟩
    · rw [value]
      exact next_congr (State.ruleDo_push h 4 rfl room)
    · rw [value]
      refine ⟨fun unsigned => next_congr ?_, fun i32 => next_congr ?_, fun f32 => next_congr ?_, fun f64 => next_congr ?_⟩
      · rw [loadConvert_unsigned unsigned]
        split
        next small => exact State.ruleDo_push h 4 rfl room
        next large => exact State.ruleDo_fail h 4 rfl
      · rw [i32, ← signedOf_eq_toInt (by decide)]
        exact State.ruleDo_push h 4 rfl room
      · rw [f32, loadConvert, floatToRule_eq]
        split
        next finite => exact State.ruleDo_checked h 4 rfl room
        next other => exact State.ruleDo_fail h 4 rfl
      · rw [f64, loadConvert, floatToRule_eq]
        split
        next finite => exact State.ruleDo_checked h 4 rfl room
        next other => exact State.ruleDo_fail h 4 rfl
  · have room := room_of_ruleAt_one h
    split
    next zero => exact State.ruleDo_fail h 2 (by simp [zero])
    next nonzero => exact State.ruleDo_go h 2 (st' := st) (by simp [nonzero]) room.le
  · exact State.ruleDo_go h 2 (st' := st) (by simp) (room_of_ruleAt_one h).le

end Sys2Proof.Machine
end

section
/-!
SUPPORT. The dictionary protocol (R38 to R51): a session's entry among the sessions, what a message leaves that is heard, and the two ways in which a request is answered.
-/
namespace Sys2Proof.Machine
open Sys2Proof

set_option Elab.async false

/-! The first entry that meets a test -/

theorem modFirst_of_find?_none {α : Type} {p : α → Bool} (f : α → α) {xs : List α} (h : xs.find? p = none) : modFirst p f xs = xs := by
  induction xs with
  | nil => rfl
  | cons y ys ih =>
    have e : ¬p y = true := List.find?_eq_none.1 h y (List.mem_cons_self ..)
    rw [List.find?_cons_of_neg e] at h
    rw [modFirst, if_neg e, ih h]

theorem modFirst_modFirst {α : Type} {p : α → Bool} {f : α → α} (k : ∀ x, p (f x) = p x) (g : α → α) (xs : List α) : modFirst p g (modFirst p f xs) = modFirst p (fun x => g (f x)) xs := by
  induction xs with
  | nil => rfl
  | cons y ys ih =>
    by_cases e : p y = true
    · rw [modFirst, if_pos e, modFirst, if_pos ((k y).trans e), modFirst, if_pos e]
    · rw [modFirst, if_neg e, modFirst, if_neg e, ih, modFirst, if_neg e]

/-- Only the entry found matters. -/
theorem modFirst_congr {α : Type} {p : α → Bool} {f g : α → α} {xs : List α} (h : ∀ x, xs.find? p = some x → f x = g x) : modFirst p f xs = modFirst p g xs := by
  induction xs with
  | nil => rfl
  | cons y ys ih =>
    by_cases e : p y = true
    · rw [modFirst, if_pos e, modFirst, if_pos e, h y (List.find?_cons_of_pos e)]
    · rw [modFirst, if_neg e, modFirst, if_neg e, ih fun x hx => h x (by rwa [List.find?_cons_of_neg e])]

/-! A session's entry -/

theorem State.session?_id {s : State} {id : Nat} {x : Session} (h : s.session? id = some x) : x.id = id := by
  simpa using List.find?_some h

theorem State.session?_modSession {s : State} {id : Nat} {x : Session} (h : s.session? id = some x) {f : Session → Session} (k : ∀ y, (f y).id = y.id) :
    (s.modSession id f).session? id = some (f x) := by
  unfold State.session? at h ⊢
  rw [State.modSession, find?_modFirst _ _ (fun y e => by rwa [k]), h]
  rfl

theorem State.modSession_modSession (s : State) (id : Nat) {f : Session → Session} (k : ∀ x, (f x).id = x.id) (g : Session → Session) :
    (s.modSession id f).modSession id g = s.modSession id (fun x => g (f x)) :=
  congrArg (fun sessions => { s with odp := { s.odp with sessions } }) (modFirst_modFirst (fun x => by rw [k]) g _)

theorem State.modSession_of_none {s : State} {id : Nat} (h : s.session? id = none) (f : Session → Session) : s.modSession id f = s :=
  congrArg (fun sessions => { s with odp := { s.odp with sessions } }) (modFirst_of_find?_none f h)

theorem State.modSession_congr {s : State} {id : Nat} {x : Session} (h : s.session? id = some x) {f g : Session → Session} (k : f x = g x) : s.modSession id f = s.modSession id g :=
  congrArg (fun sessions => { s with odp := { s.odp with sessions } }) (modFirst_congr fun y hy => by rw [Option.some.inj (hy.symm.trans h), k])

/-- The notes of an event leave the sessions alone. -/
theorem State.Notes.session? {s t : State} (h : State.Notes s t) (id : Nat) : t.session? id = s.session? id := by
  rw [h]
  rfl

theorem State.HostWire.session? {s t : State} (h : State.HostWire s t) (id : Nat) : t.session? id = s.session? id := h.notes.session? id

theorem State.placeMailbox_hostWire (s : State) (c : Nat) (b : List Byte) : State.HostWire s (s.placeMailbox c b) := by
  unfold State.placeMailbox
  dsimp only
  split <;> rfl

/-- A message that leaves changes no more than what has been sent, and the host port. -/
theorem State.odpDeliver_hostWire (s : State) (tr : Transport) (b : List Byte) : State.HostWire s (s.odpDeliver tr b) := by
  cases tr with
  | mailbox c => exact s.placeMailbox_hostWire c b
  | peer p => exact (s.sendInput_sends p _).1
  | mgmt => exact (s.sendMgmt_sends _).1
  | ring n => rfl

/-! Messages heard -/

/-- R40: a session with a message accepted. -/
def Session.accepted (x : Session) (m : OdpMsg) (now : Nat) : Session := { x with failedTags := 0, rxCounter := m.counter, heard := now }

section
variable {s : State} {t kind opcode : Nat} {m : OdpMsg} {x : Session} (h : Heard s t kind opcode m x)
include h

theorem State.session?_of_heard : s.session? x.id = some x := by
  obtain ⟨-, -, session, -⟩ := h
  rw [State.session?_id session]
  exact session

theorem State.session?_heardAt : (heardAt s t m x).session? x.id = some (x.accepted m (max s.now t)) :=
  State.session?_modSession (s := s.at t) (State.session?_of_heard (s := s) h) fun _ => rfl

theorem State.odpAccept_heard : (s.at t).odpAccept kind opcode m = (some (x.accepted m (max s.now t)), heardAt s t m x) := by
  have found := State.session?_heardAt h
  obtain ⟨-, -, session, awake, tag, counter, -⟩ := h
  have known : (s.at t).session? m.session = some x := session
  unfold State.odpAccept
  rw [known]
  exact (if_neg (Nat.not_lt.2 awake)).trans ((if_neg (by simp [tag])).trans ((if_neg (Nat.not_le.2 counter)).trans (congrArg (·, heardAt s t m x) found)))

end

/-- R39, R40: a response sent to the session that asked, where it is open. -/
def State.respond (s : State) (id : Nat) (m : OdpMsg) (r : OdpResp) : State :=
  match s.session? id with
  | some y => (s.odpSend y 1 r.opcode r.flags m.xid r.status r.payload).2.odpDeliver m.transport (s.odpSend y 1 r.opcode r.flags m.xid r.status r.payload).1
  | none => s

theorem State.respond_of_session {s : State} {id : Nat} {y : Session} (h : s.session? id = some y) (m : OdpMsg) (r : OdpResp) :
    s.respond id m r = (s.odpSend y 1 r.opcode r.flags m.xid r.status r.payload).2.odpDeliver m.transport (s.odpSend y 1 r.opcode r.flags m.xid r.status r.payload).1 := by
  rw [State.respond, h]

section
variable {s : State} {t opcode : Nat} {m : OdpMsg} {x : Session}

theorem State.odpProcess_heard {kind : Nat} (h : Heard s t kind opcode m x) (notSetup : kind ≠ 3) :
    (s.at t).odpProcess m.transport kind opcode m = if kind = 5 then (none, (heardAt s t m x).endSession x.id) else if kind = 6 then (none, heardAt s t m x)
      else
        let a := (heardAt s t m x).odpRequest (x.accepted m (max s.now t)) opcode m.flags m.xid m.payload
        match a.2.session? x.id with
        | some y => (some (a.2.odpSend y 1 a.1.opcode a.1.flags m.xid a.1.status a.1.payload).1, (a.2.odpSend y 1 a.1.opcode a.1.flags m.xid a.1.status a.1.payload).2)
        | none => (none, a.2) := by
  have accepted := State.odpAccept_heard h
  obtain ⟨ready, enabled, -, -, -, -, formed⟩ := h
  have open' : (s.at t).odpEnabled m.transport = true := enabled
  unfold State.odpProcess
  rw [if_neg (by simp [ready, open']), if_neg (by simpa using notSetup), accepted]
  dsimp only
  rw [if_neg (by simp [formed])]
  simp only [beq_iff_eq]
  rfl

theorem State.odpMessage_request (h : Heard s t 0 opcode m x) :
    s.odpMessage t 0 opcode m = ((heardAt s t m x).odpRequest (x.accepted m (max s.now t)) opcode m.flags m.xid m.payload).2.respond x.id m
      ((heardAt s t m x).odpRequest (x.accepted m (max s.now t)) opcode m.flags m.xid m.payload).1 := by
  unfold State.odpMessage
  rw [State.odpProcess_heard h (by decide), if_neg (by decide), if_neg (by decide)]
  dsimp only [State.respond]
  generalize (heardAt s t m x).odpRequest _ opcode m.flags m.xid m.payload = a
  cases a.2.session? x.id <;> rfl

theorem State.odpMessage_close (h : Heard s t 5 opcode m x) : s.odpMessage t 5 opcode m = (heardAt s t m x).endSession x.id := by
  unfold State.odpMessage
  rw [State.odpProcess_heard h (by decide)]
  rfl

theorem State.odpMessage_keepAlive (h : Heard s t 6 opcode m x) : s.odpMessage t 6 opcode m = heardAt s t m x := by
  unfold State.odpMessage
  rw [State.odpProcess_heard h (by decide)]
  rfl

end

/-! Answers -/

/-- A response that is sent without being kept, written out. -/
theorem State.respond_eq {s : State} {id : Nat} {y : Session} (h : s.session? id = some y) (m : OdpMsg) (r : OdpResp) :
    s.respond id m r = (s.modSession id (fun y => { y with txCounter := y.txCounter + 1, sent := s.now })).odpDeliver m.transport
      ((odpHeader 1 1 r.opcode r.flags id m.xid y.txCounter r.status r.payload.length 0 ++ r.payload)
        ++ hmacSm3 y.key (odpHeader 1 1 r.opcode r.flags id m.xid y.txCounter r.status r.payload.length 0 ++ r.payload)) := by
  have own := State.session?_id h
  subst own
  rw [State.respond_of_session h]
  rfl

/-- R44: a session with the response to a transaction kept, of which it keeps the last 64. -/
def Session.keep (x : Session) (xid : Nat) (r : OdpResp) : Session := { x with kept := (x.kept ++ [(xid, r)]).drop ((x.kept ++ [(xid, r)]).length - 64) }

/-- Kept and then sent, a response is what `answered` says. -/
theorem State.respond_kept (s : State) (id : Nat) (m : OdpMsg) (r : OdpResp) : (s.modSession id (·.keep m.xid r)).respond id m r = answered s id m r := by
  cases e : s.session? id with
  | none =>
    rw [State.modSession_of_none e, State.respond, answered, e]
  | some y =>
    rw [State.respond_eq (State.session?_modSession (f := (·.keep m.xid r)) e fun _ => rfl), State.modSession_modSession _ _ (f := (·.keep m.xid r)) (fun _ => rfl), answered, e]
    simp only [Session.keep, List.length_append, List.length_cons, List.length_nil]
    rfl

/-- R44: a new request runs, and its answer is kept. -/
theorem State.odpRequest_new (s : State) {y : Session} {opcode flags xid : Nat} {p : List Byte} (new : ∀ k ∈ y.kept, k.1 ≠ xid) (late : y.kept = [] ∨ ∃ k ∈ y.kept, seqAfter xid k.1 = false) :
    s.odpRequest y opcode flags xid p
      = (((s.count 0x1020 1 1).odpRun y opcode flags p).1, ((s.count 0x1020 1 1).odpRun y opcode flags p).2.modSession y.id (·.keep xid ((s.count 0x1020 1 1).odpRun y opcode flags p).1)) := by
  have unknown : y.kept.find? (fun k => k.1 == xid) = none := List.find?_eq_none.2 fun k hk => by simpa using new k hk
  have follows : (!y.kept.isEmpty && y.kept.all (fun k => seqAfter xid k.1)) = false := by
    rcases late with e | ⟨k, hk, e⟩
    · simp [e]
    · rw [Bool.and_eq_false_iff]
      exact .inr (List.all_eq_false.2 ⟨k, hk, by simp [e]⟩)
  unfold State.odpRequest
  rw [unknown]
  dsimp only
  rw [if_neg (by simp [follows])]
  rfl

theorem State.odpMessage_asked {s : State} {t opcode : Nat} {m : OdpMsg} {x : Session} (h : Asked s t opcode m x) :
    s.odpMessage t 0 opcode m = answered ((askedAt s t m x).odpRun (x.accepted m (max s.now t)) opcode m.flags m.payload).2 x.id m
      ((askedAt s t m x).odpRun (x.accepted m (max s.now t)) opcode m.flags m.payload).1 := by
  obtain ⟨heard, new, late, -⟩ := h
  rw [State.odpMessage_request heard, State.odpRequest_new _ (y := x.accepted m (max s.now t)) new late]
  exact State.respond_kept ..

end Sys2Proof.Machine
end

section
/-!
SUPPORT. Messages that are not heard, and requests that are not new (R40, R44).
-/
namespace Sys2Proof.Machine
open Sys2Proof

set_option Elab.async false

/-- Each message of a session is one of R39's, and none is a setup. -/
theorem exec_odpCommands {t : Nat} {m : OdpMsg} (s : State) : ∀ p ∈ odpCommands t m, exec p.1 s = .next (s.odpMessage t p.2.1 p.2.2 m) ∧ p.2.1 ≠ 3 := by
  simp only [odpCommands, List.forall_mem_cons]
  refine ⟨?read, ?write, ?blockRead, ?blockWrite, ?stage, ?check, ?commit, ?abort, ?subscribe, ?close, ?keepAlive, fun p h => absurd h List.not_mem_nil⟩
  all_goals exact ⟨rfl, by decide⟩

/-- R40: a message that is not accepted has no answer. -/
theorem State.odpMessage_dropped {s u : State} {t kind opcode : Nat} {m : OdpMsg} (ready : s.boot.ready = true) (enabled : s.odpEnabled m.transport = true) (notSetup : kind ≠ 3)
    (h : (s.at t).odpAccept kind opcode m = (none, u)) : s.odpMessage t kind opcode m = u := by
  have open' : (s.at t).odpEnabled m.transport = true := enabled
  unfold State.odpMessage State.odpProcess
  rw [if_neg (by simp [ready, open']), if_neg (by simpa using notSetup), h]

section
variable {s : State} {t kind opcode : Nat} {m : OdpMsg} {x : Session} (session : s.session? m.session = some x) (awake : max s.now t ≤ x.heard + s.cfg 0x1010 3)
include session awake

theorem State.odpAccept_awake : (s.at t).odpAccept kind opcode m =
    if hmacSm3 x.key (m.signed kind opcode) != m.tag then
      (none, if 16 ≤ x.failedTags + 1 then ((s.at t).count 0x1020 2 1).endSession x.id else ((s.at t).count 0x1020 2 1).modSession x.id (fun x => { x with failedTags := x.failedTags + 1 }))
    else if m.counter ≤ x.rxCounter then (none, ((s.at t).modSession x.id (fun x => { x with failedTags := 0 })).count 0x1020 3 1)
    else (some (x.accepted m (max s.now t)), (s.at t).modSession x.id (·.accepted m (max s.now t))) := by
  have own := State.session?_id session
  have known : (s.at t).session? m.session = some x := session
  have found : ((s.at t).modSession x.id (·.accepted m (max s.now t))).session? x.id = some (x.accepted m (max s.now t)) :=
    State.session?_modSession (own ▸ known) fun _ => rfl
  unfold State.odpAccept
  rw [known]
  exact (if_neg (Nat.not_lt.2 awake)).trans (by rw [← found]; rfl)

theorem State.odpAccept_wrongTag (tag : m.tag ≠ hmacSm3 x.key (m.signed kind opcode)) : (s.at t).odpAccept kind opcode m =
    (none, if 16 ≤ x.failedTags + 1 then ((s.at t).count 0x1020 2 1).endSession x.id else ((s.at t).count 0x1020 2 1).modSession x.id (fun x => { x with failedTags := x.failedTags + 1 })) := by
  rw [State.odpAccept_awake session awake, if_pos (by simpa using fun e => tag e.symm)]

theorem State.odpAccept_staleCounter (tag : m.tag = hmacSm3 x.key (m.signed kind opcode)) (stale : m.counter ≤ x.rxCounter) :
    (s.at t).odpAccept kind opcode m = (none, ((s.at t).modSession x.id (fun x => { x with failedTags := 0 })).count 0x1020 3 1) := by
  rw [State.odpAccept_awake session awake, if_neg (by simp [tag]), if_pos stale]

end

/-- Settles O4: of a message's tests only those of tag and counter are left. -/
theorem unprovenMessagesAreDropped : Obligations.UnprovenMessagesAreDropped := by
  unfold Obligations.UnprovenMessagesAreDropped
  intro s t m x p hp ready enabled session awake
  obtain ⟨runs, notSetup⟩ := exec_odpCommands s p hp
  have dropped {u : State} (h : (s.at t).odpAccept p.2.1 p.2.2 m = (none, u)) : exec p.1 s = .next u := runs.trans (next_congr (State.odpMessage_dropped ready enabled notSetup h))
  refine ⟨fun tag few => dropped ?_, fun tag many => dropped ?_, fun tag stale => dropped (State.odpAccept_staleCounter session awake tag stale)⟩
  · rw [State.odpAccept_wrongTag session awake tag, if_neg (Nat.not_le.2 few)]
  · rw [State.odpAccept_wrongTag session awake tag, if_pos many]

/-! Kept responses (R44) -/

theorem State.odpRequest_kept (s : State) {y : Session} {opcode flags xid : Nat} {p : List Byte} {k : Nat × OdpResp} (h : y.kept.find? (fun k => k.1 == xid) = some k) :
    s.odpRequest y opcode flags xid p = (k.2, s.count 0x1020 4 1) := by
  rw [State.odpRequest, h]

theorem State.odpRequest_early (s : State) {y : Session} {opcode flags xid : Nat} {p : List Byte} (some' : y.kept ≠ []) (early : ∀ k ∈ y.kept, k.1 ≠ xid ∧ seqAfter xid k.1 = true) :
    s.odpRequest y opcode flags xid p = (respOf opcode 0x010D [], s) := by
  have unknown : y.kept.find? (fun k => k.1 == xid) = none := List.find?_eq_none.2 fun k hk => by simpa using (early k hk).1
  have first : (!y.kept.isEmpty && y.kept.all (fun k => seqAfter xid k.1)) = true := by
    simpa [some'] using fun a b hk => (early (a, b) hk).2
  rw [State.odpRequest, unknown]
  exact if_pos first

theorem State.session?_count {s : State} (id idx sub n : Nat) : (s.count idx sub n).session? id = s.session? id := (State.count_frame ..).session? id

/-- What a session keeps once a request is answered. -/
theorem State.session?_answered {s : State} {id : Nat} {x : Session} (h : s.session? id = some x) (m : OdpMsg) (r : OdpResp) :
    (answered s id m r).session? id = some { x with kept := (x.kept ++ [(m.xid, r)]).drop (x.kept.length - 63), txCounter := x.txCounter + 1, sent := s.now } := by
  rw [answered, h]
  exact ((State.odpDeliver_hostWire ..).session? id).trans (State.session?_modSession h fun _ => rfl)

/-- Settles O5: the test of the XID comes before the request is counted or run. -/
theorem repeatedRequestsAreNotExecutedAgain : Obligations.RepeatedRequestsAreNotExecutedAgain := by
  unfold Obligations.RepeatedRequestsAreNotExecutedAgain
  intro s t m x p hp request heard
  have runs := (exec_odpCommands s p hp).1
  rw [request] at runs
  have found := State.session?_heardAt heard
  refine ⟨fun k hk => ?_, fun some' early => ?_, fun r few y hy => ?_⟩
  · rw [runs, State.odpMessage_request heard, State.odpRequest_kept _ (y := x.accepted m (max s.now t)) hk, State.respond_eq ((State.session?_count ..).trans found)]
    rfl
  · rw [runs, State.odpMessage_request heard, State.odpRequest_early _ (y := x.accepted m (max s.now t)) some' early, State.respond_eq found]
    simp only [respOf, List.append_nil]
    rfl
  · rw [State.session?_answered ((State.session?_count ..).trans found)] at hy
    obtain rfl := Option.some.inj hy
    have all : (x.accepted m (max s.now t)).kept = x.kept := rfl
    simp only [all]
    refine ⟨by simp; omega, ?_⟩
    rw [List.drop_append_of_le_length (Nat.sub_le ..)]
    exact List.mem_append_right _ (List.mem_singleton_self _)

end Sys2Proof.Machine
end

section
/-!
SUPPORT. The requests that read (R41, R43).
-/
namespace Sys2Proof.Machine
open Sys2Proof

set_option Elab.async false

section
variable {s : State} {t opcode : Nat} {m : OdpMsg} {x : Session}

/-- R49: a request that its session may make runs. -/
theorem Session.mayRun_of_asked (h : Asked s t opcode m x) : ¬(!(x.accepted m (max s.now t)).roles.testBit 1 && !([1, 3, 9].contains opcode)) = true := by
  obtain ⟨-, -, -, may⟩ := h
  have same : (x.accepted m (max s.now t)).roles = x.roles := rfl
  rcases may with e | e | e | e <;> simp [e, same]

theorem State.odpMessage_ran {u : State} {r : OdpResp} (h : Asked s t opcode m x) (run : (askedAt s t m x).odpRun (x.accepted m (max s.now t)) opcode m.flags m.payload = (r, u)) :
    s.odpMessage t 0 opcode m = answered u x.id m r := by
  rw [State.odpMessage_asked h, run]

end

theorem resolve_of_names {m : OdpMsg} {row : ObjRow} (h : Names m row) {dom any : Bool} (form : any = true ∨ (row.ty == .dom) = dom) : resolve (refOf m.payload) dom any = .ok row := by
  obtain ⟨known, found, type⟩ := h
  have fits : ¬(row.ty.code != (refOf m.payload).ty || (!any && (row.ty == .dom) != dom)) = true := by
    rcases form with e | e <;> simp [type, e]
  rw [resolve, if_neg (Nat.not_le.2 known), found]
  exact if_neg fits

theorem askedAt_boot (s : State) (t : Nat) (m : OdpMsg) (x : Session) : (askedAt s t m x).boot = s.boot := (congrArg State.boot (State.count_frame (heardAt s t m x) 0x1020 1 1)).trans rfl
theorem askedAt_mem (s : State) (t : Nat) (m : OdpMsg) (x : Session) : (askedAt s t m x).mem = s.mem := (congrArg State.mem (State.count_frame (heardAt s t m x) 0x1020 1 1)).trans rfl

/-- R36, R41: the entry of one subindex in the answer to a READ. -/
def State.shownEntry (s : State) (flags idx sub : Nat) (row : ObjRow) : List Byte :=
  refBytes idx sub row ++ leBytes 2 (valueBytes row.ty (s.copyOf (flags.testBit 0) row idx sub)).length ++ valueBytes row.ty (s.copyOf (flags.testBit 0) row idx sub)

section
variable {m : OdpMsg} {row : ObjRow} (named : Names m row) (s : State)
include named

theorem State.odpRead_one (len : m.payload.length = 4) (one : m.flags.testBit 1 = false) (short : row.ty ≠ .dom) (shown : row.access ≠ .wo) :
    s.odpRead m.flags m.payload = (⟨1, 0, 0, s.shownEntry m.flags (refOf m.payload).idx (refOf m.payload).sub row⟩, s) := by
  unfold State.odpRead
  rw [if_neg (by simp [len]), resolve_of_names named (.inr (by simpa using short))]
  dsimp only
  rw [if_neg (by simp [one]), if_neg (by simpa using shown)]
  rfl

theorem State.odpRead_whole (len : m.payload.length = 4) (whole : m.flags.testBit 1 = true) :
    s.odpRead m.flags m.payload = (⟨1, 0, 0, (List.range 256).flatMap fun sub => match objFind (refOf m.payload).idx sub with
      | some row => if row.ty = .dom ∨ row.access = .wo then [] else s.shownEntry m.flags (refOf m.payload).idx sub row
      | none => []⟩, s) := by
  unfold State.odpRead
  rw [if_neg (by simp [len]), resolve_of_names named (.inl whole)]
  dsimp only
  rw [if_pos whole]
  simp only [Bool.or_eq_true, beq_iff_eq]
  rfl

theorem State.odpBlockRead_segment (len : m.payload.length = 8) (dom : row.ty = .dom) (shown : row.access ≠ .wo) (loaded : s.boot.domsLoaded = true)
    (kept : (refOf m.payload).sub = 0x0A → (refOf m.payload).idx ∉ s.mem.tallyLost) {b : List Byte}
    (value : (s.copyOf (m.flags.testBit 0) row (refOf m.payload).idx (refOf m.payload).sub).toBytes = b) (within : fieldAt m.payload 4 4 ≤ b.length) :
    s.odpBlockRead m.flags m.payload = (⟨3, if fieldAt m.payload 4 4 + ((b.drop (fieldAt m.payload 4 4)).take 1024).length = b.length then 4 else 0, 0,
      leBytes 4 (fieldAt m.payload 4 4) ++ leBytes 4 b.length ++ (b.drop (fieldAt m.payload 4 4)).take 1024⟩, s) := by
  have whole : ¬((refOf m.payload).sub == 0x0A && s.mem.tallyLost.contains (refOf m.payload).idx) = true := by simpa using kept
  have final : b.length ≤ fieldAt m.payload 4 4 + ((b.drop (fieldAt m.payload 4 4)).take 1024).length
      ↔ fieldAt m.payload 4 4 + ((b.drop (fieldAt m.payload 4 4)).take 1024).length = b.length := by
    simp only [List.length_take, List.length_drop]
    omega
  unfold State.odpBlockRead
  rw [if_neg (by simp [len]), resolve_of_names named (.inr (by simp [dom]))]
  dsimp only
  rw [if_neg (by simpa using shown), if_neg (by simp [loaded]), if_neg whole, value, if_neg (Nat.not_lt.2 within)]
  simp only [final]

theorem State.odpSubscribe_taken (y : Session) (len : m.payload.length = 6) (shown : row.access ≠ .wo)
    (room : fieldAt m.payload 4 2 = 0 ∨ (y.subs.filter (fun z => !(z.idx == (refOf m.payload).idx && z.sub == (refOf m.payload).sub))).length < 256) {subs : List Subscription}
    (after : (if fieldAt m.payload 4 2 = 0 then y.subs.filter (fun z => !(z.idx == (refOf m.payload).idx && z.sub == (refOf m.payload).sub))
      else y.subs.filter (fun z => !(z.idx == (refOf m.payload).idx && z.sub == (refOf m.payload).sub))
        ++ [⟨(refOf m.payload).idx, (refOf m.payload).sub, fieldAt m.payload 4 2, some (s.live (refOf m.payload).idx (refOf m.payload).sub), none⟩]) = subs) :
    s.odpSubscribe y m.payload = (⟨9, 0, 0, leBytes 2 subs.length⟩, s.modSession y.id (fun y => { y with subs := subs })) := by
  unfold State.odpSubscribe
  rw [if_neg (by simp [len]), resolve_of_names named (.inl rfl)]
  dsimp only
  have fits : ¬(fieldAt m.payload 4 2 != 0 && decide (256 ≤ (y.subs.filter (fun z => !(z.idx == (refOf m.payload).idx && z.sub == (refOf m.payload).sub))).length)) = true := by
    rcases room with e | e
    · simp [e]
    · rw [decide_eq_false (Nat.not_le.2 e), Bool.and_false]
      exact Bool.false_ne_true
  rw [if_neg (by simpa using shown), if_neg fits]
  simp only [beq_iff_eq, after]
  rfl

end

/-- Settles O1: each request passes the tests of its form, and answers from the state in which it runs. -/
theorem readsAnswerWithTheObject : Obligations.ReadsAnswerWithTheObject := by
  unfold Obligations.ReadsAnswerWithTheObject
  intro s t m x row named r s1 shown block at' segment interval others subs
  have loaded : s1.boot = s.boot := askedAt_boot s t m x
  have tally : s1.mem = s.mem := askedAt_mem s t m x
  refine ⟨fun asked len one short seen => ?read, fun asked len whole => ?whole, fun asked len dom seen loaded' kept within => ?block, fun asked len seen room => ?subscribe⟩
  case read => exact next_congr (State.odpMessage_ran asked ((if_neg (Session.mayRun_of_asked asked)).trans (State.odpRead_one named s1 len one short seen)))
  case whole => exact next_congr (State.odpMessage_ran asked ((if_neg (Session.mayRun_of_asked asked)).trans (State.odpRead_whole named s1 len whole)))
  case block =>
    exact next_congr (State.odpMessage_ran asked ((if_neg (Session.mayRun_of_asked asked)).trans
      (State.odpBlockRead_segment named s1 len dom seen (loaded.symm ▸ loaded') (tally.symm ▸ kept) rfl within)))
  case subscribe =>
    exact next_congr (State.odpMessage_ran asked ((if_neg (Session.mayRun_of_asked asked)).trans (State.odpSubscribe_taken named s1 (x.accepted m (max s.now t)) len seen room rfl)))

end Sys2Proof.Machine
end

section
/-!
SUPPORT. The requests that write and stage (R41, R42, R52).
-/
namespace Sys2Proof.Machine
open Sys2Proof

set_option Elab.async false

/-! WRITE -/

theorem State.writeObj_storesOnly (s : State) {idx sub : Nat} (h : StoresOnly idx sub) (n : Nat) :
    s.writeObj idx sub n = (0, if isStored idx sub then { s with dict := s.dict.setActive idx sub (.num n) }.dueSave else { s with dict := s.dict.setActive idx sub (.num n) }) := by
  obtain ⟨mask, admin, adminOf, replay, buffer, image⟩ := h
  have mask' : ¬(isCounterIndex idx && sub == 0xFE) = true := by simpa using mask
  have activate : ¬(idx == 0xA100 && sub == 5) = true := by simpa using fun a b => image ⟨a, .inl b⟩
  have confirm : ¬(idx == 0xA100 && sub == 6) = true := by simpa using fun a b => image ⟨a, .inr b⟩
  unfold State.writeObj
  dsimp only
  rw [if_neg mask', if_neg (by simpa using admin), if_neg (by simpa using adminOf), if_neg (by simpa using replay), if_neg buffer, if_neg activate, if_neg confirm]
  rfl

theorem State.writeObj_clearMask (s : State) {idx : Nat} (h : isCounterIndex idx = true) (n : Nat) : s.writeObj idx 0xFE n = (0, { s with dict := s.dict.clearCounters idx n }) :=
  if_pos (by simp [h])

section
variable {m : OdpMsg} {row : ObjRow} (named : Names m row) (s : State)
include named

theorem State.odpWrite_accepted {v : Value} (form : writeForm m.payload = true) (short : row.ty ≠ .dom) (writes : row.access = .rw ∨ row.access = .wo)
    (fits : valueIn row (refOf m.payload).sub (m.payload.drop 8) = .ok v) :
    s.odpWrite m.payload = (⟨2, 0, (s.writeObj (refOf m.payload).idx (refOf m.payload).sub v.toNum).1, []⟩, (s.writeObj (refOf m.payload).idx (refOf m.payload).sub v.toNum).2) := by
  have writes' : ¬(row.access != .rw && row.access != .wo) = true := by rcases writes with e | e <;> simp [e]
  unfold State.odpWrite
  rw [if_neg (by simp [form]), resolve_of_names named (.inr (by simpa using short))]
  dsimp only
  rw [if_neg writes', fits]
  rfl

end

/-! The staged set (R52) -/

theorem takenBy_eq (s : State) (x : Session) : takenBy s x = { s with ctl := { s.ctl with owner := if s.ctl.st ≠ .idle ∧ s.ctl.owner = 0 then x.id else s.ctl.owner } } := by
  by_cases h : s.ctl.st ≠ .idle ∧ s.ctl.owner = 0
  · rw [takenBy, if_pos h, if_pos h]
  · rw [takenBy, if_neg h, if_neg h]

theorem State.gate_of_mayStage {s : State} {x : Session} (h : MayStage s x) : s.gate x = .ok (takenBy s x) := by
  have free : ¬(s.ctl.st != .idle && s.ctl.owner != 0 && s.ctl.owner != x.id) = true := by rcases h with e | ⟨-, e | e⟩ <;> simp [e]
  have open' : ¬(s.ctl.st == .pending) = true := by rcases h with e | ⟨e, -⟩ <;> simp [e]
  rw [State.gate, if_neg free, if_neg open', takenBy]
  simp only [Bool.and_eq_true, bne_iff_ne, beq_iff_eq]

theorem State.stageValue_room (s : State) (x : Session) (idx sub : Nat) (v : Value) (room : s.dict.shadow.length < 4096) :
    s.stageValue x idx sub v = (0, { s with dict := { s.dict with shadow := alSet (objKey idx sub) v s.dict.shadow }
                                            ctl := { s.ctl with st := .staging, owner := x.id, stagedRev := if s.ctl.st = .idle then 1 else (s.ctl.stagedRev + 1) % 2 ^ 32 } }) := by
  have fits : ¬(decide (4096 ≤ s.dict.shadow.length) && (alGet (objKey idx sub) s.dict.shadow).isNone) = true := by
    rw [decide_eq_false (Nat.not_le.2 room), Bool.false_and]
    exact Bool.false_ne_true
  unfold State.stageValue
  dsimp only
  simp only [beq_iff_eq]
  exact if_neg (by simpa using fits)

/-- R42: verifying a value changes no more than the active values: the verdict is an object of its own. -/
theorem State.verifyDom_frame (s : State) (idx sub : Nat) (b : List Byte) : ∃ active, (s.verifyDom idx sub b).2 = { s with dict := { s.dict with active := active } } := by
  unfold State.verifyDom
  generalize verifyProgram _ _ _ b = verdict
  split
  · split
    · exact ⟨_, rfl⟩
    · exact ⟨_, rfl⟩
  · refine ⟨s.dict.active, ?_⟩
    dsimp only
    repeat' split
    all_goals rfl

/-- R42, R507: a whole value that verifies is staged; the log of the flash is of no matter here. -/
theorem State.stageDom_room {s : State} (x : Session) (r : ObjRef) {b : List Byte} (valid : (s.verifyDom r.idx r.sub b).1 = 0) (room : s.dict.shadow.length < 4096) :
    ∃ u, s.stageDom x r b = (0, u) ∧ u.dict.shadow = alSet (objKey r.idx r.sub) (.blob b) s.dict.shadow ∧ u.ctl.st = .staging ∧ u.ctl.owner = x.id ∧ u.ctl.transfers = s.ctl.transfers := by
  obtain ⟨active, frame⟩ := s.verifyDom_frame r.idx r.sub b
  unfold State.stageDom
  generalize s.verifyDom r.idx r.sub b = verdict at valid frame
  obtain ⟨code, v⟩ := verdict
  obtain rfl : code = 0 := valid
  have shadow : v.dict.shadow = s.dict.shadow := congrArg (·.dict.shadow) frame
  have transfers : v.ctl.transfers = s.ctl.transfers := congrArg (·.ctl.transfers) frame
  dsimp only
  rw [if_neg (by decide), State.stageValue_room v _ _ _ _ (shadow.symm ▸ room)]
  dsimp only
  rw [shadow, ← transfers]
  split
  · exact ⟨_, rfl, rfl, rfl, rfl, rfl⟩
  · exact ⟨_, rfl, rfl, rfl, rfl, rfl⟩

section
variable {s : State} {m : OdpMsg} {x : Session} {row : ObjRow} (named : Names m row) (may : MayStage s x)
include named may

theorem State.odpStage_accepted {v : Value} (form : writeForm m.payload = true) (short : row.ty ≠ .dom) (stages : row.access = .rws)
    (fits : valueIn row (refOf m.payload).sub (m.payload.drop 8) = .ok v) (room : s.dict.shadow.length < 4096) {rev : Nat}
    (hrev : (if s.ctl.st = .idle then 1 else (s.ctl.stagedRev + 1) % 2 ^ 32) = rev) :
    s.odpStage x m.payload = (⟨5, 0, 0, leBytes 4 rev⟩,
      { s with dict := { s.dict with shadow := alSet (objKey (refOf m.payload).idx (refOf m.payload).sub) v s.dict.shadow }
               ctl := { s.ctl with st := .staging, owner := x.id, stagedRev := rev } }) := by
  have room' : (takenBy s x).dict.shadow.length < 4096 := by rwa [takenBy_eq]
  unfold State.odpStage
  rw [if_neg (by simp [form]), resolve_of_names named (.inr (by simpa using short)), State.gate_of_mayStage may]
  dsimp only
  rw [if_neg (by simp [stages]), fits]
  dsimp only
  rw [State.stageValue_room (takenBy s x) _ _ _ _ room', ← hrev, takenBy_eq]
  rfl

theorem State.odpBlockWrite_taken {got : List Byte} (least : 12 ≤ m.payload.length) (most : m.payload.length ≤ 1036) (dom : row.ty = .dom) (stages : row.access = .rws)
    (plain : (refOf m.payload).idx ≠ 0xA100) (shadow : m.flags.testBit 0 = true) {key : Nat} (hkey : objKey (refOf m.payload).idx (refOf m.payload).sub = key)
    (taken : takeSegment row (s.xfer? x key) (fieldAt m.payload 4 4) (fieldAt m.payload 8 4) (m.payload.drop 12) = .ok got) :
    s.odpBlockWrite x m.flags m.payload =
      if !m.flags.testBit 2 then (⟨4, 0, 0, leBytes 4 got.length⟩, (takenBy s x).setXfer x key (some ⟨x.id, key, fieldAt m.payload 8 4, got⟩))
      else if got.length != fieldAt m.payload 8 4 then (respOf 4 0x010F (leBytes 4 0), (takenBy s x).setXfer x key none)
      else (⟨4, 0, (((takenBy s x).setXfer x key none).stageDom x (refOf m.payload) got).1, leBytes 4 got.length⟩, (((takenBy s x).setXfer x key none).stageDom x (refOf m.payload) got).2) := by
  have same : (takenBy s x).xfer? x key = s.xfer? x key := by rw [takenBy_eq]; rfl
  subst hkey
  unfold State.odpBlockWrite
  rw [shadow]
  dsimp only
  rw [if_neg (by simp; omega), resolve_of_names named (.inr (by simp [dom]))]
  dsimp only
  rw [if_neg (by simp [stages]), if_pos rfl, State.gate_of_mayStage may]
  dsimp only
  rw [same, taken]
  dsimp only
  rw [if_neg (by simpa using plain)]
  rfl

end

/-! What is answered -/

theorem answered_frame (s : State) (id : Nat) (m : OdpMsg) (r : OdpResp) : ∃ odp, State.HostWire { s with odp := odp } (answered s id m r) := by
  cases e : s.session? id with
  | none =>
    refine ⟨s.odp, ?_⟩
    rw [answered, e]
  | some y =>
    rw [answered, e]
    exact ⟨_, State.odpDeliver_hostWire ..⟩

theorem answered_dict (s : State) (id : Nat) (m : OdpMsg) (r : OdpResp) : (answered s id m r).dict = s.dict := by
  obtain ⟨odp, h⟩ := answered_frame s id m r
  rw [h]

theorem answered_ctl (s : State) (id : Nat) (m : OdpMsg) (r : OdpResp) : (answered s id m r).ctl = s.ctl := by
  obtain ⟨odp, h⟩ := answered_frame s id m r
  rw [h]

theorem State.mem_setXfer_none {s : State} {x : Session} {key : Nat} {y : BlockXfer} (h : y ∈ (s.setXfer x key none).ctl.transfers) : ¬(y.session = x.id ∧ y.key = key) := by
  have left : y ∈ s.ctl.transfers.filter (fun t => !(t.session == x.id && t.key == key)) := h
  have apart := (List.mem_filter.1 left).2
  simpa only [Bool.not_eq_true', Bool.and_eq_false_iff, beq_eq_false_iff_ne, not_and_or] using apart

/-- Settles O2: a request that passes its tests has the effect of its command on the state in which it runs. -/
theorem writesAndStagesTakeEffect : Obligations.WritesAndStagesTakeEffect := by
  unfold Obligations.WritesAndStagesTakeEffect
  intro s t m x row named r key s1
  refine ⟨fun v asked form short writes fits => ⟨?write, fun plain => State.writeObj_storesOnly s1 plain _, fun counter mask => ?clear⟩,
    fun v asked form short stages fits may room => ?stage, fun got asked least most dom stages plain shadow may taken => ?segment⟩
  case write => exact next_congr (State.odpMessage_ran asked ((if_neg (Session.mayRun_of_asked asked)).trans (State.odpWrite_accepted named s1 form short writes fits)))
  case clear => exact mask.symm ▸ State.writeObj_clearMask s1 counter _
  case stage => exact next_congr (State.odpMessage_ran asked ((if_neg (Session.mayRun_of_asked asked)).trans
      (State.odpStage_accepted (x := x.accepted m (max s.now t)) named may form short stages fits room rfl)))
  case segment =>
    have run : s1.odpRun (x.accepted m (max s.now t)) 4 m.flags m.payload = _ := (if_neg (Session.mayRun_of_asked asked)).trans
      (State.odpBlockWrite_taken (s := s1) (x := x.accepted m (max s.now t)) named may least most dom stages plain shadow rfl taken)
    refine ⟨fun more => ?_, fun last whole valid room => ?_⟩
    · exact next_congr (State.odpMessage_ran asked (run.trans (if_pos (by simp [more]))))
    · have roomLeft : ((takenBy s1 x).setXfer x key none).dict.shadow.length < 4096 := by rwa [takenBy_eq]
      obtain ⟨u, staged, value, st, owner, transfers⟩ := State.stageDom_room (x.accepted m (max s.now t)) r valid roomLeft
      have whole' : ¬(got.length != fieldAt m.payload 8 4) = true := by simpa using whole
      have stands := State.odpMessage_ran asked (run.trans ((if_neg (by simp [last])).trans (if_neg whole')))
      refine ⟨answered u x.id m _, next_congr (stands.trans (congrArg (fun a => answered a.2 x.id m ⟨4, 0, a.1, leBytes 4 got.length⟩) staged)), ?_, ?_, ?_, ?_⟩
      · rw [answered_dict, value, takenBy_eq]
        rfl
      · rw [answered_ctl, st]
      · exact (congrArg CommitCtl.owner (answered_ctl ..)).trans owner
      · rw [answered_ctl, transfers]
        exact fun y hy => State.mem_setXfer_none hy

end Sys2Proof.Machine
end

section
/-!
SUPPORT. CHECK, COMMIT and ABORT (R52 to R59).
-/
namespace Sys2Proof.Machine
open Sys2Proof

set_option Elab.async false

/-- R53: what a CHECK that has found `f` leaves of the commit controller. -/
def CommitCtl.checkedWith (c : CommitCtl) (x : Session) (f : CheckFound) (margin : Option Int) (frame : Nat) : CommitCtl :=
  let rec' : CommitCtl := { c with checkResult := f.result, checkedRev := c.stagedRev, failObject := f.object, failStage := f.stage, failRule := f.rule
                                   margin := margin.getD c.margin, checkFrame := frame }
  if f.result = 0 then { rec' with st := .checked, owner := x.id } else if c.st = .checked then { rec' with st := .staging } else rec'

section
variable {s : State} {x : Session}

/-- The check itself is of no matter here: whatever it finds is recorded. -/
theorem State.odpCheck_found (may : MayStage s x) {f : CheckFound} {margin : Option Int} {v : State} (h : (takenBy s x).checkView = (f, margin, v)) :
    s.odpCheck x [] = (⟨6, 0, if f.result = 0 then 0 else 0x0106, leBytes 2 f.result ++ leBytes 4 v.ctl.stagedRev⟩,
      { v with ctl := v.ctl.checkedWith x f margin v.tb.curFrame }) := by
  unfold State.odpCheck
  rw [if_neg (by decide), State.gate_of_mayStage may]
  dsimp only
  rw [h]
  dsimp only [State.recordCheck, CommitCtl.checkedWith]
  simp only [beq_iff_eq]
  by_cases found : f.result = 0
  · simp only [if_pos found]
    rfl
  · by_cases checked : v.ctl.st = .checked
    · simp only [if_neg found, if_pos checked]
      rfl
    · simp only [if_neg found, if_neg checked]
      rfl

/-- R56: for the checked revision, only the frame and the cut-off are left to ask. -/
theorem State.commitStatus_checked {k rev : Nat} (st : s.ctl.st = .checked) (own : s.ctl.owner = x.id ∨ s.ctl.owner = 0) (locked : s.tb.st ≠ .freeRun) (checked : rev = s.ctl.checkedRev)
    (near : k ≤ s.tb.curFrame + 65536) (ticked : s.tb.ticked = true) (live : s.det.replay = .live) (ever : s.tb.everLocked = true) :
    s.commitStatus x k rev = if k ≤ s.tb.curFrame ∨ s.pastCutOff k = true then 0x0107 else 0 := by
  have own' : ¬(s.ctl.st != .idle && s.ctl.owner != 0 && s.ctl.owner != x.id) = true := by rcases own with e | e <;> simp [e]
  unfold State.commitStatus
  dsimp only
  rw [if_neg (by simpa using locked), if_neg own', if_neg (by simp [st]), if_neg (by simp [st]), if_neg (by simp [checked]), if_neg (Nat.not_lt.2 near)]
  by_cases begun : k ≤ s.tb.curFrame
  · rw [if_pos (by simp [ticked, begun]), if_pos (.inl begun)]
  · rw [if_neg (by simpa [ticked] using begun)]
    by_cases past : s.pastCutOff k = true
    · rw [if_pos (by simp [live, ever, past]), if_pos (.inr past)]
    · rw [if_neg (by simp [live, ever, past]), if_neg (not_or.2 ⟨begun, past⟩)]

theorem State.commit_owner {e : Nat} (other : e ≠ 0x0105) (st : s.ctl.st = .checked) (own : s.ctl.owner = x.id ∨ s.ctl.owner = 0) :
    (if e != 0x0105 && (s.ctl.st == .checked || s.ctl.st == .staging) && s.ctl.owner == 0 then x.id else s.ctl.owner) = x.id := by
  rcases own with h | h <;> simp [other, st, h]

theorem State.odpCommit_pending {p : List Byte} (len : p.length = 12) (st : s.ctl.st = .checked) (own : s.ctl.owner = x.id ∨ s.ctl.owner = 0)
    (granted : s.commitStatus x (fieldAt p 0 8) (fieldAt p 8 4) = 0) :
    s.odpCommit x p = (⟨7, 0, 0, leBytes 8 (fieldAt p 0 8) ++ leBytes 4 ((s.ctl.activeSetId + 1) % 2 ^ 32)⟩,
      { s with ctl := { s.ctl with lastStatus := 0, owner := x.id, st := .pending, target := fieldAt p 0 8 } }) := by
  unfold State.odpCommit
  rw [if_neg (by simp [len])]
  dsimp only
  rw [granted, State.commit_owner (by decide) st own]
  rfl

theorem State.odpCommit_late {p : List Byte} (len : p.length = 12) (st : s.ctl.st = .checked) (own : s.ctl.owner = x.id ∨ s.ctl.owner = 0)
    (late : s.commitStatus x (fieldAt p 0 8) (fieldAt p 8 4) = 0x0107) :
    s.odpCommit x p = (⟨7, 0, 0x0107, []⟩, ({ s with ctl := { s.ctl with lastStatus := 0x0107, owner := x.id } } : State).count 0x1020 6 1) := by
  unfold State.odpCommit
  rw [if_neg (by simp [len])]
  dsimp only
  rw [late, State.commit_owner (by decide) st own]
  rfl

/-! ABORT -/

theorem State.odpAbort_idle (st : s.ctl.st = .idle) : s.odpAbort x [] = (⟨8, 0, 0, []⟩, s) := by
  rw [State.odpAbort, if_neg (by decide), if_pos (by simp [st])]
  rfl

theorem State.odpAbort_refused (st : s.ctl.st ≠ .idle) (owned : s.ctl.owner ≠ 0) (other : s.ctl.owner ≠ x.id) : s.odpAbort x [] = (⟨8, 0, 0x0105, []⟩, s) := by
  rw [State.odpAbort, if_neg (by decide), if_neg (by simpa using st), if_pos (by simp [owned, other])]
  rfl

section
variable (st : s.ctl.st ≠ .idle) (own : s.ctl.owner = x.id ∨ s.ctl.owner = 0)
include st own

theorem State.odpAbort_own : s.odpAbort x [] =
    if s.ctl.st = .pending ∧ s.pastCutOff s.ctl.target = true ∧ (s.det.replay = .live ∨ s.det.replay = .entering) then (⟨8, 0, 0x0110, []⟩, s)
    else (⟨8, 0, 0, []⟩, { s with dict := { s.dict with shadow := [] }, ctl := { s.ctl with st := .idle, target := 0, owner := 0, stagedRev := 0 }, mem := { s.mem with waking := [] } }) := by
  have own' : ¬(s.ctl.owner != 0 && s.ctl.owner != x.id) = true := by rcases own with e | e <;> simp [e]
  rw [State.odpAbort, if_neg (by decide), if_neg (by simpa using st), if_neg own']
  simp only [Bool.and_eq_true, Bool.or_eq_true, beq_iff_eq]
  rfl

end

end

/-- Settles O3: CHECK and COMMIT are gated by the same staged set, and ABORT by its owner. -/
theorem theCommitMachineMoves : Obligations.TheCommitMachineMoves := by
  unfold Obligations.TheCommitMachineMoves
  intro s t m x s1
  refine ⟨fun asked empty may => ?check, fun k rev asked len frame revision st own locked checked near ticked live ever => ?commit, fun asked empty => ?abort⟩
  case check =>
    generalize hf : (takenBy s1 x).checkView = f
    obtain ⟨found, margin, v⟩ := f
    have run : s1.odpRun (x.accepted m (max s.now t)) 6 m.flags m.payload = _ :=
      (if_neg (Session.mayRun_of_asked asked)).trans ((congrArg (s1.odpCheck _) empty).trans (State.odpCheck_found (x := x.accepted m (max s.now t)) may hf))
    exact next_congr (State.odpMessage_ran asked run)
  case commit =>
    subst frame revision
    have status := State.commitStatus_checked (s := s1) (x := x.accepted m (max s.now t)) st own locked checked near ticked live ever
    refine ⟨fun ahead before => ?_, fun late => ?_⟩
    · rw [if_neg (not_or.2 ⟨Nat.not_le.2 ahead, by simp [before]⟩)] at status
      exact next_congr (State.odpMessage_ran asked ((if_neg (Session.mayRun_of_asked asked)).trans (State.odpCommit_pending len st own status)))
    · rw [if_pos late] at status
      exact next_congr (State.odpMessage_ran asked ((if_neg (Session.mayRun_of_asked asked)).trans (State.odpCommit_late len st own status)))
  case abort =>
    have runs {r : OdpResp} {u : State} (h : s1.odpAbort (x.accepted m (max s.now t)) [] = (r, u)) : exec (.abort t m) s = .next (answered u x.id m r) :=
      next_congr (State.odpMessage_ran asked ((if_neg (Session.mayRun_of_asked asked)).trans ((congrArg (s1.odpAbort _) empty).trans h)))
    refine ⟨fun st => runs (State.odpAbort_idle st), fun st own open' => runs ((State.odpAbort_own st own).trans (if_neg ?_)),
      fun st owned other => runs (State.odpAbort_refused st owned other),
      fun st own past live => runs ((State.odpAbort_own (by simp [st]) own).trans (if_pos ⟨st, past, .inl live⟩))⟩
    rintro ⟨pending, past, -⟩
    rcases open' with h | h
    · exact h pending
    · exact Bool.false_ne_true (h.symm.trans past)

end Sys2Proof.Machine
end

section
/-!
SUPPORT. The life of a session (R43, R46 to R51).
-/
namespace Sys2Proof.Machine
open Sys2Proof

set_option Elab.async false

/-! Setup -/

section
variable {s : State} {m : OdpMsg} (formed : m.malformed 3 0 = false) (anew : m.session = 0) (len : m.payload.length = 148)
  (roles : (keyRoles (s.cfgBytes 0xA000 1) (fieldAt m.payload 0 4)).testBit 0 ∨ (keyRoles (s.cfgBytes 0xA000 1) (fieldAt m.payload 0 4)).testBit 1)
  (room : s.odp.sessions.length < s.cfg 0x1010 2)
  (signed : sm2Verify (keyPublic (s.cfgBytes 0xA000 1) (fieldAt m.payload 0 4)) (sm3 ((m.signed 3 0).take 116)) (slice m.payload 84 64) = true)
include formed anew len roles room signed

/-- R46: the bytes of the answer and the session's key are of no matter here. -/
theorem State.odpSetup_opened (tr : Transport) : ∃ b u key, s.odpSetup tr 0 m = (b, u) ∧ u = { s with draws := s.draws + 1, odp := u.odp } ∧ u.odp.sessions = s.odp.sessions ++
    [{ id := s.odp.nextId, keyId := fieldAt m.payload 0 4, roles := keyRoles (s.cfgBytes 0xA000 1) (fieldAt m.payload 0 4), key := key, transport := tr,
       rxCounter := 0, txCounter := 1, failedTags := 0, heard := s.now, sent := s.now, subs := [], noticeNo := 0, kept := [] }] := by
  have may : ¬(!(keyRoles (s.cfgBytes 0xA000 1) (fieldAt m.payload 0 4)).testBit 0 && !(keyRoles (s.cfgBytes 0xA000 1) (fieldAt m.payload 0 4)).testBit 1
      || decide (s.cfg 0x1010 2 ≤ s.odp.sessions.length)) = true := by
    rw [decide_eq_false (Nat.not_le.2 room)]
    rcases roles with e | e <;> simp [e]
  unfold State.odpSetup
  dsimp only
  rw [if_neg (by simp [formed, anew, len]), if_neg may, if_neg (by simp [signed])]
  exact ⟨_, _, _, rfl, rfl, rfl⟩

end

theorem State.odpMessage_setup {s : State} {m : OdpMsg} (t opcode : Nat) (ready : s.boot.ready = true) (enabled : s.odpEnabled m.transport = true) {b : List Byte} {u : State}
    (h : (s.at t).odpSetup m.transport opcode m = (b, u)) : s.odpMessage t 3 opcode m = u.odpDeliver m.transport b := by
  have open' : (s.at t).odpEnabled m.transport = true := enabled
  unfold State.odpMessage State.odpProcess
  rw [if_neg (by simp [ready, open']), if_pos (by decide), h]

/-! The end of a session -/

/-- R50: a session that ends leaves the sessions, with its transfers. -/
def State.withoutSession (s : State) (id : Nat) : State :=
  { s with odp := { s.odp with sessions := s.odp.sessions.filter (fun x => x.id != id) }, ctl := { s.ctl with transfers := s.ctl.transfers.filter (fun x => x.session != id) } }

theorem State.endSession_open {s : State} {id : Nat} {x : Session} (h : s.session? id = some x) :
    s.endSession id = if s.ctl.owner != id then s.withoutSession id
      else if s.ctl.st == .pending then { s.withoutSession id with ctl := { (s.withoutSession id).ctl with owner := 0 } } else (s.withoutSession id).dropStaged := by
  have known : s.odp.sessions.any (fun x => x.id == id) = true := List.any_eq_true.2 ⟨x, List.mem_of_find?_eq_some h, by simp [State.session?_id h]⟩
  rw [State.endSession, if_neg (by simp [known])]
  rfl

theorem State.endSession_ends {s : State} {id : Nat} {x : Session} (h : s.session? id = some x) :
    (s.endSession id).odp.sessions = s.odp.sessions.filter (fun y => y.id != id)
      ∧ (s.ctl.owner = id → s.ctl.st = .pending → (s.endSession id).ctl.st = .pending ∧ (s.endSession id).ctl.owner = 0 ∧ (s.endSession id).dict = s.dict)
      ∧ (s.ctl.owner = id → s.ctl.st ≠ .pending → (s.endSession id).ctl.st = .idle ∧ (s.endSession id).dict.shadow = [])
      ∧ s.endSession id = { s with odp := (s.endSession id).odp, ctl := (s.endSession id).ctl, dict := (s.endSession id).dict } := by
  rw [State.endSession_open h]
  by_cases owner : s.ctl.owner = id
  · rw [if_neg (by simp [owner])]
    by_cases pending : s.ctl.st = .pending
    · rw [if_pos (by simp [pending])]
      exact ⟨rfl, fun _ _ => ⟨pending, rfl, rfl⟩, fun _ n => absurd pending n, rfl⟩
    · rw [if_neg (by simpa using pending)]
      exact ⟨rfl, fun _ p => absurd p pending, fun _ _ => ⟨rfl, rfl⟩, rfl⟩
  · rw [if_pos (by simpa using owner)]
    exact ⟨rfl, fun o => absurd o owner, fun o => absurd o owner, rfl⟩

/-! What the device sends of itself -/

theorem State.keepAliveTimer_sends {s : State} {id : Nat} {x : Session} (h : s.session? id = some x) :
    exec (.keepAliveTimer id) s = .next ((({ s with now := max s.now (max x.heard x.sent + s.cfg 0x1010 4) } : State).modSession x.id
        (fun y => { y with txCounter := y.txCounter + 1, sent := max s.now (max x.heard x.sent + s.cfg 0x1010 4) })).odpDeliver x.transport
      (odpHeader 1 6 0 0 x.id 0 x.txCounter 0 0 0 ++ hmacSm3 x.key (odpHeader 1 6 0 0 x.id 0 x.txCounter 0 0 0))) := by
  refine next_congr ?_
  rw [h]
  dsimp only [State.odpSend]
  rw [List.append_nil]
  rfl

/-- R43: the notice of a subscription. -/
def State.noticePayload (s : State) (x : Session) (idx sub : Nat) (row : ObjRow) : List Byte :=
  refBytes idx sub row ++ leBytes 4 x.noticeNo ++ leBytes 8 s.tb.curFrame ++ (if row.ty = .dom then [] else valueBytes row.ty (s.live idx sub))

/-- R43: the subscriptions of a session once the notice is sent. -/
def State.noticed (s : State) (x : Session) (idx sub : Nat) : List Subscription :=
  modFirst (fun (z : Subscription) => z.idx == idx && z.sub == sub) (fun z => { z with last := some (s.live idx sub), lastFrame := some s.tb.curFrame }) x.subs

/-- R43: a session to which the notice has been prepared. -/
def State.sawNotice (s : State) (idx sub : Nat) (x : Session) : Session := { x with noticeNo := (x.noticeNo + 1) % 2 ^ 32, subs := s.noticed x idx sub }

theorem State.subscriptionNotice_sends {s : State} {id idx sub : Nat} {x : Session} {row : ObjRow} {y : Subscription} (h : s.session? id = some x) (known : objFind idx sub = some row)
    (subscribed : x.subs.find? (fun y => y.idx == idx && y.sub == sub) = some y) (changed : y.last ≠ some (s.live idx sub)) (due : ∀ f, y.lastFrame = some f → f + y.interval ≤ s.tb.curFrame)
    {payload : List Byte} (hp : s.noticePayload x idx sub row = payload) :
    exec (.subscriptionNotice id idx sub) s
      = .next ((s.modSession x.id (fun z => { z with noticeNo := (z.noticeNo + 1) % 2 ^ 32, subs := s.noticed x idx sub, txCounter := z.txCounter + 1, sent := s.now })).odpDeliver x.transport
          ((odpHeader 1 2 0 0 x.id 0 x.txCounter 0 payload.length 0 ++ payload) ++ hmacSm3 x.key (odpHeader 1 2 0 0 x.id 0 x.txCounter 0 payload.length 0 ++ payload))) := by
  have own := State.session?_id h
  have stands : ¬(y.last == some (s.live idx sub)) = true := by simpa using changed
  refine next_congr ?_
  rw [h, known]
  dsimp only
  rw [subscribed]
  dsimp only
  rw [if_neg ?due]
  case due =>
    rw [Bool.or_eq_true, not_or]
    refine ⟨stands, ?_⟩
    cases e : y.lastFrame with
    | none => exact Bool.false_ne_true
    | some f => simpa using due f e
  have heard : (s.modSession id (s.sawNotice idx sub)).session? id = some (s.sawNotice idx sub x) := State.session?_modSession h fun _ => rfl
  have twice : (s.modSession id (s.sawNotice idx sub)).modSession id (fun z => { z with txCounter := z.txCounter + 1, sent := s.now })
      = s.modSession id (fun z => { z with noticeNo := (z.noticeNo + 1) % 2 ^ 32, subs := s.noticed x idx sub, txCounter := z.txCounter + 1, sent := s.now }) :=
    (State.modSession_modSession s id (f := s.sawNotice idx sub) (fun _ => rfl) _).trans (State.modSession_congr h rfl)
  subst own
  unfold State.noticePayload at hp
  simp only [beq_iff_eq]
  rw [← twice, hp]
  have deliver : ∀ z : Option Session, z = some (s.sawNotice idx sub x) → ((s.modSession x.id (s.sawNotice idx sub)).odpSend (z.getD x) 2 0 0 0 0 payload).2.odpDeliver x.transport
    ((s.modSession x.id (s.sawNotice idx sub)).odpSend (z.getD x) 2 0 0 0 0 payload).1 = ((s.modSession x.id (s.sawNotice idx sub)).modSession x.id
      (fun z => { z with txCounter := z.txCounter + 1, sent := s.now })).odpDeliver x.transport
      ((odpHeader 1 2 0 0 x.id 0 x.txCounter 0 payload.length 0 ++ payload) ++ hmacSm3 x.key (odpHeader 1 2 0 0 x.id 0 x.txCounter 0 payload.length 0 ++ payload)) := by
    rintro z rfl
    rfl
  exact deliver _ heard

/-- Settles O6: each command does what R43 to R51 say of it, in the state it finds. -/
theorem sessionsOpenAndEnd : Obligations.SessionsOpenAndEnd := by
  unfold Obligations.SessionsOpenAndEnd
  intro s t m x
  refine ⟨fun key ready enabled formed anew len hkey roles room signed => ?setup, fun h => next_congr (State.odpMessage_close h), fun h => next_congr (State.odpMessage_keepAlive h),
    fun id h => ⟨?timeout, State.keepAliveTimer_sends h, fun idx sub row y known subscribed changed due => State.subscriptionNotice_sends h known subscribed changed due rfl⟩⟩
  case setup =>
    subst hkey
    obtain ⟨b, u, k, opened, frame, sessions⟩ := State.odpSetup_opened (s := s.at t) formed anew len roles room signed m.transport
    have runs := State.odpMessage_setup t 0 ready enabled opened
    have sent := State.odpDeliver_hostWire u m.transport b
    generalize u.odpDeliver m.transport b = t' at runs sent
    refine ⟨t', _, next_congr runs, (congrArg (·.odp.sessions) sent).trans sessions, rfl, rfl, rfl, rfl, rfl, rfl, rfl, rfl, Eq.trans sent ?_⟩
    have odp : t'.odp = u.odp := Eq.trans (congrArg State.odp (show t' = _ from sent)) rfl
    rw [odp, frame]
    rfl
  case timeout =>
    obtain ⟨sessions, pending, dropped, rest⟩ := State.endSession_ends (s := { s with now := max s.now (x.heard + s.cfg 0x1010 3) }) (id := id) (x := x) h
    refine ⟨_, next_congr (by rw [h]), ?_, sessions, pending, dropped, rest.trans ?_⟩
    · rw [rest]
    · rw [rest]

end Sys2Proof.Machine
end

section
/-!
SUPPORT. The timebase outside the Sync messages (R58, R65 to R67).
-/
namespace Sys2Proof.Machine
open Sys2Proof

set_option Elab.async false

section
variable {s t u : State}

theorem timeOnly_at (s : State) (t : Nat) : TimeOnly s (s.at t) := rfl
theorem timeOnly_modTb (s : State) (f : Timebase → Timebase) : TimeOnly s (s.modTb f) := rfl

theorem timeOnly_trans (a : TimeOnly s t) (b : TimeOnly t u) : TimeOnly s u := by
  unfold TimeOnly at *
  rw [a] at b
  exact b

theorem State.SafetyNotes.timeOnly (h : State.SafetyNotes s t) : TimeOnly s t := by
  unfold State.SafetyNotes TimeOnly at *
  rw [h]

end

theorem State.setCause_degraded (s : State) (cause : Nat) : (s.setCause cause).newel.degraded = s.newel.degraded ||| 2 ^ cause := by
  unfold State.setCause
  extract_lets n rising u
  split
  · rw [State.signalStatus_frame, State.raise_frame, State.count_frame]
  · rfl

theorem State.setCause_degradedBit (s : State) (cause : Nat) : (s.setCause cause).newel.degraded.testBit cause = true := by
  rw [State.setCause_degraded, Nat.testBit_or, Nat.testBit_two_pow_self, Bool.or_true]

/-! Holdover (R66) -/

/-- R66: what the timebase holds in HOLDOVER, entered at a time. -/
def Timebase.heldOver (b : Timebase) (now : Nat) : Timebase := { b with st := .holdover, holdoverSince := now, goodSyncs := 0 }

theorem State.enterHoldover_notLocked {s : State} (h : s.tb.st ≠ .locked) : s.enterHoldover = s := if_neg (by simpa using h)

section
variable {s : State} (h : s.tb.st = .locked)
include h

theorem State.enterHoldover_locked : s.enterHoldover = ((s.modTb (·.heldOver s.now)).raiseOpen s.tb.curFrame 0x0381).setCause 2 := if_pos (by simp [h])

theorem State.enterHoldover_safety : State.SafetyNotes (s.modTb (·.heldOver s.now)) s.enterHoldover := by
  rw [State.enterHoldover_locked h]
  exact (State.raiseOpen_frame ..).safety.trans (State.setCause_frame ..)

theorem State.enterHoldover_tb : s.enterHoldover.tb = s.tb.heldOver s.now := congrArg State.tb (State.enterHoldover_safety h)

theorem State.raised_enterHoldover : Raised s s.enterHoldover 0x0381 := by
  rw [State.enterHoldover_locked h]
  exact State.raised_of_prefix ((s.modTb (·.heldOver s.now)).raised_raiseOpen s.tb.curFrame 0x0381) List.prefix_rfl (State.setCause_works _ 2).events

theorem State.enterHoldover_degraded : s.enterHoldover.newel.degraded.testBit 2 = true := by
  rw [State.enterHoldover_locked h]
  exact State.setCause_degradedBit ..

end

theorem State.enterHoldover_timeOnly (s : State) : TimeOnly s s.enterHoldover := by
  by_cases h : s.tb.st = .locked
  · exact timeOnly_trans (timeOnly_modTb s _) (State.enterHoldover_safety h).timeOnly
  · rw [State.enterHoldover_notLocked h]

/-! Free run (R66) -/

/-- R58: a pending commit cancelled, before its event. -/
def State.withCommitCancelled (s : State) : State := { s with ctl := { s.ctl with st := .checked, target := 0 }, mem := { s.mem with waking := [] } }

theorem State.cancelCommit_pending {s : State} (h : s.ctl.st = .pending) : s.cancelCommit = s.withCommitCancelled.raiseOpen s.tb.curFrame 0x0111 := if_pos (by simp [h])

theorem State.cancelCommit_none {s : State} (h : s.ctl.st ≠ .pending) : s.cancelCommit = s := if_neg (by simpa using h)

section
variable {s : State} (h : s.ctl.st = .pending)
include h

theorem State.cancelCommit_ctl : s.cancelCommit.ctl = { s.ctl with st := .checked, target := 0 } := by
  rw [State.cancelCommit_pending h, State.raiseOpen_frame]
  rfl

theorem State.cancelCommit_mem : s.cancelCommit.mem = { s.mem with waking := [] } := by
  rw [State.cancelCommit_pending h, State.raiseOpen_frame]
  rfl

theorem State.raised_cancelCommit : Raised s s.cancelCommit 0x0111 := by
  rw [State.cancelCommit_pending h]
  exact State.raised_of_prefix (s.withCommitCancelled.raised_raiseOpen s.tb.curFrame 0x0111) List.prefix_rfl List.prefix_rfl

end

theorem State.cancelCommit_notes (s : State) : State.Notes { s with ctl := s.cancelCommit.ctl, mem := s.cancelCommit.mem } s.cancelCommit := by
  by_cases h : s.ctl.st = .pending
  · rw [State.cancelCommit_ctl h, State.cancelCommit_mem h, State.cancelCommit_pending h]
    exact State.raiseOpen_frame ..
  · rw [State.cancelCommit_none h]

theorem State.cancelCommit_prefix (s : State) : s.events <+: s.cancelCommit.events := by
  by_cases h : s.ctl.st = .pending
  · rw [State.cancelCommit_pending h]
    exact (s.withCommitCancelled.raiseOpen_works s.tb.curFrame 0x0111).events
  · rw [State.cancelCommit_none h]

/-- R66: FREE_RUN entered, reported and flagged; what it does to a pending commit comes after. -/
def State.enterFreeRun (s : State) : State := ((s.modTb (fun b => { b with st := .freeRun })).raiseOpen s.tb.curFrame 0x0382).setCause 2

theorem State.enterFreeRun_safety (s : State) : State.SafetyNotes (s.modTb (fun b => { b with st := .freeRun })) s.enterFreeRun :=
  (State.raiseOpen_frame ..).safety.trans (State.setCause_frame ..)

theorem State.raised_enterFreeRun (s : State) : Raised s s.enterFreeRun 0x0382 :=
  State.raised_of_prefix ((s.modTb (fun b => { b with st := .freeRun })).raised_raiseOpen s.tb.curFrame 0x0382) List.prefix_rfl (State.setCause_works _ 2).events

theorem State.enterFreeRun_prefix (s : State) : s.events <+: s.enterFreeRun.events :=
  (((s.modTb (fun b => { b with st := .freeRun })).raiseOpen_works s.tb.curFrame 0x0382).trans (State.setCause_works _ 2)).events

theorem State.frameLock_of_freeRun {s : State} (h : s.tb.st = .freeRun) : s.frameLock = false := by
  rw [State.frameLock, h]
  rfl

/-- What the commit controller and the memory hold is told apart from the rest. -/
theorem timeOnly_of_notes {s f t : State} {c : CommitCtl} {m : Memory} (a : TimeOnly s f) (b : State.Notes { f with ctl := c, mem := m } t) : TimeOnly { s with ctl := t.ctl, mem := t.mem } t := by
  unfold State.Notes TimeOnly at *
  rw [a] at b
  rw [b]

theorem exec_holdoverLimit {s : State} (h : s.tb.st = .holdover) : exec .holdoverLimit s = .next (s.at (s.tb.holdoverSince + s.cfg 0x2002 5)).enterFreeRun.cancelCommit.signalStatus :=
  next_congr (if_pos (by simp [h]))

theorem exec_holdoverLimit_effect {s : State} (h : s.tb.st = .holdover) :
    ∃ t', exec .holdoverLimit s = .next t' ∧ t'.now = max s.now (s.tb.holdoverSince + s.cfg 0x2002 5) ∧ t'.tb = { s.tb with st := .freeRun } ∧ Raised s t' 0x0382 ∧ t'.frameLock = false ∧
      (s.ctl.st = .pending → t'.ctl = { s.ctl with st := .checked, target := 0 } ∧ t'.mem = { s.mem with waking := [] } ∧ Raised s t' 0x0111) ∧
      (s.ctl.st ≠ .pending → t'.ctl = s.ctl ∧ t'.mem = s.mem) ∧ TimeOnly { s with ctl := t'.ctl, mem := t'.mem } t' := by
  refine ⟨_, exec_holdoverLimit h, ?_⟩
  have free := (s.at (s.tb.holdoverSince + s.cfg 0x2002 5)).enterFreeRun_safety
  have told := (s.at (s.tb.holdoverSince + s.cfg 0x2002 5)).raised_enterFreeRun
  have before := (s.at (s.tb.holdoverSince + s.cfg 0x2002 5)).enterFreeRun_prefix
  generalize (s.at (s.tb.holdoverSince + s.cfg 0x2002 5)).enterFreeRun = f at free told before ⊢
  have only : TimeOnly s f := timeOnly_trans (timeOnly_at s _) (timeOnly_trans (timeOnly_modTb ..) free.timeOnly)
  have ctl : f.ctl = s.ctl := (congrArg State.ctl free).trans rfl
  have mem : f.mem = s.mem := (congrArg State.mem free).trans rfl
  have shown := State.signalStatus_frame f.cancelCommit
  have rest : State.Notes { f with ctl := f.cancelCommit.ctl, mem := f.cancelCommit.mem } f.cancelCommit.signalStatus := f.cancelCommit_notes.trans shown.notes
  have after : f.cancelCommit.events = f.cancelCommit.signalStatus.events := (congrArg State.events shown).symm
  have tb : f.cancelCommit.signalStatus.tb = { s.tb with st := .freeRun } := (congrArg State.tb rest).trans (congrArg State.tb free)
  have ctl' : f.cancelCommit.signalStatus.ctl = f.cancelCommit.ctl := (congrArg State.ctl rest).trans rfl
  have mem' : f.cancelCommit.signalStatus.mem = f.cancelCommit.mem := (congrArg State.mem rest).trans rfl
  refine ⟨(congrArg State.now rest).trans (congrArg State.now free), tb, State.raised_of_prefix told List.prefix_rfl (after ▸ f.cancelCommit_prefix), State.frameLock_of_freeRun (by rw [tb]),
    fun pending => ?_, fun none => ?_, timeOnly_of_notes only rest⟩
  · have pending' : f.ctl.st = .pending := by rw [ctl, pending]
    exact ⟨by rw [ctl', State.cancelCommit_ctl pending', ctl], by rw [mem', State.cancelCommit_mem pending', mem],
      State.raised_of_prefix (State.raised_cancelCommit pending') before (after ▸ List.prefix_rfl)⟩
  · have none' : f.ctl.st ≠ .pending := by rwa [ctl]
    exact ⟨by rw [ctl', State.cancelCommit_none none', ctl], by rw [mem', State.cancelCommit_none none', mem]⟩

/-! Messages and pulses (R65, R67) -/

/-- R66: an Announce of the followed port. -/
theorem exec_announce_effect {s : State} {t : Nat} {m : GptpMsg} (follows : s.followsGptp m.source m.domain = true) :
    ∃ t', exec (.announce t m) s = .next t' ∧ TimeOnly s t' ∧ t'.tb.gmId = some m.value ∧
      (s.tb.st = .locked → (∃ g, s.tb.gmId = some g ∧ g ≠ m.value) → t'.tb.st = .holdover ∧ Raised s t' 0x0381) ∧
      ((s.tb.gmId = none ∨ s.tb.gmId = some m.value) → t' = { s.at t with tb := { s.tb with gmId := some m.value } }) := by
  have on : (s.at t).followsGptp m.source m.domain = true := follows
  have follows' : ¬(!(s.at t).followsGptp m.source m.domain) = true := by simp [on]
  by_cases other : ∃ g, s.tb.gmId = some g ∧ g ≠ m.value
  · obtain ⟨g, known, differs⟩ := other
    refine ⟨((s.at t).enterHoldover.modTb (fun b => { b with goodSyncs := 0 })).modTb (fun b => { b with gmId := some m.value }), next_congr ((if_neg follows').trans ?_),
      timeOnly_trans (timeOnly_at s t) (timeOnly_trans (State.enterHoldover_timeOnly _) rfl), rfl, fun locked _ => ⟨?_, ?_⟩, fun same => ?_⟩
    · simp [known, differs]
    · have entered := State.enterHoldover_tb (s := s.at t) locked
      exact congrArg Timebase.st entered
    · exact State.raised_of_prefix (State.raised_enterHoldover (s := s.at t) locked) List.prefix_rfl List.prefix_rfl
    · rcases same with e | e
      · exact absurd (known.symm.trans e) nofun
      · exact absurd (Option.some.inj (known.symm.trans e)) differs
  · refine ⟨_, next_congr (Eq.trans (if_neg follows') (c := (s.at t).modTb (fun b => { b with gmId := some m.value })) ?_), rfl, rfl, fun _ known => absurd known other, fun _ => rfl⟩
    cases known : s.tb.gmId with
    | none => simp [known]
    | some g =>
      obtain rfl : g = m.value := Classical.not_not.1 fun n => other ⟨g, known, n⟩
      simp [known]

theorem exec_syncTimeout_effect {s : State} (t : Nat) (takes : s.source ≠ 3) : ∃ t', exec (.syncTimeout t) s = .next t' ∧ TimeOnly s t' ∧ t'.tb.goodSyncs = 0 ∧
    (s.tb.st = .locked → t'.tb.st = .holdover ∧ t'.tb.holdoverSince = max s.now t ∧ Raised s t' 0x0381 ∧ t'.newel.degraded.testBit 2 = true) ∧
    (s.tb.st ≠ .locked → t' = { s.at t with tb := { s.tb with goodSyncs := 0 } }) := by
  have on : (s.at t).source ≠ 3 := takes
  have takes' : ¬((s.at t).source == 3) = true := by simpa using on
  refine ⟨(s.at t).enterHoldover.modTb (fun b => { b with goodSyncs := 0 }), next_congr (if_neg takes'), timeOnly_trans (timeOnly_at s t) (timeOnly_trans (State.enterHoldover_timeOnly _) rfl), rfl,
    fun locked => ?_, fun open' => ?_⟩
  · have entered := State.enterHoldover_tb (s := s.at t) locked
    exact ⟨congrArg Timebase.st entered, congrArg Timebase.holdoverSince entered, State.raised_of_prefix (State.raised_enterHoldover (s := s.at t) locked) List.prefix_rfl List.prefix_rfl,
      State.enterHoldover_degraded (s := s.at t) locked⟩
  · rw [State.enterHoldover_notLocked (s := s.at t) open']
    rfl

/-- R65: the difference of a time from the nearest whole second. -/
def fromSecond (time : Nat) : Int := if time % 1000000000 ≤ 500000000 then ((time % 1000000000 : Nat) : Int) else ((time % 1000000000 : Nat) : Int) - 1000000000

theorem fromSecond_spec (time : Nat) : -500000000 < fromSecond time ∧ fromSecond time ≤ 500000000 ∧ (time : Int) % 1000000000 = fromSecond time % 1000000000 := by
  unfold fromSecond
  split <;> omega

/-- Settles O12, command by command. -/
theorem holdoverPeerDelayAndPulses : Obligations.HoldoverPeerDelayAndPulses := by
  unfold Obligations.HoldoverPeerDelayAndPulses
  intro s t m
  refine ⟨fun ignores => ?ignored, fun follows => ⟨exec_announce_effect follows, ?pdelayReq⟩, fun follows => next_congr (if_pos follows), fun takes => exec_syncTimeout_effect t takes,
    fun h => exec_holdoverLimit_effect h, fun h => next_congr (if_neg (by simpa using h)), ⟨fromSecond (s.at t).time, rfl, fromSecond_spec _⟩, ⟨_, rfl, rfl, rfl, rfl, rfl⟩⟩
  case ignored =>
    have off : (s.at t).followsGptp m.source m.domain = false := ignores
    exact ⟨next_congr (if_pos (by simp [off])), next_congr (if_neg (by simp [off]))⟩
  case pdelayReq =>
    refine next_congr ((if_pos follows).trans ?_)
    simp only [State.send, List.append_assoc]
    rfl

end Sys2Proof.Machine
end

section
/-!
SUPPORT. What the work at a tick leaves alone (R57, R67): the timebase, the commit controller, the staged set, every object but the counters, the interpreter, the power manager and the clocks.
-/
namespace Sys2Proof.Machine
open Sys2Proof

set_option Elab.async false

/-- From `r` to `s` nothing moves but what the tick's work may move, and no event is unsaid; under `c` the processor in hand stands too. -/
structure State.Passes (c : Prop) (r s : State) : Prop where
  tb : s.tb = r.tb
  ctl : s.ctl = r.ctl
  shadow : s.dict.shadow = r.dict.shadow
  rule : s.rule = r.rule
  power : s.power = r.power
  clocks : s.clocks = r.clocks
  ticks : s.newel.pins.ticks = r.newel.pins.ticks
  eng : c → s.eng = r.eng
  events : r.events <+: s.events
  dict : Dict.Spares NoCounter r.dict s.dict

/-- The parts of the state that `Passes` speaks of. -/
def State.passed (s : State) := (s.tb, s.ctl, s.dict, s.rule, s.power, s.clocks, s.newel.pins.ticks, s.eng, s.events)

variable {κ : Prop} {r₀ s : State}

theorem State.Passes.refl (s : State) : State.Passes κ s s := ⟨rfl, rfl, rfl, rfl, rfl, rfl, rfl, fun _ => rfl, List.prefix_rfl, .refl _⟩

theorem State.Passes.mono {d : Prop} (h : State.Passes κ r₀ s) (k : d → κ) : State.Passes d r₀ s := { h with eng := fun x => h.eng (k x) }

theorem State.Passes.keep {t : State} (h : State.Passes κ r₀ s) (e : t.passed = s.passed := by rfl) : State.Passes κ r₀ t := by
  simp only [State.passed, Prod.mk.injEq] at e
  obtain ⟨tb, ctl, dict, rule, power, clocks, ticks, eng, events⟩ := e
  exact ⟨tb.trans h.tb, ctl.trans h.ctl, dict ▸ h.shadow, rule.trans h.rule, power.trans h.power, clocks.trans h.clocks, ticks.trans h.ticks, fun hc => eng.trans (h.eng hc), events ▸ h.events,
    dict ▸ h.dict⟩

/-- Registers are put in hand, or written there. -/
theorem State.Passes.withEng (h : State.Passes False r₀ s) (e : Invocation) (u : Nat) (p : List (Nat × Invocation)) : State.Passes False r₀ { s with eng := e, engUnit := u, processors := p } :=
  { h with eng := False.elim }

theorem State.Passes.ite {d : Prop} [Decidable d] {a b : State} (h : State.Passes κ r₀ a) (k : State.Passes κ r₀ b) : State.Passes κ r₀ (if d then a else b) := by split <;> assumption

theorem State.Passes.iteSnd {α : Type} {d : Prop} [Decidable d] {a b : α × State} (h : State.Passes κ r₀ a.2) (k : State.Passes κ r₀ b.2) : State.Passes κ r₀ (if d then a else b).2 := by
  split <;> assumption

theorem State.Passes.foldl {α : Type} {f : State → α → State} {xs : List α} (h : State.Passes κ r₀ s) (k : ∀ s x, State.Passes κ r₀ s → State.Passes κ r₀ (f s x)) : State.Passes κ r₀ (xs.foldl f s) :=
  State.foldl_inv f k xs s h

/-- A counter rises. -/
theorem State.Passes.bump (h : State.Passes κ r₀ s) (idx sub n : Nat) (counter : isCounterIndex idx = true) (byte : sub < 256) : State.Passes κ r₀ { s with dict := (s.dict.bump idx sub n).1 } := by
  have same : (s.dict.bump idx sub n).1.shadow = s.dict.shadow := by
    unfold Dict.bump
    dsimp only
    split <;> rfl
  exact { h with shadow := same.trans h.shadow, dict := h.dict.trans ((s.dict.bump_spares idx sub n).mono fun _ _ k => objKey_ne_of_counter k counter byte) }

/-! Messages and rings -/

theorem State.Passes.send (h : State.Passes κ r₀ s) (m : WireMsg) : State.Passes κ r₀ (s.send m) :=
  h.keep

theorem State.Passes.setQp (h : State.Passes κ r₀ s) (n : Nat) (q : QueuePair) : State.Passes κ r₀ (s.setQp n q) :=
  h.keep

theorem State.Passes.modPort (h : State.Passes κ r₀ s) (p : Nat) (f : PeerPort → PeerPort) : State.Passes κ r₀ (s.modPort p f) :=
  h.keep

theorem State.Passes.sendQp (h : State.Passes κ r₀ s) (n priority : Nat) (m : WireMsg) : State.Passes κ r₀ (s.sendQp n priority m) :=
  have h := h.ite (h.modPort ..)
  have h := h.setQp ..
  h.ite (h.send ..)

theorem State.Passes.sendInput (h : State.Passes κ r₀ s) (p : Nat) (m : WireMsg) : State.Passes κ r₀ (s.sendInput p m) :=
  (h.modPort ..).ite (h.send ..)

theorem State.Passes.setRing (h : State.Passes κ r₀ s) (r : Nat) (x : Ring) : State.Passes κ r₀ (s.setRing r x) :=
  h.keep

theorem State.Passes.setUdp (h : State.Passes κ r₀ s) (c : Nat) (u : UdpClient) : State.Passes κ r₀ (s.setUdp c u) :=
  h.keep

theorem State.Passes.sendMgmt (h : State.Passes κ r₀ s) (m : WireMsg) : State.Passes κ r₀ (s.sendMgmt m) :=
  h.ite (h.send ..)

theorem State.Passes.sendRecords (h : State.Passes κ r₀ s) (c : Nat) (records : List (List Byte)) : State.Passes κ r₀ (s.sendRecords c records) := by
  unfold State.sendRecords
  dsimp only
  split
  · exact
      have h := h.setUdp ..
      (h.sendMgmt ..).ite (h.sendInput ..)
  exact h

theorem State.Passes.deliverEntry (h : State.Passes κ r₀ s) (r index : Nat) (bytes : List Byte) : State.Passes κ r₀ (s.deliverEntry r index bytes) := by
  unfold State.deliverEntry
  dsimp only
  split
  · split
    · exact h.keep
    · exact h.send ..
  · exact h.sendQp ..
  · exact ((h.setUdp ..).ite h).sendRecords ..

theorem State.Passes.moderate (h : State.Passes κ r₀ s) (r : Nat) (atOnce : Bool) : State.Passes κ r₀ (s.moderate r atOnce) := by
  unfold State.moderate
  split
  · exact h
  exact ((h.setRing ..).send ..).ite (h.setRing ..)

theorem State.Passes.ringPush (h : State.Passes κ r₀ s) (r : Nat) (mk : Bool → List Byte) (atOnce : Bool) : State.Passes κ r₀ (s.ringPush r mk atOnce) := by
  unfold State.ringPush
  split
  · exact h
  exact (h.setRing ..).ite (((h.setRing ..).deliverEntry ..).moderate ..)

/-! Events, counters, pins and causes -/

theorem State.Passes.offerEvent (h : State.Passes κ r₀ s) (r : Nat) (e : EventRec) : State.Passes κ r₀ (s.offerEvent r e) := by
  unfold State.offerEvent
  split
  · exact h
  split
  · exact h.ringPush ..
  split
  · exact h.setRing ..
  · exact (h.setRing ..).bump 0x8402 7 1 (by decide) (by decide)

theorem State.Passes.emit (h : State.Passes κ r₀ s) (frame code arg arg2 : Nat) : State.Passes κ r₀ (s.emit frame code arg arg2) :=
  have told : State.Passes κ r₀ { s with events := s.events ++ [_] } := { h with events := h.events.trans (List.prefix_append ..) }
  told.foldl fun _ _ h => h.offerEvent ..

theorem State.Passes.raiseFor (h : State.Passes κ r₀ s) (frame code arg arg2 : Nat) : State.Passes κ r₀ (s.raiseFor frame code arg arg2) :=
  have h := h.emit ..
  (h.emit ..).ite h

theorem State.Passes.raise (h : State.Passes κ r₀ s) (code arg : Nat) : State.Passes κ r₀ (s.raise code arg) :=
  h.raiseFor ..

theorem State.Passes.raiseOpen (h : State.Passes κ r₀ s) (frame code : Nat) : State.Passes κ r₀ (s.raiseOpen frame code) :=
  h.raiseFor ..

theorem State.Passes.count (h : State.Passes κ r₀ s) (idx sub n : Nat) (counter : isCounterIndex idx = true := by decide) (byte : sub < 256 := by decide) : State.Passes κ r₀ (s.count idx sub n) :=
  have bumped := h.bump idx sub n counter byte
  (bumped.raise ..).ite bumped

theorem State.Passes.signalStatus (h : State.Passes κ r₀ s) : State.Passes κ r₀ s.signalStatus := by
  unfold State.signalStatus
  dsimp only
  split
  · exact h
  exact
    have h := h.keep
    (h.send ..).ite h

theorem State.Passes.setPins (h : State.Passes κ r₀ s) (f : Pins → Pins) (same : ∀ p, (f p).ticks = p.ticks := by exact fun _ => rfl) : State.Passes κ r₀ (s.setPins f) :=
  have driven : State.Passes κ r₀ { s with newel := { s.newel with pins := f s.newel.pins } } := { h with ticks := (same _).trans h.ticks }
  driven.signalStatus.ite h

theorem State.Passes.deviceFault (h : State.Passes κ r₀ s) (cause : Nat) : State.Passes κ r₀ (s.deviceFault cause) :=
  have h := h.keep
  have h := h.setPins ..
  (h.raise ..).ite h

theorem State.Passes.setCause (h : State.Passes κ r₀ s) (cause : Nat) : State.Passes κ r₀ (s.setCause cause) :=
  have h := h.keep
  (((h.count ..).raise ..).signalStatus).ite h

theorem State.Passes.dropCauses (h : State.Passes κ r₀ s) (mask : Nat) : State.Passes κ r₀ (s.dropCauses mask) :=
  have h := h.keep
  ((h.raiseOpen ..).signalStatus).ite h

theorem State.Passes.clearCause (h : State.Passes κ r₀ s) (cause : Nat) : State.Passes κ r₀ (s.clearCause cause) :=
  h.ite (h.keep.ite (h.dropCauses ..))

/-! The frames' work and the registers of processors -/

theorem State.Passes.modWork (h : State.Passes κ r₀ s) (frame : Nat) (f : FrameWork → FrameWork) : State.Passes κ r₀ (s.modWork frame f) :=
  h.keep

theorem State.Passes.maskBit (h : State.Passes κ r₀ s) (frame bit : Nat) : State.Passes κ r₀ (s.maskBit frame bit) := by
  unfold State.maskBit
  split
  · exact h.modWork ..
  exact h.keep

theorem State.Passes.choice (h : State.Passes κ r₀ s) (frame bit : Nat) (once : Bool) (byte : bit + 3 < 256 := by decide) : State.Passes κ r₀ (s.choice frame bit once) :=
  h.ite (((h.maskBit ..).count ..).count 0x7203 _ 1 (by decide) byte)

theorem State.Passes.disturb (h : State.Passes κ r₀ s) (frame : Nat) : State.Passes κ r₀ (s.disturb frame) :=
  h.ite ((h.maskBit ..).count ..)

theorem State.Passes.setProcessor (h : State.Passes False r₀ s) (n : Nat) (v : Invocation) : State.Passes False r₀ (s.setProcessor n v) := by
  unfold State.setProcessor
  split
  · exact h.withEng ..
  · exact h.keep

theorem State.Passes.takeInHand (h : State.Passes False r₀ s) (n : Nat) (v : Invocation) : State.Passes False r₀ (s.takeInHand n v) := h.withEng ..

theorem State.Passes.raiseOnce (h : State.Passes κ r₀ s) (frame code : Nat) : State.Passes κ r₀ (s.raiseOnce frame code) := by
  unfold State.raiseOnce
  split
  · exact h.ite ((h.modWork ..).raiseOpen ..)
  exact h.raiseOpen ..

theorem State.Passes.driveSafe (h : State.Passes κ r₀ s) : State.Passes κ r₀ s.driveSafe :=
  h.setPins ..

theorem State.Passes.roleChanged (h : State.Passes κ r₀ s) : State.Passes κ r₀ s.roleChanged :=
  (h.setPins ..).driveSafe

theorem State.Passes.remapLanes (h : State.Passes κ r₀ s) : State.Passes κ r₀ s.remapLanes := h.keep (by simp only [State.passed, State.remapLanes])

/-! Items and blocks -/

theorem State.Passes.delayLoc (h : State.Passes κ r₀ s) (d release : Nat) : State.Passes κ r₀ (s.delayLoc d release).2 :=
  .iteSnd h (h.count ..)

theorem State.Passes.addItem (h : State.Passes κ r₀ s) (n : NewItem) : State.Passes κ r₀ (s.addItem n) := by
  unfold State.addItem
  extract_lets behind home
  refine State.Passes.keep (s := Prod.snd (match behind, n.release with
    | some _, _ => (ItemLoc.chain home, s)
    | none, some r => s.delayLoc home r
    | none, none => (if s.inputsExist n.kind n.frame n.spec then .ready home else .waiting home true, s))) ?_
  split
  · exact h
  · exact h.delayLoc ..
  · exact h

theorem State.Passes.modItem (h : State.Passes κ r₀ s) (serial : Nat) (f : Item → Item) : State.Passes κ r₀ (s.modItem serial f) :=
  h.keep

theorem State.Passes.chainTo (h : State.Passes κ r₀ s) (flow d : Nat) : State.Passes κ r₀ (s.chainTo flow d) :=
  h.keep

theorem State.Passes.advanceFlow (h : State.Passes κ r₀ s) (flow : Nat) : State.Passes κ r₀ (s.advanceFlow flow) := by
  unfold State.advanceFlow
  split
  · exact h
  split
  · dsimp only
    split
    · exact ((h.chainTo ..).delayLoc ..).modItem ..
    exact (h.chainTo ..).modItem ..
  exact h

theorem State.Passes.dropItem (h : State.Passes κ r₀ s) (serial : Nat) : State.Passes κ r₀ (s.dropItem serial) := by
  unfold State.dropItem
  split
  · exact h
  dsimp only
  split
  · exact h.keep.advanceFlow ..
  exact h.keep

theorem State.Passes.cancelItems (h : State.Passes κ r₀ s) (p : Item → Bool) : State.Passes κ r₀ (s.cancelItems p) :=
  have h := h.keep
  h.foldl fun _ _ h => h.dropItem ..

theorem State.Passes.commitItem (h : State.Passes κ r₀ s) (serial : Nat) : State.Passes κ r₀ (s.commitItem serial) :=
  h.modItem ..

theorem State.Passes.modUnit (h : State.Passes κ r₀ s) (engine : Nat) (f : EngineUnit → EngineUnit) : State.Passes κ r₀ (s.modUnit engine f) :=
  h.keep

/-! The chip group: what is sent -/

theorem State.Passes.modPeer (h : State.Passes κ r₀ s) (c : Nat) (f : Peer → Peer) : State.Passes κ r₀ (s.modPeer c f) :=
  h.keep

theorem State.Passes.sendOn (h : State.Passes κ r₀ s) (p d kind : Nat) (last : Bool) (segment frame version : Nat) (payload : List Byte) : State.Passes κ r₀ (s.sendOn p d kind last segment frame version payload) :=
  ((h.modPeer ..).sendQp ..).count ..

theorem State.Passes.chargePeer (h : State.Passes κ r₀ s) (kind bytes : Nat) : State.Passes κ r₀ (s.chargePeer kind bytes) :=
  h.keep.ite h

theorem State.Passes.sendGroup (h : State.Passes κ r₀ s) (d kind : Nat) (last : Bool) (segment frame version : Nat) (payload : List Byte) : State.Passes κ r₀ (s.sendGroup d kind last segment frame version payload) :=
  (h.sendOn ..).chargePeer ..

/-! Candidates in hand (R86) -/

theorem State.Passes.addBlock (h : State.Passes κ r₀ s) (w : FrameWork) (firstId cls : Nat) (spec replay : Bool) : State.Passes κ r₀ (s.addBlock w firstId cls spec replay) := by
  unfold State.addBlock
  exact h.addItem ..

theorem State.Passes.issueBlock (h : State.Passes κ r₀ s) (frame firstId : Nat) : State.Passes κ r₀ (s.issueBlock frame firstId) := by
  unfold State.issueBlock
  split
  · exact h
  exact (h.modWork ..).addBlock ..

theorem State.Passes.issueBlocks (h : State.Passes κ r₀ s) (frame : Nat) (ids : List Nat) : State.Passes κ r₀ (s.issueBlocks frame ids) :=
  h.foldl fun _ _ h => h.issueBlock ..

theorem State.Passes.advanceRounds (h : State.Passes κ r₀ s) (fuel frame : Nat) : State.Passes κ r₀ (State.advanceRounds fuel frame s) := by
  induction fuel generalizing s with
  | zero => exact h
  | succ fuel ih =>
    unfold State.advanceRounds
    split
    · exact h
    split
    · exact h
    split
    · exact h
    split
    · exact h
    have h := h.modWork frame
    dsimp only
    split
    · exact ih (State.Passes.modWork ((((h _).count ..).raiseOpen ..).ite ((h _).issueBlocks ..)) ..)
    · exact h _

theorem State.Passes.goRounds (h : State.Passes κ r₀ s) (frame : Nat) : State.Passes κ r₀ (s.goRounds frame) := h.advanceRounds ..

theorem State.Passes.withdrawBlocks (h : State.Passes κ r₀ s) (frame : Nat) (p : BlockRec → Bool) : State.Passes κ r₀ (s.withdrawBlocks frame p) := by
  unfold State.withdrawBlocks
  split
  · exact h
  exact h.ite ((((h.cancelItems ..).modWork ..).count ..).count ..)

theorem State.Passes.setTally (h : State.Passes κ r₀ s) (slot : Option Nat) (tally : List Host.Cell) : State.Passes κ r₀ (s.setTally slot tally) := by
  unfold State.setTally
  split
  · exact h.keep
  · exact h

theorem State.Passes.fpAtomicChoice (h : State.Passes κ r₀ s) (frame : Nat) (took : Bool) : State.Passes κ r₀ (s.fpAtomicChoice frame took) :=
  (h.choice ..).ite h

theorem State.Passes.abandonBlock (h : State.Passes κ r₀ s) (frame code mark : Nat) : State.Passes κ r₀ (s.abandonBlock frame code mark) :=
  ((h.modWork ..).raiseOpen ..).count ..

theorem State.Passes.countChecks (h : State.Passes κ r₀ s) (runs : List CandRun) (first : Nat → Bool) : State.Passes κ r₀ (s.countChecks runs first) :=
  have h := h.ite (h.count ..)
  have h := h.ite (h.count ..)
  have h := h.ite (h.count ..)
  have h := h.ite (h.count ..)
  have h := h.ite (h.count ..)
  have h := h.ite (h.count ..)
  have h := List.foldlRecOn _ _ h fun _ h _ mem => h.ite (h.count 0x5021 _ _ (by decide) (by have := List.mem_range.1 mem; omega))
  h.ite (h.count ..)

theorem State.Passes.countExpansions (h : State.Passes κ r₀ s) (w : FrameWork) (window last : Nat) (exps : List Expansion) : State.Passes κ r₀ (s.countExpansions w window last exps) :=
  have h := h.modWork ..
  have h := (h.ite (h.count ..)).ite h
  have h := h.ite (h.count ..)
  have h := h.ite (h.count ..)
  h.ite ((h.ite (h.count ..)).raiseOnce ..)

theorem State.Passes.fillWindow (h : State.Passes False r₀ s) (engine : Nat) (w : FrameWork) (i : Item) : State.Passes False r₀ (s.fillWindow engine w i) := by
  unfold State.fillWindow
  dsimp only
  split
  · exact h
  · exact
      have h := h.modUnit ..
      (((h.takeInHand ..).count ..).ite h).countExpansions ..

theorem State.Passes.afterRuns (h : State.Passes False r₀ s) (engine : Nat) (w : FrameWork) (env : CheckEnv) (runs : List CandRun) : State.Passes False r₀ (s.afterRuns engine w env runs) := by
  unfold State.afterRuns
  extract_lets s1 s2
  have tallies : State.Passes False r₀ s1 := by
    unfold s1
    split
    · exact h.ite (h.setTally ..)
    · exact h
  clear_value s1
  have registers : State.Passes False r₀ s2 := by
    unfold s2
    split
    · exact tallies.setProcessor ..
    · exact tallies
  clear_value s2
  exact
    have h := registers.fpAtomicChoice ..
    have h := h.countChecks ..
    have h := h.modWork ..
    have h := (h.raiseOnce ..).ite h
    (((h.raiseOpen ..).disturb ..).ite h).modUnit ..

theorem State.Passes.dispose (h : State.Passes κ r₀ s) (frame : Nat) (p : BlockRec → Bool) : State.Passes κ r₀ (s.dispose frame p) := by
  unfold State.dispose
  split
  · exact h
  exact
    have h := h.ite ((h.withdrawBlocks ..).count ..)
    (h.ite ((h.modWork ..).count ..)).withdrawBlocks ..

theorem State.Passes.disposeBlock (h : State.Passes κ r₀ s) (frame beta : Nat) : State.Passes κ r₀ (s.disposeBlock frame beta) :=
  h.dispose ..

theorem State.Passes.commitRecord (h : State.Passes κ r₀ s) (engine : Nat) (w : FrameWork) (i : Item) (runs : List CandRun) : State.Passes κ r₀ (s.commitRecord engine w i runs) :=
  have h := h.modWork ..
  (h.ite (h.disposeBlock ..)).ite ((h.withdrawBlocks ..).ite h)

theorem State.Passes.runBlock (h : State.Passes False r₀ s) (engine : Nat) (w : FrameWork) (i : Item) : State.Passes False r₀ (s.runBlock engine w i) :=
  have h := (h.afterRuns ..).commitItem ..
  ((h.abandonBlock ..).goRounds ..).ite ((h.goRounds ..).ite ((h.commitRecord ..).goRounds ..))

theorem State.Passes.runSingle (h : State.Passes False r₀ s) (engine : Nat) (w : FrameWork) (i : Item) : State.Passes False r₀ (s.runSingle engine w i) :=
  have h := (h.afterRuns ..).commitItem ..
  have h := h.modWork ..
  ((h.abandonBlock ..).goRounds ..).ite ((h.goRounds ..).ite ((h.modWork ..).goRounds ..))

theorem State.Passes.finishServing (h : State.Passes False r₀ s) (engine : Nat) : State.Passes False r₀ (s.finishServing engine) := by
  unfold State.finishServing
  split
  · exact h
  split
  · exact h
  exact
    have h := h.foldl fun _ _ h => h.fillWindow ..
    (h.runBlock ..).ite (h.runSingle ..)

theorem State.items_cancelItems_of_none {s : State} {p : Item → Bool} (h : ∀ i ∈ s.disp.items, p i = false) : (s.cancelItems p).disp.items = s.disp.items := by
  have same (inService : Item → Bool) : s.disp.items.map (fun i => if p i && inService i then { i with dropped := true } else i) = s.disp.items :=
    (List.map_congr_left fun i hi => if_neg (by simp [h i hi])).trans (List.map_id _)
  have none (inService : Item → Bool) : s.disp.items.filter (fun i => p i && !inService i) = [] := List.filter_eq_nil_iff.2 fun i hi => by simp [h i hi]
  unfold State.cancelItems
  extract_lets inService disp s1
  have items : s1.disp.items = s.disp.items := same inService
  rw [items, none inService]
  exact items

/-- R86: where no candidates are in hand, none are finished. -/
theorem State.Passes.finishOld (h : State.Passes κ r₀ s) (n : Nat) (free : κ → ∀ i ∈ s.disp.items, i.kind ≠ .candidateBlock ∧ i.kind ≠ .candidateSingle) :
    State.Passes κ r₀ (s.finishOld n) := by
  unfold State.finishOld
  extract_lets old s1
  have cancelled : State.Passes κ r₀ s1 := h.cancelItems old
  by_cases hκ : κ
  · have young : ∀ i ∈ s.disp.items, old i = false := fun i hi => by simp [old, free hκ i hi]
    have nothing : s1.disp.items.filter (fun i => old i && !i.committed) = [] := by
      rw [State.items_cancelItems_of_none young]
      exact List.filter_eq_nil_iff.2 fun i hi => by simp [young i hi]
    rw [nothing]
    exact cancelled
  · have h : State.Passes False r₀ s1 := cancelled.mono False.elim
    exact (State.Passes.foldl h fun _ _ h => h.finishServing ..).mono fun k => hκ k

/-! Budgets and units in service -/

theorem State.Passes.recomputeBudget (h : State.Passes κ r₀ s) : State.Passes κ r₀ s.recomputeBudget :=
  have h := h.keep
  (h.setCause ..).ite (h.clearCause ..)

theorem State.Passes.modEngine (h : State.Passes κ r₀ s) (e : Nat) (f : ServiceUnit → ServiceUnit) : State.Passes κ r₀ (s.modEngine e f) :=
  h.keep

theorem State.Passes.modGallery (h : State.Passes κ r₀ s) (g : Nat) (f : ServiceUnit → ServiceUnit) : State.Passes κ r₀ (s.modGallery g f) :=
  h.keep

theorem State.Passes.beginCourse (h : State.Passes κ r₀ s) (unit : Nat) : State.Passes κ r₀ (s.beginCourse unit) :=
  h.keep

theorem State.Passes.clearSelfTest (h : State.Passes κ r₀ s) : State.Passes κ r₀ s.clearSelfTest :=
  h.ite (h.clearCause ..)

theorem State.Passes.endCourse (h : State.Passes κ r₀ s) (unit : Nat) : State.Passes κ r₀ (s.endCourse unit) :=
  State.Passes.clearSelfTest h.keep

theorem State.Passes.enterService (h : State.Passes κ r₀ s) (tick : Nat) : State.Passes κ r₀ (s.enterService tick) := by
  unfold State.enterService
  dsimp only
  split
  · exact h
  exact
    have h := h.foldl fun _ _ h => ((h.modGallery ..).count ..).raise ..
    ((h.foldl fun _ _ h => (((h.modEngine ..).beginCourse ..).count ..).raise ..).remapLanes).recomputeBudget

/-! What a commit changes in the units (R57) -/

theorem State.Passes.layHall (h : State.Passes κ r₀ s) : State.Passes κ r₀ s.layHall := by
  unfold State.layHall
  extract_lets v hm halls banks regions old moved users uses leaving kept m
  clear_value moved m
  exact h.keep

theorem State.Passes.modStream (h : State.Passes κ r₀ s) (n : Nat) (f : Stream → Stream) : State.Passes κ r₀ (s.modStream n f) :=
  h.keep

theorem State.Passes.dueReloads (h : State.Passes κ r₀ s) (keys : List Nat) (before : State) : State.Passes κ r₀ (s.dueReloads before keys) := by
  unfold State.dueReloads
  refine State.Passes.foldl (h.ite h.keep) fun s n h => ?_
  extract_lets newImage touched s1
  have h : State.Passes κ r₀ s1 := (h.modStream ..).ite h
  exact (h.modStream ..).ite h

theorem State.Passes.drainDone (h : State.Passes κ r₀ s) (client : Nat) : State.Passes κ r₀ (s.drainDone client) :=
  h.ite h.keep

theorem State.Passes.applyRings (h : State.Passes κ r₀ s) (before : State) : State.Passes κ r₀ (s.applyRings before) := by
  unfold State.applyRings
  extract_lets gone leaving s1 keep p2 s2 p3 s3 s4 fresh outstanding
  have h : State.Passes κ r₀ s1 := h.foldl fun s c h => h.keep
  have h : State.Passes κ r₀ s3 := h.keep
  have h : State.Passes κ r₀ s4 := h.foldl fun s c h => h.drainDone c
  exact h.foldl fun s r h => h.setRing ..

theorem State.Passes.applyGroup (h : State.Passes κ r₀ s) : State.Passes κ r₀ s.applyGroup :=
  h.keep.roleChanged

theorem State.Passes.sentryOff (h : State.Passes κ r₀ s) : State.Passes κ r₀ s.sentryOff :=
  h.keep.dropCauses ..

theorem State.Passes.hotCourses (h : State.Passes κ r₀ s) (before : List Nat) : State.Passes κ r₀ (s.hotCourses before) :=
  have h := h.foldl fun _ _ h => h.endCourse ..
  h.foldl fun _ _ h => h.beginCourse ..

/-! The tick of the group, and the frame begun -/

theorem State.Passes.mirror (h : State.Passes κ r₀ s) (j : JRec) : State.Passes κ r₀ (s.mirror j).2 := by
  unfold State.mirror
  split
  · exact h
  split
  · exact (h.sendGroup ..).keep
  split
  · exact h
  exact
    have h := (h.keep.raise ..).setCause ..
    (h.deviceFault ..).ite h

theorem State.Passes.openPacket (h : State.Passes κ r₀ s) (n : Nat) (p : InPacket) (rest : List (List Nat × Bool × Nat)) (output : List Nat) (closed : Bool) : State.Passes κ r₀ (s.openPacket n p rest output closed) :=
  h.modStream ..

theorem State.Passes.beginFilter (h : State.Passes False r₀ s) (n : Nat) (i : Item) : State.Passes False r₀ (s.beginFilter n i) := by
  unfold State.beginFilter
  dsimp only
  split
  · exact h
  next p _ =>
    refine h.ite ?_
    generalize s.filterRun n (s.stream n) p = v
    exact ((((h.setTally ..).fpAtomicChoice ..).modStream ..).openPacket ..).takeInHand ..

theorem State.Passes.beginFilters (h : State.Passes False r₀ s) : State.Passes False r₀ s.beginFilters :=
  h.foldl fun _ _ h => h.beginFilter ..

theorem State.Passes.dropFrames (h : State.Passes κ r₀ s) (p : FrameWork → Bool) : State.Passes κ r₀ (s.dropFrames p) :=
  (h.cancelItems ..).keep

theorem State.Passes.dropRunAhead (h : State.Passes κ r₀ s) : State.Passes κ r₀ s.dropRunAhead :=
  (h.dropFrames ..).keep

theorem State.Passes.sendLevel (h : State.Passes κ r₀ s) (x : Search) : State.Passes κ r₀ (s.sendLevel x) := by
  unfold State.sendLevel
  split
  · exact h
  exact h.sendGroup ..

theorem State.Passes.startSearch (h : State.Passes κ r₀ s) : State.Passes κ r₀ s.startSearch := by
  unfold State.startSearch
  split
  · exact h.keep.sendLevel ..
  exact h

theorem State.Passes.keepDigests (h : State.Passes κ r₀ s) (frame : Nat) : State.Passes κ r₀ (s.keepDigests frame) :=
  have h := h.keep
  (h.foldl fun _ _ h => h.raiseOpen ..).startSearch

theorem State.Passes.releaseDue (h : State.Passes κ r₀ s) (now : Nat) : State.Passes κ r₀ (s.releaseDue now) :=
  have h := h.keep
  h.foldl fun _ _ h => by
    split
    · exact (h.delayLoc ..).modItem ..
    · exact h

theorem State.Passes.takeRole (h : State.Passes κ r₀ s) (role : Nat) : State.Passes κ r₀ (s.takeRole role) := by
  unfold State.takeRole
  extract_lets pub group s1 group2 s2 s3
  have h : State.Passes κ r₀ s1 := h.keep.ite h
  clear_value s1
  have h : State.Passes κ r₀ s2 := State.Passes.roleChanged h.keep
  clear_value s2
  have h : State.Passes κ r₀ s3 := h.foldl fun _ _ h => h.sendGroup ..
  exact (h.count ..).raiseOpen ..

theorem State.Passes.admitPeer (h : State.Passes κ r₀ s) (c : Nat) : State.Passes κ r₀ (s.admitPeer c) := by
  unfold State.admitPeer
  extract_lets p s1 g1 s2 g2 s3
  refine h.ite ?_
  have h : State.Passes κ r₀ s1 := ((h.modPeer ..).count ..).raise ..
  clear_value s1
  have h : State.Passes κ r₀ s2 := (State.Passes.clearCause h.keep ..).ite h
  clear_value s2
  have k : State.Passes κ r₀ s3 := h.keep
  exact (k.foldl fun _ _ h => h.mirror ..).ite h

theorem State.Passes.clearPeers (h : State.Passes κ r₀ s) : State.Passes κ r₀ s.clearPeers :=
  (h.clearCause ..).ite h

theorem State.Passes.groupTick (h : State.Passes κ r₀ s) : State.Passes κ r₀ s.groupTick := by
  unfold State.groupTick
  extract_lets g1 s1 s2 digest g2
  have h : State.Passes κ r₀ s1 := by
    unfold s1
    split
    · exact State.Passes.roleChanged h.keep
    · exact State.Passes.takeRole h.keep _
    · exact h
  clear_value s1
  have h : State.Passes κ r₀ s2 := (State.Passes.foldl h fun _ _ h => h.admitPeer ..).clearPeers
  exact h.keep

theorem State.Passes.beginFrame (h : State.Passes κ r₀ s) (n : Nat) : State.Passes κ r₀ (s.beginFrame n) := by
  unfold State.beginFrame
  extract_lets s1 s2 world s3 carry det s4 fresh
  have h : State.Passes κ r₀ s2 := ((h.dropRunAhead.ite h).dropFrames ..).keepDigests ..
  clear_value s2
  have h : State.Passes κ r₀ s3 := h.keep
  clear_value s3
  have h : State.Passes κ r₀ s4 := h.keep
  clear_value s4
  exact h.dropRunAhead.ite ((h.modWork ..).ite h.keep)

end Sys2Proof.Machine
end

section
/-!
SUPPORT. The objects a commit changes (R29, R57): no RWS object stands among the counters, and the swap gives each its staged value.
-/
namespace Sys2Proof.Machine
open Sys2Proof

set_option Elab.async false

/-! RWS objects and counters -/

/-- No RWS row of a table reaches an index of counters. -/
def clearOfCounters (rows : List ObjRow) : Bool :=
  rows.all fun r => r.access != .rws || counterIndexes.all fun p => decide (r.idx + r.idxCount ≤ p.1) || decide (p.1 + p.2 ≤ r.idx)

theorem objRowsAt_clearOfCounters (idx : Nat) : clearOfCounters (objRowsAt idx) = true := by
  unfold objRowsAt
  split <;> decide +kernel

theorem objFind_rws {idx sub : Nat} {row : ObjRow} (found : objFind idx sub = some row) (rws : row.access = .rws) : row ∈ objRowsAt idx ∧ row.covers idx sub = true := by
  unfold objFind at found
  split at found
  next r e =>
    obtain rfl := Option.some.inj found
    exact ⟨List.mem_of_find?_eq_some e, List.find?_some (p := fun r : ObjRow => r.covers idx sub) e⟩
  · split at found
    · simp [← Option.some.inj found] at rws
    · split at found
      · simp [← Option.some.inj found] at rws
      · split at found
        · simp [← Option.some.inj found] at rws
        · cases found

theorem isCounterIndex_of_rws {idx sub : Nat} {row : ObjRow} (found : objFind idx sub = some row) (rws : row.access = .rws) : isCounterIndex idx = false := by
  obtain ⟨mem, covers⟩ := objFind_rws found rws
  have apart := List.all_eq_true.1 (objRowsAt_clearOfCounters idx) row mem
  simp only [rws, bne_self_eq_false, Bool.false_or] at apart
  simp only [ObjRow.covers, Bool.and_eq_true, decide_eq_true_eq] at covers
  refine List.any_eq_false.2 fun p hp => ?_
  have beside := List.all_eq_true.1 apart p hp
  simp only [Bool.or_eq_true, Bool.and_eq_true, decide_eq_true_eq] at beside ⊢
  omega

/-! The swap (R57) -/

/-- The active values with those of a table set. -/
def Dict.swapped (d : Dict) (xs : ObjMap) : Dict := xs.foldl (fun d p => d.setActive (p.1 / 256) (p.1 % 256) p.2) d

theorem alGet_of_alAbove {α : Type} {j : Nat} {m : List (Nat × α)} (h : alAbove j m) : alGet j m = none := by
  induction m with
  | nil => rfl
  | cons x rest ih =>
    obtain ⟨k, v⟩ := x
    have above : j < k := h (k, v) (List.mem_cons_self ..)
    rw [alGet, if_neg (by simpa using above.ne'), ih fun y hy => h y (List.mem_cons_of_mem _ hy)]

theorem objKey_div_mod (k : Nat) : objKey (k / 256) (k % 256) = k := by
  unfold objKey
  omega

theorem Dict.activeVal_swapped (d : Dict) {xs : ObjMap} (h : alSorted xs = true) (k : alSorted d.active = true) (idx : Nat) {sub : Nat} (byte : sub < 256) :
    (d.swapped xs).activeVal idx sub = (alGet (objKey idx sub) xs).getD (d.activeVal idx sub) := by
  induction xs generalizing d with
  | nil => rfl
  | cons p xs ih =>
    obtain ⟨key, v⟩ := p
    obtain ⟨above, rest⟩ := (alSorted_cons key v xs).1 h
    refine (ih (d.setActive (key / 256) (key % 256) v) rest (d.setActive_sorted _ _ _ k)).trans ?_
    by_cases e : key = objKey idx sub
    · subst e
      have index : objKey idx sub / 256 = idx := by unfold objKey; omega
      have subindex : objKey idx sub % 256 = sub := by unfold objKey; omega
      rw [alGet, if_pos (beq_self_eq_true _), alGet_of_alAbove above, index, subindex]
      exact d.activeVal_setActive_same idx sub v k
    · rw [alGet, if_neg (by simpa using e), d.activeVal_setActive_other]
      rw [objKey_div_mod]
      exact fun h => e h.symm

theorem Dict.val_staged (d : Dict) (idx sub : Nat) : d.val true idx sub = (alGet (objKey idx sub) d.shadow).getD (d.activeVal idx sub) := by
  rw [Dict.val, if_pos rfl]
  cases alGet (objKey idx sub) d.shadow <;> rfl

/-! What a commit leaves alone -/

/-- The objects that no counter and no installed image touches (R324). -/
def NoImage (idx sub : Nat) : Prop := NoCounter idx sub ∧ idx < 0xC000

/-- The parts of the timebase that tell which frame is current, and the tick clock. -/
def Timebase.tick (b : Timebase) := (b.curFrame, b.curTick, b.nextFrame, b.ticked, b.tickOffset, b.everLocked)

/-- From `r` to `s` a commit is being made: the controller is IDLE with the set ID of `r`, and nothing moves but what a commit may move. -/
structure State.Commits (r s : State) : Prop where
  tick : s.tb.tick = r.tb.tick
  idle : s.ctl.st = .idle
  set : s.ctl.activeSetId = r.ctl.activeSetId
  shadow : s.dict.shadow = []
  rule : s.rule = r.rule
  power : s.power = r.power
  clocks : s.clocks = r.clocks
  ticks : s.newel.pins.ticks = r.newel.pins.ticks
  events : r.events <+: s.events
  dict : Dict.Spares NoImage r.dict s.dict

variable {r s : State}

theorem State.Commits.passes {t : State} (h : State.Commits r s) (k : State.Passes False s t) : State.Commits r t :=
  ⟨by rw [k.tb, h.tick], by rw [k.ctl, h.idle], by rw [k.ctl, h.set], k.shadow.trans h.shadow, k.rule.trans h.rule, k.power.trans h.power, k.clocks.trans h.clocks, k.ticks.trans h.ticks,
    h.events.trans k.events, h.dict.trans (k.dict.mono fun _ _ q => q.1)⟩

theorem State.Commits.ite {d : Prop} [Decidable d] {a b : State} (h : State.Commits r a) (k : State.Commits r b) : State.Commits r (if d then a else b) := by split <;> assumption

theorem State.Commits.foldl {α : Type} {f : State → α → State} {xs : List α} (h : State.Commits r s) (k : ∀ s, ∀ x ∈ xs, State.Commits r s → State.Commits r (f s x)) : State.Commits r (xs.foldl f s) :=
  List.foldlRecOn _ _ h fun s h x mem => k s x mem h

theorem State.Commits.modTb (h : State.Commits r s) {f : Timebase → Timebase} (same : (f s.tb).tick = s.tb.tick := by rfl) : State.Commits r (s.modTb f) := { h with tick := same.trans h.tick }

theorem State.Commits.setPeriod (h : State.Commits r s) (k : Nat) : State.Commits r (s.setPeriod k) := by
  unfold State.setPeriod
  exact h.modTb

theorem State.Commits.ever (h : State.Commits r s) (ever : r.tb.everLocked = true) : s.tb.everLocked = true := by
  have same := h.tick
  simp only [Timebase.tick, Prod.mk.injEq] at same
  obtain ⟨-, -, -, -, -, same⟩ := same
  rw [same, ever]

/-- R66: the source enters LOCKED; the first lock lies behind. -/
theorem State.Commits.enterLocked (h : State.Commits r s) (ever : r.tb.everLocked = true) : State.Commits r s.enterLocked := by
  unfold State.enterLocked
  split
  · exact h
  · have moved := ((State.Passes.refl (κ := False) (s.modTb (fun b => { b with st := .locked }))).raiseOpen s.tb.curFrame 0x0380).clearCause 2
    have locked : State.Commits r _ := (h.modTb (f := fun b => { b with st := .locked })).passes moved
    dsimp only
    rw [if_pos (locked.ever ever)]
    exact locked.passes (State.Passes.refl _).signalStatus

theorem State.Commits.sourceChanged (h : State.Commits r s) (ever : r.tb.everLocked = true) : State.Commits r s.sourceChanged := by
  unfold State.sourceChanged
  extract_lets tb pub s1
  have fresh : State.Commits r s1 := { h with }
  clear_value s1
  exact (fresh.modTb.enterLocked ever).ite (fresh.modTb.passes (State.Passes.refl _).signalStatus)

theorem State.Commits.setObj (h : State.Commits r s) {idx : Nat} (sub n : Nat) (image : 0xC000 ≤ idx) : State.Commits r (s.setObj idx sub n) :=
  { h with dict := h.dict.trans ((s.dict.setActive_spares idx sub (.num n)).mono fun i j k => by
      obtain ⟨⟨-, byte⟩, below⟩ := k
      unfold objKey
      omega) }

theorem State.Commits.installImage (h : State.Commits r s) {idx : Nat} (image : 0xC000 ≤ idx) : State.Commits r (s.installImage idx) := by
  unfold State.installImage
  extract_lets b hd vals s1
  have h : State.Commits r s1 := h.foldl fun _ _ _ h => h.setObj _ _ image
  exact { h with }

theorem State.Commits.dropStaged (h : State.Commits r s) : State.Commits r s.dropStaged :=
  { h with idle := rfl, shadow := rfl, dict := h.dict.trans ⟨fun _ _ _ => rfl, id⟩ }

theorem State.Commits.endSession (h : State.Commits r s) (id : Nat) : State.Commits r (s.endSession id) := by
  unfold State.endSession
  extract_lets odp ctl s1
  have ended : State.Commits r s1 := { h with }
  refine h.ite (ended.ite ?_)
  clear_value s1
  exact State.Commits.ite { ended with } ended.dropStaged

theorem State.Commits.closeByCommit (h : State.Commits r s) (keys : List Nat) (before : State) : State.Commits r (s.closeByCommit before keys) :=
  h.foldl fun _ _ _ h => h.endSession ..

theorem State.Commits.dueSave (h : State.Commits r s) : State.Commits r s.dueSave := { h with dict := h.dict.trans ⟨fun _ _ _ => rfl, id⟩ }

/-- R57: what the changed objects do at the commit tick. -/
theorem State.Commits.applyChanges (h : State.Commits r s) (ever : r.tb.everLocked = true) (k : Nat) (keys : List Nat) (before : State) : State.Commits r (s.applyChanges before k keys) := by
  unfold State.applyChanges
  exact
    have h := (h.setPeriod ..).ite h
    have h := (h.sourceChanged ever).ite h
    have h := (h.passes (State.Passes.refl _).keep).ite h
    have h := (h.passes (State.Passes.refl _).keep).ite h
    have h := (h.passes (State.Passes.refl _).sentryOff).ite h
    have h := h.foldl fun _ _ mem h => h.installImage (by simp at mem; omega)
    have h := h.passes ((State.Passes.refl _).dueReloads ..)
    have h := (h.passes ((State.Passes.refl _).applyRings ..)).ite h
    have h := h.closeByCommit ..
    have h := (h.passes (State.Passes.refl _).applyGroup).ite h
    have h := (h.passes (State.Passes.refl _).keep).ite h
    have h := h.passes (State.Passes.refl _).layHall
    h.ite (h.passes (((State.Passes.refl _).hotCourses ..).raiseOpen ..))

/-- R57: the sets swapped, before what the changed objects do. -/
def State.swap (s : State) : State :=
  { s with dict := { s.dict.swapped s.dict.shadow with shadow := [] }
           ctl := { s.ctl with st := .idle, target := 0, owner := 0, activeSetId := (s.ctl.activeSetId + 1) % u32Mod, stagedRev := 0, committed := true } }

theorem State.Commits.swap (s : State) : State.Commits s.swap s.swap := ⟨rfl, rfl, rfl, rfl, rfl, rfl, rfl, rfl, List.prefix_rfl, .refl _⟩

theorem State.commitNow_commits (s : State) (ever : s.tb.everLocked = true) (k : Nat) : State.Commits s.swap (s.commitNow k) := by
  have applied := (State.Commits.swap s).applyChanges ever k s.changedKeys s
  have saved := State.Commits.ite (d := s.changedKeys.any (fun j => isStored (j / 256) (j % 256)) = true) applied.dueSave applied
  exact saved.passes (State.Passes.refl _).recomputeBudget.signalStatus

end Sys2Proof.Machine
end

section
/-!
SUPPORT. The tick of a frame (R67 to R69, R92), from the schedule to the frame begun.
-/
namespace Sys2Proof.Machine
open Sys2Proof

set_option Elab.async false

/-! The schedule (R68) -/

/-- What the schedule leaves of a state: its timebase apart, only what an event may write moves. -/
structure State.Scheduled (s : State) (n m : Nat) (u : State) : Prop where
  schedule : s.schedule = some (m, u)
  notes : State.Passes True { s with tb := u.tb } u
  items : u.disp.items = s.disp.items
  ever : u.tb.everLocked = s.tb.everLocked
  late : n ≤ m

/-- R68: the frame that a stepped tick numbers. -/
def State.stepFrame (s : State) (n : Nat) : Nat :=
  let ahead : Int := (s.time : Int) + (if s.tb.renumber then 1000000 else 0)
  s.frameFrom n (if s.tb.ticked then max ahead ((s.tb.curTick : Int) - s.tb.phaseError + ((s.tb.period / 2 : Nat) : Int)) else ahead)

/-- R68: the tick clock is set to the timebase, with frame m as the anchor. -/
def Timebase.steppedTo (b : Timebase) (m : Nat) (tick : Int) : Timebase := { b with tickOffset := b.tbOffset, anchorFrame := m, anchorTick := tick, renumber := false }

/-- R68: the tick clock stepped, with the frames passed over counted and the step reported. -/
def State.stepped (s : State) (n m : Nat) : State :=
  let u := s.modTb (·.steppedTo m (s.tickOf m))
  (if m == n then u else u.count 0x2021 1 (m - n)).raise 0x0383 (m - n)

theorem State.stepped_passes (s : State) (n m : Nat) : State.Passes True (s.modTb (·.steppedTo m (s.tickOf m))) (s.stepped n m) :=
  (State.Passes.ite (.refl _) ((State.Passes.refl _).count ..)).raise ..

theorem State.stepped_notes (s : State) (n m : Nat) : State.Notes (s.modTb (·.steppedTo m (s.tickOf m))) (s.stepped n m) := by
  refine State.Notes.trans ?_ (State.raise_frame ..)
  split
  · exact .refl _
  · exact State.count_frame ..

theorem State.raised_stepped (s : State) (n m : Nat) : Raised s (s.stepped n m) 0x0383 := by
  have before := (State.Passes.ite (d := (m == n) = true) (.refl (κ := True) (s.modTb (·.steppedTo m (s.tickOf m)))) ((State.Passes.refl _).count 0x2021 1 (m - n))).events
  exact State.raised_of_prefix (State.raised_raise _ 0x0383 (m - n)) before List.prefix_rfl

section
variable {s : State} {n : Nat} (next : s.tb.nextFrame = some n) (known : s.tb.st ≠ .acquiring)
include next known

theorem State.schedule_slew (once : s.tb.renumber = false) (near : s.tb.phaseError.natAbs ≤ s.us 0x2002 7) :
    s.schedule = some (n, s.modTb (fun b => { b with tickOffset := b.tickOffset - max (-(s.us 0x2002 6 : Int)) (min (s.us 0x2002 6 : Int) s.tb.phaseError) })) := by
  have near' : ¬(s.tb.renumber || decide ((s.us 0x2002 7 : Int) < s.tb.phaseError.natAbs)) = true := by
    rw [once, Bool.false_or, decide_eq_true_eq]
    omega
  unfold State.schedule
  rw [next]
  dsimp only
  rw [if_neg (by simpa using known), if_neg near']

theorem State.scheduled_slew (once : s.tb.renumber = false) (near : s.tb.phaseError.natAbs ≤ s.us 0x2002 7) :
    State.Scheduled s n n (s.modTb (fun b => { b with tickOffset := b.tickOffset - max (-(s.us 0x2002 6 : Int)) (min (s.us 0x2002 6 : Int) s.tb.phaseError) })) :=
  ⟨State.schedule_slew next known once near, .refl _, rfl, rfl, le_refl n⟩

theorem State.schedule_step (far : s.tb.renumber = true ∨ s.us 0x2002 7 < s.tb.phaseError.natAbs) : s.schedule = some (s.stepFrame n, s.stepped n (s.stepFrame n)) := by
  have far' : (s.tb.renumber || decide ((s.us 0x2002 7 : Int) < s.tb.phaseError.natAbs)) = true := by
    rw [Bool.or_eq_true, decide_eq_true_eq]
    exact far.imp_right fun h => by omega
  unfold State.schedule
  rw [next]
  dsimp only
  rw [if_neg (by simpa using known), if_pos far']
  rfl

theorem State.scheduled_step (far : s.tb.renumber = true ∨ s.us 0x2002 7 < s.tb.phaseError.natAbs) : State.Scheduled s n (s.stepFrame n) (s.stepped n (s.stepFrame n)) := by
  have notes := s.stepped_notes n (s.stepFrame n)
  refine ⟨State.schedule_step next known far, ?_, congrArg (·.disp.items) notes, congrArg (·.tb.everLocked) notes, Nat.le_max_left ..⟩
  rw [congrArg State.tb notes]
  exact s.stepped_passes n (s.stepFrame n)

end

/-! The instant of the tick (R67, R92) -/

/-- What the tick itself moves of the parts that the work at the tick leaves alone. -/
def State.ticked (s : State) (tb : Timebase) : State := { s with tb := tb, newel := { s.newel with pins := { s.newel.pins with ticks := s.newel.pins.ticks + 1 } } }

/-- R67: the timebase with frame n current. -/
def Timebase.begun (b : Timebase) (n tick : Nat) : Timebase := { b with curFrame := n, curTick := tick, ticked := true, liveFrame := n, nextFrame := some (n + 1) }

theorem State.tickAt_passes (s : State) (n : Nat) : State.Passes True (s.ticked (s.tb.begun n (s.tickOf n).toNat)) (s.tickAt n) :=
  ⟨rfl, rfl, rfl, rfl, rfl, rfl, rfl, fun _ => rfl, List.prefix_rfl, .refl _⟩

/-- R86: the tick has come, and the work of the frame before is done. -/
def State.oldFinished (s : State) (n : Nat) : State := ({ s.tickAt n with det := { s.det with unpaced := false } }).finishOld n

/-- At a commit's tick the filters that wait begin. -/
def State.beforeCommit (s : State) (n : Nat) : State := if (s.oldFinished n).ctl.st == .pending then (s.oldFinished n).beginFilters else s.oldFinished n

/-- No candidates are in hand, and no commit is pending: the processor in hand stands. -/
def State.Quiet (s : State) : Prop := s.ctl.st ≠ .pending ∧ ∀ i ∈ s.disp.items, i.kind ≠ .candidateBlock ∧ i.kind ≠ .candidateSingle

theorem State.oldFinished_passes (s : State) (n : Nat) : State.Passes s.Quiet (s.ticked (s.tb.begun n (s.tickOf n).toNat)) (s.oldFinished n) := by
  have ticked : State.Passes s.Quiet (s.ticked (s.tb.begun n (s.tickOf n).toNat)) { s.tickAt n with det := { s.det with unpaced := false } } :=
    ((s.tickAt_passes n).mono fun _ => trivial).keep
  refine ticked.finishOld n fun quiet i hi => ?_
  obtain ⟨-, quiet⟩ := quiet
  obtain ⟨j, hj, rfl⟩ := List.mem_map.1 (show i ∈ s.disp.items.map _ from hi)
  exact quiet j hj

theorem State.beforeCommit_passes (s : State) (n : Nat) : State.Passes s.Quiet (s.ticked (s.tb.begun n (s.tickOf n).toNat)) (s.beforeCommit n) := by
  have finished := s.oldFinished_passes n
  unfold State.beforeCommit
  generalize s.oldFinished n = v at finished ⊢
  split
  next pending =>
    have pending' : s.ctl.st = .pending := (congrArg CommitCtl.st finished.ctl).symm.trans (by simpa using pending)
    refine State.Passes.mono (finished.mono False.elim).beginFilters fun quiet => ?_
    obtain ⟨open', -⟩ := quiet
    exact open' pending'
  · exact finished

/-! After the commit (R71, R78) -/

/-- What follows the commit: units enter service, delayed items are released, the group takes its tick, and the frame begins. -/
def State.afterCommit (s : State) (set n : Nat) : State :=
  let s : State := if s.ctl.activeSetId == set then s.enterService s.tb.curTick else s
  ((s.remapLanes.releaseDue s.tb.curTick).groupTick).beginFrame n

theorem State.afterCommit_passes (s : State) (set n : Nat) : State.Passes True s (s.afterCommit set n) := by
  have stands := State.Passes.refl (κ := True) s
  unfold State.afterCommit
  extract_lets v
  have served : State.Passes True s v := (stands.enterService ..).ite stands
  clear_value v
  exact ((served.remapLanes.releaseDue ..).groupTick).beginFrame n

theorem exec_frameTick {s u : State} {m : Nat} (works : s.works = true) (live : s.det.replay ≠ .replaying) (stays : s.det.replay ≠ .leaving) (h : s.schedule = some (m, u)) :
    exec .frameTick s = .next (((u.beforeCommit m).commitAt m).afterCommit (u.oldFinished m).ctl.activeSetId m) := by
  have runs : ¬(!s.works || s.det.replay == .replaying || s.det.replay == .leaving) = true := by simp [works, live, stays]
  refine next_congr (Eq.trans (if_neg runs) ?_)
  rw [h]
  delta State.afterCommit State.beforeCommit State.oldFinished
  rfl

end Sys2Proof.Machine
end

section
/-!
SUPPORT. The commit at the tick of a frame (R57, R58), and what the tick leaves.
-/
namespace Sys2Proof.Machine
open Sys2Proof

set_option Elab.async false

/-! The pending commit at its tick -/

section
variable {s : State} {n : Nat}

theorem State.commitAt_now (pending : s.ctl.st = .pending) (due : s.ctl.target = n) : s.commitAt n = s.commitNow n := (if_neg (by simp [pending])).trans (if_pos (by simp [due]))

theorem State.commitAt_passed (pending : s.ctl.st = .pending) (passed : s.ctl.target < n) : s.commitAt n = s.cancelCommit :=
  (if_neg (by simp [pending])).trans ((if_neg (by simpa using passed.ne)).trans (if_pos passed))

theorem State.commitAt_other (h : s.ctl.st ≠ .pending ∨ n < s.ctl.target) : s.commitAt n = s := by
  by_cases pending : s.ctl.st = .pending
  · have ahead := h.resolve_left (not_not_intro pending)
    exact (if_neg (by simp [pending])).trans ((if_neg (by simpa using ahead.ne')).trans (if_neg (Nat.not_lt.2 ahead.le)))
  · exact if_pos (by simpa using pending)

end

/-- What even a commit leaves alone. -/
structure State.Ticks (r s : State) : Prop where
  tick : s.tb.tick = r.tb.tick
  rule : s.rule = r.rule
  power : s.power = r.power
  clocks : s.clocks = r.clocks
  ticks : s.newel.pins.ticks = r.newel.pins.ticks
  events : r.events <+: s.events

theorem State.Ticks.trans {r s t : State} (h : State.Ticks r s) (k : State.Ticks s t) : State.Ticks r t :=
  ⟨k.tick.trans h.tick, k.rule.trans h.rule, k.power.trans h.power, k.clocks.trans h.clocks, k.ticks.trans h.ticks, h.events.trans k.events⟩

theorem State.Passes.toTicks {κ : Prop} {r s : State} (h : State.Passes κ r s) : State.Ticks r s := ⟨by rw [h.tb], h.rule, h.power, h.clocks, h.ticks, h.events⟩

theorem State.commitNow_ticks (s : State) (ever : s.tb.everLocked = true) (k : Nat) : State.Ticks s (s.commitNow k) :=
  have h := s.commitNow_commits ever k
  ⟨h.tick, h.rule, h.power, h.clocks, h.ticks, h.events⟩

theorem State.cancelCommit_ticks (s : State) : State.Ticks s s.cancelCommit := by
  have notes := s.cancelCommit_notes
  exact ⟨congrArg (·.tb.tick) notes, (congrArg State.rule notes).trans rfl, (congrArg State.power notes).trans rfl, (congrArg State.clocks notes).trans rfl, congrArg (·.newel.pins.ticks) notes, s.cancelCommit_prefix⟩

theorem State.commitAt_ticks (s : State) (ever : s.tb.everLocked = true) (n : Nat) : State.Ticks s (s.commitAt n) := by
  rcases Decidable.em (s.ctl.st = .pending) with pending | none
  · rcases lt_trichotomy s.ctl.target n with passed | due | ahead
    · rw [State.commitAt_passed pending passed]
      exact s.cancelCommit_ticks
    · rw [State.commitAt_now pending due]
      exact s.commitNow_ticks ever n
    · rw [State.commitAt_other (.inr ahead)]
      exact (State.Passes.refl (κ := True) s).toTicks
  · rw [State.commitAt_other (.inl none)]
    exact (State.Passes.refl (κ := True) s).toTicks

/-- R57: after the commit an RWS object holds its staged value, or else its old one. -/
theorem State.activeVal_commitNow {s : State} (ever : s.tb.everLocked = true) (active : alSorted s.dict.active = true) (shadow : alSorted s.dict.shadow = true) (k : Nat) {idx sub : Nat}
    (h : NoImage idx sub) : (s.commitNow k).dict.activeVal idx sub = s.dict.val true idx sub := by
  have commits := s.commitNow_commits ever k
  have byte : sub < 256 := by
    obtain ⟨⟨-, byte⟩, -⟩ := h
    exact byte
  calc (s.commitNow k).dict.activeVal idx sub = s.swap.dict.activeVal idx sub := commits.dict.same idx sub h
    _ = (alGet (objKey idx sub) s.dict.shadow).getD (s.dict.activeVal idx sub) := s.dict.activeVal_swapped shadow active idx byte
    _ = s.dict.val true idx sub := (s.dict.val_staged idx sub).symm

/-! The tick -/

/-- The state that the tick of frame m leaves, from the schedule on. -/
def State.tickDone (u : State) (m : Nat) : State := ((u.beforeCommit m).commitAt m).afterCommit (u.oldFinished m).ctl.activeSetId m

section
variable (u : State) (m : Nat)

theorem State.beforeCommit_ctl : (u.beforeCommit m).ctl = u.ctl := (u.beforeCommit_passes m).ctl
theorem State.beforeCommit_shadow : (u.beforeCommit m).dict.shadow = u.dict.shadow := (u.beforeCommit_passes m).shadow

theorem State.tickDone_passes : State.Passes True ((u.beforeCommit m).commitAt m) (u.tickDone m) := State.afterCommit_passes ..

variable {u m} (ever : u.tb.everLocked = true)
include ever

theorem State.beforeCommit_ever : (u.beforeCommit m).tb.everLocked = true := by
  rw [(u.beforeCommit_passes m).tb]
  exact ever

theorem State.tickDone_ticks : State.Ticks (u.ticked (u.tb.begun m (u.tickOf m).toNat)) (u.tickDone m) :=
  ((u.beforeCommit_passes m).toTicks.trans ((u.beforeCommit m).commitAt_ticks (State.beforeCommit_ever ever) m)).trans (u.tickDone_passes m).toTicks

end

section
variable {u : State} {m : Nat}

theorem State.tickDone_eng (quiet : u.Quiet) : (u.tickDone m).eng = u.eng := by
  obtain ⟨none, items⟩ := quiet
  have same : (u.beforeCommit m).commitAt m = u.beforeCommit m := State.commitAt_other (.inl (by rwa [u.beforeCommit_ctl]))
  exact ((u.tickDone_passes m).eng trivial).trans ((congrArg State.eng same).trans ((u.beforeCommit_passes m).eng ⟨none, items⟩))

theorem State.tickDone_other (h : u.ctl.st ≠ .pending ∨ m < u.ctl.target) : (u.tickDone m).ctl = u.ctl ∧ (u.tickDone m).dict.shadow = u.dict.shadow := by
  have passes := u.tickDone_passes m
  rw [State.commitAt_other (by rwa [u.beforeCommit_ctl])] at passes
  exact ⟨passes.ctl.trans (u.beforeCommit_ctl m), passes.shadow.trans (u.beforeCommit_shadow m)⟩

theorem State.tickDone_passed (pending : u.ctl.st = .pending) (passed : u.ctl.target < m) :
    (u.tickDone m).ctl = { u.ctl with st := .checked, target := 0 } ∧ (u.tickDone m).dict.shadow = u.dict.shadow ∧ Raised u (u.tickDone m) 0x0111 := by
  have passes := u.tickDone_passes m
  have pending' : (u.beforeCommit m).ctl.st = .pending := by rwa [u.beforeCommit_ctl]
  rw [State.commitAt_passed pending' (by rwa [u.beforeCommit_ctl])] at passes
  refine ⟨?_, ?_, State.raised_of_prefix (State.raised_cancelCommit pending') (u.beforeCommit_passes m).events passes.events⟩
  · rw [passes.ctl, State.cancelCommit_ctl pending', u.beforeCommit_ctl]
  · rw [passes.shadow, ← u.beforeCommit_shadow m, State.cancelCommit_pending pending']
    exact ((State.Passes.refl (κ := True) (u.beforeCommit m).withCommitCancelled).raiseOpen ..).shadow

theorem State.tickDone_now (ever : u.tb.everLocked = true) (active : alSorted u.dict.active = true) (shadow : alSorted u.dict.shadow = true) (pending : u.ctl.st = .pending) (due : u.ctl.target = m) :
    (u.tickDone m).ctl.st = .idle ∧ (u.tickDone m).ctl.activeSetId = (u.ctl.activeSetId + 1) % 2 ^ 32 ∧ (u.tickDone m).dict.shadow = [] ∧
      ∀ idx sub, NoImage idx sub → (u.tickDone m).dict.activeVal idx sub = u.dict.val true idx sub := by
  have before := u.beforeCommit_passes m
  have passes := u.tickDone_passes m
  have ctl := u.beforeCommit_ctl m
  have staged := u.beforeCommit_shadow m
  have ever' := State.beforeCommit_ever (m := m) ever
  generalize u.beforeCommit m = v at before passes ctl staged ever'
  have commits := v.commitNow_commits ever' m
  rw [State.commitAt_now (by rwa [ctl]) (by rwa [ctl])] at passes
  refine ⟨by rw [passes.ctl, commits.idle], ?_, passes.shadow.trans commits.shadow, fun idx sub h => ?_⟩
  · rw [passes.ctl, commits.set]
    exact congrArg (fun c : CommitCtl => (c.activeSetId + 1) % 2 ^ 32) ctl
  · obtain ⟨plain, below⟩ := h
    calc (u.tickDone m).dict.activeVal idx sub = (v.commitNow m).dict.activeVal idx sub := passes.dict.same idx sub plain
      _ = v.dict.val true idx sub := State.activeVal_commitNow ever' (before.dict.sorted active) (staged ▸ shadow) m ⟨plain, below⟩
      _ = u.dict.val true idx sub := by rw [Dict.val_staged, Dict.val_staged, staged, before.dict.same idx sub plain]; rfl

end

/-- R29: an RWS object below the images is neither a counter nor part of an image. -/
theorem noImage_of_rws {idx sub : Nat} {row : ObjRow} (below : idx < 0xC000) (byte : sub < 256) (found : objFind idx sub = some row) (rws : row.access = .rws) : NoImage idx sub :=
  ⟨⟨isCounterIndex_of_rws found rws, byte⟩, below⟩

section
variable {s u : State} {n m : Nat} (h : State.Scheduled s n m u)
include h

theorem State.Scheduled.ctl : u.ctl = s.ctl := h.notes.ctl
theorem State.Scheduled.val (sub : Nat) {idx : Nat} (plain : NoCounter idx sub) : u.dict.val true idx sub = s.dict.val true idx sub := by
  rw [Dict.val_staged, Dict.val_staged, h.notes.shadow, h.notes.dict.same idx sub plain]

theorem State.Scheduled.quiet (none : s.ctl.st ≠ .pending) (items : ∀ i ∈ s.disp.items, i.kind ≠ .candidateBlock ∧ i.kind ≠ .candidateSingle) : u.Quiet :=
  ⟨by rwa [h.ctl], by rwa [h.items]⟩

end

/-- What the tick of a scheduled frame does, whether the tick clock was slewed or stepped for it. -/
structure State.Ticked (s u : State) (m : Nat) (t : State) : Prop where
  ticked : t.tb.ticked = true
  next : t.tb.nextFrame = some (t.tb.curFrame + 1)
  pulse : t.newel.pins.ticks = s.newel.pins.ticks + 1
  frame : t.tb.curFrame = m
  instant : t.tb.curTick = (u.tickOf m).toNat
  clock : t.tb.tickOffset = u.tb.tickOffset
  events : u.events <+: t.events
  now : s.ctl.st = .pending → s.ctl.target = t.tb.curFrame →
    t.ctl.st = .idle ∧ t.ctl.activeSetId = (s.ctl.activeSetId + 1) % 2 ^ 32 ∧ t.dict.shadow = [] ∧
      ∀ i j row, i < 0xC000 → j < 256 → objFind i j = some row → row.access = .rws → t.dict.activeVal i j = s.dict.val true i j
  passed : s.ctl.st = .pending → s.ctl.target < t.tb.curFrame → t.ctl = { s.ctl with st := .checked, target := 0 } ∧ t.dict.shadow = s.dict.shadow ∧ Raised s t 0x0111
  other : s.ctl.st ≠ .pending ∨ t.tb.curFrame < s.ctl.target → t.ctl = s.ctl ∧ t.dict.shadow = s.dict.shadow
  eng : s.ctl.st ≠ .pending → (∀ i ∈ s.disp.items, i.kind ≠ .candidateBlock ∧ i.kind ≠ .candidateSingle) → t.eng = s.eng
  rule : t.rule = s.rule
  power : t.power = s.power
  clocks : t.clocks = s.clocks

theorem State.Scheduled.ticked {s u : State} {n m : Nat} (h : State.Scheduled s n m u) (ever : s.tb.everLocked = true) (active : alSorted s.dict.active = true) (shadow : alSorted s.dict.shadow = true) :
    State.Ticked s u m (u.tickDone m) := by
  have ever' : u.tb.everLocked = true := h.ever.trans ever
  have ticks := State.tickDone_ticks (m := m) ever'
  obtain ⟨frame, instant, next, ticked, clock, -⟩ : (u.tickDone m).tb.curFrame = m ∧ (u.tickDone m).tb.curTick = (u.tickOf m).toNat ∧ (u.tickDone m).tb.nextFrame = some (m + 1)
      ∧ (u.tickDone m).tb.ticked = true ∧ (u.tickDone m).tb.tickOffset = u.tb.tickOffset ∧ (u.tickDone m).tb.everLocked = u.tb.everLocked := by
    have tick := ticks.tick
    simp only [Timebase.tick, Prod.mk.injEq] at tick
    exact tick
  constructor
  case ticked => exact ticked
  case next => rw [next, frame]
  case pulse => exact ticks.ticks.trans (congrArg (· + 1) h.notes.ticks)
  case frame => exact frame
  case instant => exact instant
  case clock => exact clock
  case events => exact ticks.events
  case now =>
    rw [frame]
    intro pending due
    obtain ⟨idle, set, swapped, values⟩ := State.tickDone_now (u := u) (m := m) ever' (h.notes.dict.sorted active) (h.notes.shadow ▸ shadow) (by rwa [h.ctl]) (by rwa [h.ctl])
    refine ⟨idle, by rw [set, h.ctl], swapped, fun i j row below byte found rws => ?_⟩
    have plain := noImage_of_rws below byte found rws
    rw [values i j plain]
    obtain ⟨plain, -⟩ := plain
    exact h.val j plain
  case passed =>
    rw [frame]
    intro pending passed
    obtain ⟨ctl, kept, told⟩ := State.tickDone_passed (u := u) (m := m) (by rwa [h.ctl]) (by rwa [h.ctl])
    exact ⟨by rw [ctl, h.ctl], kept.trans h.notes.shadow, State.raised_of_prefix told h.notes.events List.prefix_rfl⟩
  case other =>
    rw [frame]
    intro other
    obtain ⟨ctl, kept⟩ := State.tickDone_other (u := u) (m := m) (by rwa [h.ctl])
    exact ⟨ctl.trans h.ctl, kept.trans h.notes.shadow⟩
  case eng => exact fun none items => (State.tickDone_eng (h.quiet none items)).trans (h.notes.eng trivial)
  case rule => exact ticks.rule.trans h.notes.rule
  case power => exact ticks.power.trans h.notes.power
  case clocks => exact ticks.clocks.trans h.notes.clocks

theorem exec_frameTick_none {s : State} (h : s.works = false ∨ s.tb.nextFrame = none) : exec .frameTick s = .next s := by
  refine next_congr ?_
  by_cases stops : (!s.works || s.det.replay == .replaying || s.det.replay == .leaving) = true
  · exact if_pos stops
  · have none : s.tb.nextFrame = none := h.resolve_left fun off => stops (by simp [off])
    have unscheduled : s.schedule = .none := by rw [State.schedule, none]
    refine Eq.trans (if_neg stops) ?_
    rw [unscheduled]

/-- Settles O13: the schedule is slewed or stepped, and either way the same tick follows. -/
theorem theTickBeginsItsFrame : Obligations.TheTickBeginsItsFrame := by
  unfold Obligations.TheTickBeginsItsFrame
  intro s n
  refine ⟨exec_frameTick_none, fun works live stays next known unlocked active shadow => ?_⟩
  have runs {u : State} {m : Nat} (h : State.Scheduled s n m u) : exec .frameTick s = .next (u.tickDone m) := exec_frameTick works live stays h.schedule
  by_cases far : s.tb.renumber = true ∨ s.us 0x2002 7 < s.tb.phaseError.natAbs
  · have h := State.scheduled_step next known far
    have clock : (s.stepped n (s.stepFrame n)).tb.tickOffset = s.tb.tbOffset := congrArg (·.tb.tickOffset) (s.stepped_notes n (s.stepFrame n))
    have told := s.raised_stepped n (s.stepFrame n)
    generalize s.stepped n (s.stepFrame n) = u at h clock told
    have t := h.ticked unlocked active shadow
    refine ⟨_, runs h, t.ticked, t.next, t.pulse, fun once near => ?_, fun _ _ => ⟨h.late.trans t.frame.ge, t.clock.trans clock, State.raised_of_prefix told List.prefix_rfl t.events⟩,
      t.now, t.passed, t.other, t.eng, t.rule, t.power, t.clocks⟩
    rcases far with renumber | beyond
    · exact absurd (once.symm.trans renumber) nofun
    · exact absurd near (Nat.not_le.2 beyond)
  · obtain ⟨once, near⟩ := not_or.1 far
    have h := State.scheduled_slew next known (by simpa using once) (Nat.not_lt.1 near)
    have t := h.ticked unlocked active shadow
    exact ⟨_, runs h, t.ticked, t.next, t.pulse, fun _ _ => ⟨t.frame, t.instant, t.clock⟩, fun _ beyond => absurd beyond near, t.now, t.passed, t.other, t.eng, t.rule, t.power, t.clocks⟩

end Sys2Proof.Machine
end

section
/-!
SYNC (R65, R66, R68, R69): LOCKED entered, and what a Sync of the followed port and domain does to the timebase.
-/
namespace Sys2Proof.Machine
open Sys2Proof

set_option Elab.async false

/-! Locking (R66, R69) -/

/-- R66: LOCKED entered, reported, with the cause TIMEBASE of DEGRADED taken back; what a first lock fixes comes after. -/
def State.lockTaken (s : State) : State := ((s.modTb (fun b => { b with st := .locked })).raiseOpen s.tb.curFrame 0x0380).clearCause 2

theorem State.lockTaken_safety (s : State) : State.SafetyNotes (s.modTb (fun b => { b with st := .locked })) s.lockTaken :=
  (State.raiseOpen_frame ..).safety.trans (State.clearCause_frame ..)

theorem State.lockTaken_works (s : State) : State.Works (s.modTb (fun b => { b with st := .locked })) s.lockTaken :=
  (State.raiseOpen_works ..).trans (State.clearCause_works _ (by decide))

theorem State.raised_lockTaken (s : State) : Raised s s.lockTaken 0x0380 :=
  State.raised_of_prefix ((s.modTb (fun b => { b with st := .locked })).raised_raiseOpen s.tb.curFrame 0x0380) List.prefix_rfl (State.clearCause_works _ (by decide)).events

theorem State.firstLock_timeOnly (s : State) : TimeOnly s s.firstLock := rfl

/-- R69: what the first lock after a reset fixes: frame 0 at Epoch, and the first frame at least 1 ms ahead. -/
theorem State.firstLock_tb (s : State) : s.firstLock.tb = { s.tb with
    everLocked := true, epochUsed := some (s.cfg 0x2001 0), anchorFrame := 0, anchorTick := (s.cfg 0x2001 0 : Int), tickOffset := s.tb.tbOffset
    nextFrame := some (s.firstLock.frameFrom 0 ((s.firstLock.time : Int) + 1000000)) } := rfl

section
variable {s : State} (h : s.tb.st ≠ .locked)
include h

theorem State.enterLocked_eq : s.enterLocked = (if s.lockTaken.tb.everLocked then s.lockTaken else s.lockTaken.firstLock).signalStatus := if_neg (by simpa using h)

/-- R66: a lock that is not the first keeps the tick clock. -/
theorem State.enterLocked_again (ever : s.tb.everLocked = true) : s.enterLocked = s.lockTaken.signalStatus := by
  have taken : s.lockTaken.tb.everLocked = true := (congrArg (·.tb.everLocked) s.lockTaken_safety).trans ever
  rw [State.enterLocked_eq h, if_pos taken]

theorem State.enterLocked_first (first : s.tb.everLocked = false) : s.enterLocked = s.lockTaken.firstLock.signalStatus := by
  have taken : ¬s.lockTaken.tb.everLocked = true := by rw [congrArg (·.tb.everLocked) s.lockTaken_safety]; simp [State.modTb, first]
  rw [State.enterLocked_eq h, if_neg taken]

theorem State.enterLocked_timeOnly : TimeOnly s s.enterLocked := by
  have taken : TimeOnly s s.lockTaken := timeOnly_trans (timeOnly_modTb ..) s.lockTaken_safety.timeOnly
  have shown (u : State) : TimeOnly u u.signalStatus := u.signalStatus_frame.notes.safety.timeOnly
  cases ever : s.tb.everLocked
  · rw [State.enterLocked_first h ever]
    exact timeOnly_trans taken (timeOnly_trans (State.firstLock_timeOnly _) (shown _))
  · rw [State.enterLocked_again h ever]
    exact timeOnly_trans taken (shown _)

theorem State.enterLocked_tb_again (ever : s.tb.everLocked = true) : s.enterLocked.tb = { s.tb with st := .locked } := by
  rw [State.enterLocked_again h ever]
  exact (congrArg State.tb (State.signalStatus_frame _)).trans (congrArg State.tb s.lockTaken_safety)

/-- R69: what entering LOCKED for the first time leaves in the timebase. -/
theorem State.enterLocked_tb_first (first : s.tb.everLocked = false) : s.enterLocked.tb = { s.tb with
    st := .locked, everLocked := true, epochUsed := some (s.cfg 0x2001 0), anchorFrame := 0, anchorTick := (s.cfg 0x2001 0 : Int), tickOffset := s.tb.tbOffset
    nextFrame := some (s.enterLocked.frameFrom 0 ((s.enterLocked.time : Int) + 1000000)) } := by
  have epoch : s.lockTaken.cfg 0x2001 0 = s.cfg 0x2001 0 := congrArg Value.toNum (s.lockTaken_works.dict.same 0x2001 0 ⟨by decide, by decide⟩)
  have tb : s.lockTaken.tb = { s.tb with st := .locked } := congrArg State.tb s.lockTaken_safety
  rw [State.enterLocked_first h first, s.lockTaken.firstLock.signalStatus_frame]
  exact s.lockTaken.firstLock_tb.trans (by rw [epoch, tb]; rfl)

theorem State.raised_enterLocked : Raised s s.enterLocked 0x0380 := by
  have shown (u : State) (same : u.events = s.lockTaken.events) : Raised s u.signalStatus 0x0380 :=
    State.raised_of_prefix s.raised_lockTaken List.prefix_rfl (same ▸ u.signalStatus_works.events)
  rw [State.enterLocked_eq h]
  split
  · exact shown _ rfl
  · exact shown _ rfl

end

/-- The parts of the timebase that a lock leaves alone: the grandmaster, the offset measured, the time of the last Sync, and the timebase's own offset. -/
def Timebase.sync (b : Timebase) := (b.gmId, b.servoOffset, b.lastSync, b.tbOffset)

theorem State.enterLocked_sync {s : State} (h : s.tb.st ≠ .locked) : s.enterLocked.tb.sync = s.tb.sync := by
  cases ever : s.tb.everLocked
  · rw [State.enterLocked_tb_first h ever]; rfl
  · rw [State.enterLocked_tb_again h ever]; rfl

/-! One Sync (R66, R68) -/

/-- R66: a grandmaster is another than the one known. -/
def Timebase.otherThan (b : Timebase) (g : Nat) : Bool := match b.gmId with | some x => x != g | none => false

theorem Timebase.otherThan_iff (b : Timebase) (g : Nat) : b.otherThan g = true ↔ ∃ x, b.gmId = some x ∧ x ≠ g := by
  unfold Timebase.otherThan
  cases b.gmId <;> simp

/-- R66: the offset that a Sync measures. -/
def State.syncOffset (s : State) (m : SyncMsg) : Int := (s.time : Int) - m.origin

/-- R66: the Sync recorded. -/
def State.syncHeard (s : State) (m : SyncMsg) : State :=
  s.modTb (fun b => { b with gmId := some m.grandmaster, lastSync := s.now, servoOffset := s.syncOffset m })

/-- R66: a Sync that a LOCKED timebase does not follow: of another grandmaster, or with a large offset. -/
def State.syncBreaks (s : State) (m : SyncMsg) : Bool := s.tb.otherThan m.grandmaster || decide (s.cfg 0x2002 4 < (s.syncOffset m).natAbs)

/-- R66: the Sync recorded, in HOLDOVER where it breaks the lock. -/
def State.syncJudged (s : State) (m : SyncMsg) : State := if s.syncBreaks m then (s.syncHeard m).enterHoldover else s.syncHeard m

/-- R66, R68: the timebase loses the offset measured, and the tick clock with it only where it has none of its own yet; the count of good intervals goes on or begins again. -/
def Timebase.servoed (b : Timebase) (off : Int) (lim : Nat) (other : Bool) : Timebase :=
  { b with tbOffset := b.tbOffset - off, tickOffset := if b.st == .acquiring then b.tbOffset - off else b.tickOffset
           goodSyncs := if off.natAbs ≤ lim then (if other then 1 else b.goodSyncs + 1) else 0 }

/-- R66: the Sync recorded and the timebase set by it, outside LOCKED. -/
def State.syncServoed (s : State) (m : SyncMsg) : State := (s.syncJudged m).modTb (·.servoed (s.syncOffset m) (s.cfg 0x2002 3) (s.tb.otherThan m.grandmaster))

/-- R66: the sixteenth good interval in a row, with the tick phase error within the threshold. -/
def State.syncLocks (s : State) (m : SyncMsg) : Bool := 16 ≤ (s.syncServoed m).tb.goodSyncs && decide ((s.syncServoed m).tb.phaseError.natAbs ≤ s.cfg 0x2002 3)

theorem State.syncWith_eq (s : State) (m : SyncMsg) : s.syncWith m =
    if (s.syncJudged m).tb.st == .locked then (s.syncJudged m).modTb (fun b => { b with tbOffset := b.tbOffset - s.syncOffset m, tickOffset := b.tickOffset - s.syncOffset m })
    else if s.syncLocks m then (s.syncServoed m).enterLocked else s.syncServoed m := rfl

section
variable {s : State} {m : SyncMsg}

/-- R66, R68: in LOCKED a small offset moves both clocks. -/
theorem State.syncWith_follows (locked : s.tb.st = .locked) (near : s.syncBreaks m = false) :
    s.syncWith m = (s.syncHeard m).modTb (fun b => { b with tbOffset := b.tbOffset - s.syncOffset m, tickOffset := b.tickOffset - s.syncOffset m }) := by
  have judged : s.syncJudged m = s.syncHeard m := if_neg (by simp [near])
  rw [State.syncWith_eq, judged]
  exact if_pos (beq_iff_eq.2 locked)

/-- R66: where LOCKED is broken the timebase is in HOLDOVER, and its next lock is at least sixteen intervals away. -/
theorem State.syncWith_breaks (locked : s.tb.st = .locked) (far : s.syncBreaks m = true) :
    s.syncWith m = (s.syncHeard m).enterHoldover.modTb (·.servoed (s.syncOffset m) (s.cfg 0x2002 3) (s.tb.otherThan m.grandmaster)) := by
  have judged : s.syncJudged m = (s.syncHeard m).enterHoldover := if_pos far
  have tb : (s.syncHeard m).enterHoldover.tb = (s.syncHeard m).tb.heldOver s.now := State.enterHoldover_tb (s := s.syncHeard m) locked
  have early : (s.syncServoed m).tb.goodSyncs ≤ 1 := by
    have e : (s.syncServoed m).tb = ((s.syncHeard m).tb.heldOver s.now).servoed (s.syncOffset m) (s.cfg 0x2002 3) (s.tb.otherThan m.grandmaster) := by
      rw [← tb, ← judged]; rfl
    rw [e]
    simp only [Timebase.servoed, Timebase.heldOver]
    split <;> [split; skip] <;> omega
  have none : s.syncLocks m = false := by simp [State.syncLocks]; omega
  rw [State.syncWith_eq, none, State.syncServoed, judged]
  exact (if_neg (by rw [tb]; nofun)).trans (if_neg nofun)

theorem State.syncJudged_open (h : s.tb.st ≠ .locked) : s.syncJudged m = s.syncHeard m := by
  unfold State.syncJudged
  rw [State.enterHoldover_notLocked (s := s.syncHeard m) h]
  exact ite_self _

/-- R66: outside LOCKED the timebase is set by the Sync, and locks where the count is full. -/
theorem State.syncWith_open (h : s.tb.st ≠ .locked) : s.syncWith m = if s.syncLocks m then (s.syncServoed m).enterLocked else s.syncServoed m := by
  rw [State.syncWith_eq, State.syncJudged_open h]
  exact if_neg (by simpa [State.syncHeard] using h)

theorem State.syncServoed_open (h : s.tb.st ≠ .locked) : s.syncServoed m = (s.syncHeard m).modTb (·.servoed (s.syncOffset m) (s.cfg 0x2002 3) (s.tb.otherThan m.grandmaster)) := by
  rw [State.syncServoed, State.syncJudged_open h]

theorem State.syncServoed_st (h : s.tb.st ≠ .locked) : (s.syncServoed m).tb.st = s.tb.st := by rw [State.syncServoed_open h]; rfl

/-- The sixteenth good interval in a row locks, the tick phase being within the threshold. -/
theorem State.syncWith_locks (h : s.tb.st ≠ .locked) (good : 16 ≤ (s.syncServoed m).tb.goodSyncs) (near : (s.syncServoed m).tb.phaseError.natAbs ≤ s.cfg 0x2002 3) :
    s.syncWith m = (s.syncServoed m).enterLocked := by
  rw [State.syncWith_open h]
  exact if_pos (by simp [State.syncLocks, good, near])

end

theorem State.syncWith_timeOnly (s : State) (m : SyncMsg) : TimeOnly s (s.syncWith m) := by
  have heard : TimeOnly s (s.syncHeard m) := rfl
  have judged : TimeOnly s (s.syncJudged m) := by
    unfold State.syncJudged
    split
    · exact timeOnly_trans heard (State.enterHoldover_timeOnly _)
    · exact heard
  have servoed : TimeOnly s (s.syncServoed m) := timeOnly_trans judged (timeOnly_modTb ..)
  rw [State.syncWith_eq]
  split
  · exact timeOnly_trans judged (timeOnly_modTb ..)
  case isFalse free =>
    split
    · exact timeOnly_trans servoed (State.enterLocked_timeOnly (by simpa [State.syncServoed, Timebase.servoed] using free))
    · exact servoed

/-- R66, R68: every Sync followed is recorded, and sets the timebase to the grandmaster's time. -/
theorem State.syncWith_sync (s : State) (m : SyncMsg) : (s.syncWith m).tb.sync = (some m.grandmaster, s.syncOffset m, s.now, s.tb.tbOffset - s.syncOffset m) := by
  by_cases locked : s.tb.st = .locked
  · cases far : s.syncBreaks m
    · rw [State.syncWith_follows locked far]; rfl
    · rw [State.syncWith_breaks locked far]
      have tb : (s.syncHeard m).enterHoldover.tb = (s.syncHeard m).tb.heldOver s.now := State.enterHoldover_tb (s := s.syncHeard m) locked
      show ((s.syncHeard m).enterHoldover.tb.servoed ..).sync = _
      rw [tb]
      rfl
  · have servoed : (s.syncServoed m).tb.sync = (some m.grandmaster, s.syncOffset m, s.now, s.tb.tbOffset - s.syncOffset m) := by rw [State.syncServoed_open locked]; rfl
    rw [State.syncWith_open locked]
    split
    · rw [State.enterLocked_sync (by rwa [State.syncServoed_st locked]), servoed]
    · exact servoed

section
variable {s : State} {m : SyncMsg}

/-- R66: the lock is kept: both clocks move, and nothing is raised. -/
theorem State.syncWith_kept (locked : s.tb.st = .locked) (same : s.tb.otherThan m.grandmaster = false) (near : (s.syncOffset m).natAbs ≤ s.cfg 0x2002 4) :
    (s.syncWith m).tb.st = .locked ∧ (s.syncWith m).tb.tickOffset = s.tb.tickOffset - s.syncOffset m ∧ (s.syncWith m).events = s.events := by
  rw [State.syncWith_follows locked (by simp [State.syncBreaks, same, near])]
  exact ⟨locked, rfl, rfl⟩

/-- R66, R465: the lock is broken: HOLDOVER from now on, the tick clock as it was, event 0x0381 and cause TIMEBASE. -/
theorem State.syncWith_lost (locked : s.tb.st = .locked) (far : s.syncBreaks m = true) :
    (s.syncWith m).tb.st = .holdover ∧ (s.syncWith m).tb.tickOffset = s.tb.tickOffset ∧ (s.syncWith m).tb.holdoverSince = s.now ∧ Raised s (s.syncWith m) 0x0381 ∧
      (s.syncWith m).newel.degraded.testBit 2 = true := by
  have tb : (s.syncHeard m).enterHoldover.tb = (s.syncHeard m).tb.heldOver s.now := State.enterHoldover_tb (s := s.syncHeard m) locked
  rw [State.syncWith_breaks locked far]
  refine ⟨congrArg Timebase.st tb, ?_, congrArg Timebase.holdoverSince tb, State.raised_enterHoldover (s := s.syncHeard m) locked, State.enterHoldover_degraded (s := s.syncHeard m) locked⟩
  show ((s.syncHeard m).enterHoldover.tb.servoed ..).tickOffset = _
  rw [tb]
  rfl

/-- R66: outside LOCKED a large offset begins the count anew. -/
theorem State.syncWith_restarts (h : s.tb.st ≠ .locked) (far : s.cfg 0x2002 3 < (s.syncOffset m).natAbs) : (s.syncWith m).tb.st = s.tb.st ∧ (s.syncWith m).tb.goodSyncs = 0 := by
  have count : (s.syncServoed m).tb.goodSyncs = 0 := by
    rw [State.syncServoed_open h]
    exact if_neg (by omega)
  have none : s.syncLocks m = false := by simp [State.syncLocks, count]
  rw [State.syncWith_open h, none]
  exact ⟨State.syncServoed_st h, count⟩

/-- A good interval of the same grandmaster that fills the count. -/
theorem State.syncServoed_goodSyncs (h : s.tb.st ≠ .locked) (same : s.tb.otherThan m.grandmaster = false) (near : (s.syncOffset m).natAbs ≤ s.cfg 0x2002 3) :
    (s.syncServoed m).tb.goodSyncs = s.tb.goodSyncs + 1 := by
  rw [State.syncServoed_open h]
  exact (if_pos near).trans (if_neg (by simp [same]))

/-- R66: in HOLDOVER and FREE_RUN, once locked, the tick clock keeps its course, whether the Sync locks or not. -/
theorem State.syncWith_tickOffset (h : s.tb.st = .holdover ∨ s.tb.st = .freeRun) (ever : s.tb.everLocked = true) : (s.syncWith m).tb.tickOffset = s.tb.tickOffset := by
  have free : s.tb.st ≠ .locked := by rcases h with h | h <;> simp [h]
  have servoed : (s.syncServoed m).tb.tickOffset = s.tb.tickOffset := by
    rw [State.syncServoed_open free]
    exact if_neg (by rcases h with h | h <;> simp [State.syncHeard, h])
  have ever' : (s.syncServoed m).tb.everLocked = true := by rw [State.syncServoed_open free]; exact ever
  rw [State.syncWith_open free]
  split
  · rw [State.enterLocked_tb_again (by rwa [State.syncServoed_st free]) ever']
    exact servoed
  · exact servoed

/-- R66: in HOLDOVER and FREE_RUN the sixteenth good interval locks, with the tick phase error within the threshold. -/
theorem State.syncWith_relocks (h : s.tb.st = .holdover ∨ s.tb.st = .freeRun) (ever : s.tb.everLocked = true) (same : s.tb.otherThan m.grandmaster = false)
    (near : (s.syncOffset m).natAbs ≤ s.cfg 0x2002 3) (count : 15 ≤ s.tb.goodSyncs) (phase : (s.tb.tickOffset - (s.tb.tbOffset - s.syncOffset m)).natAbs ≤ s.cfg 0x2002 3) :
    (s.syncWith m).tb.st = .locked ∧ Raised s (s.syncWith m) 0x0380 := by
  have free : s.tb.st ≠ .locked := by rcases h with h | h <;> simp [h]
  have free' : (s.syncServoed m).tb.st ≠ .locked := by rwa [State.syncServoed_st free]
  have error : (s.syncServoed m).tb.phaseError = s.tb.tickOffset - (s.tb.tbOffset - s.syncOffset m) := by
    rw [State.syncServoed_open free]
    exact congrArg (· - _) (if_neg (by rcases h with h | h <;> simp [State.syncHeard, h]))
  have ever' : (s.syncServoed m).tb.everLocked = true := by rw [State.syncServoed_open free]; exact ever
  have events : (s.syncServoed m).events = s.events := by rw [State.syncServoed_open free]; rfl
  rw [State.syncWith_locks free (by rw [State.syncServoed_goodSyncs free same near]; omega) (by rwa [error])]
  exact ⟨by rw [State.enterLocked_tb_again free' ever'], State.raised_of_prefix (State.raised_enterLocked free') (by rw [events]) List.prefix_rfl⟩

/-- R69: the first lock after a reset, in ACQUIRING, where the tick clock is the timebase. -/
theorem State.syncWith_firstLock (h : s.tb.st = .acquiring) (first : s.tb.everLocked = false) (same : s.tb.otherThan m.grandmaster = false) (near : (s.syncOffset m).natAbs ≤ s.cfg 0x2002 3)
    (count : 15 ≤ s.tb.goodSyncs) :
    (s.syncWith m).tb.st = .locked ∧ (s.syncWith m).tb.everLocked = true ∧ (s.syncWith m).tb.anchorFrame = 0 ∧ (s.syncWith m).tb.anchorTick = (s.cfg 0x2001 0 : Int) ∧
      (s.syncWith m).tb.nextFrame = some ((s.syncWith m).frameFrom 0 (((s.syncWith m).time : Int) + 1000000)) := by
  have free : s.tb.st ≠ .locked := by simp [h]
  have free' : (s.syncServoed m).tb.st ≠ .locked := by rwa [State.syncServoed_st free]
  have error : (s.syncServoed m).tb.phaseError = 0 := by
    rw [State.syncServoed_open free]
    exact (congrArg (· - _) (if_pos (by simp [State.syncHeard, h]))).trans (Int.sub_self _)
  have first' : (s.syncServoed m).tb.everLocked = false := by rw [State.syncServoed_open free]; exact first
  have epoch : (s.syncServoed m).cfg 0x2001 0 = s.cfg 0x2001 0 := by rw [State.syncServoed_open free]; rfl
  rw [State.syncWith_locks free (by rw [State.syncServoed_goodSyncs free same near]; omega) (by rw [error]; exact Nat.zero_le _)]
  have tb := State.enterLocked_tb_first free' first'
  rw [epoch] at tb
  exact ⟨congrArg Timebase.st tb, congrArg Timebase.everLocked tb, congrArg Timebase.anchorFrame tb, congrArg Timebase.anchorTick tb, congrArg Timebase.nextFrame tb⟩

end

/-- Settles O11: a Sync that is followed is recorded and sets the timebase, and each state of the timebase has its lemma for what else it does there. -/
theorem syncDisciplinesTheTimebase : Obligations.SyncDisciplinesTheTimebase := by
  unfold Obligations.SyncDisciplinesTheTimebase
  intro s t m
  refine ⟨fun ignores => next_congr (if_neg ?_), fun follows => ?_⟩
  · have off : (s.at t).followsGptp m.source m.domain = false := ignores
    simp [off]
  have sync := (s.at t).syncWith_sync m
  simp only [Timebase.sync, Prod.mk.injEq] at sync
  obtain ⟨master, offset, last, tb⟩ := sync
  have same (h : ¬∃ g, s.tb.gmId = some g ∧ g ≠ m.grandmaster) : (s.at t).tb.otherThan m.grandmaster = false := Bool.eq_false_iff.2 (mt (Timebase.otherThan_iff ..).1 h)
  refine ⟨(s.at t).syncWith m, next_congr (if_pos follows), timeOnly_trans (timeOnly_at s t) (State.syncWith_timeOnly ..), master, offset, last, tb,
    fun locked own near => State.syncWith_kept locked (same own) near, fun locked broken => ?_, fun open' ever => ⟨State.syncWith_tickOffset open' ever, fun near own count phase => ?_, fun far => ?_⟩,
    fun acquiring first near own count => State.syncWith_firstLock acquiring first (same own) near count⟩
  · refine State.syncWith_lost (s := s.at t) locked ?_
    rw [State.syncBreaks, Bool.or_eq_true, Timebase.otherThan_iff, decide_eq_true_eq]
    exact broken
  · exact State.syncWith_relocks (s := s.at t) open' ever (same own) near count (tb ▸ phase)
  · exact State.syncWith_restarts (s := s.at t) (by rcases open' with h | h <;> simp [h]) far

end Sys2Proof.Machine
end

section
/-!
What is done to items alone (R264 to R274), and the frames it leaves as they are.
-/
namespace Sys2Proof.Machine
open Sys2Proof

set_option Elab.async false

/-- Only the items and units, and what counters and events write, may differ. -/
abbrev State.ItemNotes (s t : State) : Prop :=
  t = { s with dict := t.dict, host := t.host, disp := t.disp, group := s.group.links t.group, events := t.events, wire := t.wire }

namespace State.ItemNotes

theorem refl (s : State) : State.ItemNotes s s := rfl

theorem trans {s t u : State} (a : State.ItemNotes s t) (b : State.ItemNotes t u) : State.ItemNotes s u := by
  unfold State.ItemNotes at *
  rw [a] at b
  exact b

theorem of_notes {s t : State} (h : State.Notes s t) : State.ItemNotes s t := by
  unfold State.ItemNotes State.Notes at *
  rw [h]

theorem of_disp (s : State) (d : Dispatch) : State.ItemNotes s { s with disp := d } := rfl

theorem foldl {α : Type} {f : State → α → State} (h : ∀ s x, State.ItemNotes s (f s x)) (xs : List α) (s : State) : State.ItemNotes s (xs.foldl f s) := State.foldl_rel refl trans f h xs s

end State.ItemNotes

namespace State.ItemNotes
variable {s t : State} (h : State.ItemNotes s t)
include h

theorem now : t.now = s.now := by rw [h]
theorem tb : t.tb = s.tb := by rw [h]
theorem ctl : t.ctl = s.ctl := by rw [h]
theorem eng : t.eng = s.eng := by rw [h]
theorem pub : t.pub = s.pub := by rw [h]
theorem frames : t.frames = s.frames := by rw [h]
theorem world : t.world = s.world := by rw [h]
theorem work? (n : Nat) : t.work? n = s.work? n := by rw [State.work?, h.frames, ← State.work?]

end State.ItemNotes

theorem State.delayLoc_itemNotes (s : State) (d release : Nat) : State.ItemNotes s (s.delayLoc d release).2 := by
  unfold State.delayLoc
  split
  · rfl
  · exact .of_notes (s.count_frame ..)

theorem State.addItem_itemNotes (s : State) (n : NewItem) : State.ItemNotes s (s.addItem n) := by
  unfold State.addItem
  extract_lets behind home
  split
  next loc t h =>
  have ht : State.ItemNotes s t := by
    split at h
    · cases h; rfl
    · have e : (s.delayLoc home _).2 = t := congrArg Prod.snd h
      exact e ▸ s.delayLoc_itemNotes ..
    · cases h; rfl
  exact ht.trans (.of_disp ..)

theorem State.feedTiles_itemNotes (s : State) : State.ItemNotes s s.feedTiles := .foldl (fun t _ => t.addItem_itemNotes _) _ _

theorem State.releaseDue_itemNotes (s : State) (now : Nat) : State.ItemNotes s (s.releaseDue now) := by
  refine .trans (.of_disp ..) (.foldl (fun t i => ?_) _ _)
  split
  · exact (t.delayLoc_itemNotes ..).trans (.of_disp ..)
  · rfl

/-! A frame's work opened (R78, R158 to R161) -/

/-- A frame's work is found as before where another frame's is changed. -/
theorem State.work?_modWork_other (s : State) {m n : Nat} (h : m ≠ n) {f : FrameWork → FrameWork} (k : ∀ w, (f w).frame = w.frame) : (s.modWork n f).work? m = s.work? m := by
  show (modFirst _ f s.frames).find? _ = s.frames.find? _
  induction s.frames with
  | nil => rfl
  | cons w ws ih =>
    by_cases e : w.frame = n
    · simp [modFirst, e, k, Ne.symm h]
    · by_cases g : w.frame = m <;> simp [modFirst, e, g, h, ih]

section
variable (s : State) {n number : Nat} {start : StartState} {reinit speculative : Bool}

/-- Opening a frame's work changes that work alone, and gives it its start state and version. -/
theorem State.openWork_eq : ∃ f : FrameWork → FrameWork, s.openWork n number start reinit speculative = s.modWork n f ∧ ∀ w, (f w).frame = w.frame ∧ (f w).start = start ∧
    (f w).reinitialised = reinit ∧ (f w).sealed = !speculative ∧ (f w).speculative = speculative ∧ (f w).version = number := ⟨_, rfl, fun _ => ⟨rfl, rfl, rfl, rfl, rfl, rfl⟩⟩

theorem State.work?_openWork {w : FrameWork} (h : s.work? n = some w) : ∃ w', (s.openWork n number start reinit speculative).work? n = some w' ∧ w'.frame = w.frame ∧ w'.start = start ∧
    w'.reinitialised = reinit ∧ w'.sealed = !speculative ∧ w'.speculative = speculative ∧ w'.version = number := by
  obtain ⟨f, e, opened⟩ := s.openWork_eq (n := n) (number := number) (start := start) (reinit := reinit) (speculative := speculative)
  exact ⟨f w, e ▸ s.work?_modWork h fun w => (opened w).1, opened w⟩

theorem State.work?_openWork_other {m : Nat} (h : m ≠ n) : (s.openWork n number start reinit speculative).work? m = s.work? m := s.work?_modWork_other h fun _ => rfl

end

end Sys2Proof.Machine

section
/-!
PUBLICATION_FAILURE and SLACK_START (R79, R80, R84, R460, R468).
-/
namespace Sys2Proof.Machine
open Sys2Proof

set_option Elab.async false

theorem State.setPins_hostWire (s : State) (f : Pins → Pins) : State.HostWire { s with newel := (s.setPins f).newel } (s.setPins f) := by
  unfold State.setPins
  split
  · have shown := State.signalStatus_frame { s with newel := { s.newel with pins := f s.newel.pins } }
    rw [congrArg State.newel shown]
    exact shown
  · rfl

/-! The safe-state hold (R460) -/

/-- R460: the hold set or renewed, before its event. -/
def State.holdSet (s : State) (frame : Nat) : State :=
  { s with newel := { s.newel with hold := some (s.cfg 0x9000 1), safeFrame := if s.newel.hold = none then frame else s.newel.safeFrame } }

theorem State.beginHold_eq (s : State) (frame : Nat) :
    s.beginHold frame = if s.newel.hold = none then ((s.holdSet frame).count 0x9002 2 1).raiseOpen frame 0x0A0C else s.holdSet frame := by
  unfold State.beginHold State.holdSet
  cases s.newel.hold <;> rfl

theorem State.beginHold_notes (s : State) (frame : Nat) : State.Notes (s.holdSet frame) (s.beginHold frame) := by
  rw [State.beginHold_eq]
  split
  · exact (State.count_frame ..).trans (State.raiseOpen_frame ..)
  · rfl

theorem State.beginHold_works (s : State) (frame : Nat) : State.Works (s.holdSet frame) (s.beginHold frame) := by
  rw [State.beginHold_eq]
  exact .optional' ((State.count_works ..).trans (State.raiseOpen_works ..))

theorem State.driveSafe_newel (s : State) : s.driveSafe.newel =
    { s.newel with pins := if s.newel.running then { s.newel.pins with safeState := s.newel.pins.fault || (s.publishes && (s.newel.hold.isSome || s.newel.startHold)) } else s.newel.pins } :=
  s.setPins_newel _

/-! PUBLICATION_FAILURE (R468) -/

/-- R468: the failure noted, and PLAN_OK lowered. -/
def State.failureNoted (s : State) (frame : Nat) : State :=
  ({ s with newel := { s.newel with lastPubFailure := some frame } } : State).setPins (fun p => { p with planOk := false })

/-- R460, R468: the hold begun, and the failure reported. -/
def State.failureTold (s : State) (frame : Nat) : State := (((s.failureNoted frame).beginHold frame).count 0x9002 5 1).raiseOpen frame 0x0A08

theorem State.publicationFails_eq (s : State) (frame : Nat) : s.publicationFails frame =
    if s.newel.lastPubFailure == some (frame - 1) && decide (0 < frame) then (s.failureTold frame).driveSafe.deviceFault 5 else (s.failureTold frame).driveSafe := rfl

theorem State.failureNoted_hostWire (s : State) (frame : Nat) : State.HostWire { s with newel := (s.failureNoted frame).newel } (s.failureNoted frame) :=
  State.setPins_hostWire { s with newel := { s.newel with lastPubFailure := some frame } } _

theorem State.failureTold_notes (s : State) (frame : Nat) : State.Notes ((s.failureNoted frame).holdSet frame) (s.failureTold frame) :=
  ((State.beginHold_notes ..).trans (State.count_frame ..)).trans (State.raiseOpen_frame ..)

/-- R460, R468: what the safety processor holds once the failure is reported. -/
theorem State.failureTold_newel (s : State) (frame : Nat) : (s.failureTold frame).newel = { s.newel with
    lastPubFailure := some frame, hold := some (s.cfg 0x9000 1), safeFrame := if s.newel.hold = none then frame else s.newel.safeFrame
    pins := if s.newel.running then { s.newel.pins with planOk := false } else s.newel.pins } := by
  have noted : (s.failureNoted frame).newel = { s.newel with lastPubFailure := some frame, pins := if s.newel.running then { s.newel.pins with planOk := false } else s.newel.pins } :=
    State.setPins_newel ..
  have dict : (s.failureNoted frame).dict = s.dict := (congrArg State.dict (s.failureNoted_hostWire frame)).trans rfl
  have cfg : (s.failureNoted frame).cfg 0x9000 1 = s.cfg 0x9000 1 := by rw [State.cfg, dict, ← State.cfg]
  rw [congrArg State.newel (s.failureTold_notes frame), State.holdSet, noted, cfg]

theorem State.failureTold_publishes (s : State) (frame : Nat) : (s.failureTold frame).publishes = s.publishes := by
  have role : (s.failureTold frame).group.role = s.group.role :=
    (congrArg (·.group.role) (s.failureTold_notes frame)).trans (congrArg (·.group.role) (s.failureNoted_hostWire frame))
  rw [State.publishes, role, ← State.publishes]

theorem State.raised_failureTold (s : State) (frame : Nat) : Raised s (s.failureTold frame) 0x0A08 := by
  have noted : (s.failureNoted frame).events = s.events := (congrArg State.events (s.failureNoted_hostWire frame)).trans rfl
  have before : State.Works ((s.failureNoted frame).holdSet frame) (((s.failureNoted frame).beginHold frame).count 0x9002 5 1) := (State.beginHold_works ..).trans (State.count_works ..)
  exact State.raised_of_prefix (State.raised_raiseOpen _ frame 0x0A08) (noted ▸ before.events) List.prefix_rfl

/-- R458, R468: the pins and the hold as a failed publication leaves them. -/
theorem State.failureDriven_newel (s : State) (frame : Nat) (publishes : s.publishes = true) : (s.failureTold frame).driveSafe.newel = { s.newel with
    lastPubFailure := some frame, hold := some (s.cfg 0x9000 1), safeFrame := if s.newel.hold = none then frame else s.newel.safeFrame
    pins := if s.newel.running then { s.newel.pins with planOk := false, safeState := true } else s.newel.pins } := by
  rw [State.driveSafe_newel, State.failureTold_newel, State.failureTold_publishes, publishes]
  cases s.newel.running <;> simp

theorem State.failureDriven_safety (s : State) (frame : Nat) : State.SafetyNotes s (s.failureTold frame).driveSafe :=
  have noted : State.SafetyNotes s (s.failureNoted frame) := (State.SafetyNotes.of_newel s _).trans (s.failureNoted_hostWire frame).notes.safety
  ((noted.trans (State.SafetyNotes.of_newel ..)).trans (s.failureTold_notes frame).safety).trans (State.setPins_frame ..)

theorem State.publicationFails_safety (s : State) (frame : Nat) : State.SafetyNotes s (s.publicationFails frame) := by
  rw [State.publicationFails_eq]
  split
  · exact (s.failureDriven_safety frame).trans (State.deviceFault_frame ..)
  · exact s.failureDriven_safety frame

theorem State.raised_publicationFails (s : State) (frame : Nat) : Raised s (s.publicationFails frame) 0x0A08 := by
  have driven : (s.failureTold frame).events <+: (s.failureTold frame).driveSafe.events := (State.setPins_works (s.failureTold frame) _).events
  rw [State.publicationFails_eq]
  split
  · exact State.raised_of_prefix (s.raised_failureTold frame) List.prefix_rfl (driven.trans (State.deviceFault_works ..).events)
  · exact State.raised_of_prefix (s.raised_failureTold frame) List.prefix_rfl driven

/-- R468: what the safety processor holds after a failed publication; one in the frame before too is a device fault. -/
theorem State.publicationFails_newel (s : State) (frame : Nat) (publishes : s.publishes = true) (clean : s.faulted = false) :
    (s.publicationFails frame).newel.lastPubFailure = some frame ∧ (s.publicationFails frame).newel.hold = some (s.cfg 0x9000 1) ∧
      (s.publicationFails frame).newel.safeFrame = (if s.newel.hold = none then frame else s.newel.safeFrame) ∧
      (s.newel.running = true → (s.publicationFails frame).newel.pins.planOk = false ∧ (s.publicationFails frame).newel.pins.safeState = true) ∧
      ((s.publicationFails frame).newel.faultCause.testBit 5 = true ↔ 0 < frame ∧ s.newel.lastPubFailure = some (frame - 1)) := by
  have driven := s.failureDriven_newel frame publishes
  have none : s.newel.faultCause = 0 := by simpa [State.faulted] using clean
  rw [State.publicationFails_eq]
  split
  case isTrue again =>
    simp only [Bool.and_eq_true, beq_iff_eq, decide_eq_true_eq] at again
    rw [State.deviceFault_newel, driven]
    refine ⟨rfl, rfl, rfl, fun runs => ?_, fun _ => ⟨again.2, again.1⟩, fun _ => ?_⟩
    · simp [Newel.faulted, runs]
    · show (s.newel.faultCause ||| 2 ^ 5).testBit 5 = true
      rw [Nat.testBit_or, Nat.testBit_two_pow_self, Bool.or_true]
  case isFalse once =>
    simp only [Bool.and_eq_true, beq_iff_eq, decide_eq_true_eq, not_and] at once
    rw [driven]
    refine ⟨rfl, rfl, rfl, fun runs => ?_, fun set => ?_, fun both => absurd both.1 (once both.2)⟩
    · simp [runs]
    · simp [none] at set

/-- The instant at which a failed publication is found: 5 µs after the Landing, where frames go by the tick clock. -/
def State.failureAt (s : State) (w : FrameWork) : State := if s.det.unpaced then s else s.atTick (w.tick + s.us 0x2016 1 + 5000)

theorem State.failureAt_eq (s : State) (w : FrameWork) : s.failureAt w = { s with now := (s.failureAt w).now } := by
  unfold State.failureAt
  split <;> rfl

theorem exec_publicationFailure {s : State} {w : FrameWork} (found : s.frames.find? (fun w => w.landed && !w.speculative) = some w) (publishes : s.publishes = true) (clean : s.faulted = false)
    (fresh : s.newel.lastPubFailure ≠ some w.frame) : exec .publicationFailure s = .next ((s.failureAt w).publicationFails w.frame) := by
  have due : s.publication? = some w := by
    unfold State.publication?
    rw [found]
    simp [publishes, clean, fresh]
  show execPublicationFailure s = _
  unfold execPublicationFailure
  rw [due]
  rfl

/-- PUBLICATION_FAILURE: PLAN_OK and SAFE_STATE_N, the hold, the event, and the device fault of a second failure in consecutive frames. -/
theorem exec_publicationFailure_effect {s : State} {w : FrameWork} (found : s.frames.find? (fun w => w.landed && !w.speculative) = some w) (publishes : s.publishes = true)
    (clean : s.faulted = false) (fresh : s.newel.lastPubFailure ≠ some w.frame) :
    ∃ t, exec .publicationFailure s = .next t ∧ t.newel.lastPubFailure = some w.frame ∧ t.newel.hold = some (s.cfg 0x9000 1) ∧
      t.newel.safeFrame = (if s.newel.hold = none then w.frame else s.newel.safeFrame) ∧ Raised s t 0x0A08 ∧
      (s.newel.running = true → t.newel.pins.planOk = false ∧ t.newel.pins.safeState = true) ∧
      (t.newel.faultCause.testBit 5 = true ↔ 0 < w.frame ∧ s.newel.lastPubFailure = some (w.frame - 1)) ∧
      t = { s with now := t.now, newel := t.newel, dict := t.dict, host := t.host, group := s.group.links t.group, events := t.events, wire := t.wire } := by
  refine ⟨_, exec_publicationFailure found publishes clean fresh, ?_⟩
  rw [s.failureAt_eq w]
  generalize (s.failureAt w).now = now
  obtain ⟨noted, hold, safe, pins, fault⟩ := State.publicationFails_newel { s with now := now } w.frame publishes clean
  refine ⟨noted, hold, safe, State.raised_publicationFails { s with now := now } w.frame, pins, fault, ?_⟩
  have safety := State.publicationFails_safety { s with now := now } w.frame
  rw [show (State.publicationFails { s with now := now } w.frame).now = now from congrArg State.now safety]
  exact safety

/-! SLACK_START (R79, R80, R84) -/

theorem State.nextBankSlice_frame (s : State) (now : Nat) : s.nextBankSlice now = { s with newel := (s.nextBankSlice now).newel } := by
  unfold State.nextBankSlice
  split
  · split <;> rfl
  · rfl

/-- R80: the run-ahead map of the next frame, with the sealed inputs of a version and its own start state. -/
def State.aheadVersion (s : State) (w : FrameWork) (v : Version) (start : StartState) (landing : Nat) : Version :=
  { v with
    number := (s.world.lastSpec + 1) % u32Mod, spec := true, parent := some v.number, frame := w.frame + 1, urgent := false, reinitialised := false, sealTime := s.time, tilesNew := 0
    inputs := { v.inputs with frame := w.frame + 1, landing := landing, start := start }, tiles := [], jobs := s.buildCfg.allJobs, ready := false, deltaStamp := none }

/-- R80: the next frame's work before its start state is given. -/
def State.aheadFrame (s : State) (w : FrameWork) : FrameWork :=
  { FrameWork.fresh (w.frame + 1) (w.tick + s.tb.period) with release := if s.det.unpaced then none else some (w.tick + s.us 0x2017 1) }

/-- R80: the run-ahead map and the next frame's work put in place. -/
def State.aheadPlaced (s : State) (w : FrameWork) (v : Version) (start : StartState) (landing : Nat) : State :=
  { s with
    world := { s.world with
      versions := s.world.versions ++ [s.aheadVersion w v start landing], lastSpec := (s.aheadVersion w v start landing).number, specScene := none, reversioned := [], compare := []
      comparing := false }
    frames := s.frames ++ [s.aheadFrame w] }

section
variable (s : State) (w : FrameWork) (v : Version) (start : StartState) (landing : Nat)

theorem State.beginRunAhead_itemNotes : State.ItemNotes ((s.aheadPlaced w v start landing).openWork (w.frame + 1) (s.aheadVersion w v start landing).number start false true)
    (s.beginRunAhead w v start landing) := State.feedTiles_itemNotes _

end

/-- R79, R84: run-ahead begins nothing, or is refused for a pending commit, or begins the next frame. -/
theorem State.runAhead_cases (s : State) (w : FrameWork) :
    s.runAhead w = s ∨ s.runAhead w = s.count 0x2021 9 1 ∨ ∃ v start landing, s.runAhead w = s.beginRunAhead w v start landing := by
  unfold State.runAhead
  dsimp only
  split
  · exact .inl rfl
  split
  · exact .inr (.inl rfl)
  split
  · exact .inr (.inr ⟨_, _, _, rfl⟩)
  · exact .inl rfl

/-- What run-ahead of the next frame leaves alone, the work of the frame in hand among it. -/
theorem State.runAhead_keeps (s : State) {w w' : FrameWork} (h : s.work? w.frame = some w') :
    (s.runAhead w).tb = s.tb ∧ (s.runAhead w).ctl = s.ctl ∧ (s.runAhead w).eng = s.eng ∧ (s.runAhead w).pub = s.pub ∧ (s.runAhead w).work? w.frame = some w' := by
  obtain e | e | ⟨v, start, landing, e⟩ := s.runAhead_cases w <;> rw [e]
  · exact ⟨rfl, rfl, rfl, rfl, h⟩
  · have counted := State.ItemNotes.of_notes (s.count_frame 0x2021 9 1)
    exact ⟨counted.tb, counted.ctl, counted.eng, counted.pub, (counted.work? _).trans h⟩
  · have items := s.beginRunAhead_itemNotes w v start landing
    have placed : (s.aheadPlaced w v start landing).work? w.frame = some w' := by
      show (s.frames ++ [s.aheadFrame w]).find? _ = _
      rw [List.find?_append, show s.frames.find? _ = some w' from h, Option.some_or]
    exact ⟨items.tb, items.ctl, items.eng, items.pub, (items.work? _).trans ((State.work?_openWork_other _ (Nat.ne_of_lt (Nat.lt_succ_self _))).trans placed)⟩

theorem State.runAhead_off (s : State) (w : FrameWork) (off : s.cfg 0x2004 1 = 0 ∨ s.buildsMaps = false) : s.runAhead w = s := by
  refine if_pos ?_
  rcases off with off | off <;> simp [State.cfgB, off]

/-- R80: the frame and the run-ahead map that the slack begins. -/
theorem State.beginRunAhead_begins (s : State) (w : FrameWork) (v : Version) (start : StartState) (landing : Nat) (unused : ∀ x ∈ s.frames, x.frame ≠ w.frame + 1) :
    ∃ x ∈ (s.beginRunAhead w v start landing).frames, ∃ r ∈ (s.beginRunAhead w v start landing).world.versions, x.frame = w.frame + 1 ∧ x.speculative = true ∧ x.start = start ∧
      r.spec = true ∧ r.number = x.version ∧ r.frame = x.frame ∧ r.number = (s.world.lastSpec + 1) % 2 ^ 32 ∧ r.parent = some v.number ∧
      r.inputs = { v.inputs with frame := w.frame + 1, landing := landing, start := start } := by
  have items := s.beginRunAhead_itemNotes w v start landing
  have placed : (s.aheadPlaced w v start landing).work? (w.frame + 1) = some (s.aheadFrame w) := by
    have none : s.frames.find? (fun x => x.frame == w.frame + 1) = none := List.find?_eq_none.2 fun x hx => by simpa using unused x hx
    show (s.frames ++ [s.aheadFrame w]).find? _ = _
    rw [List.find?_append, none]
    simp [State.aheadFrame, FrameWork.fresh]
  obtain ⟨x, found, frame, begins, -, -, ahead, version⟩ := (s.aheadPlaced w v start landing).work?_openWork (number := (s.aheadVersion w v start landing).number) (start := start)
    (reinit := false) (speculative := true) placed
  rw [items.frames, items.world]
  exact ⟨x, List.mem_of_find?_eq_some found, s.aheadVersion w v start landing, List.mem_append_right _ (List.mem_singleton_self _), frame, ahead, begins, rfl, version.symm, frame.symm, rfl, rfl, rfl⟩

/-- A frame whose slack has begun. -/
def FrameWork.slackBegun (w : FrameWork) : FrameWork := { w with slack := true }

/-- The slack of a frame begun: the instant, and the frame marked. -/
def State.slackMarked (s : State) (w : FrameWork) : State := (if s.det.unpaced then s else s.atTick (w.tick + s.us 0x2017 1)).modWork w.frame FrameWork.slackBegun

theorem State.slackMarked_eq (s : State) (w : FrameWork) : s.slackMarked w = State.modWork { s with now := (s.slackMarked w).now } w.frame FrameWork.slackBegun := by
  unfold State.slackMarked
  split <;> rfl

/-- The slack's beginning leaves everything but the instant and the frames. -/
theorem State.slackMarked_keeps (s : State) (w : FrameWork) : (s.slackMarked w).tb = s.tb ∧ (s.slackMarked w).ctl = s.ctl ∧ (s.slackMarked w).eng = s.eng ∧ (s.slackMarked w).pub = s.pub ∧
    (s.slackMarked w).world = s.world := by
  rw [s.slackMarked_eq]
  exact ⟨rfl, rfl, rfl, rfl, rfl⟩

/-- Marking a frame's slack changes no other mark of any frame. -/
theorem State.slackMarked_marks (s : State) (w : FrameWork) : (s.slackMarked w).frames.map (fun x => (x.frame, x.speculative)) = s.frames.map (fun x => (x.frame, x.speculative)) := by
  rw [s.slackMarked_eq]
  exact map_modFirst_of_eq _ FrameWork.slackBegun _ (fun _ => rfl) _

theorem exec_slackStart {s : State} {w : FrameWork} (found : s.frames.find? (fun w => w.landed && !w.slack && !w.speculative) = some w) :
    exec .slackStart s = .next ((((s.slackMarked w).runAhead w).releaseDue (w.tick + s.us 0x2017 1)).nextBankSlice (w.tick + s.us 0x2017 1)) := by
  show execSlackStart s = _
  unfold execSlackStart
  rw [found]
  rfl

section
variable {s : State} {w : FrameWork}

/-- R79, R80: run-ahead begins where it is enabled, no commit is pending for the next frame, and the frame published a plan. -/
theorem State.runAhead_begins {start : StartState} {v : Version} (on : s.cfg 0x2004 1 ≠ 0) (builds : s.buildsMaps = true) (none : ∀ x ∈ s.frames, x.speculative = false)
    (free : ¬(s.ctl.st = .pending ∧ s.ctl.target = w.frame + 1)) (planned : s.planStart (w.frame + 1) (w.tick + s.tb.period + s.us 0x2016 1) = some start)
    (sealed' : (s.world.versions.filter (fun v => !v.spec && v.frame == w.frame && (!v.urgent || v.ready))).getLast? = some v) :
    s.runAhead w = s.beginRunAhead w v start (w.tick + s.tb.period + s.us 0x2016 1) := by
  unfold State.runAhead
  dsimp only
  rw [planned, sealed', if_neg (by simp [State.cfgB, on, builds]; simpa using none), if_neg (by simpa using free)]

/-- SLACK_START: the frame is marked, and with run-ahead on the next one begins. -/
theorem exec_slackStart_effect (found : s.frames.find? (fun w => w.landed && !w.slack && !w.speculative) = some w) (work : s.work? w.frame = some w) :
    ∃ t w', exec .slackStart s = .next t ∧ t.work? w.frame = some w' ∧ w' = { w with slack := true } ∧ t.tb = s.tb ∧ t.ctl = s.ctl ∧ t.eng = s.eng ∧ t.pub = s.pub ∧
      (s.cfg 0x2004 1 = 0 ∨ s.buildsMaps = false → t.frames.length = s.frames.length ∧ t.world = s.world) ∧
      (∀ start v, s.cfg 0x2004 1 ≠ 0 → s.buildsMaps = true → (∀ x ∈ s.frames, x.speculative = false ∧ x.frame ≠ w.frame + 1) → ¬(s.ctl.st = .pending ∧ s.ctl.target = w.frame + 1) →
        s.planStart (w.frame + 1) (w.tick + s.tb.period + s.us 0x2016 1) = some start →
        (s.world.versions.filter (fun v => !v.spec && v.frame == w.frame && (!v.urgent || v.ready))).getLast? = some v →
        ∃ x ∈ t.frames, ∃ r ∈ t.world.versions, x.frame = w.frame + 1 ∧ x.speculative = true ∧ x.start = start ∧ r.spec = true ∧ r.number = x.version ∧ r.frame = x.frame ∧
          r.number = (s.world.lastSpec + 1) % 2 ^ 32 ∧ r.parent = some v.number ∧
          r.inputs = { v.inputs with frame := w.frame + 1, landing := w.tick + s.tb.period + s.us 0x2016 1, start := start }) := by
  have marked : (s.slackMarked w).work? w.frame = some { w with slack := true } := by
    rw [s.slackMarked_eq]
    exact State.work?_modWork _ (w := w) (f := FrameWork.slackBegun) work fun _ => rfl
  have marks := s.slackMarked_marks w
  have same := s.slackMarked_eq w
  obtain ⟨tb, ctl, eng, pub, kept⟩ := (s.slackMarked w).runAhead_keeps marked
  obtain ⟨tb', ctl', eng', pub', world'⟩ := s.slackMarked_keeps w
  have released := ((s.slackMarked w).runAhead w).releaseDue_itemNotes (w.tick + s.us 0x2017 1)
  have run := exec_slackStart found
  rw [State.nextBankSlice_frame] at run
  refine ⟨_, _, run, (released.work? _).trans kept, rfl, (released.tb.trans tb).trans tb', (released.ctl.trans ctl).trans ctl',
    (released.eng.trans eng).trans eng', (released.pub.trans pub).trans pub', fun off => ?_, fun start v on builds others free planned newest => ?_⟩
  · have idle : (s.slackMarked w).runAhead w = s.slackMarked w := State.runAhead_off _ _ (same ▸ off)
    refine ⟨(congrArg List.length (released.frames.trans (congrArg State.frames idle))).trans ?_, (released.world.trans (congrArg State.world idle)).trans world'⟩
    simpa using congrArg List.length marks
  · have others' : ∀ x ∈ (s.slackMarked w).frames, x.speculative = false ∧ x.frame ≠ w.frame + 1 := by
      have listed : ∀ y ∈ s.frames.map (fun x => (x.frame, x.speculative)), y.2 = false ∧ y.1 ≠ w.frame + 1 := List.forall_mem_map.2 others
      rw [← marks] at listed
      exact List.forall_mem_map.1 listed
    have begins : (s.slackMarked w).runAhead w = (s.slackMarked w).beginRunAhead w v start (w.tick + s.tb.period + s.us 0x2016 1) := by
      have h := State.runAhead_begins (s := s.slackMarked w) (w := w) (start := start) (v := v)
      rw [same] at h ⊢
      exact h on builds (by rw [← same]; exact fun x hx => (others' x hx).1) free planned newest
    have next := (s.slackMarked w).beginRunAhead_begins w v start (w.tick + s.tb.period + s.us 0x2016 1) fun x hx => (others' x hx).2
    rw [← begins, ← released.frames, ← released.world] at next
    rw [same] at next ⊢
    exact next

end

/-- Settles O38, by the lemma of each command. -/
theorem publicationFailuresAndTheSlack : Obligations.PublicationFailuresAndTheSlack := by
  unfold Obligations.PublicationFailuresAndTheSlack
  exact fun s w work => ⟨fun found publishes clean fresh => exec_publicationFailure_effect found publishes clean fresh, fun found => exec_slackStart_effect found work⟩

end Sys2Proof.Machine
end
end

section
/-!
What journal records and timing-dependent choices change (R367, R408 to R413): no more than `State.Works` says.
-/
namespace Sys2Proof.Machine
open Sys2Proof

set_option Elab.async false

namespace State.Works

/-- Only what the host interface holds may differ. -/
theorem of_host (s : State) (h : HostPort) : State.Works s { s with host := h } := ⟨rfl, .refl _, rfl, .refl _, List.prefix_rfl⟩

/-- The frames keep their numbers. -/
theorem numbers {s t : State} (h : State.Works s t) : t.frames.map (·.frame) = s.frames.map (·.frame) := by
  have numbers := congrArg (List.map Prod.fst) h.squash
  rwa [List.map_map, List.map_map] at numbers

end State.Works

theorem State.choice_works (s : State) (frame bit : Nat) (once : Bool) (byte : bit + 3 < 256 := by decide) : State.Works s (s.choice frame bit once) :=
  .optional (((s.maskBit_works ..).trans (State.count_works ..)).trans (State.count_works _ _ _ _ (by decide) byte))

theorem State.mirror_works (s : State) (j : JRec) : State.Works s (s.mirror j).2 := by
  unfold State.mirror
  split
  · exact .refl s
  split
  · exact (s.sendGroup_works ..).trans (.of_group ..)
  split
  · exact .refl s
  · exact (((State.Works.of_group ..).trans (State.raise_works ..)).trans (State.setCause_works ..)).trans (.optional' (State.deviceFault_works ..))

theorem State.modRecord_works (s : State) (id : Nat) (f : JRec → JRec) : State.Works s (s.modRecord id f) := .of_host ..

theorem State.setOutcome_works (s : State) (id status length : Nat) : State.Works s (s.setOutcome id status length) := .trans (.of_group ..) (State.modRecord_works ..)

theorem State.retireRecord_works (s : State) (j : JRec) : State.Works s (s.retireRecord j) := ((s.modRecord_works ..).trans (State.mirror_works ..)).trans (.of_host ..)

theorem State.ringCompletes_works (s : State) (client status : Nat) : State.Works s (s.ringCompletes client status) := by
  unfold State.ringCompletes
  split
  · exact .of_host ..
  · exact .refl s

theorem State.completeDesc_works (s : State) (j : JRec) (d : Desc) : State.Works s (s.completeDesc j d) := by
  unfold State.completeDesc
  split
  next status length _ =>
  extract_lets ring index bytes s1 s2 s3 s4 draining
  have told : State.Works s s2 := (s.modRecord_works ..).trans (State.mirror_works ..)
  have posted : State.Works s2 s3 := .trans (.of_hostWire (s2.ringPush_frame ..)) (State.count_works ..)
  have retired : State.Works s3 s4 := (s3.ringCompletes_works ..).trans (State.retireRecord_works ..)
  exact ((told.trans posted).trans retired).trans (.optional' (.optional (.of_host ..)))

theorem State.completeRecord_works (s : State) (id : Nat) : State.Works s (s.completeRecord id) := by
  unfold State.completeRecord
  split
  · exact .refl s
  · refine .optional ?_
    split
    · exact s.retireRecord_works _
    · exact s.completeDesc_works ..

end Sys2Proof.Machine
end

section
/-!
What the work on the source state changes (R77, R102, R107, R112, R124 to R127), and the packets that streams hold (R74).
-/
namespace Sys2Proof.Machine
open Sys2Proof

set_option Elab.async false

/-! The packets a stream holds -/

theorem Stream.putTile_held (x : Stream) (cell : F64) (ref : Pt) (t : SrcTile) : (x.putTile cell ref t).1.held = x.held := by
  unfold Stream.putTile
  dsimp only
  split
  · rfl
  split
  · rfl
  split <;> rfl

theorem Stream.putSegment_held (x : Stream) (ref : Pt) (r : RouteSeg) : (x.putSegment ref r).1.held = x.held := by
  unfold Stream.putSegment
  dsimp only
  split
  · rfl
  split
  · rfl
  split <;> rfl

theorem Stream.apply_held (x : Stream) (cell : F64) (ref : Pt) (r : UpdRec) : (x.apply cell ref r).1.held = x.held := by
  cases r with
  | rasterTile t => exact x.putTile_held cell ref t
  | segment g => exact x.putSegment_held ref g
  | _ => rfl

/-- The records of a packet change no packet held. -/
theorem Stream.applyAll_held (x : Stream) (cell : F64) (ref : Pt) (rs : List (Nat × Nat × Nat × UpdRec)) : (x.applyAll cell ref rs).1.held = x.held :=
  List.foldlRecOn (motive := fun p : Stream × Nat => p.1.held = x.held) rs _ rfl fun _ h _ _ => (Stream.apply_held ..).trans h

theorem getElem?_modAt {α : Type} (xs : List α) (n : Nat) (f : α → α) (m : Nat) : (modAt xs n f)[m]? = if m = n then xs[m]?.map f else xs[m]? := by
  unfold modAt
  split
  case h_1 x found =>
    rw [List.getElem?_set]
    by_cases same : n = m
    · subst same
      obtain ⟨inside, rfl⟩ := List.getElem?_eq_some_iff.1 found
      simp [inside]
    · simp [same, Ne.symm same]
  case h_2 absent =>
    by_cases same : m = n
    · subst same
      simp [absent]
    · simp [same]

theorem State.stream_modStream_other (s : State) {m n : Nat} (f : Stream → Stream) (h : m ≠ n) : (s.modStream n f).stream m = s.stream m := by
  unfold State.stream
  rw [State.modStream_world, getElem?_modAt, if_neg h]

theorem State.stream_modStream_same (s : State) {n : Nat} (f : Stream → Stream) (h : n < s.world.streams.length) : (s.modStream n f).stream n = f (s.stream n) := by
  unfold State.stream
  rw [State.modStream_world, getElem?_modAt, if_pos rfl, List.getElem?_eq_getElem h]
  rfl

/-- A stream is changed, or it is not there. -/
theorem State.stream_modStream_cases (s : State) (n : Nat) (f : Stream → Stream) : (s.modStream n f).stream n = f (s.stream n) ∨ (s.modStream n f).stream n = Stream.initial := by
  rcases Nat.lt_or_ge n s.world.streams.length with inside | outside
  · exact .inl (s.stream_modStream_same f inside)
  · refine .inr ?_
    unfold State.stream
    rw [State.modStream_world, getElem?_modAt, if_pos rfl, List.getElem?_eq_none outside]
    rfl

/-- A change to a stream that leaves the packets it holds. -/
theorem State.held_modStream (s : State) {n : Nat} {f : Stream → Stream} (k : (f (s.stream n)).held = (s.stream n).held) (m : Nat) :
    ((s.modStream n f).stream m).held = (s.stream m).held := by
  by_cases same : m = n
  · subst same
    rcases Nat.lt_or_ge m s.world.streams.length with inside | outside
    · rw [s.stream_modStream_same f inside, k]
    · unfold State.stream
      rw [State.modStream_world, getElem?_modAt, if_pos rfl, List.getElem?_eq_none outside]
      rfl
  · rw [s.stream_modStream_other f same]

/-! What the work on the source state leaves as it is -/

/-- From `r` to `s` only the source state, what a frame's work and its items show, and the records may differ; of the packets that stream `n` holds, `K n` is known. -/
structure State.Sources (K : Nat → List HeldPacket → Prop) (r s : State) : Prop where
  frame : s = { r with dict := s.dict, frames := s.frames, host := s.host, world := s.world, disp := s.disp, newel := s.newel, group := s.group, det := s.det, events := s.events, wire := s.wire }
  sorted : alSorted r.dict.active = true → alSorted s.dict.active = true
  numbers : s.frames.map (·.frame) = r.frames.map (·.frame)
  last : s.world.lastVersion = r.world.lastVersion
  deltas : s.world.deltas = r.world.deltas
  opened : s.world.deltaOpen = r.world.deltaOpen
  held : ∀ n, K n (s.stream n).held

namespace State.Sources
variable {K : Nat → List HeldPacket → Prop} {r s t : State}

theorem refl (h : ∀ n, K n (s.stream n).held) : State.Sources K s s := ⟨rfl, id, rfl, rfl, rfl, rfl, h⟩

theorem mono {L : Nat → List HeldPacket → Prop} (h : State.Sources K r s) (k : ∀ n l, K n l → L n l) : State.Sources L r s := { h with held := fun n => k n _ (h.held n) }

/-- The source state alone changes, and its streams hold what is known of them. -/
theorem keep (h : State.Sources K r s) {L : Nat → List HeldPacket → Prop} (w : World) (held : ∀ n, L n (({ s with world := w } : State).stream n).held)
    (e : (w.lastVersion, w.deltas, w.deltaOpen) = (s.world.lastVersion, s.world.deltas, s.world.deltaOpen) := by rfl) : State.Sources L r { s with world := w } := by
  simp only [Prod.mk.injEq] at e
  obtain ⟨last, deltas, opened⟩ := e
  exact ⟨by rw [h.frame], h.sorted, h.numbers, last.trans h.last, deltas.trans h.deltas, opened.trans h.opened, held⟩

theorem works (h : State.Sources K r s) (w : State.Works s t) : State.Sources K r t := by
  have world := w.world
  refine ⟨by rw [w.frame, h.frame], fun k => w.dict.sorted (h.sorted k), w.numbers.trans h.numbers, world ▸ h.last, world ▸ h.deltas, world ▸ h.opened, fun n => ?_⟩
  rw [State.stream, world, ← State.stream]
  exact h.held n

/-- A counter of any object rises. -/
theorem count (h : State.Sources K r s) (idx sub n : Nat) : State.Sources K r (s.count idx sub n) := by
  have same := s.count_frame idx sub n
  refine ⟨?_, fun k => (s.count_spares idx sub n).sorted (h.sorted k), ?_, ?_, ?_, ?_, fun m => ?_⟩
  · rw [same, h.frame]
  all_goals rw [same]
  · exact h.numbers
  · exact h.last
  · exact h.deltas
  · exact h.opened
  · exact h.held m

theorem setObj (h : State.Sources K r s) (idx sub n : Nat) : State.Sources K r (s.setObj idx sub n) :=
  ⟨by rw [State.setObj, h.frame], fun k => s.dict.setActive_sorted _ _ _ (h.sorted k), h.numbers, h.last, h.deltas, h.opened, h.held⟩

theorem modStream (h : State.Sources K r s) {n : Nat} {f : Stream → Stream} (k : (f (s.stream n)).held = (s.stream n).held) : State.Sources K r (s.modStream n f) :=
  h.keep _ fun m => (s.held_modStream k m).symm ▸ h.held m

theorem ite {c : Prop} [Decidable c] {a b : State} (h : State.Sources K r a) (k : State.Sources K r b) : State.Sources K r (if c then a else b) := by split <;> assumption

theorem foldl {α : Type} {f : State → α → State} {xs : List α} (h : State.Sources K r s) (k : ∀ s x, State.Sources K r s → State.Sources K r (f s x)) : State.Sources K r (xs.foldl f s) :=
  State.foldl_inv f k xs s h

/-! Packets taken -/

theorem takePacket (h : State.Sources K r s) (n frame : Nat) (p : HeldPacket) (test : Option Nat) : State.Sources K r (s.takePacket n frame p test) := by
  unfold State.takePacket
  split
  · have h := (h.modStream (n := n) (f := fun x => { x with discarded := true }) rfl).count (0x3180 + n) 2 1
    exact ((((h.works (State.disturb_works ..)).ite h).works (State.setOutcome_works ..)).works (State.completeRecord_works ..))
  · split
    next x evicted e =>
    have same : x.held = (s.stream n).held := by rw [← Stream.applyAll_held (s.stream n), e]
    have h := (h.modStream (n := n) (f := fun _ => { x with applied := true }) same).count (0x3180 + n) 1 1 |>.count (0x3180 + n) 3 (p.records.filter (fun r => r.2.2.2.isUpdate)).length
    have h := h.ite (c := (evicted == 0) = true) (h.count (0x3180 + n) 6 evicted)
    exact ((((h.works (State.count_works ..)).works (State.raiseFor_works ..)).ite h).works (State.setOutcome_works ..)).works (State.completeRecord_works ..)

/-- R77: a stream whose packets of frames up to N are taken holds later ones alone; the others hold what they held. -/
theorem takeStream (h : State.Sources K r s) (frame n : Nat) (test : Option Nat) :
    State.Sources (fun m l => if m = n then ∀ p ∈ l, frame < p.frame else K m l) r (s.takeStream frame n test) := by
  unfold State.takeStream
  refine State.Sources.foldl (h.keep _ fun m => ?_) fun s p h => h.takePacket ..
  by_cases same : m = n
  · subst same
    rw [if_pos rfl]
    rcases s.stream_modStream_cases m (fun x => { x with held := x.held.filter (fun p => !decide (p.frame ≤ frame)) }) with e | e <;> simp only [State.modStream] at e <;> rw [e]
    · intro p hp
      simpa using (List.mem_filter.1 hp).2
    · exact fun p hp => absurd hp List.not_mem_nil
  · have other := s.stream_modStream_other (fun x => { x with held := x.held.filter (fun p => !decide (p.frame ≤ frame)) }) same
    simp only [State.modStream] at other
    rw [if_neg same, other]
    exact h.held m

/-! Agents and staleness -/

theorem expireAgents (h : State.Sources K r s) (now : Nat) : State.Sources K r (s.expireAgents now) :=
  h.foldl fun _ _ h => h.ite (h.ite ((h.modStream rfl).count ..))

theorem reportStale (h : State.Sources K r s) (frame n : Nat) : State.Sources K r (s.reportStale frame n) := (h.count ..).works (State.raiseFor_works ..)

theorem showStale (h : State.Sources K r s) : State.Sources K r s.showStale := (h.setObj ..).setObj ..

theorem reportLayers (h : State.Sources K r s) (frame bits : Nat) : State.Sources K r (s.reportLayers frame bits) := h.ite ((h.count ..).works (State.raiseOpen_works ..))

theorem setCause (h : State.Sources K r s) (cause : Nat) : State.Sources K r (s.setCause cause) := h.works (State.setCause_works ..)

theorem sealStale (h : State.Sources K r s) (frame now : Nat) : State.Sources K r (s.sealStale frame now).2 :=
  have h := h.foldl fun _ _ h => have h := h.modStream rfl; (h.reportStale ..).ite h
  have h := h.showStale.reportLayers ..
  (h.setCause ..).ite (h.works (State.clearCause_works _ (by decide)))

theorem staleAfterSeal (h : State.Sources K r s) (frame n now : Nat) : State.Sources K r (s.staleAfterSeal frame n now) := by
  unfold State.staleAfterSeal
  split
  · exact h
  · exact
      have h := (h.modStream rfl).showStale.reportStale ..
      have h := (h.reportLayers ..).ite h
      (h.setCause ..).ite h

end State.Sources

end Sys2Proof.Machine
end

section
/-!
The source state sealed (R77, R95, R96).
-/
namespace Sys2Proof.Machine
open Sys2Proof

set_option Elab.async false

namespace State.Sources
variable {K : Nat → List HeldPacket → Prop} {r s t : State}

theorem holdPacket (h : State.Sources K r s) (n : Nat) (p : HeldPacket) : State.Sources (fun _ _ => True) r (s.holdPacket n p) := h.keep _ fun _ => trivial

theorem deferDelta (h : State.Sources K r s) (n : Nat) (p : HeldPacket) : State.Sources (fun _ _ => True) r (s.deferDelta n p) :=
  ((h.works (State.count_works ..)).works (State.raise_works ..)).holdPacket n p

theorem newMapFrame (h : State.Sources K r s) (f : Nat) : State.Sources K r (s.newMapFrame f) := by
  refine h.ite (h.keep _ fun n => ?_)
  have same : (((s.world.streams.map fun x => { x with tiles := [], agents := [] })[n]?).getD Stream.initial).held = (s.stream n).held := by
    rw [List.getElem?_map, State.stream]
    cases s.world.streams[n]? <;> rfl
  exact same ▸ h.held n

/-- R77: once the packets of some streams, and then those of every stream of a list, are taken, all these hold later packets alone. -/
theorem takeStreams {frame skip : Nat} {test : Option Nat} (ns : List Nat) {taken : Nat → Prop} (h : State.Sources (fun m l => taken m → ∀ p ∈ l, frame < p.frame) r s) (skipped : taken skip) :
    State.Sources (fun m l => taken m ∨ m ∈ ns → ∀ p ∈ l, frame < p.frame) r (ns.foldl (fun s n => if n == skip then s else s.takeStream frame n test) s) := by
  induction ns generalizing s taken with
  | nil => exact h.mono fun m l k q => k (q.resolve_right List.not_mem_nil)
  | cons n ns ih =>
    have next : State.Sources (fun m l => taken m ∨ m = n → ∀ p ∈ l, frame < p.frame) r (if n == skip then s else s.takeStream frame n test) := by
      split
      case isTrue same =>
        rw [beq_iff_eq] at same
        exact h.mono fun m l k q => k (q.elim id fun e => e ▸ same ▸ skipped)
      case isFalse =>
        refine (h.takeStream frame n test).mono fun m l k q => ?_
        by_cases e : m = n
        · rwa [if_pos e] at k
        · rw [if_neg e] at k
          exact k (q.resolve_right e)
    exact (ih next (.inl skipped)).mono fun m l k q => k (q.elim (fun a => .inl (.inl a)) fun a => (List.mem_cons.1 a).elim (fun e => .inl (.inr e)) .inr)

end State.Sources

/-- No stream holds a packet of a frame or of an older one. -/
def NoneHeldFor (frame m : Nat) (l : List HeldPacket) : Prop := m < 128 → ∀ p ∈ l, frame < p.frame

/-- The state as the seal finds it, with no urgent delta left over. -/
def State.deltasTaken (s : State) : State := { s with world := { s.world with deltaDue := [], deltaOpen := [] } }

/-- R77: the seal's work on the source state leaves no packet of the frame or of an older one with any stream. -/
theorem State.sealSources_sources (s : State) (frame now : Nat) :
    State.Sources (NoneHeldFor frame) s.deltasTaken (s.sealSources frame now).2.2 := by
  unfold State.sealSources
  extract_lets left opened w1 s1 s2 s3 egoN egoPay s4 ego w5 s5 s6 test payloads s7
  have h : State.Sources (fun _ _ => True) s1 s1 := .refl fun _ => trivial
  have h : State.Sources (fun _ _ => True) s1 s2 := h.foldl fun _ x h => h.deferDelta ..
  have h : State.Sources (fun _ _ => True) s1 s3 := h.foldl fun _ x h => h.holdPacket ..
  have h : State.Sources (fun m l => m = egoN → ∀ p ∈ l, frame < p.frame) s1 s4 := (h.takeStream ..).mono fun m l k q => by rwa [if_pos q] at k
  have h : State.Sources (fun m l => m = egoN → ∀ p ∈ l, frame < p.frame) s1 s5 := h.keep _ h.held
  have h : State.Sources (fun m l => m = egoN → ∀ p ∈ l, frame < p.frame) s1 s6 := by
    unfold s6
    generalize ego = found
    split
    · exact h.newMapFrame _
    · exact h
  have h := h.takeStreams (test := test) (List.range 128) rfl
  split
  next stale s8 e =>
  have done := (h.expireAgents now).sealStale frame now
  unfold s7 at e
  rw [e] at done
  exact done.mono fun m l k inside => k (.inr (List.mem_range.2 inside))

end Sys2Proof.Machine
end

section
/-!
SEAL: the version begun, and the frame opened on it (R77 to R81, R118).
-/
namespace Sys2Proof.Machine
open Sys2Proof

set_option Elab.async false

/-! The rest of the seal's work, on the records and on the sentry's source state -/

theorem State.makeImage_works (s : State) : State.Works s s.makeImage.2 := .of_det ..

theorem State.sendCheckpoint_works (s : State) (frame : Nat) : State.Works s (s.sendCheckpoint frame) := by
  unfold State.sendCheckpoint
  split
  · exact .refl s
  · exact (s.makeImage_works.trans (.of_group ..)).trans (State.sendSegments_works ..)

theorem State.takeDumps_works (s : State) (frame : Nat) : State.Works s (s.takeDumps frame) := .foldl (fun t _ => t.makeImage_works.trans (.of_det ..)) _ _

theorem State.sentryApply_works (s : State) (p : SentryHeld) : State.Works s (s.sentryApply p) := .of_newel s ⟨fun _ h => h, id, rfl⟩

theorem State.sentrySeal_works (s : State) (frame mapFrame now landing : Nat) (start : StartState) : State.Works s (s.sentrySeal frame mapFrame now landing start) := by
  unfold State.sentrySeal
  extract_lets n1 s1 due n2 s2 s3 sources drawn
  have remapped : State.Works s s1 := .optional (.of_newel s ⟨fun _ h => h, id, rfl⟩)
  have emptied : State.Works s1 s2 := .of_newel s1 ⟨fun _ h => h, id, rfl⟩
  have applied : State.Works s2 s3 := .foldl (fun t p => .ite (t.sentryApply_works p) (t.count_works 0x9202 6 1)) _ _
  exact ((remapped.trans emptied).trans applied).trans (.of_newel s3 ⟨fun _ h => h, id, rfl⟩)

theorem State.overflowAgents_works (s : State) (frame : Nat) (inp : Inputs) : State.Works s (s.overflowAgents frame inp) :=
  .optional ((State.count_works ..).trans (State.raiseOpen_works ..))

theorem State.reportContinuation_notes (s : State) (n : Nat) : State.Notes s (s.reportContinuation n) := by
  unfold State.reportContinuation
  split
  · split
    · exact (s.count_frame ..).trans (State.raiseOpen_frame ..)
    · rfl
  · rfl

theorem State.reportContinuation_works (s : State) (n : Nat) : State.Works s (s.reportContinuation n) := by
  unfold State.reportContinuation
  split
  · exact .optional' ((s.count_works ..).trans (State.raiseOpen_works ..))
  · exact .refl s

/-! The version begun (R77, R81, R118) -/

/-- What is in a list stays there, or is changed there. -/
theorem mem_modFirst {α : Type} {p : α → Bool} {f : α → α} {xs : List α} {x : α} (h : x ∈ xs) : x ∈ modFirst p f xs ∨ f x ∈ modFirst p f xs := by
  induction xs with
  | nil => exact absurd h List.not_mem_nil
  | cons y ys ih =>
    unfold modFirst
    rcases List.mem_cons.1 h with rfl | there
    · split
      · exact .inr (List.mem_cons_self ..)
      · exact .inl (List.mem_cons_self ..)
    · split
      · exact .inl (List.mem_cons_of_mem _ there)
      · exact (ih there).imp (List.mem_cons_of_mem _) (List.mem_cons_of_mem _)

/-- From `r` to `s` the version in hand, whatever its tile jobs, stays in the map and is the one shown; the source state stays as it is. -/
structure State.Charts (v : Version) (r s : State) : Prop where
  frame : s = { r with dict := s.dict, frames := s.frames, host := s.host, world := s.world, disp := s.disp, newel := s.newel, group := s.group, det := s.det, events := s.events, wire := s.wire }
  numbers : s.frames.map (·.frame) = r.frames.map (·.frame)
  last : s.world.lastVersion = r.world.lastVersion
  streams : s.world.streams = r.world.streams
  shown : s.cfg 0x3300 3 = v.number
  listed : ∃ jobs, { v with jobs := jobs } ∈ s.world.versions

namespace State.Charts
variable {v : Version} {r s t : State}

theorem works (h : State.Charts v r s) (w : State.Works s t) : State.Charts v r t := by
  have world := w.world
  refine ⟨by rw [w.frame, h.frame], w.numbers.trans h.numbers, world ▸ h.last, world ▸ h.streams, ?_, world ▸ h.listed⟩
  rw [State.cfg, w.dict.same 0x3300 3 ⟨by decide, by decide⟩, ← State.cfg]
  exact h.shown

/-- The map alone changes, and the version stays in it. -/
theorem keep (h : State.Charts v r s) (w : World) (listed : ∃ jobs, { v with jobs := jobs } ∈ w.versions)
    (e : (w.lastVersion, w.streams) = (s.world.lastVersion, s.world.streams) := by rfl) : State.Charts v r { s with world := w } := by
  simp only [Prod.mk.injEq] at e
  exact ⟨by rw [h.frame], h.numbers, e.1.trans h.last, e.2.trans h.streams, h.shown, listed⟩

theorem ite {c : Prop} [Decidable c] {a b : State} (h : State.Charts v r a) (k : State.Charts v r b) : State.Charts v r (if c then a else b) := by split <;> assumption

/-- Tile jobs of a version change. -/
theorem modVersion (h : State.Charts v r s) (number : Nat) (spec : Bool) {f : Version → Version} (k : ∀ x, ∃ jobs, f x = { x with jobs := jobs }) : State.Charts v r (s.modVersion number spec f) := by
  obtain ⟨jobs, listed⟩ := h.listed
  refine h.keep _ ?_
  rcases mem_modFirst (p := fun v => v.number == number && v.spec == spec) (f := f) listed with same | changed
  · exact ⟨jobs, same⟩
  · obtain ⟨jobs', e⟩ := k { v with jobs := jobs }
    exact ⟨jobs', e ▸ changed⟩

theorem beginCompare (h : State.Charts v r s) (frame : Nat) (run sealedV : Version) : State.Charts v r (s.beginCompare frame run sealedV) := by
  unfold State.beginCompare
  extract_lets noKeep b keysOf undone all reversioned w1 s1 s2 s3 s4 d5 s5 s6
  have h : State.Charts v r s1 := h.keep _ h.listed
  clear_value s1
  have h : State.Charts v r s2 := (h.works (State.choice_works ..)).ite h
  have h : State.Charts v r s3 := h.modVersion _ _ fun x => by split <;> exact ⟨_, rfl⟩
  have h : State.Charts v r s4 := (h.works (State.cancelItems_works ..)).ite h
  clear_value s4
  have h : State.Charts v r s5 := h.works (.of_disp ..)
  have h : State.Charts v r s6 := h.ite (h.works (State.count_works ..))
  exact h.modVersion _ _ fun x => ⟨_, rfl⟩

theorem retireVersions (h : State.Charts v r s) (building : v.ready = false) : State.Charts v r s.retireVersions := by
  obtain ⟨jobs, listed⟩ := h.listed
  exact h.keep _ ⟨jobs, List.mem_filter.2 ⟨listed, by simp [building]⟩⟩

end State.Charts

/-- R135: a version shown is the one that the version object names. -/
theorem State.cfg_showVersion (s : State) (v : Version) (h : alSorted s.dict.active = true) : (s.showVersion v).cfg 0x3300 3 = v.number := by
  have shown := s.dict.activeVal_setActive_same 0x3300 3 (.num v.number) h
  show (Dict.activeVal (Dict.setActive (Dict.setActive (s.dict.setActive 0x3300 3 (.num v.number)) 0x3300 4 _) 0x3300 5 _) 0x3300 3).toNum = v.number
  rw [Dict.activeVal_setActive_other _ _ (by decide), Dict.activeVal_setActive_other _ _ (by decide), shown]
  rfl

/-- A version as it is sealed for a frame at an instant, without a tile. -/
structure Version.Sealed (v : Version) (number frame now : Nat) (inp : Inputs) (reinit : Bool) : Prop where
  number : v.number = number
  spec : v.spec = false
  urgent : v.urgent = false
  frame : v.frame = frame
  sealTime : v.sealTime = now
  inputs : v.inputs = inp
  reinitialised : v.reinitialised = reinit
  tiles : v.tiles = []
  building : v.ready = false

/-- R77, R81: the version of a frame is numbered one above the last, and begun. -/
theorem State.sealVersion_charts (s : State) (frame now stale : Nat) (inp : Inputs) (reinit : Bool) (sorted : alSorted s.dict.active = true) :
    (s.sealVersion frame now stale inp reinit).1.Sealed ((s.world.lastVersion + 1) % 2 ^ 32) frame now inp reinit ∧
      State.Charts (s.sealVersion frame now stale inp reinit).1 { s with world := { s.world with lastVersion := (s.world.lastVersion + 1) % 2 ^ 32 } } (s.sealVersion frame now stale inp reinit).2 := by
  unfold State.sealVersion
  extract_lets run number egoStale v w1 s1 s2 s3 w4
  have begun : v.Sealed number frame now inp reinit := ⟨rfl, rfl, rfl, rfl, rfl, rfl, rfl, rfl, rfl⟩
  refine ⟨begun, ?_⟩
  clear_value v
  have h : State.Charts v { s with world := { s.world with lastVersion := number } } (s1.showVersion v) :=
    ⟨rfl, rfl, rfl, rfl, s1.cfg_showVersion v sorted, v.jobs, List.mem_append_right _ (List.mem_singleton_self _)⟩
  have h : State.Charts v { s with world := { s.world with lastVersion := number } } s2 := h.works (State.count_works ..)
  have h : State.Charts v { s with world := { s.world with lastVersion := number } } s3 := by
    unfold s3
    generalize run = found
    split
    · exact h.beginCompare ..
    · exact h
  exact h.keep _ h.listed

/-! SEAL -/

/-- A frame's work is found wherever there is a frame of its number. -/
theorem State.work?_of_numbers {s t : State} (same : t.frames.map (·.frame) = s.frames.map (·.frame)) {n : Nat} {w : FrameWork} (h : s.work? n = some w) : ∃ w', t.work? n = some w' := by
  have listed : w.frame ∈ t.frames.map (·.frame) := same ▸ List.mem_map_of_mem (List.mem_of_find?_eq_some h)
  obtain ⟨x, there, e⟩ := List.mem_map.1 listed
  have number : w.frame = n := by simpa using List.find?_some h
  exact Option.isSome_iff_exists.1 (List.find?_isSome.2 ⟨x, there, by simp [e, number]⟩)

theorem State.openWork_works (s : State) (n number : Nat) (start : StartState) (reinit speculative : Bool) : State.Works s (s.openWork n number start reinit speculative) := s.modWork_works ..

/-- A sealed frame's work opened on its version, and the seal recorded (R78, R160, R362). -/
def State.sealOpened (s : State) (frame number : Nat) (start : StartState) (reinit : Bool) (content : List Byte) : State :=
  ((((s.openWork frame number start reinit false).reportContinuation frame).recordStep frame 0 0 0 content).phaseReady frame 0 0).retireVersions.feedTiles

section
variable {s : State} {frame : Nat} {start : StartState} {reinit : Bool} {content : List Byte}

theorem State.work?_recorded (n : Nat) : (((s.recordStep frame 0 0 0 content).phaseReady frame 0 0).retireVersions).work? n = s.work? n := by
  have recorded : (s.recordStep frame 0 0 0 content).frames = s.frames := rfl
  have ready (t : State) : (t.phaseReady frame 0 0).frames = t.frames := rfl
  have retired (t : State) : t.retireVersions.frames = t.frames := by rw [t.retireVersions_frame]
  rw [State.work?, retired, ready, recorded, ← State.work?]

theorem State.work?_sealOpened {number : Nat} {w : FrameWork} (found : s.work? frame = some w) : ∃ w', (s.sealOpened frame number start reinit content).work? frame = some w' ∧
    w'.start = start ∧ w'.reinitialised = reinit ∧ w'.sealed = true ∧ w'.speculative = false ∧ w'.version = number := by
  obtain ⟨w', opened, -, marks⟩ := s.work?_openWork (number := number) (start := start) (reinit := reinit) (speculative := false) found
  have reported := (State.ItemNotes.of_notes ((s.openWork frame number start reinit false).reportContinuation_notes frame)).work? frame
  have fed : (s.sealOpened frame number start reinit content).work? frame = ((s.openWork frame number start reinit false).reportContinuation frame).work? frame :=
    ((State.feedTiles_itemNotes _).work? frame).trans (State.work?_recorded frame)
  exact ⟨w', (fed.trans reported).trans opened, marks⟩

theorem State.Charts.sealOpened {v : Version} {r : State} (h : State.Charts v r s) (building : v.ready = false) : State.Charts v r (s.sealOpened frame v.number start reinit content) := by
  have h := h.works (s.openWork_works frame v.number start reinit false)
  have h := h.works (State.reportContinuation_works _ frame)
  have h := (h.works (State.recordStep_works _ frame 0 0 0 content)).works (State.phaseReady_works _ frame 0 0)
  exact (h.retireVersions building).works (State.feedTiles_works _)

end

/-- What a seal leaves: the frame's work and the version, with the packets that streams still hold. -/
structure State.SealsFrame (s : State) (w : FrameWork) (number : Nat) (t : State) (w' : FrameWork) (v : Version) (inp : Inputs) : Prop where
  found : t.work? w.frame = some w'
  sealed : w'.sealed = true
  speculative : w'.speculative = false
  version : w'.version = number
  last : t.world.lastVersion = number
  shown : t.cfg 0x3300 3 = number
  listed : v ∈ t.world.versions
  begun : v.Sealed number w.frame (w.tick + s.us 0x2010 2) inp w'.reinitialised
  landing : inp.landing = w.tick + s.us 0x2016 1
  start : inp.start = w'.start
  held : ∀ n, n < 128 → ∀ p ∈ (t.stream n).held, w.frame < p.frame
  frame : t = { s with dict := t.dict, frames := t.frames, host := t.host, world := t.world, disp := t.disp, newel := t.newel, group := t.group, det := t.det, events := t.events, wire := t.wire }

/-- R77 to R81, R118: what the seal of a frame on a chip that builds maps leaves. -/
theorem State.sealFrame_seals (s : State) {w : FrameWork} (found : s.work? w.frame = some w) (sorted : alSorted s.dict.active = true) :
    ∃ w' v inp, s.SealsFrame w ((s.world.lastVersion + 1) % 2 ^ 32) (s.sealFrame w) w' v inp := by
  unfold State.sealFrame
  extract_lets now landing s1 carried
  have first : State.Works s s1 := (s.sendCheckpoint_works ..).trans (State.takeDumps_works ..)
  clear_value s1
  have h := s1.sealSources_sources w.frame now
  split
  next stale payloads s2 e2 =>
  rw [e2] at h
  split
  next start reinit e3 =>
  extract_lets s3 w4 s4 inp s5
  have h : State.Sources (NoneHeldFor w.frame) s1.deltasTaken s3 := h.works (State.sentrySeal_works ..)
  clear_value s3
  have h : State.Sources (NoneHeldFor w.frame) s1.deltasTaken s4 := h.keep _ h.held
  have h : State.Sources (NoneHeldFor w.frame) s1.deltasTaken s5 := h.works (State.overflowAgents_works ..)
  have frozen : inp.landing = landing ∧ inp.start = start := ⟨rfl, rfl⟩
  clear_value s5 inp
  obtain ⟨begun, charts⟩ := s5.sealVersion_charts w.frame now stale inp reinit (h.sorted (first.dict.sorted sorted))
  have last : s5.world.lastVersion = s.world.lastVersion := h.last.trans (show s1.world.lastVersion = _ from congrArg World.lastVersion first.world)
  rw [last] at begun charts
  split
  next v s6 e6 =>
  rw [e6] at begun charts
  dsimp only at begun charts
  obtain ⟨w6, found6⟩ := State.work?_of_numbers ((charts.numbers.trans h.numbers).trans first.numbers) found
  obtain ⟨w', found', hstart, hreinit, sealed, speculative, version⟩ := State.work?_sealOpened (number := v.number) (start := start) (reinit := reinit) (content := sealContent v payloads carried) found6
  have charts := charts.sealOpened (frame := w.frame) (start := start) (reinit := reinit) (content := sealContent v payloads carried) begun.building
  change ∃ w' v' inp, s.SealsFrame w _ (s6.sealOpened w.frame v.number start reinit (sealContent v payloads carried)) w' v' inp
  generalize s6.sealOpened w.frame v.number start reinit (sealContent v payloads carried) = t at found' charts ⊢
  obtain ⟨jobs, listed⟩ := charts.listed
  refine ⟨w', { v with jobs := jobs }, inp, found', sealed, speculative, version.trans begun.number, charts.last, charts.shown.trans begun.number, listed, ?_, frozen.1, frozen.2.trans hstart.symm, ?_, ?_⟩
  · rw [hreinit]
    exact ⟨begun.number, begun.spec, begun.urgent, begun.frame, begun.sealTime, begun.inputs, begun.reinitialised, begun.tiles, begun.building⟩
  · intro n inside p held
    rw [State.stream, charts.streams] at held
    exact h.held n inside p held
  · have f1 := first.frame
    have f5 := h.frame
    have f6 := charts.frame
    rw [f1] at f5
    rw [f5] at f6
    exact f6

/-- The instant of a seal: SealEnd, where frames go by the tick clock. -/
def State.sealAt (s : State) (w : FrameWork) : State := if s.det.unpaced then s else s.atTick (w.tick + s.us 0x2010 2)

theorem State.sealAt_eq (s : State) (w : FrameWork) : s.sealAt w = { s with now := (s.sealAt w).now } := by
  unfold State.sealAt
  split <;> rfl

theorem execSeal_found {s : State} {w : FrameWork} (found : s.work? s.tb.curFrame = some w) :
    exec .seal s = .next (if w.sealed || !s.mapRuns || (s.det.unpaced && s.inputsPending) || s.regionBusy 4 then s else (s.sealAt w).sealFrame w) := by
  show execSeal s = _
  unfold execSeal
  rw [found]
  rfl

/-- Settles O15, by what is known of the streams up to the version, and of the version from then on. -/
theorem theSealFixesTheFramesInputs : Obligations.TheSealFixesTheFramesInputs := by
  unfold Obligations.TheSealFixesTheFramesInputs
  intro s w found runs sorted
  refine ⟨fun already => ?_, fun unsealed paced free => ?_⟩
  · rw [execSeal_found found, if_pos (by simp [already])]
  · have current : w.frame = s.tb.curFrame := by simpa using List.find?_some found
    have pending : (s.det.unpaced && s.inputsPending) = false := by
      cases e : s.det.unpaced
      · rfl
      · rw [paced e]
        rfl
    have run := execSeal_found found
    rw [if_neg (by simp [unsealed, runs, pending, free]), s.sealAt_eq w] at run
    generalize (s.sealAt w).now = now at run
    obtain ⟨w', v, inp, seals⟩ := State.sealFrame_seals { s with now := now } (w := w) (by rw [← current] at found; exact found) sorted
    have begun := seals.begun
    rw [← current]
    exact ⟨_, w', v, run, seals.found, seals.sealed, seals.speculative, seals.version, seals.last, seals.shown, seals.listed, begun.number, begun.spec, begun.urgent, begun.frame, begun.sealTime,
      begun.inputs ▸ seals.landing, begun.inputs ▸ seals.start, begun.reinitialised, begun.tiles, seals.held,
      by rw [seals.frame], by rw [seals.frame], by rw [seals.frame], by rw [seals.frame], by rw [seals.frame], by rw [seals.frame]⟩

end Sys2Proof.Machine
end

section
/-!
SCENE_TENSOR_EMIT (R128).
-/
namespace Sys2Proof.Machine
open Sys2Proof

set_option Elab.async false

theorem State.shipScene_works (s : State) (frame version : Nat) (bytes : List Byte) : State.Works s (s.shipScene frame version bytes) := .optional' (s.sendSegments_works ..)

theorem State.policyAbsent_works (s : State) (frame : Nat) : State.Works s (s.policyAbsent frame) :=
  ((((s.modWork_works ..).trans (State.raiseOpen_works ..)).trans (State.disturb_works ..)).trans (State.completeRound0_works ..)).trans (State.goRounds_works ..)

/-- The sealed scene tensor's verdict on a policy round changes no more than the frames' work (R82). -/
theorem State.judgePolicy_works (s : State) (w : FrameWork) (same reruns : Bool) : State.Works s (s.judgePolicy w same reruns) := by
  unfold State.judgePolicy
  extract_lets policyItem fresh running policy began s1 s2 s3
  refine .optional (.ite ?goesOn ?runsAnew)
  case goesOn => exact ((((s.claimItems_works ..).trans (State.disposeAll_works ..)).trans (State.issueMissing_works ..)).trans (State.retireProposals_works ..)).trans (State.goRounds_works ..)
  case runsAnew =>
    have stopped : State.Works s s1 := (s.cancelItems_works _).trans (State.squashItems_works ..)
    have reset : State.Works s1 s2 := s1.modWork_works ..
    exact ((stopped.trans reset).trans (s2.disposeAll_works _)).trans (.ite (s3.addItem_works _) (s3.policyAbsent_works _))

/-- The scene tensor of a frame put in the place of the run-ahead map's, or of the sealed version's. -/
def World.withScene (w : World) (spec : Bool) (x : Scene) : World := if spec then { w with specScene := some x } else { w with scene := some x, specScene := none }

/-- R128: a scene tensor complete for a frame in flight stands in its place. -/
theorem State.sceneDone_works (s : State) {frame : Nat} {w : FrameWork} (found : s.work? frame = some w) (spec : Bool) (bytes : List Byte) (numeric : Nat) :
    State.Works { s with world := s.world.withScene spec ⟨frame, bytes, numeric⟩ } (s.sceneDone frame spec bytes numeric) := by
  unfold State.sceneDone
  rw [found]
  cases spec
  · exact State.judgePolicy_works ..
  · exact .optional' (State.addItem_works ..)

/-- SCENE_TENSOR_EMIT: the tensor is the version's, in its place, and the streams and engines stay as they are. -/
theorem exec_sceneTensorEmit {s : State} {v : Version} (free : s.regionBusy 5 = false) (due : s.world.versions.find? (SceneDue s) = some v) :
    ∃ t x, exec .sceneTensorEmit s = .next t ∧ x.frame = v.frame ∧ x.bytes = s.sceneOf v ∧
      (v.spec = true → t.world.specScene = some x ∧ t.world.scene = s.world.scene) ∧ (v.spec = false → t.world.scene = some x ∧ t.world.specScene = none) ∧
      t.world.streams = s.world.streams ∧ t.tb = s.tb ∧ t.ctl = s.ctl ∧ t.eng = s.eng := by
  have shipped : State.Works s ((s.count 0x3301 6 1).shipScene v.frame v.number (s.sceneOf v)) := (s.count_works ..).trans (State.shipScene_works ..)
  obtain ⟨w, found⟩ : ∃ w, s.work? v.frame = some w := by
    have wanted := List.find?_some due
    simp only [SceneDue, Bool.and_eq_true, List.any_eq_true] at wanted
    obtain ⟨⟨-, w, there, ⟨⟨number, -⟩, -⟩, -⟩, -⟩ := wanted
    exact Option.isSome_iff_exists.1 (List.find?_isSome.2 ⟨w, there, number⟩)
  obtain ⟨w', found'⟩ := State.work?_of_numbers shipped.numbers found
  have run : exec .sceneTensorEmit s = .next (((s.count 0x3301 6 1).shipScene v.frame v.number (s.sceneOf v)).sceneDone v.frame v.spec (s.sceneOf v)
      (((s.count 0x3301 6 1).shipScene v.frame v.number (s.sceneOf v)).sceneEvents v)) := by
    show execSceneTensorEmit s = _
    unfold execSceneTensorEmit
    extract_lets wants
    rw [free]
    have due' : s.world.versions.find? wants = some v := due
    simp only [Bool.false_eq_true, if_false, due']
  generalize (s.count 0x3301 6 1).shipScene v.frame v.number (s.sceneOf v) = u at shipped found' run
  have done := u.sceneDone_works found' v.spec (s.sceneOf v) (u.sceneEvents v)
  refine ⟨_, ⟨v.frame, s.sceneOf v, u.sceneEvents v⟩, run, rfl, rfl, fun spec => ?_, fun spec => ?_, ?_, done.tb.trans shipped.tb, done.ctl.trans shipped.ctl, done.eng.trans shipped.eng⟩
  · rw [done.world, spec, shipped.world]
    exact ⟨rfl, rfl⟩
  · rw [done.world, spec]
    exact ⟨rfl, rfl⟩
  · rw [done.world, shipped.world]
    cases v.spec <;> rfl

end Sys2Proof.Machine
end

section
/-!
What a frame's work shows of its version and its blocks, and what leaves that as it is (R87, R123).
-/
namespace Sys2Proof.Machine
open Sys2Proof

set_option Elab.async false

/-- What a frame's work shows: its number, its version, whether it has landed, and its block records. -/
def FrameWork.marks (w : FrameWork) : Nat × Nat × Bool × List BlockRec := (w.frame, w.version, w.landed, w.blocks)

/-- The frames show what they showed. -/
def State.KeepsMarks (s t : State) : Prop := t.frames.map FrameWork.marks = s.frames.map FrameWork.marks

namespace State.KeepsMarks

theorem refl (s : State) : State.KeepsMarks s s := rfl

theorem trans {s t u : State} (a : State.KeepsMarks s t) (b : State.KeepsMarks t u) : State.KeepsMarks s u := Eq.trans b a

theorem of_frames {s t : State} (h : t.frames = s.frames) : State.KeepsMarks s t := congrArg (List.map FrameWork.marks) h

theorem of_notes {s t : State} (h : State.Notes s t) : State.KeepsMarks s t := of_frames (by rw [h])

theorem ite {c : Prop} [Decidable c] {s t u : State} (a : State.KeepsMarks s t) (b : State.KeepsMarks s u) : State.KeepsMarks s (if c then t else u) := by split <;> assumption

theorem foldl {α : Type} {f : State → α → State} (h : ∀ s x, State.KeepsMarks s (f s x)) (xs : List α) (s : State) : State.KeepsMarks s (xs.foldl f s) :=
  State.foldl_rel refl trans f h xs s

/-- A frame's work found shows what it showed. -/
theorem work? {s t : State} (h : State.KeepsMarks s t) {n : Nat} {w : FrameWork} (found : s.work? n = some w) : ∃ w', t.work? n = some w' ∧ w'.marks = w.marks := by
  have shown (u : State) : (u.work? n).map FrameWork.marks = (u.frames.map FrameWork.marks).find? (fun m => m.1 == n) := by
    rw [List.find?_map]
    rfl
  have same : (t.work? n).map FrameWork.marks = some w.marks := by rw [shown, h, ← shown, found, Option.map_some]
  exact Option.map_eq_some_iff.1 same

end State.KeepsMarks

theorem State.modWork_marks (s : State) (n : Nat) (f : FrameWork → FrameWork) (h : ∀ w, (f w).marks = w.marks := by exact fun _ => rfl) : State.KeepsMarks s (s.modWork n f) := map_modFirst_of_eq _ f _ h _

theorem State.present_marks (s : State) (frame : Nat) : State.KeepsMarks s (s.present frame) := s.modWork_marks _ _ fun w => by split <;> rfl

theorem State.maskBit_marks (s : State) (frame bit : Nat) : State.KeepsMarks s (s.maskBit frame bit) := by
  unfold State.maskBit
  split
  · exact s.modWork_marks ..
  · rfl

theorem State.choice_marks (s : State) (frame bit : Nat) (once : Bool) : State.KeepsMarks s (s.choice frame bit once) :=
  .ite (.refl s) (((s.maskBit_marks ..).trans (.of_notes (State.count_frame ..))).trans (.of_notes (State.count_frame ..)))

theorem State.addItem_marks (s : State) (n : NewItem) : State.KeepsMarks s (s.addItem n) := .of_frames (s.addItem_itemNotes n).frames

/-! Group messages -/

theorem State.sendGroup_marks (s : State) (d kind : Nat) (last : Bool) (segment frame version : Nat) (payload : List Byte) :
    State.KeepsMarks s (s.sendGroup d kind last segment frame version payload) := by
  have charged (t : State) (bytes : Nat) : State.KeepsMarks t (t.chargePeer kind bytes) := .ite rfl rfl
  have sent (t : State) (q priority : Nat) (m : WireMsg) : State.KeepsMarks t (t.sendQp q priority m) := .of_notes (t.sendQp_sends ..).1.notes
  exact .trans (.trans (sent (s.modPeer d _) ..) (.of_notes (State.count_frame ..))) (charged ..)

theorem State.sendSegments_marks (s : State) (d kind frame version : Nat) (payload : List Byte) : State.KeepsMarks s (s.sendSegments d kind frame version payload) := by
  unfold State.sendSegments
  generalize chunks _ _ _ = parts, (0 : Nat) = n
  induction parts generalizing n s with
  | nil => rfl
  | cons b rest ih =>
    cases rest with
    | nil => exact s.sendGroup_marks ..
    | cons c rest => exact (s.sendGroup_marks ..).trans (ih _ _)

theorem State.shipVersion_marks (s : State) (v : Version) : State.KeepsMarks s (s.shipVersion v) := by
  unfold State.shipVersion
  refine .ite (.refl s) ?_
  extract_lets held delta bytes t
  have h : State.KeepsMarks s t := .ite ((State.KeepsMarks.of_notes (s.count_frame ..)).trans (.of_notes (State.raiseOpen_frame ..))) (.refl s)
  split
  · exact h
  · exact h.trans (.trans (.ite (.refl t) (t.sendSegments_marks ..)) (State.sendGroup_marks ..))

/-! Blocks and rounds -/

theorem State.addBlock_marks (s : State) (w : FrameWork) (firstId cls : Nat) (spec replay : Bool) : State.KeepsMarks s (s.addBlock w firstId cls spec replay) := by
  unfold State.addBlock
  exact s.addItem_marks _

theorem State.recordStep_marks (s : State) (frame phase round index : Nat) (content : List Byte) : State.KeepsMarks s (s.recordStep frame phase round index content) := .of_frames rfl

theorem State.phaseReady_marks (s : State) (frame phase round : Nat) : State.KeepsMarks s (s.phaseReady frame phase round) := .of_frames rfl

theorem State.issueBlock_marks (s : State) (frame firstId : Nat) : State.KeepsMarks s (s.issueBlock frame firstId) := by
  unfold State.issueBlock
  split
  · exact .refl s
  · exact (s.modWork_marks ..).trans (State.addBlock_marks ..)

theorem State.replayBlock_marks (s : State) (frame firstId : Nat) : State.KeepsMarks s (s.replayBlock frame firstId) := by
  unfold State.replayBlock
  split
  · exact .ite (.refl s) (.ite (.refl s) (.ite (.refl s) (s.addBlock_marks ..)))
  · exact .refl s

theorem State.retireProposals_marks (s : State) (frame : Nat) : State.KeepsMarks s (s.retireProposals frame) := by
  unfold State.retireProposals
  split
  · exact .refl s
  · exact .ite (.refl s) (.trans (.ite (.refl s) (.foldl (fun t _ => t.recordStep_marks ..) _ _)) (State.phaseReady_marks ..))

theorem State.completeRound0_marks (s : State) (frame : Nat) : State.KeepsMarks s (s.completeRound0 frame) := by
  have h := s.retireProposals_marks frame
  unfold State.completeRound0
  dsimp only
  split
  · exact h
  · exact h.trans (.ite (State.modWork_marks ..) (.refl _))

theorem State.issueMissing_marks (s : State) (frame : Nat) : State.KeepsMarks s (s.issueMissing frame) := by
  unfold State.issueMissing
  split
  · exact .refl s
  · exact .ite (.refl s) (((State.KeepsMarks.foldl (fun t i => .ite (.refl t) (t.issueBlock_marks frame i)) _ _).trans
      (.foldl (fun t (r : BlockRec) => t.replayBlock_marks frame r.firstId) _ _)).trans (State.completeRound0_marks ..))

theorem State.advanceRounds_marks (fuel frame : Nat) (s : State) : State.KeepsMarks s (State.advanceRounds fuel frame s) := by
  induction fuel generalizing s with
  | zero => exact .refl s
  | succ fuel ih =>
    unfold State.advanceRounds
    split
    · exact .refl s
    split
    · exact .refl s
    split
    · exact .refl s
    refine .ite (.refl s) ?_
    extract_lets s1 none? s2 s3
    have taken : State.KeepsMarks s s1 := s.modWork_marks ..
    have issued : State.KeepsMarks s1 s2 := .ite ((State.KeepsMarks.of_notes (s1.count_frame ..)).trans (.of_notes (State.raiseOpen_frame ..))) (.foldl (fun t i => t.issueBlock_marks frame i) _ _)
    have complete : State.KeepsMarks s2 s3 := s2.modWork_marks ..
    exact taken.trans (.ite ((issued.trans complete).trans (ih s3)) (.refl s1))

theorem State.goRounds_marks (s : State) (frame : Nat) : State.KeepsMarks s (s.goRounds frame) := State.advanceRounds_marks 5 frame s

/-- An urgent version that is ready changes no block record and no frame's version. -/
theorem State.released_marks (s : State) {v : Version} (urgent : v.urgent = true) : State.KeepsMarks s (s.released v) := by
  have marked : State.KeepsMarks s (s.markReady v) := .of_frames rfl
  have settled (t : State) : State.KeepsMarks t t.settleItems := .of_frames rfl
  unfold State.released
  rw [if_pos (by simp [urgent])]
  exact (((marked.trans (State.shipVersion_marks ..)).trans (settled _)).trans (State.issueMissing_marks ..)).trans (State.goRounds_marks ..)

end Sys2Proof.Machine
end

section
/-!
URGENT_DELTA (R85, R86, R123).
-/
namespace Sys2Proof.Machine
open Sys2Proof

set_option Elab.async false

/-! A delta deferred (R86) -/

theorem Stream.mem_holds (x : Stream) (p : HeldPacket) : p ∈ x.held.takeWhile (fun q => decide (q.journal < p.journal)) ++ [p] ++ x.held.dropWhile (fun q => decide (q.journal < p.journal)) :=
  List.mem_append_left _ (List.mem_append_right _ (List.mem_singleton_self p))

/-- R86: a delta deferred waits with its stream, and is reported; the map and the frames stay as they are. -/
theorem State.deferDelta_effect (s : State) {n : Nat} (p : HeldPacket) (inside : n < s.world.streams.length) :
    p ∈ ((s.deferDelta n p).stream n).held ∧ Raised s (s.deferDelta n p) 0x0385 ∧ (s.deferDelta n p).world.versions = s.world.versions ∧
      (s.deferDelta n p).world.deltas = s.world.deltas ∧ (s.deferDelta n p).frames = s.frames := by
  have counted := s.count_frame 0x2021 8 1
  have raised : Raised s ((s.count 0x2021 8 1).raise 0x0385 n) 0x0385 := State.raised_of_prefix (State.raised_raise ..) (s.count_prefix ..) List.prefix_rfl
  have told : State.Notes s ((s.count 0x2021 8 1).raise 0x0385 n) := counted.trans (State.raise_frame ..)
  have defer : s.deferDelta n p = ((s.count 0x2021 8 1).raise 0x0385 n).holdPacket n p := rfl
  rw [defer]
  generalize (s.count 0x2021 8 1).raise 0x0385 n = t at raised told
  have world : t.world = s.world := by rw [told]
  have frames : t.frames = s.frames := by rw [told]
  refine ⟨?_, raised, (congrArg World.versions world : t.world.versions = _), (congrArg World.deltas world : t.world.deltas = _), frames⟩
  rw [State.holdPacket, t.stream_modStream_same _ (world ▸ inside)]
  exact Stream.mem_holds ..

/-! A delta begun (R123) -/

theorem State.Sources.takeDelta {K : Nat → List HeldPacket → Prop} {r s : State} (h : State.Sources K r s) (n : Nat) (w : FrameWork) (p : HeldPacket) :
    State.Sources K r (s.takeDelta n w p) :=
  have h := (h.takePacket n w.frame p _).modStream rfl
  (h.staleAfterSeal ..).ite h

/-- The deltas that wait, once one is taken. -/
def State.deltasLeft (s : State) (rest : List (Nat × HeldPacket)) : State := { s with world := { s.world with deltaOpen := rest } }

/-- A version numbered and put in the map. -/
def State.withVersion (s : State) (v : Version) : State := { s with world := { s.world with versions := s.world.versions ++ [v], lastVersion := v.number } }

section
variable {s : State} {n : Nat} {p : HeldPacket} {rest : List (Nat × HeldPacket)} {v : Version} {w : FrameWork}

/-- R123: the delta that waits first begins the version that follows the newest one, once that is built. -/
theorem State.startDelta_begins (waits : s.world.deltaOpen = (n, p) :: rest) (newest : s.newest = some v) (work : s.work? s.tb.curFrame = some w) (built : v.ready = true)
    (same : v.frame = w.frame) (flies : w.landed = false) :
    ∃ v', v'.urgent = true ∧ v'.number = (((s.deltasLeft rest).takeDelta n w p).world.lastVersion + 1) % 2 ^ 32 ∧ v'.parent = some v.number ∧ v'.frame = w.frame ∧
      State.ItemNotes (((s.deltasLeft rest).takeDelta n w p).withVersion v') s.startDelta := by
  unfold State.startDelta
  split
  case h_1 _ _ _ n' p' rest' v₁ w₁ waits' newest' work' =>
    obtain ⟨⟨rfl, rfl⟩, rfl⟩ : ((n, p) = (n', p')) ∧ rest = rest' := by simpa [waits] using waits'
    obtain rfl : v = v₁ := Option.some.inj (newest.symm.trans newest')
    obtain rfl : w = w₁ := Option.some.inj (work.symm.trans work')
    rw [if_neg (by simp [built, same, flies])]
    extract_lets w1 s1 s2 b inputs changed number stamp v' w2 s3
    have counted : State.ItemNotes s3 (if changed.isEmpty then s3 else s3.count 0x3301 2 changed.length) := by
      split
      · rfl
      · exact .of_notes (s3.count_frame ..)
    exact ⟨v', rfl, rfl, rfl, same, counted.trans (State.feedTiles_itemNotes _)⟩
  case h_2 nothing => exact absurd work (nothing _ _ _ _ _ waits newest)

theorem State.startDelta_cases (s : State) : s.startDelta = s ∨ ∃ n p rest v w, s.world.deltaOpen = (n, p) :: rest ∧ s.newest = some v ∧ s.work? s.tb.curFrame = some w ∧
    v.ready = true ∧ v.frame = w.frame ∧ w.landed = false := by
  unfold State.startDelta
  split
  case h_2 => exact .inl rfl
  case h_1 _ _ _ n p rest v w waits newest work =>
    split
    case isTrue => exact .inl rfl
    case isFalse go =>
      simp only [Bool.or_eq_true, Bool.not_eq_true', bne_iff_ne, ne_eq, not_or, Bool.not_eq_false, not_not, Bool.not_eq_true] at go
      obtain ⟨⟨built, same⟩, flies⟩ := go
      exact .inr ⟨n, p, rest, v, w, waits, newest, work, built, same, flies⟩

/-- Beginning a delta's version changes no packet held and no count of deltas. -/
theorem State.startDelta_keeps (s : State) : s.startDelta.world.deltas = s.world.deltas ∧ ∀ m, (s.startDelta.stream m).held = (s.stream m).held := by
  obtain idle | ⟨n, p, rest, v, w, waits, newest, work, built, same, flies⟩ := s.startDelta_cases
  · rw [idle]
    exact ⟨rfl, fun _ => rfl⟩
  · obtain ⟨v', -, -, -, -, items⟩ := State.startDelta_begins waits newest work built same flies
    have left : State.Sources (fun m l => l = (s.stream m).held) (s.deltasLeft rest) (s.deltasLeft rest) := .refl fun _ => rfl
    have taken := left.takeDelta n w p
    exact ⟨(congrArg World.deltas items.world).trans taken.deltas, fun m => by rw [State.stream, items.world]; exact taken.held m⟩

end

/-! URGENT_DELTA -/

/-- A frame's work whose newest urgent version is not known yet (R88). -/
def FrameWork.awaitsDelta (w : FrameWork) : FrameWork := { w with due := none }

/-- The delta read, and due no more. -/
def State.deltaRead (s : State) (p : HeldPacket) : State := { s with world := { s.world with deltaDue := s.world.deltaDue.filter (fun d => d.2.journal != p.journal) } }

/-- R86: the delta counted, behind those that wait to be built. -/
def State.deltaCounted (s : State) (n : Nat) (p : HeldPacket) : State := { s with world := { s.world with deltas := s.world.deltas + 1, deltaOpen := s.world.deltaOpen ++ [(n, p)] } }

/-- R88, R367: what the frame in hand shows of a delta counted. -/
def State.deltaTold (s : State) (frame : Nat) : State := ((((s.modWork frame FrameWork.awaitsDelta).present frame).settleItems).count 0x2021 7 1).choice frame 1 false

theorem State.deltaTold_works (s : State) (frame : Nat) : State.Works s (s.deltaTold frame) :=
  (((State.Works.trans (s.modWork_works frame FrameWork.awaitsDelta) (State.present_works ..)).trans (State.settleItems_works _)).trans (State.count_works ..)).trans (State.choice_works ..)

theorem State.deltaTold_marks (s : State) (frame : Nat) : State.KeepsMarks s (s.deltaTold frame) := by
  have settled (t : State) : State.KeepsMarks t t.settleItems := .of_frames rfl
  exact ((((s.modWork_marks frame FrameWork.awaitsDelta).trans (State.present_marks ..)).trans (settled _)).trans (.of_notes (State.count_frame ..))).trans (State.choice_marks ..)

/-- R86: a delta is deferred to the next frame. -/
def State.defersDelta (s : State) (n frame : Nat) (p : HeldPacket) : Bool :=
  s.strict || s.det.unpaced || decide ((s.tickOf frame + (s.us 0x2015 2 : Int) - s.tb.phaseError) < (p.stamp : Int)) || (s.stream n).held.any (fun q => decide (q.journal < p.journal))
    || decide (s.cfg 0x2005 1 ≤ s.world.deltas)

section
variable {s : State} {n : Nat} {p : HeldPacket} {w : FrameWork} (work : s.work? s.tb.curFrame = some w) (due : s.world.deltaDue.find? (fun d => d.1 == n) = some (n, p))
  (runs : s.throttledRun = true) (sealed' : w.sealed = true) (sound : p.discard (s.cfg (0x3100 + n) 1) (some s.world.mapFrame) = none)
include work due runs sealed' sound

/-- R85, R86: a sound delta of the sealed frame is deferred, or counted and its version begun. -/
theorem exec_urgentDelta : exec (.urgentDelta n) s =
    .next (if s.defersDelta n w.frame p then (s.deltaRead p).deferDelta n p else (((s.deltaRead p).deltaCounted n p).deltaTold w.frame).startDelta) := by
  have kept : ¬(p.discard (s.cfg (0x3100 + n) 1) (some s.world.mapFrame)).isSome = true := by simp [sound]
  show execUrgentDelta n s = _
  unfold execUrgentDelta
  rw [due, work]
  dsimp only
  rw [if_neg (by simp [runs, sealed'])]
  exact congrArg Host.Outcome.next (if_neg kept)

/-- R86: a delta in STRICT mode, unpaced, behind a held packet, late, or beyond the limit waits for the next frame. -/
theorem exec_urgentDelta_defers (inside : n < s.world.streams.length)
    (defers : s.strict = true ∨ s.det.unpaced = true ∨ (∃ q ∈ (s.stream n).held, q.journal < p.journal) ∨ s.tickOf w.frame + (s.us 0x2015 2 : Int) - s.tb.phaseError < (p.stamp : Int) ∨
      s.cfg 0x2005 1 ≤ s.world.deltas) :
    ∃ t, exec (.urgentDelta n) s = .next t ∧ p ∈ (t.stream n).held ∧ Raised s t 0x0385 ∧ t.world.versions = s.world.versions ∧ t.world.deltas = s.world.deltas ∧ t.frames = s.frames := by
  have later : s.defersDelta n w.frame p = true := by
    simp only [State.defersDelta, Bool.or_eq_true, decide_eq_true_eq, List.any_eq_true]
    obtain strict | unpaced | behind | late | many := defers
    · exact .inl (.inl (.inl (.inl strict)))
    · exact .inl (.inl (.inl (.inr unpaced)))
    · exact .inl (.inr behind)
    · exact .inl (.inl (.inr late))
    · exact .inr many
  exact ⟨_, (exec_urgentDelta work due runs sealed' sound).trans (by rw [if_pos later]), (s.deltaRead p).deferDelta_effect p inside⟩

section
variable (relaxed : s.strict = false) (paced : s.det.unpaced = false) (first : ∀ q ∈ (s.stream n).held, p.journal ≤ q.journal)
  (early : (p.stamp : Int) ≤ s.tickOf w.frame + (s.us 0x2015 2 : Int) - s.tb.phaseError) (below : s.world.deltas < s.cfg 0x2005 1)
include relaxed paced first early below

theorem exec_urgentDelta_counts : exec (.urgentDelta n) s = .next (((s.deltaRead p).deltaCounted n p).deltaTold w.frame).startDelta := by
  have now : s.defersDelta n w.frame p = false := by
    simp only [State.defersDelta, relaxed, paced, Bool.or_eq_false_iff, decide_eq_false_iff_not, List.any_eq_false, decide_eq_true_eq, not_lt, not_le]
    exact ⟨⟨⟨⟨trivial, trivial⟩, early⟩, first⟩, below⟩
  rw [exec_urgentDelta work due runs sealed' sound, if_neg (by simp [now])]

/-- R86: a delta that is not deferred counts, and leaves what streams hold. -/
theorem exec_urgentDelta_keeps : ∃ t, exec (.urgentDelta n) s = .next t ∧ t.world.deltas = s.world.deltas + 1 ∧ (t.stream n).held = (s.stream n).held := by
  have told := ((s.deltaRead p).deltaCounted n p).deltaTold_works w.frame
  have keeps := State.startDelta_keeps (((s.deltaRead p).deltaCounted n p).deltaTold w.frame)
  refine ⟨_, exec_urgentDelta_counts work due runs sealed' sound relaxed paced first early below, keeps.1.trans (congrArg World.deltas told.world), (keeps.2 n).trans ?_⟩
  rw [State.stream, told.world]
  rfl

/-- R86, R123: where the newest version of the frame is built, the delta's version follows it. -/
theorem exec_urgentDelta_begins {v : Version} (newest : s.newest = some v) (built : v.ready = true) (same : v.frame = w.frame) (flies : w.landed = false) (alone : s.world.deltaOpen = []) :
    ∃ t v', exec (.urgentDelta n) s = .next t ∧ v' ∈ t.world.versions ∧ v'.urgent = true ∧ v'.number = (s.world.lastVersion + 1) % 2 ^ 32 ∧ v'.parent = some v.number ∧ v'.frame = w.frame ∧
      t.world.deltaOpen = [] := by
  have told := ((s.deltaRead p).deltaCounted n p).deltaTold_works w.frame
  have marks := ((s.deltaRead p).deltaCounted n p).deltaTold_marks w.frame
  have run := exec_urgentDelta_counts work due runs sealed' sound relaxed paced first early below
  generalize ((s.deltaRead p).deltaCounted n p).deltaTold w.frame = u at told marks run
  obtain ⟨w', work', shown⟩ := marks.work? (n := u.tb.curFrame) (w := w) (by rw [told.tb]; exact work)
  simp only [FrameWork.marks, Prod.mk.injEq] at shown
  obtain ⟨frame, -, landed, -⟩ := shown
  have waits : u.world.deltaOpen = [(n, p)] := by
    rw [told.world]
    exact congrArg (· ++ [(n, p)]) alone
  have newest' : u.newest = some v := by
    rw [State.newest, told.world]
    exact newest
  obtain ⟨v', urgent, number, parent, frame', items⟩ := State.startDelta_begins waits newest' work' built (same.trans frame.symm) (landed.trans flies)
  have left : State.Sources (fun _ _ => True) (u.deltasLeft []) (u.deltasLeft []) := .refl fun _ => trivial
  have taken := left.takeDelta n w' p
  have counted : u.world.lastVersion = s.world.lastVersion := by
    rw [told.world]
    rfl
  have last : ((u.deltasLeft []).takeDelta n w' p).world.lastVersion = s.world.lastVersion := taken.last.trans counted
  refine ⟨_, v', run, ?_, urgent, by rw [number, last], parent, frame'.trans frame, ?_⟩
  · rw [items.world]
    exact List.mem_append_right _ (List.mem_singleton_self _)
  · rw [items.world]
    exact taken.opened

end

end

end Sys2Proof.Machine
end

section
/-!
URGENT_VERSION_SEAL (R87, R118, R123).
-/
namespace Sys2Proof.Machine
open Sys2Proof

set_option Elab.async false

/-! Blocks withdrawn (R87) -/

theorem State.advanceFlow_itemNotes (s : State) (flow : Nat) : State.ItemNotes s (s.advanceFlow flow) := by
  have chained (d : Nat) : State.ItemNotes s (s.chainTo flow d) := .of_disp ..
  have moved (t : State) (serial : Nat) (f : Item → Item) : State.ItemNotes t (t.modItem serial f) := .of_disp ..
  unfold State.advanceFlow
  split
  · rfl
  split
  · dsimp only
    split
    · exact ((chained _).trans (State.delayLoc_itemNotes ..)).trans (moved ..)
    · exact (chained _).trans (moved ..)
  · rfl

theorem State.dropItem_itemNotes (s : State) (serial : Nat) : State.ItemNotes s (s.dropItem serial) := by
  unfold State.dropItem
  split
  · rfl
  dsimp only
  split
  · exact .trans (.of_disp ..) (State.advanceFlow_itemNotes ..)
  · exact .of_disp ..

theorem State.cancelItems_itemNotes (s : State) (p : Item → Bool) : State.ItemNotes s (s.cancelItems p) := .trans (.of_disp ..) (.foldl (fun t (i : Item) => t.dropItem_itemNotes i.serial) _ _)

/-- The blocks that a test withdraws. -/
def BlockRec.out (p : BlockRec → Bool) (r : BlockRec) : Bool := !r.withdrawn && decide (r.beta < 4112) && p r

/-- The candidate is one of the blocks that a test withdraws. -/
def FrameWork.withdraws (w : FrameWork) (p : BlockRec → Bool) (cid : Nat) : Bool := (w.blocks.filter (BlockRec.out p)).any (fun r => decide (r.firstId ≤ cid) && decide (cid < r.firstId + 64))

/-- R87, R214: a frame's work with the blocks of a test withdrawn. -/
def FrameWork.withdrawn (w : FrameWork) (frame : FrameWork) (p : BlockRec → Bool) : FrameWork :=
  { frame with
    blocks := frame.blocks.map (fun r => if r.out p || (decide (4112 ≤ r.beta) && w.withdraws p r.firstId) then { r with withdrawn := true } else r)
    reevals := frame.reevals.map (fun x => if w.withdraws p x.cid then { x with started := true, done := true } else x)
    rebuildDue := true }

/-- The blocks withdrawn, before they are counted. -/
def State.blocksWithdrawn (s : State) (frame : Nat) (w : FrameWork) (p : BlockRec → Bool) : State :=
  (s.cancelItems (fun i => i.kind == .candidateSingle && i.frame == frame && w.withdraws p i.arg)).modWork frame (fun x => w.withdrawn x p)

theorem State.withdrawBlocks_eq (s : State) {frame : Nat} {w : FrameWork} (found : s.work? frame = some w) (p : BlockRec → Bool) : s.withdrawBlocks frame p =
    if (w.blocks.filter (BlockRec.out p)).isEmpty then s
    else ((s.blocksWithdrawn frame w p).count 0x6002 8 (w.blocks.filter (BlockRec.out p)).length).count 0x6002 9 1 := by
  unfold State.withdrawBlocks
  rw [found]
  rfl

/-- R87: the blocks that a test picks out are withdrawn, and the frame's version stays. -/
theorem State.withdrawBlocks_blocks (s : State) {frame : Nat} {w : FrameWork} (found : s.work? frame = some w) (p : BlockRec → Bool) :
    ∃ w', (s.withdrawBlocks frame p).work? frame = some w' ∧ w'.version = w.version ∧
      ∀ r ∈ w.blocks, r.withdrawn = false → r.beta < 4112 → p r = true → { r with withdrawn := true } ∈ w'.blocks := by
  have picked (r : BlockRec) (fresh : r.withdrawn = false) (slot : r.beta < 4112) (meets : p r = true) : r.out p = true := by simp [BlockRec.out, fresh, slot, meets]
  rw [s.withdrawBlocks_eq found]
  split
  case isTrue none =>
    refine ⟨w, found, rfl, fun r there fresh slot meets => ?_⟩
    exact absurd (List.mem_filter.2 ⟨there, picked r fresh slot meets⟩) (by rw [List.isEmpty_iff.1 none]; exact List.not_mem_nil)
  case isFalse =>
    have cancelled := ((s.cancelItems_itemNotes (fun i => i.kind == .candidateSingle && i.frame == frame && w.withdraws p i.arg)).work? frame).trans found
    have marked : (s.blocksWithdrawn frame w p).work? frame = some (w.withdrawn w p) := State.work?_modWork _ (f := fun x => w.withdrawn x p) cancelled fun _ => rfl
    have counted (t : State) (a b : Nat) : State.ItemNotes t ((t.count 0x6002 8 a).count 0x6002 9 b) := .trans (.of_notes (t.count_frame ..)) (.of_notes (State.count_frame ..))
    refine ⟨_, ((counted ..).work? frame).trans marked, rfl, fun r there fresh slot meets => List.mem_map.2 ⟨r, there, ?_⟩⟩
    rw [if_pos (by simp [picked r fresh slot meets])]

/-! The version ready -/

section
variable {s : State} {v : Version} (known : s.version? v.number v.spec = some v) (sealed' : v.spec = false) (newest : s.newest.map (·.number) = some v.number) (alone : s.world.deltaOpen = [])
include known sealed' newest alone

/-- R87, R119: publishing the newest sealed version makes it ready, and begins no other where no delta waits. -/
theorem State.publishVersion_newest : s.publishVersion v = (s.released v).retireVersions ∧ (s.released v).retireVersions.version? v.number false = some { v with ready := true } := by
  have works := s.released_works v
  have ready : (s.released v).version? v.number false = some { v with ready := true } := by
    have h : (s.markReady v).version? v.number v.spec = _ := s.version?_modVersion known fun _ => ⟨rfl, rfl⟩
    unfold State.version? at h ⊢
    rw [works.world, ← sealed']
    exact h
  have last : (s.released v).newest.map (·.number) = some v.number := by
    have h : (s.markReady v).newest.map (·.number) = _ := s.newest_modVersion v.number v.spec (fun v => { v with ready := true }) fun _ => ⟨rfl, rfl⟩
    rw [newest] at h
    unfold State.newest at h ⊢
    rw [works.world]
    exact h
  have idle : (s.released v).retireVersions.world.deltaOpen = [] := by
    rw [State.retireVersions_frame, works.world]
    exact alone
  exact ⟨(s.publishVersion_eq v).trans (State.startDelta_none _ idle), (State.version?_retireVersions _ last).trans ready⟩

end

/-! The groups of the tiles written (R87) -/

/-- What a change to some elements keeps of those that a test finds. -/
theorem find?_modFirst_map {α β : Type} {p q : α → Bool} {f : α → α} {g : α → β} (h : ∀ x, p (f x) = p x) (k : ∀ x, g (f x) = g x) (xs : List α) :
    ((modFirst q f xs).find? p).map g = (xs.find? p).map g := by
  induction xs with
  | nil => rfl
  | cons x xs ih =>
    by_cases changed : q x
    · cases e : p x <;> simp [modFirst, changed, h, e, k]
    · cases e : p x <;> simp [modFirst, changed, e, ih]

theorem State.groupsSince_eq (s : State) (older newer : Nat) : s.groupsSince older newer =
    let known := ((s.version? newer false).map (fun v => (v.tiles, v.jobs))).getD ([], [])
    groupMask ((known.1.filter (fun t => !t.spec && seqAfter older t.origin)).map (·.key) ++ known.2.map (fun j => (⟨0, j.1, j.2.1, j.2.2⟩ : TileKey))) := by
  have test : (fun v : Version => v.number == newer && !v.spec) = fun v => v.number == newer && v.spec == false := by
    funext v
    cases v.spec <;> rfl
  unfold State.groupsSince State.versionTiles
  rw [test]
  unfold State.version?
  cases s.world.versions.find? _ <;> rfl

/-- A change to a version that leaves its tiles and jobs changes no group. -/
theorem State.groupsSince_modVersion (s : State) {n : Nat} {b : Bool} {f : Version → Version} (k : ∀ v, ((f v).number, (f v).spec) = (v.number, v.spec))
    (l : ∀ v, ((f v).tiles, (f v).jobs) = (v.tiles, v.jobs)) (older newer : Nat) : (s.modVersion n b f).groupsSince older newer = s.groupsSince older newer := by
  have test (v : Version) : ((f v).number == newer && (f v).spec == false) = (v.number == newer && v.spec == false) := by
    obtain ⟨number, spec⟩ := Prod.mk.inj (k v)
    rw [number, spec]
  rw [State.groupsSince_eq, State.groupsSince_eq]
  unfold State.version? State.modVersion
  rw [find?_modFirst_map (p := fun v : Version => v.number == newer && v.spec == false) test l]

theorem State.groupsSince_congr {s t : State} (h : t.world = s.world) (older newer : Nat) : t.groupsSince older newer = s.groupsSince older newer := by
  rw [State.groupsSince_eq, State.groupsSince_eq, State.version?, State.version?, h]

/-! URGENT_VERSION_SEAL -/

/-- A version that seals at an instant. -/
def Version.sealedAt (t : Nat) (v : Version) : Version := { v with sealTime := t }

/-- A version that is ready. -/
def Version.made (v : Version) : Version := { v with ready := true }

/-- The newest version of a frame, and the one whose rechecks are due (R244). -/
def FrameWork.atVersion (number : Nat) (due : Option Nat) (w : FrameWork) : FrameWork := { w with version := number, due := due }

/-- R87: an urgent version seals, is shown, and is ready. -/
def State.urgentReady (s : State) (v : Version) : State :=
  (((s.modVersion v.number false (Version.sealedAt s.time)).showVersion v).count 0x3301 1 1).modVersion v.number false Version.made

section
variable (s : State) (v : Version)

theorem State.urgentReady_world : (s.urgentReady v).world = ((s.modVersion v.number false (Version.sealedAt s.time)).modVersion v.number false Version.made).world := by
  have counted := ((s.modVersion v.number false (Version.sealedAt s.time)).showVersion v).count_works 0x3301 1 1
  have shown : ((s.modVersion v.number false (Version.sealedAt s.time)).showVersion v).world = (s.modVersion v.number false (Version.sealedAt s.time)).world := rfl
  have world := counted.world.trans shown
  unfold State.urgentReady State.modVersion at *
  dsimp only
  rw [world]

theorem State.urgentReady_frames : (s.urgentReady v).frames = s.frames :=
  (congrArg State.frames (((s.modVersion v.number false (Version.sealedAt s.time)).showVersion v).count_frame 0x3301 1 1)).trans rfl

theorem State.urgentReady_cfg (sorted : alSorted s.dict.active = true) : (s.urgentReady v).cfg 0x3300 3 = v.number := by
  have counted := (((s.modVersion v.number false (Version.sealedAt s.time)).showVersion v).count_works 0x3301 1 1).dict.same 0x3300 3 ⟨by decide, by decide⟩
  exact (congrArg Value.toNum counted).trans ((s.modVersion v.number false (Version.sealedAt s.time)).cfg_showVersion v sorted)

theorem State.urgentReady_groupsSince (older newer : Nat) : (s.urgentReady v).groupsSince older newer = s.groupsSince older newer :=
  ((State.groupsSince_congr (s.urgentReady_world v) ..).trans (State.groupsSince_modVersion _ (f := Version.made) (fun _ => rfl) (fun _ => rfl) ..)).trans
    (s.groupsSince_modVersion (f := Version.sealedAt s.time) (fun _ => rfl) (fun _ => rfl) ..)

theorem State.version?_urgentReady (known : s.version? v.number false = some v) : (s.urgentReady v).version? v.number false = some (v.sealedAt s.time).made := by
  have sealed' := s.version?_modVersion (f := Version.sealedAt s.time) known fun _ => ⟨rfl, rfl⟩
  rw [State.version?, s.urgentReady_world, ← State.version?]
  exact State.version?_modVersion _ (f := Version.made) sealed' fun _ => ⟨rfl, rfl⟩

theorem State.newest_urgentReady : (s.urgentReady v).newest.map (·.number) = s.newest.map (·.number) := by
  rw [State.newest, s.urgentReady_world, ← State.newest]
  exact (State.newest_modVersion _ _ _ Version.made fun _ => ⟨rfl, rfl⟩).trans (s.newest_modVersion _ _ (Version.sealedAt s.time) fun _ => ⟨rfl, rfl⟩)

end

/-- The blocks that the tiles of an urgent version meet (R87). -/
def State.meets (s : State) (v : Version) (r : BlockRec) : Bool := !r.speculative && (r.signature &&& s.groupsSince (v.parent.getD 0) v.number) != 0

/-- The version that rechecks are due at, where no delta waits (R244). -/
def State.dueAt (s : State) (v : Version) : Option Nat := if s.world.deltaOpen.isEmpty then some v.number else none

/-- R87: a frame whose list is open takes the urgent version, and the blocks that its tiles meet are withdrawn. -/
theorem State.meetUrgent_open (s : State) {v : Version} {w : FrameWork} (found : s.work? v.frame = some w) (opened : w.closed = none) :
    s.meetUrgent v = (s.modWork v.frame (FrameWork.atVersion v.number (s.dueAt v))).withdrawBlocks v.frame (s.meets v) := by
  have taken := s.work?_modWork (f := FrameWork.atVersion v.number (s.dueAt v)) found fun _ => rfl
  have groups := State.groupsSince_congr (s := s) (t := s.modWork v.frame (FrameWork.atVersion v.number (s.dueAt v))) rfl (v.parent.getD 0) v.number
  have meets : (fun r : BlockRec => !r.speculative && (r.signature &&& (s.modWork v.frame (FrameWork.atVersion v.number (s.dueAt v))).groupsSince (v.parent.getD 0) v.number) != 0) = s.meets v := by
    funext r
    rw [groups, State.meets]
  unfold State.meetUrgent
  change (match (s.modWork v.frame (FrameWork.atVersion v.number (s.dueAt v))).work? v.frame with | some w => _ | none => _) = _
  rw [taken]
  exact (if_neg (by simp [FrameWork.atVersion, opened])).trans (congrArg _ meets)

theorem State.meetUrgent_works (s : State) {v : Version} {w : FrameWork} (found : s.work? v.frame = some w) (opened : w.closed = none) : State.Works s (s.meetUrgent v) := by
  rw [s.meetUrgent_open found opened]
  exact (s.modWork_works v.frame (FrameWork.atVersion v.number (s.dueAt v))).trans (State.withdrawBlocks_works ..)

/-- R87: the frame's work once it has met an urgent version. -/
theorem State.meetUrgent_blocks (s : State) {v : Version} {w : FrameWork} (found : s.work? v.frame = some w) (opened : w.closed = none) :
    ∃ w', (s.meetUrgent v).work? v.frame = some w' ∧ w'.version = v.number ∧
      ∀ r ∈ w.blocks, r.withdrawn = false → r.beta < 4112 → s.meets v r = true → { r with withdrawn := true } ∈ w'.blocks := by
  rw [s.meetUrgent_open found opened]
  exact State.withdrawBlocks_blocks _ (s.work?_modWork (f := FrameWork.atVersion v.number (s.dueAt v)) found fun _ => rfl) _

theorem execUrgentVersionSeal_found {s : State} {v : Version} (due : s.world.versions.find? (fun v => v.urgent && !v.ready && v.jobs.isEmpty && s.mapRuns) = some v) :
    exec .urgentVersionSeal s = .next ((((s.urgentReady v).meetUrgent v).version? v.number false).elim ((s.urgentReady v).meetUrgent v) ((s.urgentReady v).meetUrgent v).publishVersion) := by
  show execUrgentVersionSeal s = _
  unfold execUrgentVersionSeal
  rw [due]
  rfl

/-- URGENT_VERSION_SEAL: the version is ready and shown, the frame names it, and the blocks that its tiles meet are withdrawn. -/
theorem exec_urgentVersionSeal {s : State} {v : Version} {w : FrameWork} (due : s.world.versions.find? (fun v => v.urgent && !v.ready && v.jobs.isEmpty && s.mapRuns) = some v)
    (sealed' : v.spec = false) (newest : s.newest = some v) (work : s.work? v.frame = some w) (sorted : alSorted s.dict.active = true) (opened : w.closed = none)
    (alone : s.world.deltaOpen = []) (known : s.version? v.number false = some v) :
    ∃ t, exec .urgentVersionSeal s = .next t ∧ t.cfg 0x3300 3 = v.number ∧ (∃ v', t.version? v.number false = some v' ∧ v'.ready = true ∧ v'.sealTime = s.time) ∧
      (∃ w', t.work? v.frame = some w' ∧ w'.version = v.number ∧
        ∀ r ∈ w.blocks, r.speculative = false → r.withdrawn = false → r.beta < 4112 → (r.signature &&& s.groupsSince (v.parent.getD 0) v.number) ≠ 0 → { r with withdrawn := true } ∈ w'.blocks) := by
  have urgent : v.urgent = true := by
    have wanted := List.find?_some due
    simp only [Bool.and_eq_true] at wanted
    exact wanted.1.1.1
  have run := execUrgentVersionSeal_found due
  have ready := s.version?_urgentReady v known
  have last := (s.newest_urgentReady v).trans (congrArg (Option.map (·.number)) newest)
  have shown := s.urgentReady_cfg v sorted
  have groups := s.urgentReady_groupsSince v (v.parent.getD 0) v.number
  have found : (s.urgentReady v).work? v.frame = some w := by rwa [State.work?, s.urgentReady_frames, ← State.work?]
  have none : (s.urgentReady v).world.deltaOpen = [] := by
    rw [s.urgentReady_world]
    exact alone
  generalize s.urgentReady v = u at run ready last shown groups found none
  have works := u.meetUrgent_works found opened
  obtain ⟨w', work', version, withdrawn⟩ := u.meetUrgent_blocks found opened
  generalize u.meetUrgent v = m at run works work'
  have ready' : m.version? v.number false = some (v.sealedAt s.time).made := by rwa [State.version?, works.world, ← State.version?]
  have last' : m.newest.map (·.number) = some (v.sealedAt s.time).made.number := by rwa [State.newest, works.world, ← State.newest]
  obtain ⟨publishes, final⟩ := State.publishVersion_newest (v := (v.sealedAt s.time).made) (by rw [← ready', ← sealed']; rfl) sealed' last' (works.world ▸ none)
  rw [ready', Option.elim_some, publishes] at run
  obtain ⟨w'', work'', marks⟩ := (m.released_marks (v := (v.sealedAt s.time).made) urgent).work? work'
  simp only [FrameWork.marks, Prod.mk.injEq] at marks
  obtain ⟨-, version', -, blocks⟩ := marks
  refine ⟨_, run, ?_, ⟨_, final, rfl, rfl⟩, w'', work'', version'.trans version, fun r there own fresh slot meets => ?_⟩
  · have released := (m.released_works (v.sealedAt s.time).made).dict.same 0x3300 3 ⟨by decide, by decide⟩
    have met := works.dict.same 0x3300 3 ⟨by decide, by decide⟩
    exact (congrArg Value.toNum (released.trans met)).trans shown
  · rw [blocks]
    exact withdrawn r there fresh slot (by simpa [State.meets, own, groups] using meets)

/-- Settles O19, by the lemma of each command. -/
theorem sceneTensorsAndUrgentDeltas : Obligations.SceneTensorsAndUrgentDeltas := by
  unfold Obligations.SceneTensorsAndUrgentDeltas
  intro s n w work
  refine ⟨fun v free due => exec_sceneTensorEmit free due, fun p runs due sealed' sound inside => ⟨fun defers => exec_urgentDelta_defers work due runs sealed' sound inside defers, ?_⟩,
    fun v due own newest current sorted opened alone known => ?_⟩
  · intro relaxed paced first early below
    exact ⟨exec_urgentDelta_keeps work due runs sealed' sound relaxed paced first early below,
      fun v newest built same flies alone => exec_urgentDelta_begins work due runs sealed' sound relaxed paced first early below newest built same flies alone⟩
  · rw [← current] at work ⊢
    exact exec_urgentVersionSeal due own newest work sorted opened alone known

end Sys2Proof.Machine
end

section
/-!
LANDING (R89, R90, R283): a state in which two items share a serial number, and what the Landing makes of it.
-/
namespace Sys2Proof.Machine
open Sys2Proof

/-- A chip whose frame 3 is about to land: one block of it in service, one at the head of flow 5, and behind that a stream packet with the serial number of the block in service. -/
def landingState : State :=
  { State.reset with
    frames := [closingWork]
    disp := { Dispatch.initial with
      items := [closingItem 7 .candidateBlock none (.service 0), closingItem 1 .candidateBlock (some 5) (.ready 0), closingItem 7 .streamPacket (some 5) (.chain 0)], nextSerial := 8 } }

/-- A block of frame 3 on the ready list of dispatcher 0. -/
def readyBlock (i : Item) : Bool := i.frame == 3 && !i.spec && i.kind == .candidateBlock && i.loc == .ready 0

/-- R90, R274, R283: the block at the head of the flow is cancelled, the flow goes on, and the first item under the new head's serial number, the block in service, is what is then put on a
ready list. -/
theorem landingState_readies_the_block_in_service : ∃ t, exec .landing landingState = .next t ∧ ∃ i ∈ t.disp.items, readyBlock i = true := by
  have h : (match exec .landing landingState with | .next t => t.disp.items.any readyBlock | _ => false) = true := by decide +kernel
  split at h
  case h_1 t ht => exact ⟨t, ht, List.any_eq_true.1 h⟩
  case h_2 => cases h

/-- Refutes O37: the statement speaks of every state, and in one where two items share a serial number a block in service goes back to a ready list as its frame lands
(`landingState`). -/
theorem not_theLandingPublishesTheChoice : ¬ Obligations.TheLandingPublishesTheChoice := by
  unfold Obligations.TheLandingPublishesTheChoice
  intro h
  obtain ⟨-, -, lands⟩ := h landingState closingWork (by decide +kernel) rfl
  obtain ⟨t, w', out, ht, -, -, -, -, -, -, -, -, items, -⟩ := lands (by decide +kernel) rfl rfl
  obtain ⟨u, hu, i, hi, ready⟩ := landingState_readies_the_block_in_service
  obtain rfl : t = u := by simpa [ht] using hu
  simp only [readyBlock, Bool.and_eq_true, beq_iff_eq, Bool.not_eq_true'] at ready
  obtain ⟨⟨⟨frame, spec⟩, kind⟩, loc⟩ := ready
  obtain ⟨-, ⟨e, he⟩ | ⟨d, hd⟩⟩ := items i hi frame spec (by simp [kind])
  · exact absurd (loc.symm.trans he) nofun
  · exact absurd (loc.symm.trans hd) nofun

end Sys2Proof.Machine
end

section
/-!
What the rings' and the counters' records leave of the journal (R408, R412, R417): its records and its next number.
-/
namespace Sys2Proof.Machine
open Sys2Proof

/-- The journal's records and its next number are as they were. -/
abbrev State.KeepsJournal (s t : State) : Prop := (t.host.journal, t.host.nextJournal) = (s.host.journal, s.host.nextJournal)

namespace State.KeepsJournal

theorem refl (s : State) : State.KeepsJournal s s := rfl

theorem trans {s t u : State} (a : State.KeepsJournal s t) (b : State.KeepsJournal t u) : State.KeepsJournal s u := Eq.trans b a

theorem ite {c : Prop} [Decidable c] {s t u : State} (a : State.KeepsJournal s t) (b : State.KeepsJournal s u) : State.KeepsJournal s (if c then t else u) := by split <;> assumption

end State.KeepsJournal

theorem State.sendInput_journal (s : State) (p : Nat) (m : WireMsg) : State.KeepsJournal s (s.sendInput p m) := .ite rfl rfl

theorem State.sendQp_journal (s : State) (n priority : Nat) (m : WireMsg) : State.KeepsJournal s (s.sendQp n priority m) := by
  unfold State.sendQp
  extract_lets p held q t timer u
  have h : State.KeepsJournal s t := .ite rfl rfl
  exact h.trans (.ite rfl rfl)

theorem State.sendRecords_journal (s : State) (c : Nat) (records : List (List Byte)) : State.KeepsJournal s (s.sendRecords c records) := by
  unfold State.sendRecords
  extract_lets u
  split
  · exact State.KeepsJournal.trans (t := State.setUdp _ _ _) rfl (.ite (.ite rfl rfl) (State.sendInput_journal ..))
  · rfl

theorem State.deliverEntry_journal (s : State) (r index : Nat) (b : List Byte) : State.KeepsJournal s (s.deliverEntry r index b) := by
  unfold State.deliverEntry
  extract_lets c rc cc offset
  split
  · exact .ite rfl rfl
  · exact s.sendQp_journal ..
  next t _ _ _ => exact .trans (t := t) (.ite rfl rfl) (t.sendRecords_journal ..)

theorem State.moderate_journal (s : State) (r : Nat) (atOnce : Bool) : State.KeepsJournal s (s.moderate r atOnce) := by
  unfold State.moderate
  split
  · rfl
  · exact .ite rfl rfl

theorem State.ringPush_journal (s : State) (r : Nat) (mk : Bool → List Byte) (atOnce : Bool) : State.KeepsJournal s (s.ringPush r mk atOnce) := by
  unfold State.ringPush
  split
  · rfl
  · extract_lets size bytes y
    have h : State.KeepsJournal s (s.setRing r y) := rfl
    exact .ite rfl ((h.trans (State.deliverEntry_journal ..)).trans (State.moderate_journal ..))

theorem State.offerEvent_journal (s : State) (r : Nat) (e : EventRec) : State.KeepsJournal s (s.offerEvent r e) := by
  unfold State.offerEvent
  split
  · rfl
  · exact .ite (s.ringPush_journal ..) (.ite rfl rfl)

theorem State.emit_journal (s : State) (frame code arg arg2 : Nat) : State.KeepsJournal s (s.emit frame code arg arg2) := by
  unfold State.emit
  exact State.KeepsJournal.trans (t := { s with events := s.events ++ [_] }) rfl (State.foldl_rel .refl .trans _ (fun t r => t.offerEvent_journal r _) _ _)

theorem State.raiseFor_journal (s : State) (frame code arg arg2 : Nat) : State.KeepsJournal s (s.raiseFor frame code arg arg2) :=
  .ite ((s.emit_journal ..).trans (State.emit_journal ..)) (s.emit_journal ..)

theorem State.count_journal (s : State) (idx sub n : Nat) : State.KeepsJournal s (s.count idx sub n) := by
  rcases s.count_cases idx sub n with e | e <;> rw [e]
  exact State.KeepsJournal.trans (t := { s with dict := (s.dict.bump idx sub n).1 }) rfl (State.raiseFor_journal ..)

end Sys2Proof.Machine
end

section
/-!
A network packet accepted (R101, R282, R407, R412, R413): the credits it needs, its journal record, the count of a packet near a seal, and its work item.
-/
namespace Sys2Proof.Machine
open Sys2Proof

/-! Credits (R282, R412) -/

/-- New work has been given a descriptor and the peer ports their credits; `paused` is what the ports were last told. -/
def State.credited (s : State) (paused : Bool) (wire : List WireMsg) : State :=
  { s with disp := { s.disp with withheld := false }, group := { s.group with pauseSent := paused }, wire := wire }

/-- R282: telling the peer ports of their credits changes what they were last told, and the messages sent. -/
theorem State.signalPause_frame (s : State) : s.signalPause = { s with group := { s.group with pauseSent := s.signalPause.group.pauseSent }, wire := s.signalPause.wire } := by
  have sent (f : State → Nat → State) (h : ∀ u p, f u p = { u with wire := (f u p).wire }) (ps : List Nat) (u : State) : ps.foldl f u = { u with wire := (ps.foldl f u).wire } :=
    State.foldl_rel (R := fun u v => v = { u with wire := v.wire }) (fun _ => rfl) (fun a b => by rw [a] at b; exact b) f h ps u
  unfold State.signalPause
  split
  · rfl
  · extract_lets pause t
    rw [sent _ (fun _ _ => rfl)]

/-- R282, R412, R445: with the credits given, new work whose payload the journal has room for is admitted. -/
theorem State.takeRoom_of_credits {s : State} {payload : Nat} (credits : s.withholds = false) (room : s.journalRoom payload = true) :
    ∃ paused wire, s.takeRoom payload = (true, s.credited paused wire) := by
  obtain ⟨⟨pool, journal⟩, budget⟩ : (s.poolRoom = true ∧ s.host.journalFull = false) ∧ s.peerBudgetSpent = false := by
    simpa [State.withholds] using credits
  have descriptor : s.takeDescriptor = (true, { s with disp := { s.disp with withheld := false } }) := by rw [State.takeDescriptor, if_pos pool]
  have admitted : s.takeRoom payload = (true, State.signalPause { s with disp := { s.disp with withheld := false } }) := by
    have same : State.peerBudgetSpent { s with disp := { s.disp with withheld := false } } = false := budget
    have roomy : State.journalRoom { s with disp := { s.disp with withheld := false } } payload = true := room
    simp [State.takeRoom, descriptor, journal, same, roomy]
  rw [admitted, State.signalPause_frame]
  exact ⟨_, _, rfl⟩

/-! The journal record (R412, R413) -/

/-- A record that waits for no mirror (R407). -/
def JRec.unmirrored (j : JRec) : JRec := { j with waitsMirror := false }

/-- Without a mirror, a new record is written and waits for none. -/
theorem State.journalWrite_of_unmirrored {s : State} (h : s.mirrorTarget = none) (j : JRec) :
    s.journalWrite j = { s with host := { s.host with journal := s.host.journal ++ [j.unmirrored], nextJournal := s.host.nextJournal + 1 } } := by
  rw [State.journalWrite, State.mirror, h]
  rfl

/-- A record whose identifier is new is found where it has been written. -/
theorem State.record?_of_appended {s : State} {js : List JRec} {j : JRec} (h : s.host.journal = js ++ [j]) (fresh : ∀ k ∈ js, k.id ≠ j.id) : s.record? j.id = some j := by
  rw [State.record?, h, List.find?_append, List.find?_eq_none.2 (by simpa using fresh)]
  simp

/-- Only the frames' work, the choices on record, and what counters and events write may differ. -/
abbrev State.ChoiceNotes (s t : State) : Prop :=
  t = { s with dict := t.dict, frames := t.frames, host := t.host, group := s.group.links t.group, det := t.det, events := t.events, wire := t.wire }

namespace State.ChoiceNotes

theorem trans {s t u : State} (a : State.ChoiceNotes s t) (b : State.ChoiceNotes t u) : State.ChoiceNotes s u := by
  unfold State.ChoiceNotes at *
  rw [a] at b
  exact b

theorem of_notes {s t : State} (h : State.Notes s t) : State.ChoiceNotes s t := by
  unfold State.ChoiceNotes State.Notes at *
  rw [h]

theorem optional {c : Prop} [Decidable c] {s t : State} (a : State.ChoiceNotes s t) : State.ChoiceNotes s (if c then s else t) := by split <;> [rfl; exact a]

end State.ChoiceNotes

theorem State.count_choiceNotes (s : State) (idx sub n : Nat) : State.ChoiceNotes s (s.count idx sub n) := .of_notes (s.count_frame ..)

theorem State.maskBit_choiceNotes (s : State) (frame bit : Nat) : State.ChoiceNotes s (s.maskBit frame bit) := by unfold State.maskBit; split <;> rfl

theorem State.maskBit_journal (s : State) (frame bit : Nat) : State.KeepsJournal s (s.maskBit frame bit) := by unfold State.maskBit; split <;> rfl

theorem State.choice_choiceNotes (s : State) (frame bit : Nat) (once : Bool) : State.ChoiceNotes s (s.choice frame bit once) :=
  .optional (((s.maskBit_choiceNotes ..).trans (State.count_choiceNotes ..)).trans (State.count_choiceNotes ..))

theorem State.choice_journal (s : State) (frame bit : Nat) (once : Bool) : State.KeepsJournal s (s.choice frame bit once) :=
  .ite rfl (((s.maskBit_journal ..).trans (State.count_journal ..)).trans (State.count_journal ..))

/-- R76: a packet near a seal is counted as a choice. -/
theorem State.guardBand_choiceNotes (s : State) (stamp frame : Nat) : State.ChoiceNotes s (s.guardBand stamp frame) := by
  unfold State.guardBand
  extract_lets
  split
  · exact (s.count_choiceNotes ..).trans (State.choice_choiceNotes ..)
  · rfl

theorem State.guardBand_journal (s : State) (stamp frame : Nat) : State.KeepsJournal s (s.guardBand stamp frame) :=
  .ite ((s.count_journal ..).trans (State.choice_journal ..)) rfl

/-! The work item (R22, R265) -/

/-- R265: an item without a release time is put behind the others. -/
theorem State.addItem_unreleased (s : State) {n : NewItem} (h : n.release = none) :
    ∃ i, s.addItem n = { s with disp := { s.disp with items := s.disp.items ++ [i], nextSerial := s.disp.nextSerial + 1 } } ∧ i.kind = n.kind ∧ i.flow = n.flow ∧ i.arg = n.arg := by
  unfold State.addItem
  extract_lets behind home
  split
  next loc t e =>
  have same : t = s := by
    split at e
    · exact (congrArg Prod.snd e).symm
    · next _ released => exact nomatch h.symm.trans released
    · exact (congrArg Prod.snd e).symm
  subst same
  exact ⟨_, rfl, rfl, rfl, rfl⟩

/-- What an accepted packet leaves: it waits last at its stream's ingress processor, its work item is the last, and both name its journal record `id`. -/
structure State.QueuesPacket (s : State) (n : Nat) (bytes : List Byte) (id : Nat) (u : State) : Prop where
  waits : ∃ p, (u.stream n).waiting = (s.stream n).waiting ++ [p] ∧ p.bytes = bytes ∧ p.journal = id
  works : ∃ i, u.disp.items = s.disp.items ++ [i] ∧ i.kind = .streamPacket ∧ i.flow = some n ∧ i.arg = id
  rest : u = { s with world := u.world, disp := u.disp }

theorem State.QueuesPacket.of_addItem {s : State} {n : Nat} (inside : n < s.world.streams.length) (p : InPacket) {m : NewItem} (release : m.release = none) (kind : m.kind = .streamPacket)
    (flow : m.flow = some n) (arg : m.arg = p.journal) : s.QueuesPacket n p.bytes p.journal ((s.modStream n (fun x => { x with waiting := x.waiting ++ [p] })).addItem m) := by
  obtain ⟨i, added, ikind, iflow, iarg⟩ := (s.modStream n (fun x => { x with waiting := x.waiting ++ [p] })).addItem_unreleased release
  rw [added]
  exact ⟨⟨p, congrArg Stream.waiting (s.stream_modStream_same _ inside), rfl, rfl⟩, ⟨i, rfl, ikind.trans kind, iflow.trans flow, iarg.trans arg⟩, rfl⟩

theorem State.queuePacket_queues {s : State} {n : Nat} (inside : n < s.world.streams.length) (bytes : List Byte) (stamp id : Nat) (target : Option Nat) (frame : Nat) :
    s.QueuesPacket n bytes id (s.queuePacket n bytes stamp id target frame) := by
  unfold State.queuePacket
  extract_lets p
  exact .of_addItem inside p rfl rfl rfl rfl

/-- R407 step 4: a record whose item waits. -/
def JRec.admitted (j : JRec) : JRec := { j with waitsMirror := false, ready := true }

/-- R407 step 4: the record of a network packet is ready, and the packet waits. -/
theorem State.finishAccept_network {s : State} {j : JRec} (found : s.record? j.id = some j) (packet : j.desc = none) :
    s.finishAccept j.id = (s.modRecord j.id JRec.admitted).queuePacket j.owner j.payload j.stamp j.id none (s.frameOfStamp j.stamp) := by
  rw [State.finishAccept, found]
  dsimp only
  rw [packet]
  rfl

theorem State.admitted_mem_modRecord {s : State} {j : JRec} (found : s.record? j.id = some j) : j.admitted ∈ (s.modRecord j.id JRec.admitted).host.journal :=
  List.mem_of_find?_eq_some ((find?_modFirst (fun k : JRec => k.id == j.id) JRec.admitted (fun _ same => same) _).trans (congrArg (Option.map JRec.admitted) found))

/-- R76, R407: a network packet's record has been journaled, and the packet is counted where it is near a seal. -/
def State.journaled (s : State) (j : JRec) : State := (s.journalWrite j).guardBand j.stamp ((s.journalWrite j).frameOfStamp j.stamp)

theorem State.journaled_choiceNotes {s : State} (unmirrored : s.mirrorTarget = none) (j : JRec) : State.ChoiceNotes s (s.journaled j) := by
  have notes : State.ChoiceNotes s (s.journalWrite j) := by rw [State.journalWrite_of_unmirrored unmirrored]
  exact notes.trans (State.guardBand_choiceNotes ..)

theorem State.journaled_record? {s : State} {j : JRec} (unmirrored : s.mirrorTarget = none) (fresh : ∀ k ∈ s.host.journal, k.id ≠ j.id) : (s.journaled j).record? j.id = some j.unmirrored := by
  have kept : (s.journaled j).host.journal = (s.journalWrite j).host.journal := congrArg Prod.fst ((s.journalWrite j).guardBand_journal ..)
  rw [State.journalWrite_of_unmirrored unmirrored] at kept
  exact State.record?_of_appended (j := j.unmirrored) kept fresh

/-- R407: a network packet's record that no mirror is to hold is accepted at once. -/
theorem State.acceptRecord_unmirrored {s : State} {j : JRec} (unmirrored : s.mirrorTarget = none) (packet : j.desc = none) (fresh : ∀ k ∈ s.host.journal, k.id ≠ j.id) :
    s.acceptRecord j = (s.journaled j).finishAccept j.id := by
  have found := State.journaled_record? unmirrored fresh
  rw [State.journaled] at found ⊢
  rw [State.acceptRecord]
  simp only [packet, if_true]
  rw [found]
  rfl

/-- R407, R413: its record is then ready, and its packet queued. -/
theorem State.acceptRecord_network {s : State} {j : JRec} (unmirrored : s.mirrorTarget = none) (packet : j.desc = none) (fresh : ∀ k ∈ s.host.journal, k.id ≠ j.id)
    (inside : j.owner < s.world.streams.length) : ∃ t, State.ChoiceNotes s t ∧ j.admitted ∈ t.host.journal ∧ t.QueuesPacket j.owner j.payload j.id (s.acceptRecord j) := by
  have found : (s.journaled j).record? j.unmirrored.id = some j.unmirrored := State.journaled_record? unmirrored fresh
  have notes : State.ChoiceNotes s ((s.journaled j).modRecord j.id JRec.admitted) := (State.journaled_choiceNotes unmirrored j).trans rfl
  have world : ((s.journaled j).modRecord j.id JRec.admitted).world = s.world := by rw [notes]
  refine ⟨_, notes, State.admitted_mem_modRecord (j := j.unmirrored) found, ?_⟩
  rw [(State.acceptRecord_unmirrored unmirrored packet fresh).trans (State.finishAccept_network (j := j.unmirrored) found packet)]
  exact State.queuePacket_queues (world ▸ inside) ..

/-- What admits a packet of stream n (R282, R407, R412, R416): no recovery and no want of credits holds it back, the journal has room and a number for it, and there is no mirror. -/
structure State.Admits (s : State) (n payload : Nat) : Prop where
  inside : n < s.world.streams.length
  recovered : s.streamRecovers n = false
  credits : s.withholds = false
  room : s.journalRoom payload = true
  unmirrored : s.mirrorTarget = none
  fresh : ∀ j ∈ s.host.journal, j.id ≠ s.host.nextJournal

/-- R445: without a mirror no peer budget is spent, so the credits rest on the pool and the journal alone. -/
theorem State.withholds_of_unmirrored {s : State} (h : s.mirrorTarget = none) : s.withholds = (!s.poolRoom || s.host.journalFull) := by
  rw [State.withholds, State.peerBudgetSpent, h, Bool.or_false]

/-- What admits a packet admits it at a later instant. -/
theorem State.Admits.at {s : State} {n payload : Nat} (h : s.Admits n payload) (t : Nat) : (s.at t).Admits n payload where
  inside := h.inside
  recovered := h.recovered
  credits := (State.withholds_of_unmirrored (s := s.at t) h.unmirrored).trans ((State.withholds_of_unmirrored h.unmirrored).symm.trans h.credits)
  room := h.room
  unmirrored := h.unmirrored
  fresh := h.fresh

/-- R413: the record of a network packet. -/
def State.networkRecord (s : State) (n : Nat) (bytes : List Byte) : JRec :=
  { id := s.host.nextJournal, st := .accepted, isDescriptor := false, owner := n, submitIndex := 0, sequence := 0, stamp := s.time, completionIndex := 0, desc := none, payload := bytes,
    payloadOk := true, completion := [], outcome := none, replayed := false, badA := false, badB := false, waitsMirror := false, ready := false }

theorem State.acceptNetwork_of_admits {s : State} {n : Nat} {bytes : List Byte} (h : s.Admits n bytes.length) :
    ∃ paused wire, s.acceptNetwork n bytes = (s.credited paused wire).acceptRecord (s.networkRecord n bytes) := by
  obtain ⟨paused, wire, taken⟩ := State.takeRoom_of_credits h.credits h.room
  refine ⟨paused, wire, ?_⟩
  rw [State.acceptNetwork, h.recovered, if_neg Bool.false_ne_true, taken]
  rfl

/-- R413: a packet that is admitted has its ACCEPTED record, waits at its stream's ingress processor, and is a work item. -/
theorem State.acceptNetwork_accepts {s : State} {n : Nat} {bytes : List Byte} (h : s.Admits n bytes.length) : let u := s.acceptNetwork n bytes
    ∃ j p i, j ∈ u.host.journal ∧ j.id = s.host.nextJournal ∧ j.st = .accepted ∧ (u.stream n).waiting = (s.stream n).waiting ++ [p] ∧ p.bytes = bytes ∧ p.journal = j.id ∧
      u.disp.items = s.disp.items ++ [i] ∧ i.kind = .streamPacket ∧ i.flow = some n ∧ i.arg = j.id ∧ u.tb = s.tb ∧ u.eng = s.eng ∧ u.mem = s.mem ∧ u.ctl = s.ctl := by
  obtain ⟨paused, wire, accepted⟩ := State.acceptNetwork_of_admits h
  obtain ⟨t, notes, written, queues⟩ := State.acceptRecord_network (s := s.credited paused wire) (j := s.networkRecord n bytes) h.unmirrored rfl h.fresh h.inside
  rw [← accepted] at queues
  obtain ⟨⟨p, waits, pbytes, pjournal⟩, ⟨i, items, kind, flow, arg⟩, rest⟩ := queues
  have waiting : t.stream n = s.stream n := by rw [notes]; rfl
  have before : t.disp.items = s.disp.items := by rw [notes]; rfl
  have kept : (t.tb, t.eng, t.mem, t.ctl) = (s.tb, s.eng, s.mem, s.ctl) := by rw [notes]; rfl
  obtain ⟨tb, eng, mem, ctl⟩ := by simpa only [Prod.mk.injEq] using kept
  refine ⟨(s.networkRecord n bytes).admitted, p, i, ?_, rfl, rfl, waiting ▸ waits, pbytes, pjournal, before ▸ items, kind, flow, arg, ?_, ?_, ?_, ?_⟩ <;> rw [rest]
  · exact written
  · exact tb
  · exact eng
  · exact mem
  · exact ctl

/-! The two commands (R101, R124, R413, R426, R427) -/

@[simp] theorem State.at_udpStream (s : State) (t port : Nat) : (s.at t).udpStream port = s.udpStream port := rfl
@[simp] theorem State.at_streamBy (s : State) (t transport source : Nat) : (s.at t).streamBy transport source = s.streamBy transport source := rfl
@[simp] theorem State.at_qpKnown (s : State) (t qp : Nat) : (s.at t).qpKnown qp = s.qpKnown qp := rfl
@[simp] theorem State.at_accepts (s : State) (t : Nat) : (s.at t).accepts = s.accepts := rfl
@[simp] theorem State.at_frameFits (s : State) (t n : Nat) : (s.at t).frameFits n = s.frameFits n := rfl

section
variable {s : State} {t : Nat} {bytes : List Byte}

theorem exec_streamPacketArrivalUdp_drops {port : Nat} (h : s.udpStream port = none ∨ s.accepts = false ∨ s.frameFits bytes.length = false) :
    exec (.streamPacketArrivalUdp t port bytes) s = .next (s.at t) := by
  change execStreamPacketArrivalUdp t port bytes s = _
  unfold execStreamPacketArrivalUdp
  rcases h with h | h | h
  · simp [h]
  · simp only [State.at_udpStream, State.at_accepts, h, Bool.false_and, Bool.false_eq_true, if_false]
    split <;> rfl
  · simp only [State.at_udpStream, State.at_frameFits, h, Bool.and_false, Bool.false_eq_true, if_false]
    split <;> rfl

theorem exec_streamPacketArrivalUdp_takes {port n : Nat} (stream : s.udpStream port = some n) (accepts : s.accepts = true) (fits : s.frameFits bytes.length = true) :
    exec (.streamPacketArrivalUdp t port bytes) s = .next ((s.at t).acceptNetwork n bytes) := by
  change execStreamPacketArrivalUdp t port bytes s = _
  simp [execStreamPacketArrivalUdp, stream, accepts, fits]

variable {r : RoceRequest}

theorem exec_streamPacketArrivalRoce_drops (h : s.accepts = false ∨ (r.supported = true ∧ s.streamBy 2 r.qp = none ∧ s.qpKnown r.qp = true)) :
    exec (.streamPacketArrivalRoce t r bytes) s = .next (s.at t) := by
  change execStreamPacketArrivalRoce t r bytes s = _
  unfold execStreamPacketArrivalRoce
  rcases h with h | ⟨supported, stream, known⟩
  · simp [h]
  · simp [supported, stream, known]

theorem exec_streamPacketArrivalRoce_naks (accepts : s.accepts = true) (h : r.supported = false ∨ (s.streamBy 2 r.qp = none ∧ s.qpKnown r.qp = false)) :
    exec (.streamPacketArrivalRoce t r bytes) s = .next ((s.at t).nak r.qp) := by
  change execStreamPacketArrivalRoce t r bytes s = _
  unfold execStreamPacketArrivalRoce
  rcases h with supported | ⟨stream, known⟩
  · simp [accepts, supported]
  · simp [accepts, stream, known]

theorem exec_streamPacketArrivalRoce_takes {n : Nat} (stream : s.streamBy 2 r.qp = some n) (accepts : s.accepts = true) (supported : r.supported = true) :
    exec (.streamPacketArrivalRoce t r bytes) s = .next ((s.at t).acceptNetwork n bytes) := by
  change execStreamPacketArrivalRoce t r bytes s = _
  simp [execStreamPacketArrivalRoce, stream, accepts, supported]

end

/-- R427: a NAK is counted. -/
theorem State.nak_naks (s : State) (qp : Nat) : (s.nak qp).group.naks = s.group.naks + 1 := by
  unfold State.nak State.sendInput
  split <;> rfl

/-- R427: a NAK that no pause holds back is sent. -/
theorem State.nak_of_unpaused {s : State} (h : (s.port s.group.activePort).paused.testBit (s.cfg 0x8600 0x0C) = false) (qp : Nat) :
    s.nak qp = { s with group := { s.group with naks := s.group.naks + 1 }, wire := s.wire ++ [.roceNak qp] } :=
  if_neg (Bool.eq_false_iff.1 h)

/-- R428: a NAK waits at its port while its priority is paused. -/
theorem State.nak_of_paused {s : State} (h : (s.port s.group.activePort).paused.testBit (s.cfg 0x8600 0x0C) = true) (port : s.group.activePort < s.group.ports.length) (qp : Nat) :
    (s.nak qp).wire = s.wire ∧ ((s.nak qp).port s.group.activePort).held = (s.port s.group.activePort).held ++ [.roceNak qp] := by
  have waits : s.nak qp = State.modPort { s with group := { s.group with naks := s.group.naks + 1 } } s.group.activePort (fun x => { x with held := x.held ++ [.roceNak qp] }) := if_pos h
  rw [waits]
  refine ⟨rfl, ?_⟩
  simp [State.port, getElem?_modAt, port]

/-- Settles O16: what drops a packet, what answers it with a NAK, and what takes it, of either transport, into the acceptance that both share. -/
theorem streamPacketsAreAccepted : Obligations.StreamPacketsAreAccepted := by
  unfold Obligations.StreamPacketsAreAccepted
  intro s t port r bytes
  refine ⟨exec_streamPacketArrivalUdp_drops, exec_streamPacketArrivalRoce_drops, fun accepts h => ?_, fun c hc n stream whole accepts inside recovered credits room unmirrored fresh => ?_⟩
  · exact ⟨_, exec_streamPacketArrivalRoce_naks accepts h, State.nak_naks .., fun free => State.nak_of_unpaused (s := s.at t) free _,
      fun held port => State.nak_of_paused (s := s.at t) held port _⟩
  · have takes : exec c.1 s = .next ((s.at t).acceptNetwork n bytes) := by
      simp only [List.mem_cons, List.not_mem_nil, or_false] at hc
      obtain rfl | rfl := hc
      · exact exec_streamPacketArrivalUdp_takes stream accepts whole
      · exact exec_streamPacketArrivalRoce_takes stream accepts whole
    have admits : s.Admits n bytes.length := ⟨inside, recovered, credits, room, unmirrored, fresh⟩
    exact ⟨_, (State.acceptNetwork_accepts (admits.at t)).imp fun j => Exists.imp fun p => Exists.imp fun i accepted => ⟨takes, accepted⟩⟩

end Sys2Proof.Machine
end

section
/-!
SUPPORT. What the registers in hand are nothing to (R301): messages, rings, events and counters, which do with other registers in hand what they do with these.
-/
namespace Sys2Proof.Machine
open Sys2Proof

set_option Elab.async false

/-- Other registers in hand. -/
def State.withEng (s : State) (v : Invocation) : State := { s with eng := v }

theorem State.ite_withEng {c : Prop} [Decidable c] {a b a' b' : State} {v : Invocation} (h : a' = a.withEng v) (k : b' = b.withEng v) : (if c then a' else b') = (if c then a else b).withEng v := by
  rw [h, k, ← apply_ite (State.withEng · v)]

section
variable (s : State) (v : Invocation)

theorem State.sendQp_withEng (n priority : Nat) (m : WireMsg) : (s.withEng v).sendQp n priority m = (s.sendQp n priority m).withEng v := by
  unfold State.sendQp
  extract_lets p held q t timer u p' held' q' t' timer' u'
  have opened : t = t'.withEng v := State.ite_withEng rfl rfl
  have timed : timer = timer' := by
    unfold timer timer'
    rw [opened]
    rfl
  have put : u = u'.withEng v := by
    unfold u u'
    rw [opened, timed]
    rfl
  exact State.ite_withEng put (congrArg (State.send · m) put)

theorem State.sendInput_withEng (p : Nat) (m : WireMsg) : (s.withEng v).sendInput p m = (s.sendInput p m).withEng v := State.ite_withEng rfl rfl

theorem State.sendMgmt_withEng (m : WireMsg) : (s.withEng v).sendMgmt m = (s.sendMgmt m).withEng v := State.ite_withEng rfl rfl

theorem State.sendRecords_withEng (c : Nat) (records : List (List Byte)) : (s.withEng v).sendRecords c records = (s.sendRecords c records).withEng v := by
  have same : (s.withEng v).udpClient c = s.udpClient c := rfl
  have open' : (s.withEng v).udpSession c = s.udpSession c := rfl
  unfold State.sendRecords
  rw [same, open']
  extract_lets u
  split
  · exact State.ite_withEng (State.sendMgmt_withEng (s.setUdp c _) v _) (State.sendInput_withEng (s.setUdp c _) v _ _)
  · rfl

theorem State.deliverEntry_withEng (r index : Nat) (b : List Byte) : (s.withEng v).deliverEntry r index b = (s.deliverEntry r index b).withEng v := by
  have same : (s.withEng v).ringClient (r) = s.ringClient r := rfl
  unfold State.deliverEntry
  rw [same]
  extract_lets c rc cc offset
  split
  · exact State.ite_withEng rfl rfl
  · exact s.sendQp_withEng ..
  next t _ _ _ _ _ _ t' _ _ _ =>
    have kept : t = t'.withEng v := State.ite_withEng rfl rfl
    rw [kept]
    exact t'.sendRecords_withEng ..

theorem State.moderate_withEng (r : Nat) (atOnce : Bool) : (s.withEng v).moderate r atOnce = (s.moderate r atOnce).withEng v := by
  have same : (s.withEng v).ring? r = s.ring? r := rfl
  unfold State.moderate
  rw [same]
  split
  · rfl
  · exact State.ite_withEng rfl rfl

theorem State.ringPush_withEng (r : Nat) (mk : Bool → List Byte) (atOnce : Bool) : (s.withEng v).ringPush r mk atOnce = (s.ringPush r mk atOnce).withEng v := by
  have same : (s.withEng v).ring? r = s.ring? r := rfl
  unfold State.ringPush
  rw [same]
  split
  · rfl
  next x _ =>
    refine State.ite_withEng rfl ?_
    rw [← State.moderate_withEng, ← State.deliverEntry_withEng]
    rfl

theorem State.offerEvent_withEng (r : Nat) (e : EventRec) : (s.withEng v).offerEvent r e = (s.offerEvent r e).withEng v := by
  have same : (s.withEng v).ring? r = s.ring? r := rfl
  unfold State.offerEvent
  rw [same]
  split
  · rfl
  · exact State.ite_withEng (State.ringPush_withEng ..) (State.ite_withEng rfl rfl)

theorem State.emit_withEng (frame code arg arg2 : Nat) : (s.withEng v).emit frame code arg arg2 = (s.emit frame code arg arg2).withEng v := by
  have each (rs : List Nat) (e : EventRec) (t : State) : rs.foldl (fun u r => u.offerEvent r e) (t.withEng v) = (rs.foldl (fun u r => u.offerEvent r e) t).withEng v := by
    induction rs generalizing t with
    | nil => rfl
    | cons r rs ih => rw [List.foldl_cons, List.foldl_cons, State.offerEvent_withEng, ih]
  exact each (s.eventRings code) ⟨code, arg, frame, s.time, arg2⟩ { s with events := s.events ++ [_] }

theorem State.raiseFor_withEng (frame code arg arg2 : Nat) : (s.withEng v).raiseFor frame code arg arg2 = (s.raiseFor frame code arg arg2).withEng v := by
  unfold State.raiseFor
  dsimp only
  rw [State.emit_withEng]
  exact State.ite_withEng (State.emit_withEng ..) rfl

/-- R34: a counter rises whatever the registers in hand. -/
theorem State.count_withEng (idx sub n : Nat) : (s.withEng v).count idx sub n = (s.count idx sub n).withEng v :=
  State.ite_withEng (State.raiseFor_withEng { s with dict := (s.dict.bump idx sub n).1 } v ..) rfl

end
end Sys2Proof.Machine
end

section
/-!
SUPPORT. Registers (R301): what a general register reads after a write of it or of another, and the instructions that write general registers alone and go on to the next one.
-/
namespace Sys2Proof.Machine
open Sys2Proof

set_option Elab.async false

theorem Invocation.getG_setG_same {v : Invocation} {r : Nat} (x : Word) (whole : v.g.length = 64) (named : r ≠ 0) (small : r < 64) : (v.setG r x).getG r = x := by
  simp [Invocation.setG, Invocation.getG, named, setAt, whole, small]

theorem Invocation.getG_setG_other {v : Invocation} {r q : Nat} (x : Word) (apart : r ≠ q) : (v.setG q x).getG r = v.getG r := by
  unfold Invocation.setG
  split
  · rfl
  · simp [Invocation.getG, setAt, Ne.symm apart]

theorem Invocation.length_setG (v : Invocation) (r : Nat) (x : Word) : (v.setG r x).g.length = v.g.length := by
  unfold Invocation.setG
  split
  · rfl
  · exact List.length_set

/-- Only general registers and the place in the program may differ. -/
abbrev Invocation.Wrote (v w : Invocation) : Prop := w = { v with g := w.g, pc := w.pc, loops := w.loops }

theorem Invocation.Wrote.next {v w : Invocation} (h : v.Wrote w) : v.Wrote w.next := by
  unfold Invocation.Wrote at *
  rw [h]
  rfl

theorem Invocation.Wrote.setG {v w : Invocation} (h : v.Wrote w) (r : Nat) (x : Word) : v.Wrote (w.setG r x) := by
  unfold Invocation.setG
  split
  · exact h
  · unfold Invocation.Wrote at *
    rw [h]

theorem Invocation.setG_next_wrote (v : Invocation) (r : Nat) (x : Word) : v.Wrote (v.setG r x).next := (Invocation.Wrote.setG (v := v) rfl r x).next

theorem Invocation.Wrote.status {v w : Invocation} (h : v.Wrote w) : w.status = v.status := by rw [h]

/-! Register pairs (R314) -/

theorem Invocation.setPair_wrote (v : Invocation) (rd : BitVec 6) (p : F32 × F32) : v.Wrote (v.setPair rd p) := ((Invocation.Wrote.setG (v := v) rfl ..).setG ..).next

/-- An even register and the one after it are registers. -/
theorem Invocation.getG_setPair {v : Invocation} {rd : BitVec 6} (p : F32 × F32) (whole : v.g.length = 64) (even : rd.toNat % 2 = 0) :
    (rd ≠ 0#6 → (v.setPair rd p).getG rd.toNat = p.1) ∧ (v.setPair rd p).getG (rd.toNat + 1) = p.2 := by
  have small := rd.isLt
  refine ⟨fun named => ?_, ?_⟩
  · have first : rd.toNat ≠ 0 := fun e => named (BitVec.eq_of_toNat_eq e)
    exact (Invocation.getG_setG_other p.2 (by omega)).trans (Invocation.getG_setG_same p.1 whole first small)
  · exact Invocation.getG_setG_same p.2 ((v.length_setG ..).trans whole) (by omega) (by omega)

/-! An instruction that runs (R308) -/

theorem State.engApply_running {s : State} {i : Instr} (runs : Runs s i) {f : EngEnv → Invocation → Invocation} {v : Invocation} (gives : f (envOf s) s.eng = v) (goes : v.status ≠ .faulted) :
    s.engApply i f = s.withEng v := by
  obtain ⟨running, -, formed⟩ := runs
  have here : s.engHere = s.eng := by simp [State.engHere, Invocation.resume, running]
  subst gives
  rw [State.engApply, if_pos formed, here, State.engSet, if_neg (by simpa [State.engEnvHere] using goes)]
  rfl

theorem Invocation.when_pos {v : Invocation} {pred : BitVec 3} (holds : v.getP pred.toNat = true) (f : Invocation → Invocation) : v.when pred f = f v := if_pos holds

end Sys2Proof.Machine
end

section
/-!
SUPPORT. The instructions of tread programs (R306, R314): LDW.T, POSE, QUERY, LOOKUP, ACC, MERIT and SCG, each on the operands for which the rules name no fault.
-/
namespace Sys2Proof.Machine
open Sys2Proof

set_option Elab.async false

/-! Tiles -/

section
variable {env : EngEnv} {v : Invocation}

/-- The field of a number, by division. -/
theorem bitsAt_eq_div (x lo n : Nat) : bitsAt x lo n = x / 2 ^ lo % 2 ^ n := by rw [bitsAt, Nat.shiftRight_eq_div_pow]

/-- R306: the word of a tile that can be read. -/
theorem engLdwT_reads {rd ra : BitVec 6} {imm : BitVec 14} {td : Tile} {ref layer grid slice tile offset : Nat} (hlayer : bitsAt ref 28 4 = layer) (hgrid : bitsAt ref 27 1 = grid)
    (hslice : bitsAt ref 21 6 = slice) (htile : bitsAt ref 13 8 = tile) (hoffset : bitsAt ref 0 13 = offset) (href : v.address ra imm = ref) (tread : v.kind = .tread)
    (used : env.map.typeOf layer ≠ 0) (stored : slice ≤ 32) (aligned : offset % 4 = 0) (inside : offset + 4 ≤ tileSize (env.map.typeOf layer))
    (read : env.map.tile layer grid slice tile = some td) :
    engLdwT env rd ra imm v = (({ v with groups := v.groups ||| 2 ^ tileGroup grid tile } : Invocation).setG rd.toNat (BitVec.ofNat 32 (tileWord (env.map.typeOf layer) td.values offset))).next := by
  have allowed : ¬(v.kind == .filter || env.map.typeOf layer == 0 || decide (32 < slice) || decide (tileSize (env.map.typeOf layer) < offset + 4) || offset % 4 != 0) = true := by
    simp [tread, used, stored, aligned, inside]
  subst hlayer hgrid hslice htile hoffset href
  unfold engLdwT
  dsimp only
  rw [if_neg allowed, read]

/-! Places (R314) -/

/-- A sphere's centre at the pose. -/
theorem engPoseSphere_places {rd ra : BitVec 6} {pred : BitVec 3} {sp : Sphere} {c : F32 × F32} (holds : v.getP pred.toNat = true) (known : env.spheres[(v.getG ra.toNat).toNat]? = some sp)
    (present : placeSphere (axles env.body v.here) sp = some c) : engPoseSphere env rd ra pred v = v.setPair rd c := by
  rw [engPoseSphere, Invocation.when_pos holds, known]
  dsimp only
  rw [present]
  rfl

/-- An axle's centre at the pose. -/
theorem engPoseAxle_places {rd ra : BitVec 6} {pred : BitVec 3} {a : Axle} (holds : v.getP pred.toNat = true) (present : (axles env.body v.here)[(v.getG ra.toNat).toNat]? = some a) :
    engPoseAxle env rd ra pred v = v.setPair rd (a.x, a.y) := by
  rw [engPoseAxle, Invocation.when_pos holds, present]

/-! Map queries (R187, R314) -/

section
variable {rd ra rb : BitVec 6} {pred : BitVec 3} (holds : v.getP pred.toNat = true)
include holds

/-- A query counted, with the tile groups that it touches. -/
def Invocation.queried (v : Invocation) (groups : Nat) : Invocation := { v with queries := v.queries + 1, groups := v.groups ||| groups }

theorem engQuery_nonFinite (occupancy : env.map.typeOf (v.getG rb.toNat).toNat = 1) (bad : (f32Finite (v.getG ra.toNat) && f32Finite (v.getG (ra.toNat + 1))) = false) :
    engQuery env rd ra rb pred v = (v.queried 0).endWith 7 := by
  rw [engQuery, Invocation.when_pos holds]
  dsimp only
  rw [if_neg (by simp [occupancy]), if_pos (by simp [bad]), Invocation.queried, Nat.or_zero]

section
variable (occupancy : env.map.typeOf (v.getG rb.toNat).toNat = 1) (x : f32Finite (v.getG ra.toNat) = true) (y : f32Finite (v.getG (ra.toNat + 1)) = true)
include occupancy x y

theorem engQuery_outside (outside : env.map.locate (v.getG ra.toNat) (v.getG (ra.toNat + 1)) = none) :
    engQuery env rd ra rb pred v = ((v.queried 0).setG rd.toNat 0x80000000#32).next := by
  rw [engQuery, Invocation.when_pos holds]
  dsimp only
  rw [if_neg (by simp [occupancy]), if_neg (by simp [x, y]), outside, Invocation.queried, Nat.or_zero]

theorem engQuery_inside {p : Place} (inside : env.map.locate (v.getG ra.toNat) (v.getG (ra.toNat + 1)) = some p) :
    engQuery env rd ra rb pred v = match env.map.dist (v.getG rb.toNat).toNat p (sliceCover (v.pose * env.stepNs) (v.pose * env.stepNs)) with
      | some d => ((v.queried p.groups4).setG rd.toNat (BitVec.ofInt 32 d)).next
      | none => (v.queried p.groups4).endWith 8 := by
  rw [engQuery, Invocation.when_pos holds]
  dsimp only
  rw [if_neg (by simp [occupancy]), if_neg (by simp [x, y]), inside]
  rfl

end

theorem engLookup_inside {p : Place} {c : F32} (cost : env.map.typeOf (v.getG rb.toNat).toNat = 2) (x : f32Finite (v.getG ra.toNat) = true) (y : f32Finite (v.getG (ra.toNat + 1)) = true)
    (inside : env.map.locate (v.getG ra.toNat) (v.getG (ra.toNat + 1)) = some p)
    (value : env.map.bilinear (v.getG rb.toNat).toNat ((sliceCover (v.pose * env.stepNs) (v.pose * env.stepNs)).headD 0) (v.getG ra.toNat) (v.getG (ra.toNat + 1)) p = some c) :
    engLookup env rd ra rb pred v = (({ v with groups := v.groups ||| p.groups4 } : Invocation).setG rd.toNat c).next := by
  rw [engLookup, Invocation.when_pos holds]
  dsimp only
  rw [if_neg (by simp [cost]), if_neg (by simp [x, y]), inside]
  have at' : Invocation.timeNs env { v with groups := v.groups ||| p.groups4 } = v.pose * env.stepNs := rfl
  dsimp only
  rw [at', value]

end

/-! Costs, merits and the generator (R164, R189, R314) -/

/-- R314: an accumulator's sum. -/
def Invocation.accumulated (v : Invocation) (fn : BitVec 5) (x : F32) : Invocation := { v with acc := v.acc.set fn.toNat x }

theorem engAcc_adds {ra : BitVec 6} {pred : BitVec 3} (fn : BitVec 5) (holds : v.getP pred.toNat = true) {x : F32} (sum : f32Add ((v.acc[fn.toNat]?).getD 0#32) (v.getG ra.toNat) = x) :
    engAcc ra pred fn v = if f32Finite x then (v.accumulated fn x).next else (v.accumulated fn x).endWith 7 := by
  subst sum
  rw [engAcc, Invocation.when_pos holds]
  rfl

theorem engMerit_keeps {ra : BitVec 6} {pred : BitVec 3} (holds : v.getP pred.toNat = true) (horizon : v.pose = v.horizon) :
    engMerit ra pred v = ({ v with merit := some (v.getG ra.toNat) } : Invocation).next := by
  rw [engMerit, Invocation.when_pos holds, if_pos (by simp [horizon])]

/-- Four registers written, the last of them last. -/
def Invocation.setFour (v : Invocation) (r : Nat) (w : List Word) : Invocation := (((v.setG r (lane w 0)).setG (r + 1) (lane w 1)).setG (r + 2) (lane w 2)).setG (r + 3) (lane w 3)

theorem Invocation.setFour_wrote (v : Invocation) (r : Nat) (w : List Word) : v.Wrote (v.setFour r w).next := ((((Invocation.Wrote.setG (v := v) rfl ..).setG ..).setG ..).setG ..).next

theorem Invocation.getG_setFour (whole : v.g.length = 64) {r k : Nat} (w : List Word) (within : r + 3 < 64) (four : k < 4) (named : r + k ≠ 0) : (v.setFour r w).getG (r + k) = lane w k := by
  have wide (u : Invocation) (q : Nat) (x : Word) (h : u.g.length = 64) : (u.setG q x).g.length = 64 := (u.length_setG q x).trans h
  have one := wide v r (lane w 0) whole
  have two := wide _ (r + 1) (lane w 1) one
  have three := wide _ (r + 2) (lane w 2) two
  unfold Invocation.setFour
  interval_cases k
  · rw [show r + 0 = r from rfl, Invocation.getG_setG_other _ (by omega), Invocation.getG_setG_other _ (by omega), Invocation.getG_setG_other _ (by omega), Invocation.getG_setG_same _ whole (by omega) (by omega)]
  · rw [Invocation.getG_setG_other _ (by omega), Invocation.getG_setG_other _ (by omega), Invocation.getG_setG_same _ one named (by omega)]
  · rw [Invocation.getG_setG_other _ (by omega), Invocation.getG_setG_same _ two named (by omega)]
  · rw [Invocation.getG_setG_same _ three named (by omega)]

theorem engScg_draws {rd rb : BitVec 6} {pred : BitVec 3} (holds : v.getP pred.toNat = true) {w : List Word}
    (draw : scgWords env.key env.frame (v.exp.cid / 2 ^ 28 % 4) v.exp.cid (0x800000 + 256 * v.pose + (v.getG rb.toNat).toNat % 256) = w) :
    engScg env rd rb pred v = (v.setFour rd.toNat w).next := by
  have round : bitsAt v.exp.cid 28 2 = v.exp.cid / 2 ^ 28 % 4 := bitsAt_eq_div ..
  rw [engScg, Invocation.when_pos holds]
  dsimp only
  rw [round, draw]
  rfl

end
end Sys2Proof.Machine
end

section
/-!
The instructions of tread programs as commands, and the statement on them (R164, R306, R314).
-/
namespace Sys2Proof.Machine
open Sys2Proof

set_option Elab.async false

/-- A running instruction that writes general registers of `v`, which is the invocation in hand but for its status and place, leaves that in hand. -/
theorem State.engApply_wrote {s : State} {i : Instr} (runs : Runs s i) {f : EngEnv → Invocation → Invocation} {v w : Invocation} (wrote : v.Wrote w) (gives : f (envOf s) s.eng = w)
    (running : v.status = .running) : s.engApply i f = s.withEng w :=
  State.engApply_running runs gives (by rw [wrote.status, running]; decide)

section
variable {s : State} {rd ra rb : BitVec 6} {pred : BitVec 3}

/-- R306, R313: LDW.T. -/
theorem exec_ldwT_reads {imm : BitVec 14} (runs : Runs s (.ldwT rd ra imm)) {td : Tile} {ref layer grid slice tile offset : Nat} (hlayer : bitsAt ref 28 4 = layer) (hgrid : bitsAt ref 27 1 = grid)
    (hslice : bitsAt ref 21 6 = slice) (htile : bitsAt ref 13 8 = tile) (hoffset : bitsAt ref 0 13 = offset) (href : s.eng.address ra imm = ref) (tread : s.eng.kind = .tread)
    (used : (envOf s).map.typeOf layer ≠ 0) (stored : slice ≤ 32) (aligned : offset % 4 = 0) (inside : offset + 4 ≤ tileSize ((envOf s).map.typeOf layer))
    (read : (envOf s).map.tile layer grid slice tile = some td) :
    ∃ t, exec (.ldwT rd ra imm) s = .next t ∧ t.eng.getG rd.toNat = (if rd = 0#6 then 0#32 else BitVec.ofNat 32 (tileWord ((envOf s).map.typeOf layer) td.values offset))
      ∧ t.eng.groups = s.eng.groups ||| 2 ^ tileGroup grid tile ∧ t = { s with eng := { s.eng with g := t.eng.g, groups := t.eng.groups, pc := t.eng.pc, loops := t.eng.loops } } := by
  have gives := engLdwT_reads (rd := rd) hlayer hgrid hslice htile hoffset href tread used stored aligned inside read
  have wrote := Invocation.setG_next_wrote { s.eng with groups := s.eng.groups ||| 2 ^ tileGroup grid tile } rd.toNat (BitVec.ofNat 32 (tileWord ((envOf s).map.typeOf layer) td.values offset))
  obtain ⟨running, shaped, -⟩ := id runs
  refine ⟨_, congrArg Host.Outcome.next (State.engApply_wrote runs wrote gives running), ?_, congrArg Invocation.groups wrote, ?_⟩
  · split
    case isTrue zero => rw [zero]; rfl
    case isFalse named => exact Invocation.getG_setG_same _ shaped.1 (fun e => named (BitVec.eq_of_toNat_eq e)) rd.isLt
  · unfold Invocation.Wrote at wrote
    unfold State.withEng
    rw [wrote]

/-- R314: a pair of registers written, and nothing else changed. -/
theorem exec_setPair {i : Instr} {f : EngEnv → Invocation → Invocation} (applies : exec i s = .next (s.engApply i f)) (runs : Runs s i) {p : F32 × F32}
    (gives : f (envOf s) s.eng = s.eng.setPair rd p) (even : rd.toNat % 2 = 0) :
    ∃ t, exec i s = .next t ∧ (rd ≠ 0#6 → t.eng.getG rd.toNat = p.1) ∧ t.eng.getG (rd.toNat + 1) = p.2
      ∧ t = { s with eng := { s.eng with g := t.eng.g, pc := t.eng.pc, loops := t.eng.loops } } := by
  have wrote := s.eng.setPair_wrote rd p
  obtain ⟨running, shaped, -⟩ := id runs
  obtain ⟨first, second⟩ := Invocation.getG_setPair p shaped.1 even
  exact ⟨_, applies.trans (congrArg _ (State.engApply_wrote runs wrote gives running)), first, second, congrArg s.withEng wrote⟩

/-! QUERY: counted, then answered or ended -/

/-- R314: a query that the invocation in hand makes is counted. -/
theorem exec_query_counts {w : Invocation} (runs : Runs s (.query rd ra rb pred)) (gives : engQuery (envOf s) rd ra rb pred s.eng = w) (counted : w.queries = s.eng.queries + 1)
    (goes : w.status ≠ .faulted) : exec (.query rd ra rb pred) s = .next ((s.count 0x5020 3 1).withEng w) := by
  have applied : s.engApply (.query rd ra rb pred) (fun env v => engQuery env rd ra rb pred v) = s.withEng w := State.engApply_running runs gives goes
  have more : ¬((s.withEng w).eng.queries == s.eng.queries) = true := by
    rw [beq_iff_eq]
    exact fun e => Nat.succ_ne_self _ (counted.symm.trans e)
  have one : (s.withEng w).eng.queries - s.eng.queries = 1 := by
    rw [show (s.withEng w).eng.queries = s.eng.queries + 1 from counted, Nat.add_sub_cancel_left]
  show execQuery rd ra rb pred s = _
  unfold execQuery
  dsimp only
  rw [applied, if_neg more, one, s.count_withEng]

/-- R314: a query is answered in a register. -/
theorem exec_query_answers {groups : Nat} {r : Word} (runs : Runs s (.query rd ra rb pred)) (gives : engQuery (envOf s) rd ra rb pred s.eng = ((s.eng.queried groups).setG rd.toNat r).next) :
    ∃ t, exec (.query rd ra rb pred) s = .next t ∧ (rd ≠ 0#6 → t.eng.getG rd.toNat = r)
      ∧ t = { s.count 0x5020 3 1 with eng := { s.eng with g := t.eng.g, queries := s.eng.queries + 1, groups := s.eng.groups ||| groups, pc := t.eng.pc, loops := t.eng.loops } } := by
  have wrote := (s.eng.queried groups).setG_next_wrote rd.toNat r
  obtain ⟨running, shaped, -⟩ := id runs
  refine ⟨_, exec_query_counts runs gives (congrArg Invocation.queries wrote) ?_, fun named => ?_, congrArg (s.count 0x5020 3 1).withEng wrote⟩
  · rw [wrote.status, show (s.eng.queried groups).status = .running from running]
    decide
  · exact Invocation.getG_setG_same (v := s.eng.queried groups) _ shaped.1 (fun e => named (BitVec.eq_of_toNat_eq e)) rd.isLt

/-- R314: a query ends the candidate. -/
theorem exec_query_ends {groups code : Nat} (runs : Runs s (.query rd ra rb pred)) (gives : engQuery (envOf s) rd ra rb pred s.eng = (s.eng.queried groups).endWith code) :
    exec (.query rd ra rb pred) s = .next { s.count 0x5020 3 1 with eng := { s.eng with queries := s.eng.queries + 1, groups := s.eng.groups ||| groups, status := .ended code } } :=
  exec_query_counts runs gives rfl nofun

/-- R164, R314: SCG. -/
theorem exec_scg_draws (runs : Runs s (.scg rd rb pred)) (holds : s.eng.getP pred.toNat = true) {w : List Word}
    (draw : scgWords (scgKey (s.cfgBytes 0x7201 0) s.eng.frame) s.eng.frame (s.eng.exp.cid / 2 ^ 28 % 4) s.eng.exp.cid (0x800000 + 256 * s.eng.pose + (s.eng.getG rb.toNat).toNat % 256) = w) :
    ∃ t, exec (.scg rd rb pred) s = .next t ∧ (∀ k, k < 4 → rd.toNat + k ≠ 0 → t.eng.getG (rd.toNat + k) = lane w k)
      ∧ t = { s with eng := { s.eng with g := t.eng.g, pc := t.eng.pc, loops := t.eng.loops } } := by
  have even : rd.toNat % 4 = 0 := by simpa [Instr.wf] using runs.2.2
  have small := rd.isLt
  have wrote := s.eng.setFour_wrote rd.toNat w
  refine ⟨_, congrArg Host.Outcome.next (State.engApply_wrote runs (f := fun env v => engScg env rd rb pred v) wrote (engScg_draws holds draw) runs.1), fun k four named => ?_,
    congrArg s.withEng wrote⟩
  exact Invocation.getG_setFour runs.2.1.1 w (by omega) four named

end

/-- Settles O27, by what each instruction makes of the invocation in hand. -/
theorem treadInstructionsComplete : Obligations.TreadInstructionsComplete := by
  unfold Obligations.TreadInstructionsComplete
  intro s rd ra rb pred tread x y l m instant
  refine ⟨?ldwT, fun holds => ⟨?poseSphere, ?poseAxle, ?query, ?lookup, ?acc, ?merit, ?scg⟩⟩
  case ldwT =>
    intro imm runs ref layer grid slice tile offset td used stored aligned inside read
    exact exec_ldwT_reads runs (bitsAt_eq_div ..) (bitsAt_eq_div ..) (bitsAt_eq_div ..) (bitsAt_eq_div ..) ((bitsAt_eq_div ..).trans (by rw [Nat.pow_zero, Nat.div_one])) rfl tread used stored aligned
      inside read
  case poseSphere =>
    intro sp c runs known present
    exact exec_setPair rfl runs (engPoseSphere_places holds known present) (by simpa [Instr.wf] using runs.2.2)
  case poseAxle =>
    intro ax runs present
    exact exec_setPair rfl runs (engPoseAxle_places holds present) (by simpa [Instr.wf] using runs.2.2)
  case query =>
    intro runs occupancy answered ended
    refine ⟨fun bad => exec_query_ends runs (engQuery_nonFinite holds occupancy bad), fun fx fy => ⟨fun outside => ?_, fun p d inside dist => ?_, fun p inside unread => ?_⟩⟩
    · exact exec_query_answers runs (engQuery_outside holds occupancy fx fy outside)
    · exact exec_query_answers runs ((engQuery_inside holds occupancy fx fy inside).trans (by rw [show m.dist _ _ _ = _ from dist]))
    · exact exec_query_ends runs ((engQuery_inside holds occupancy fx fy inside).trans (by rw [show m.dist _ _ _ = _ from unread]))
  case lookup =>
    intro runs cost fx fy p c inside value
    have wrote := Invocation.setG_next_wrote { s.eng with groups := s.eng.groups ||| p.groups4 } rd.toNat c
    have applied := State.engApply_wrote runs (f := fun env v => engLookup env rd ra rb pred v) wrote (engLookup_inside holds cost fx fy inside value) runs.1
    refine ⟨_, congrArg Host.Outcome.next applied, fun named => ?_, congrArg Invocation.groups wrote⟩
    exact Invocation.getG_setG_same (v := { s.eng with groups := s.eng.groups ||| p.groups4 }) _ runs.2.1.1 (fun e => named (BitVec.eq_of_toNat_eq e)) rd.isLt
  case acc =>
    intro fn runs r
    have adds := engAcc_adds fn holds (x := r) rfl
    cases finite : f32Finite r with
    | true =>
      rw [finite, if_pos rfl] at adds
      refine ⟨_, congrArg Host.Outcome.next (State.engApply_running runs (f := fun _ v => engAcc ra pred fn v) adds ?_), rfl, rfl, fun _ => runs.1, nofun⟩
      rw [show (s.eng.accumulated fn r).next.status = .running from runs.1]
      decide
    | false =>
      rw [finite, if_neg (by decide)] at adds
      exact ⟨_, congrArg Host.Outcome.next (State.engApply_running runs (f := fun _ v => engAcc ra pred fn v) adds nofun), rfl, rfl, nofun, fun _ => rfl⟩
  case merit =>
    intro runs horizon
    have wrote : Invocation.Wrote { s.eng with merit := some x } (Invocation.next { s.eng with merit := some x }) := Invocation.Wrote.next rfl
    exact ⟨_, congrArg Host.Outcome.next (State.engApply_wrote runs (f := fun _ v => engMerit ra pred v) wrote (engMerit_keeps holds horizon) runs.1), rfl, rfl⟩
  case scg =>
    intro runs w
    exact exec_scg_draws runs holds rfl

end Sys2Proof.Machine
end

section
/-!
EXPANDER_WINDOW_FILL (R151 to R155): one more pose window of the candidates that an engine serves.
-/
namespace Sys2Proof.Machine
open Sys2Proof

set_option Elab.async false

theorem State.frame_of_work? {s : State} {n : Nat} {w : FrameWork} (found : s.work? n = some w) : w.frame = n := eq_of_beq (List.find?_some (p := fun w : FrameWork => w.frame == n) found)

theorem State.modWork_choiceNotes (s : State) (n : Nat) (f : FrameWork → FrameWork) : State.ChoiceNotes s (s.modWork n f) := rfl

theorem State.raiseOpen_choiceNotes (s : State) (frame code : Nat) : State.ChoiceNotes s (s.raiseOpen frame code) := .of_notes (s.raiseOpen_frame ..)

theorem State.raiseOnce_choiceNotes (s : State) (frame code : Nat) : State.ChoiceNotes s (s.raiseOnce frame code) := by
  unfold State.raiseOnce
  split
  · exact .optional ((s.modWork_choiceNotes ..).trans (State.raiseOpen_choiceNotes ..))
  · exact s.raiseOpen_choiceNotes ..

/-- R150, R153, R169: what the expander counts shows in the frame's work, the counters and the events alone. -/
theorem State.countExpansions_choiceNotes (s : State) (w : FrameWork) (window last : Nat) (exps : List Expansion) : State.ChoiceNotes s (s.countExpansions w window last exps) := by
  unfold State.countExpansions
  extract_lets here fresh s1 bad add s2 s3 s4 n
  have added (t : State) (sub k : Nat) : State.ChoiceNotes t (add t sub k) := .optional (t.count_choiceNotes ..)
  have clamped : State.ChoiceNotes s1 s2 := by
    unfold s2
    split
    · exact added ..
    · rfl
  have rejected : State.ChoiceNotes s s4 := (((s.modWork_choiceNotes ..).trans clamped).trans (added s2 ..)).trans (added s3 ..)
  exact rejected.trans (.optional ((added s4 ..).trans (State.raiseOnce_choiceNotes ..)))

/-- R155: the expansions of the candidates that an engine serves: made for the first window, kept for the rest. -/
def State.expansionsOf (s : State) (w : FrameWork) (i : Item) (u : EngineUnit) : List Expansion := if u.windows = 0 then (s.itemIds w i).map (s.expandCandidate w) else u.exps

/-- R155: one more window of them is filled; the first puts the first eligible candidate in hand. -/
def State.windowFilled (s : State) (e : Nat) (w : FrameWork) (i : Item) (u : EngineUnit) : State :=
  let t := s.modUnit e (fun x => { x with windows := x.windows + 1, exps := s.expansionsOf w i u })
  if u.windows = 0 then t.takeInHand e (t.firstInvocation e i (s.expansionsOf w i u)) else t

section
variable {s : State} {e : Nat} {w : FrameWork} {i : Item} {u : EngineUnit}

/-- R301: the first window's invocation is the one in hand; no other processor's registers change. -/
theorem State.windowFilled_processors : let t := s.windowFilled e w i u
    (u.windows ≠ 0 → t.eng = s.eng) ∧ (u.windows = 0 → t.engUnit = e) ∧ ∀ n, n ≠ e → t.processor n = s.processor n := by
  unfold State.windowFilled
  dsimp only
  split
  case isTrue first => exact ⟨absurd first, fun _ => rfl, fun n other => State.processor_takeInHand_other _ other _⟩
  case isFalse later => exact ⟨fun _ => rfl, fun first => absurd first later, fun _ _ => rfl⟩

theorem State.windowFilled_rest : let t := s.windowFilled e w i u
    t.disp.items = s.disp.items ∧ t.world = s.world ∧ t.tb = s.tb ∧ t.ctl = s.ctl ∧ t.boot = s.boot := by
  unfold State.windowFilled
  dsimp only
  split <;> exact ⟨rfl, rfl, rfl, rfl, rfl⟩

variable (unit : s.disp.units[e]? = some u)
include unit

theorem State.fillWindow_choiceNotes (more : u.windows < s.windowCount) : State.ChoiceNotes (s.windowFilled e w i u) (s.fillWindow e w i) := by
  have held : (s.disp.units[e]?).getD EngineUnit.initial = u := by rw [unit, Option.getD_some]
  have expanded : (if (u.windows == 0) = true then (s.itemIds w i).map (s.expandCandidate w) else u.exps) = s.expansionsOf w i u := if_congr beq_iff_eq rfl rfl
  unfold State.fillWindow
  rw [held]
  dsimp only
  rw [if_neg (by omega), expanded]
  refine .trans ?_ (State.countExpansions_choiceNotes ..)
  unfold State.windowFilled
  by_cases first : u.windows = 0
  · simp only [first, beq_self_eq_true, if_true]
    exact State.count_choiceNotes ..
  · simp only [beq_eq_false_iff_ne.2 first, first, Bool.false_eq_true, if_false]

theorem State.windowFilled_units : (s.windowFilled e w i u).disp.units = s.disp.units.set e { u with windows := u.windows + 1, exps := s.expansionsOf w i u } := by
  unfold State.windowFilled
  split <;> exact modAt_of_getElem? unit _

/-- R151, R155: where the engine serves candidates and a window is to come, that window is filled, and the map, the items and the other processors stay. -/
theorem exec_expanderWindowFill_fills (serves : s.servingCandidates e = some i) (found : s.work? i.frame = some w) (more : u.windows < s.windowCount) :
    ∃ t, exec (.expanderWindowFill e) s = .next t ∧ t.disp.units = s.disp.units.set e { u with windows := u.windows + 1, exps := s.expansionsOf w i u } ∧
      (u.windows ≠ 0 → t.eng = s.eng) ∧ (u.windows = 0 → t.engUnit = e) ∧ (∀ n, n ≠ e → t.processor n = s.processor n) ∧ t.disp.items = s.disp.items ∧
      t.world = s.world ∧ t.tb = s.tb ∧ t.ctl = s.ctl ∧ t.boot = s.boot := by
  have run : exec (.expanderWindowFill e) s = .next (s.fillWindow e w i) := by
    show execExpanderWindowFill e s = _
    rw [execExpanderWindowFill, serves]
    dsimp only
    rw [found]
  have notes := State.fillWindow_choiceNotes unit (w := w) (i := i) more
  have units := State.windowFilled_units unit (w := w) (i := i)
  obtain ⟨later, first, others⟩ := State.windowFilled_processors (s := s) (e := e) (w := w) (i := i) (u := u)
  obtain ⟨items, world, tb, ctl, boot⟩ := State.windowFilled_rest (s := s) (e := e) (w := w) (i := i) (u := u)
  refine ⟨_, run, ?_⟩
  rw [notes]
  exact ⟨units, later, first, others, items, world, tb, ctl, boot⟩

end

end Sys2Proof.Machine
end

section
/-!
What a frame's work shows of its policy round, and what leaves that as it is (R146, R149, R213).
-/
namespace Sys2Proof.Machine
open Sys2Proof

set_option Elab.async false

/-- A frame's number, its policy round, and its block records. -/
def FrameWork.proposal (w : FrameWork) : Nat × Nat × PolicyRun × List BlockRec := (w.frame, w.policyBlocks, w.policy, w.blocks)

/-- No frame's policy round or block record changes. -/
def State.KeepsProposals (s t : State) : Prop := t.frames.map FrameWork.proposal = s.frames.map FrameWork.proposal

namespace State.KeepsProposals

theorem refl (s : State) : State.KeepsProposals s s := rfl

theorem trans {s t u : State} (a : State.KeepsProposals s t) (b : State.KeepsProposals t u) : State.KeepsProposals s u := Eq.trans b a

theorem of_frames {s t : State} (h : t.frames = s.frames) : State.KeepsProposals s t := congrArg (List.map FrameWork.proposal) h

theorem of_notes {s t : State} (h : State.Notes s t) : State.KeepsProposals s t := of_frames (by rw [h])

theorem ite {c : Prop} [Decidable c] {s t u : State} (a : State.KeepsProposals s t) (b : State.KeepsProposals s u) : State.KeepsProposals s (if c then t else u) := by
  split <;> assumption

theorem foldl {α : Type} {f : State → α → State} (h : ∀ s x, State.KeepsProposals s (f s x)) (xs : List α) (s : State) : State.KeepsProposals s (xs.foldl f s) :=
  State.foldl_rel refl trans f h xs s

/-- A frame's work found is found with its policy round and its block records. -/
theorem work? {s t : State} (h : State.KeepsProposals s t) {n : Nat} {w : FrameWork} (found : s.work? n = some w) : ∃ w', t.work? n = some w' ∧ w'.proposal = w.proposal := by
  have shown (u : State) : (u.work? n).map FrameWork.proposal = (u.frames.map FrameWork.proposal).find? (fun m => m.1 == n) := by
    rw [List.find?_map]
    rfl
  exact Option.map_eq_some_iff.1 (by rw [shown, h, ← shown, found, Option.map_some])

end State.KeepsProposals

/-- A change of a frame's rounds, or of its mask, is none of its policy round. -/
theorem State.modWork_proposals (s : State) (n : Nat) (f : FrameWork → FrameWork) (h : ∀ w, (f w).proposal = w.proposal := by exact fun _ => rfl) : State.KeepsProposals s (s.modWork n f) :=
  map_modFirst_of_eq _ f _ h _

theorem State.addBlock_proposals (s : State) (w : FrameWork) (firstId cls : Nat) (spec replay : Bool) : State.KeepsProposals s (s.addBlock w firstId cls spec replay) :=
  .of_frames (s.addItem_itemNotes _).frames

theorem State.issueBlock_proposals (s : State) (frame firstId : Nat) : State.KeepsProposals s (s.issueBlock frame firstId) := by
  unfold State.issueBlock
  split
  · exact .refl s
  · exact (s.modWork_proposals ..).trans (State.addBlock_proposals ..)

theorem State.replayBlock_proposals (s : State) (frame firstId : Nat) : State.KeepsProposals s (s.replayBlock frame firstId) := by
  unfold State.replayBlock
  split
  · exact .ite (.refl s) (.ite (.refl s) (.ite (.refl s) (s.addBlock_proposals ..)))
  · exact .refl s

theorem State.retireProposals_proposals (s : State) (frame : Nat) : State.KeepsProposals s (s.retireProposals frame) := by
  have retired (t : State) (b : Nat) (content : List Byte) : State.KeepsProposals t (t.recordStep frame 2 0 b content) := .of_frames rfl
  have ready (t : State) : State.KeepsProposals t (t.phaseReady frame 2 0) := .of_frames rfl
  unfold State.retireProposals
  split
  · exact .refl s
  · exact .ite (.refl s) (.trans (.ite (.refl s) (.foldl (fun t _ => retired t ..) _ _)) (ready _))

theorem State.completeRound0_proposals (s : State) (frame : Nat) : State.KeepsProposals s (s.completeRound0 frame) := by
  have retired := s.retireProposals_proposals frame
  unfold State.completeRound0
  dsimp only
  split
  · exact retired
  · exact retired.trans (.ite (State.modWork_proposals ..) (.refl _))

theorem State.advanceRounds_proposals (fuel frame : Nat) (s : State) : State.KeepsProposals s (State.advanceRounds fuel frame s) := by
  induction fuel generalizing s with
  | zero => exact .refl s
  | succ fuel ih =>
    unfold State.advanceRounds
    split
    · exact .refl s
    refine .ite (.refl s) ?_
    split
    · exact .refl s
    refine .ite (.refl s) ?_
    extract_lets snapped none? issued complete
    have taken : State.KeepsProposals s snapped := s.modWork_proposals ..
    have told : State.KeepsProposals snapped ((snapped.count 0x4400 8 1).raiseOpen frame 0x0406) :=
      (State.KeepsProposals.of_notes (snapped.count_frame ..)).trans (.of_notes (State.raiseOpen_frame ..))
    have given : State.KeepsProposals snapped issued := .ite told (.foldl (fun t i => t.issueBlock_proposals frame i) _ _)
    exact taken.trans (.ite ((given.trans (State.modWork_proposals ..)).trans (ih complete)) (.refl snapped))

theorem State.goRounds_proposals (s : State) (frame : Nat) : State.KeepsProposals s (s.goRounds frame) := State.advanceRounds_proposals 5 frame s

theorem State.disturb_proposals (s : State) (frame : Nat) : State.KeepsProposals s (s.disturb frame) := by
  have masked : State.KeepsProposals s (s.maskBit frame 15) := by
    unfold State.maskBit
    split
    · exact s.modWork_proposals ..
    · exact .of_frames rfl
  exact .ite (.refl s) (masked.trans (.of_notes (State.count_frame ..)))

end Sys2Proof.Machine
end

section
/-!
POLICY_RUN (R146, R147, R149).
-/
namespace Sys2Proof.Machine
open Sys2Proof

set_option Elab.async false

/-! The proposals of the bound model (R146) -/

theorem State.Works.cfg {s t : State} (h : State.Works s t) (idx sub : Nat) (k : NoCounter idx sub) : t.cfg idx sub = s.cfg idx sub := congrArg Value.toNum (h.dict.same idx sub k)

/-- R146: what the bound model proposes rests on its image, its measurement and the quadrants in service. -/
theorem State.Works.policySequence {s t : State} (h : State.Works s t) (scene : List Byte) : t.policySequence scene = s.policySequence scene := by
  have boot : t.boot = s.boot := by rw [h.frame]
  have clocks : t.clocks = s.clocks := by rw [h.frame]
  have model : t.boundModel = s.boundModel := by rw [State.boundModel, State.model, boot, h.cfg 0x4100 2 ⟨by decide, by decide⟩]; rfl
  have quadrants : t.quadrantsIn = s.quadrantsIn := by rw [State.quadrantsIn, boot, clocks]; rfl
  funext p
  rw [State.policySequence, model, quadrants, h.cfg 0x7200 2 ⟨by decide, by decide⟩]
  rfl

/-! Blocks emitted (R147) -/

/-- R147: a policy round with one block's sequences put in their place. -/
def PolicyRun.wrote (r : PolicyRun) (b : Nat) (seqs : List (List Control)) : PolicyRun :=
  { r with output := r.output.take (64 * b) ++ seqs ++ r.output.drop (64 * b + 64), emitted := b + 1 }

/-- The first n blocks of a round of some blocks are emitted: proposal p is the sequence of p. -/
structure PolicyRun.Emits (sequence : Nat → List Control) (blocks n : Nat) (r : PolicyRun) : Prop where
  started : r.started = true
  total : r.total = blocks
  emitted : 0 < n → r.emitted = n
  long : 64 * n ≤ r.output.length
  output : ∀ p, p < 64 * n → r.output[p]? = some (sequence p)

/-- R147: the next block's 64 sequences follow those of the blocks before it. -/
theorem PolicyRun.Emits.wrote {sequence : Nat → List Control} {blocks n : Nat} {r : PolicyRun} (h : r.Emits sequence blocks n) :
    (r.wrote n ((List.range 64).map (fun k => sequence (64 * n + k)))).Emits sequence blocks (n + 1) := by
  have before : (r.output.take (64 * n)).length = 64 * n := List.length_take_of_le h.long
  refine ⟨h.started, h.total, fun _ => rfl, ?_, fun p below => ?_⟩
  · simp only [PolicyRun.wrote, List.length_append, before, List.length_map, List.length_range]
    omega
  · rw [PolicyRun.wrote, List.append_assoc]
    dsimp only
    by_cases old : p < 64 * n
    · rw [List.getElem?_append_left (by omega), List.getElem?_take_of_lt old, h.output p old]
    · have place : p - 64 * n < 64 := by omega
      rw [List.getElem?_append_right (by omega), before, List.getElem?_append_left (by simpa using place), List.getElem?_map, List.getElem?_range place, Option.map_some]
      congr 2
      omega

/-- R147: what emitting policy block b puts in the frame's work. -/
def State.blockWritten (s : State) (frame : Nat) (scene : List Byte) (b : Nat) : State :=
  s.modWork frame (fun w => { w with policy := w.policy.wrote b ((List.range 64).map (fun k => s.policySequence scene (64 * b + k))) })

/-- R147: the block written, its item is requeued or issued, or waits. -/
theorem State.emitPolicyBlock_cases (s : State) (frame : Nat) (scene : List Byte) (b : Nat) : let t := s.blockWritten frame scene b
    s.emitPolicyBlock frame scene b = t ∨ ∃ first, s.emitPolicyBlock frame scene b = t.replayBlock frame first ∨ s.emitPolicyBlock frame scene b = t.issueBlock frame first := by
  unfold State.emitPolicyBlock
  extract_lets
  split
  · exact .inl rfl
  split
  · exact .inl rfl
  split
  · exact .inr ⟨_, .inl rfl⟩
  split
  · exact .inl rfl
  · exact .inr ⟨_, .inr rfl⟩

theorem State.emitPolicyBlock_keeps (s : State) (frame : Nat) (scene : List Byte) (b : Nat) : let t := s.blockWritten frame scene b
    State.Works t (s.emitPolicyBlock frame scene b) ∧ State.KeepsProposals t (s.emitPolicyBlock frame scene b) := by
  obtain same | ⟨first, again | new⟩ := s.emitPolicyBlock_cases frame scene b
  · rw [same]; exact ⟨.refl _, .refl _⟩
  · rw [again]; exact ⟨State.replayBlock_works .., State.replayBlock_proposals ..⟩
  · rw [new]; exact ⟨State.issueBlock_works .., State.issueBlock_proposals ..⟩

/-- From `s` on, the first n blocks of a frame's policy round are emitted. -/
structure State.Proposes (s : State) (frame blocks : Nat) (scene : List Byte) (n : Nat) (t : State) : Prop where
  works : State.Works s t
  emits : ∃ w, t.work? frame = some w ∧ w.policyBlocks = blocks ∧ w.policy.Emits (s.policySequence scene) blocks n

/-- What keeps the policy rounds keeps what is emitted. -/
theorem State.Proposes.keeps {s t u : State} {frame blocks n : Nat} {scene : List Byte} (h : s.Proposes frame blocks scene n t) (works : State.Works t u) (keeps : State.KeepsProposals t u) :
    s.Proposes frame blocks scene n u := by
  obtain ⟨w, found, size, emits⟩ := h.emits
  obtain ⟨w', found', same⟩ := keeps.work? found
  simp only [FrameWork.proposal, Prod.mk.injEq] at same
  obtain ⟨-, size', policy, -⟩ := same
  exact ⟨h.works.trans works, w', found', size'.trans size, policy ▸ emits⟩

theorem State.Proposes.next {s t : State} {frame blocks n : Nat} {scene : List Byte} (h : s.Proposes frame blocks scene n t) :
    s.Proposes frame blocks scene (n + 1) (t.emitPolicyBlock frame scene n) := by
  obtain ⟨w, found, size, emits⟩ := h.emits
  have written : s.Proposes frame blocks scene (n + 1) (t.blockWritten frame scene n) := by
    refine ⟨h.works.trans (t.modWork_works ..), _, State.work?_modWork _ found fun _ => rfl, size, ?_⟩
    rw [h.works.policySequence]
    exact emits.wrote
  obtain ⟨works, keeps⟩ := t.emitPolicyBlock_keeps frame scene n
  exact written.keeps works keeps

theorem State.Proposes.emitted {s t : State} {frame blocks : Nat} {scene : List Byte} (h : s.Proposes frame blocks scene 0 t) (n : Nat) :
    s.Proposes frame blocks scene n ((List.range n).foldl (fun u b => u.emitPolicyBlock frame scene b) t) := by
  induction n with
  | zero => exact h
  | succ n ih =>
    rw [List.range_succ, List.foldl_append]
    exact ih.next

/-! A round that fails (R149) -/

/-- R87: once the blocks of a test are withdrawn, no block of it in the table stands. -/
theorem State.withdrawBlocks_none (s : State) {frame : Nat} {w : FrameWork} (found : s.work? frame = some w) (source : Nat → Bool) :
    ∃ w', (s.withdrawBlocks frame (fun r => source r.firstId)).work? frame = some w' ∧ ∀ r ∈ w'.blocks, source r.firstId = true → r.beta < 4112 → r.withdrawn = true := by
  have out_of (r : BlockRec) (meets : source r.firstId = true) (slot : r.beta < 4112) (stands : ¬r.withdrawn = true) : r.out (fun r => source r.firstId) = true := by
    simp [BlockRec.out, meets, slot, stands]
  rw [s.withdrawBlocks_eq found]
  split
  case isTrue none =>
    refine ⟨w, found, fun r there meets slot => by_contra fun stands => ?_⟩
    have hit := List.mem_filter.2 ⟨there, out_of r meets slot stands⟩
    rw [List.isEmpty_iff.1 none] at hit
    exact List.not_mem_nil hit
  case isFalse =>
    have cancelled := ((s.cancelItems_itemNotes (fun i => i.kind == .candidateSingle && i.frame == frame && w.withdraws (fun r => source r.firstId) i.arg)).work? frame).trans found
    have marked : (s.blocksWithdrawn frame w (fun r => source r.firstId)).work? frame = some (w.withdrawn w (fun r => source r.firstId)) :=
      State.work?_modWork _ (f := fun x => w.withdrawn x _) cancelled fun _ => rfl
    have counted (t : State) (a b : Nat) : State.ItemNotes t ((t.count 0x6002 8 a).count 0x6002 9 b) := .trans (.of_notes (t.count_frame ..)) (.of_notes (State.count_frame ..))
    refine ⟨_, ((counted ..).work? frame).trans marked, fun r there meets slot => ?_⟩
    obtain ⟨r, -, rfl⟩ := List.mem_map.1 there
    split
    · rfl
    next kept =>
      rw [if_neg kept] at meets slot
      exact by_contra fun stands => kept (by rw [out_of r meets slot stands, Bool.true_or])

/-- R149: a failed policy is marked and reported, and no block of it stands. -/
theorem State.policyFailed_fails (s : State) {frame : Nat} {w : FrameWork} (found : s.work? frame = some w) :
    ∃ w', (s.policyFailed frame).work? frame = some w' ∧ w'.policy.failed = true ∧ Raised s (s.policyFailed frame) 0x0404 ∧
      ∀ r ∈ w'.blocks, cidSource r.firstId = 0 → r.beta < 4112 → r.withdrawn = true := by
  unfold State.policyFailed
  extract_lets cancelled withdrawn marked
  obtain ⟨w1, found1, none⟩ := State.withdrawBlocks_none cancelled (((s.cancelItems_itemNotes _).work? frame).trans found) (fun c => cidSource c == 0)
  have found2 : marked.work? frame = some { w1 with policy := { w1.policy with failed := true } } := State.work?_modWork _ found1 fun _ => rfl
  have works : State.Works s marked := ((s.cancelItems_works _).trans (State.withdrawBlocks_works ..)).trans (State.modWork_works ..)
  have told : State.Notes marked ((marked.count 0x4400 2 1).raiseOpen frame 0x0404) := .trans (marked.count_frame ..) (State.raiseOpen_frame ..)
  have raised : Raised s ((marked.count 0x4400 2 1).raiseOpen frame 0x0404) 0x0404 :=
    State.raised_of_prefix (State.raised_raiseOpen ..) (works.trans (marked.count_works ..)).events List.prefix_rfl
  generalize (marked.count 0x4400 2 1).raiseOpen frame 0x0404 = t at told raised
  have keeps : State.KeepsProposals marked (((t.disturb frame).completeRound0 frame).goRounds frame) :=
    (((State.KeepsProposals.of_notes told).trans (State.disturb_proposals ..)).trans (State.completeRound0_proposals ..)).trans (State.goRounds_proposals ..)
  have goes : State.Works t (((t.disturb frame).completeRound0 frame).goRounds frame) := ((t.disturb_works ..).trans (State.completeRound0_works ..)).trans (State.goRounds_works ..)
  obtain ⟨w', found', same⟩ := keeps.work? found2
  simp only [FrameWork.proposal, Prod.mk.injEq] at same
  obtain ⟨-, -, policy, blocks⟩ := same
  refine ⟨w', found', by rw [policy], State.raised_of_prefix raised List.prefix_rfl goes.events, fun r there source => ?_⟩
  rw [blocks] at there
  exact none r there (beq_iff_eq.2 source)

/-! The command -/

/-- R146: the scene tensor that a policy item's round reads. -/
def State.policyScene (s : State) (i : Item) : List Byte := match (if i.spec then s.world.specScene.orElse (fun _ => s.world.scene) else s.world.scene) with | some x => x.bytes | none => []

/-- R141: the conversions of a NaN to 0 in that round. -/
def State.policyConversions (s : State) (i : Item) : Nat :=
  (match (if i.spec then s.world.specScene.orElse (fun _ => s.world.scene) else s.world.scene) with | some x => x.numeric | none => 0) + (s.commitItem i.serial).policyEvents (s.policyScene i)

/-- R147: the round begun, its length and its steps set. -/
def State.policyStarted (s : State) (w : FrameWork) (events : Nat) : State :=
  (s.modWork w.frame (fun x => { x with policy := { x.policy with started := true, total := x.policyBlocks, steps := s.cfg 0x4001 1, numericEvents := events } })).count 0x4400 1 1

/-- R147: a round emits its blocks, or those before its failure. -/
def State.policyEmitted (s : State) (w : FrameWork) (scene : List Byte) (events : Nat) (failAfter : Option Nat) : State :=
  (List.range (min w.policyBlocks (failAfter.getD w.policyBlocks))).foldl (fun u b => u.emitPolicyBlock w.frame scene b) (s.policyStarted w events)

section
variable {s : State} {i : Item} {w : FrameWork} (found : s.work? i.frame = some w) (serves : s.atUnit 20 .policyRun (fun _ => true) = some i) (keeps : i.dropped = false)
include found serves keeps

theorem exec_policyRun (failAfter : Option Nat) : let t := (s.commitItem i.serial).policyEmitted w (s.policyScene i) (s.policyConversions i) failAfter
    exec (.policyRun failAfter) s = .next (match failAfter with | some _ => t.policyFailed w.frame | none => (t.completeRound0 w.frame).goRounds w.frame) := by
  have found' : (s.commitItem i.serial).work? i.frame = some w := found
  show execPolicyRun failAfter s = _
  unfold execPolicyRun
  rw [serves]
  dsimp only
  rw [found']
  dsimp only
  rw [keeps, if_neg Bool.false_ne_true]
  rfl

omit serves keeps in
/-- R147: the blocks of the round up to its end or its failure are emitted. -/
theorem State.policyEmitted_proposes (events : Nat) (failAfter : Option Nat) : s.Proposes w.frame w.policyBlocks (s.policyScene i) (min w.policyBlocks (failAfter.getD w.policyBlocks))
    ((s.commitItem i.serial).policyEmitted w (s.policyScene i) events failAfter) := by
  have found' : (s.commitItem i.serial).work? w.frame = some w := (State.frame_of_work? found).symm ▸ found
  have begun := State.work?_modWork (f := fun x => { x with policy := { x.policy with started := true, total := x.policyBlocks, steps := (s.commitItem i.serial).cfg 0x4001 1, numericEvents := events } })
    _ found' fun _ => rfl
  have works : State.Works s ((s.commitItem i.serial).policyStarted w events) := ((s.commitItem_works ..).trans (State.modWork_works ..)).trans (State.count_works ..)
  have counted : State.KeepsProposals _ ((s.commitItem i.serial).policyStarted w events) := .of_notes (State.count_frame ..)
  obtain ⟨w', there, same⟩ := counted.work? begun
  simp only [FrameWork.proposal, Prod.mk.injEq] at same
  obtain ⟨-, size, policy, -⟩ := same
  refine State.Proposes.emitted ⟨works, w', there, size, ?_⟩ _
  rw [policy]
  exact ⟨rfl, rfl, nofun, by omega, fun p h => absurd h (by omega)⟩

/-- R146, R147: a round that no fault ends emits every block of the frame, each proposal with the sequence that the bound model gives it. -/
theorem exec_policyRun_emits : ∃ t w', exec (.policyRun none) s = .next t ∧ t.work? i.frame = some w' ∧ w'.policy.started = true ∧ w'.policy.total = w.policyBlocks ∧
    (0 < w.policyBlocks → w'.policy.emitted = w.policyBlocks) ∧ (∀ p, p < 64 * w.policyBlocks → w'.policy.output[p]? = some (s.policySequence (s.policyScene i) p)) ∧
    t.tb = s.tb ∧ t.ctl = s.ctl ∧ t.eng = s.eng ∧ t.world = s.world ∧ t.boot = s.boot := by
  have run := exec_policyRun found serves keeps none
  have proposes := State.policyEmitted_proposes found (s.policyConversions i) none
  rw [Option.getD_none, Nat.min_self] at proposes
  dsimp only at run
  generalize (s.commitItem i.serial).policyEmitted w (s.policyScene i) (s.policyConversions i) none = u at run proposes
  have complete := proposes.keeps (u.completeRound0_works w.frame) (u.completeRound0_proposals w.frame)
  obtain ⟨works, w', found', -, emits⟩ := complete.keeps (State.goRounds_works _ w.frame) (State.goRounds_proposals _ w.frame)
  refine ⟨_, w', run, State.frame_of_work? found ▸ found', emits.started, emits.total, emits.emitted, emits.output, ?_⟩
  rw [works.frame]
  exact ⟨rfl, rfl, rfl, rfl, rfl⟩

/-- R149: a round that a fault ends, after any number of blocks, marks the policy failed, reports it, and leaves none of its blocks standing. -/
theorem exec_policyRun_fails (n : Nat) : ∃ t w', exec (.policyRun (some n)) s = .next t ∧ t.work? i.frame = some w' ∧ w'.policy.failed = true ∧ Raised s t 0x0404 ∧
    ∀ r ∈ w'.blocks, cidSource r.firstId = 0 → r.beta < 4112 → r.withdrawn = true := by
  have run := exec_policyRun found serves keeps (some n)
  have proposes := State.policyEmitted_proposes found (s.policyConversions i) (some n)
  dsimp only at run
  generalize (s.commitItem i.serial).policyEmitted w (s.policyScene i) (s.policyConversions i) (some n) = u at run proposes
  obtain ⟨works, w1, found1, -⟩ := proposes
  obtain ⟨w', found', failed, raised, none⟩ := u.policyFailed_fails found1
  exact ⟨_, w', run, State.frame_of_work? found ▸ found', failed, State.raised_of_prefix raised works.events List.prefix_rfl, none⟩

end

end Sys2Proof.Machine
end

section
/-!
Proposals (R146 to R155).
-/
namespace Sys2Proof.Machine
open Sys2Proof

/-- Settles O31, by an induction on the blocks that a policy round emits, by what a failed round leaves of its blocks, and by the state whose next window is filled, from which counting
the expansions differs in the counters, the events and the frames' work alone. -/
theorem policyAndExpanderProposeCandidates : Obligations.PolicyAndExpanderProposeCandidates := by
  unfold Obligations.PolicyAndExpanderProposeCandidates
  intro s i w found
  exact ⟨fun serves keeps => ⟨exec_policyRun_emits found serves keeps, exec_policyRun_fails found serves keeps⟩,
    fun e u serves unit more => exec_expanderWindowFill_fills unit serves found more⟩

end Sys2Proof.Machine
end

section
/-!
Host commands (R264, R410): what serves one, and its commit write.
-/
namespace Sys2Proof.Machine
open Sys2Proof

set_option Elab.async false

/-- A host command in service is an item that waits for its commit write, and names its journal record. -/
theorem State.hostCmd_serves {s : State} {run : HostRun} {opcode : Nat} {c : HostCmd} (h : s.hostCmd run opcode = some c) :
    c.item ∈ s.disp.items ∧ c.item.arg = run.record ∧ ∃ j, s.record? run.record = some j := by
  unfold State.hostCmd at h
  extract_lets inService at h
  split at h
  case h_2 => exact nomatch h
  case h_1 i j found known =>
    have there := List.mem_of_find?_eq_some found
    have names := List.find?_some found
    simp only [Bool.and_eq_true, beq_iff_eq] at names
    obtain ⟨⟨⟨-, arg⟩, -⟩, -⟩ := names
    split at h
    case h_2 => exact nomatch h
    case h_1 d _ =>
      obtain ⟨-, same⟩ := Option.ite_none_right_eq_some.1 h
      obtain rfl := Option.some.inj same
      exact ⟨there, arg, j, known⟩

/-! The commit write -/

/-- R264: an item's commit write stands among the items. -/
theorem State.commitItem_committed {s : State} {i : Item} (h : i ∈ s.disp.items) : ∃ j ∈ (s.commitItem i.serial).disp.items, j.serial = i.serial ∧ j.committed = true := by
  obtain ⟨x, found⟩ := Option.isSome_iff_exists.1 (List.find?_isSome (p := fun x : Item => x.serial == i.serial).2 ⟨i, h, beq_self_eq_true _⟩)
  have serial : x.serial = i.serial := eq_of_beq (List.find?_some (p := fun x : Item => x.serial == i.serial) found)
  have first := (find?_modFirst (fun x : Item => x.serial == i.serial) (fun x => { x with committed := true }) (fun _ same => same) s.disp.items).trans (congrArg _ found)
  exact ⟨_, List.mem_of_find?_eq_some first, serial, rfl⟩

/-- R410: a record takes its outcome. -/
theorem State.record?_setOutcome {s : State} {id : Nat} {j : JRec} (h : s.record? id = some j) (status length : Nat) :
    (s.setOutcome id status length).record? id = some { j with outcome := some (status, length) } :=
  (find?_modFirst (fun k : JRec => k.id == id) (fun k => { k with outcome := some (status, length) }) (fun _ same => same) s.host.journal).trans (congrArg _ h)

/-- R410: a failed read of host memory is counted. -/
def State.readFailed (s : State) (status : Nat) : State := if status == 0x0206 then s.count 0x8402 9 1 else s

theorem State.readFailed_notes (s : State) (status : Nat) : State.Notes s (s.readFailed status) := by
  unfold State.readFailed
  split
  · exact s.count_frame ..
  · rfl

theorem State.readFailed_journal (s : State) (status : Nat) : State.KeepsJournal s (s.readFailed status) := .ite (s.count_journal ..) rfl

theorem State.endHost_eq (s : State) (c : HostCmd) (status length : Nat) : s.endHost c status length = ((s.readFailed status).setOutcome c.item.arg status length).commitItem c.item.serial := rfl

/-- R264, R410: the commit write of the command in service, of a state with its journal and its items. -/
theorem State.endHost_done {s t : State} {run : HostRun} {opcode : Nat} {c : HostCmd} (h : s.hostCmd run opcode = some c) (journal : t.host.journal = s.host.journal)
    (items : t.disp.items = s.disp.items) (status length : Nat) : HostDone (t.endHost c status length) run.record c status length := by
  obtain ⟨there, arg, j, known⟩ := State.hostCmd_serves h
  have kept : (t.readFailed status).host.journal = s.host.journal := (congrArg Prod.fst (t.readFailed_journal status)).trans journal
  have held : (t.readFailed status).disp.items = s.disp.items := by
    rw [t.readFailed_notes status]
    exact items
  have known' : (t.readFailed status).record? run.record = some j := by
    rw [State.record?, kept]
    exact known
  rw [State.endHost_eq, arg]
  exact ⟨⟨_, State.record?_setOutcome known' status length, rfl⟩, State.commitItem_committed (held ▸ there)⟩

/-- R410: a commit write is none of the staged set, of the sessions, of the timebase, of the registers or of the flash. -/
theorem State.endHost_keeps (s : State) (c : HostCmd) (status length : Nat) : let t := s.endHost c status length
    t.ctl = s.ctl ∧ t.odp = s.odp ∧ t.tb = s.tb ∧ t.eng = s.eng ∧ t.boot = s.boot := by
  have notes := s.readFailed_notes status
  rw [State.endHost_eq]
  generalize s.readFailed status = u at notes
  rw [notes]
  exact ⟨rfl, rfl, rfl, rfl, rfl⟩

/-- R410: a status other than that of a failed read moves no counter. -/
theorem State.endHost_quiet (s : State) (c : HostCmd) {status : Nat} (h : status ≠ 0x0206) (length : Nat) : s.endHost c status length =
    { s with host := { s.host with journal := (s.endHost c status length).host.journal }, group := (s.endHost c status length).group,
             disp := { s.disp with items := (s.endHost c status length).disp.items } } := by
  rw [State.endHost_eq, State.readFailed, if_neg (by simpa using h)]
  rfl

theorem State.endHost_passes (s : State) (c : HostCmd) (status length : Nat) : State.Passes True s (s.endHost c status length) := by
  have counted : State.Passes True s (s.readFailed status) := ((State.Passes.refl s).count ..).ite (.refl s)
  exact counted.keep

end Sys2Proof.Machine
end

section
/-!
NOP and DICTIONARY (R401, R410).
-/
namespace Sys2Proof.Machine
open Sys2Proof

set_option Elab.async false

theorem exec_nop {s : State} {record : Nat} {c : HostCmd} (h : s.hostCmd ⟨record, true, [], true⟩ 0 = some c) : exec (.nop record) s = .next (s.endHost c 0 0) := by
  show execNop record s = _
  rw [execNop, h]

theorem exec_nop_completes {s : State} {record : Nat} {c : HostCmd} (h : s.hostCmd ⟨record, true, [], true⟩ 0 = some c) :
    ∃ u, exec (.nop record) s = .next u ∧ HostDone u record c 0 0 ∧ u = { s with host := u.host, group := u.group, disp := { s.disp with items := u.disp.items } } := by
  refine ⟨_, exec_nop h, State.endHost_done h rfl rfl 0 0, ?_⟩
  have quiet := s.endHost_quiet c (status := 0) (by decide) 0
  generalize s.endHost c 0 0 = u at quiet
  rw [quiet]

/-! Results (R410) -/

section
variable {s : State} {c : HostCmd} {wrote : Bool} {address : Nat} {b : List Byte}

/-- R410: a result that can be written is, to host memory or to host buffer space. -/
theorem State.writeResult_written {status : Nat} (quiet : status ≠ 0x0206) (room : if c.desc.devicePayload = true then address + b.length ≤ hostBufferSize else wrote = true)
    (whole : memWf s.host.buffer = true) : let u := s.writeResult c wrote address b status
    ResultWritten s u c address b ∧ u.ctl = s.ctl ∧ u.odp = s.odp ∧ u.dict = s.dict := by
  cases device : c.desc.devicePayload with
  | false =>
    rw [device, if_neg Bool.false_ne_true] at room
    have run : s.writeResult c wrote address b status = (s.send (.hostWrite address b)).endHost c status b.length := by
      rw [State.writeResult, device, room]
      rfl
    have ended := (s.send (.hostWrite address b)).endHost_quiet c quiet b.length
    rw [run, ended]
    refine ⟨⟨fun _ => ?_, fun no => absurd (device.symm.trans no) (by decide)⟩, rfl, rfl, rfl⟩
    show _ ∈ (s.wire ++ [WireMsg.hostWrite address b]).drop s.wire.length
    rw [List.drop_left]
    exact List.mem_singleton_self _
  | true =>
    rw [device, if_pos rfl] at room
    have run : s.writeResult c wrote address b status = (s.hostWrote address b).endHost c status b.length := by
      rw [State.writeResult, device]
      exact if_pos room
    have ended := (s.hostWrote address b).endHost_quiet c quiet b.length
    rw [run, ended]
    exact ⟨⟨fun no => absurd (device.symm.trans no) (by decide), fun _ => memReadBytes_memWriteBytes b address whole⟩, rfl, rfl, rfl⟩

/-- R410: a result that cannot be written completes with 0x0207. -/
theorem State.writeResult_fails (fails : if c.desc.devicePayload = true then hostBufferSize < address + b.length else wrote = false) (status : Nat) :
    s.writeResult c wrote address b status = s.endHost c 0x0207 0 := by
  unfold State.writeResult
  cases device : c.desc.devicePayload with
  | false =>
    rw [device, if_neg Bool.false_ne_true] at fails
    rw [fails]
    rfl
  | true =>
    rw [device, if_pos rfl] at fails
    exact if_neg (Nat.not_le.2 fails)

end

/-! DICTIONARY -/

/-- R410: the request of a DICTIONARY is processed as over any other transport, on its client's submit ring. -/
def State.dictionaryAsks (s : State) (c : HostCmd) : Option (List Byte) × State :=
  let request := odpParse (.ring (4 * c.desc.client)) c.payload
  s.odpProcess (.ring (4 * c.desc.client)) request.1 request.2.1 request.2.2

section
variable {s : State} {t : Nat} {run : HostRun} {c : HostCmd} (serves : s.hostCmd run 2 = some c)
include serves

theorem exec_dictionary : exec (.dictionary t run) s = .next ((s.at t).withPayload c (fun u =>
    match u.dictionaryAsks c with
    | (some b, v) => v.writeResult c run.wrote (fieldAt c.desc.specific 0 8) b 0
    | (none, v) => v.endHost c 0x0210 0)) := by
  have serves' : (s.at t).hostCmd run 2 = some c := serves
  show execDictionary t run s = _
  rw [execDictionary]
  dsimp only
  rw [serves']
  rfl

/-- R410: a payload that cannot be read completes with 0x0206. -/
theorem exec_dictionary_unread (unread : c.payloadOk = false) : ∃ u, exec (.dictionary t run) s = .next u ∧ HostDone u run.record c 0x0206 0 ∧ u.ctl = s.ctl ∧ u.odp = s.odp := by
  have ends : exec (.dictionary t run) s = .next ((s.at t).endHost c 0x0206 0) := by
    rw [exec_dictionary serves, State.withPayload, unread, if_neg Bool.false_ne_true]
  obtain ⟨ctl, odp, -⟩ := (s.at t).endHost_keeps c 0x0206 0
  exact ⟨_, ends, State.endHost_done (t := s.at t) serves rfl rfl 0x0206 0, ctl, odp⟩

section
variable {s2 : State} (read : c.payloadOk = true)
include read

/-- R410: the request's answer is the result. -/
theorem exec_dictionary_answers {b : List Byte} (asked : (s.at t).dictionaryAsks c = (some b, s2)) :
    exec (.dictionary t run) s = .next (s2.writeResult c run.wrote (fieldAt c.desc.specific 0 8) b 0) := by
  rw [exec_dictionary serves, State.withPayload, if_pos read, asked]

/-- R410: a message that is dropped completes with 0x0210. -/
theorem exec_dictionary_drops (asked : (s.at t).dictionaryAsks c = (none, s2)) : exec (.dictionary t run) s = .next (s2.endHost c 0x0210 0) := by
  rw [exec_dictionary serves, State.withPayload, if_pos read, asked]

end

end

end Sys2Proof.Machine
end

section
/-!
LOAD_MODEL (R145).
-/
namespace Sys2Proof.Machine
open Sys2Proof

set_option Elab.async false

theorem State.signalStatus_journal (s : State) : State.KeepsJournal s s.signalStatus := .ite rfl (.ite rfl rfl)

/-- R145: the bytes that the other slots hold of the model store. -/
def State.modelsHeld (s : State) (slot : Nat) : Nat := natSum (s.boot.models.zipIdx.map (fun x => if x.2 == slot then 0 else x.1.image.length))

/-- R145: what a checked image leaves in its slot. -/
def State.modelTaken (s : State) (b : List Byte) (known : Bool) : ModelSlot :=
  if s.modelStatus b known == 0 then ⟨.valid, b, sm3 (b.take (b.length - 64))⟩ else ⟨.invalid, [], []⟩

/-- R145: the slot checked and filled, and shown. -/
def State.modelLoaded (s : State) (slot : Nat) (b : List Byte) (known : Bool) : State := (s.setModel slot (s.modelTaken b known)).signalStatus

/-- R145: loading changes a slot, and is none of the journal and the items. -/
theorem State.modelLoaded_slot (s : State) (slot : Nat) (b : List Byte) (known : Bool) : let t := s.modelLoaded slot b known
    t.host.journal = s.host.journal ∧ t.disp.items = s.disp.items ∧ t.boot = { s.boot with models := s.boot.models.set slot (s.modelTaken b known) } := by
  have journal : (s.modelLoaded slot b known).host.journal = s.host.journal := congrArg Prod.fst (State.signalStatus_journal _)
  have shown := (s.setModel slot (s.modelTaken b known)).signalStatus_frame
  refine ⟨journal, ?_⟩
  rw [State.modelLoaded, shown]
  exact ⟨rfl, rfl⟩

/-- The model slot that a LOAD_MODEL names. -/
def HostCmd.slot (c : HostCmd) : Nat := fieldAt c.desc.specific 0 1

section
variable {s : State} {run : HostRun} {known : Bool} {c : HostCmd} (serves : s.hostCmd run 3 = some c)
include serves

theorem exec_loadModel : exec (.loadModel run known) s = .next (
    if s.modelBound c.slot then s.endHost c 0x0403 0
    else if s.cfg 0x8100 1 < s.modelsHeld c.slot + c.desc.payloadLength then s.endHost c 0x080D 0
    else s.withPayload c (fun u => (u.modelLoaded c.slot c.payload known).endHost c (u.modelStatus c.payload known) 0)) := by
  show execLoadModel run known s = _
  rw [execLoadModel, serves]
  rfl

/-- R145: a bound slot keeps its image. -/
theorem exec_loadModel_bound (bound : s.modelBound c.slot = true) : ∃ u, exec (.loadModel run known) s = .next u ∧ HostDone u run.record c 0x0403 0 ∧ u.boot = s.boot := by
  have ends : exec (.loadModel run known) s = .next (s.endHost c 0x0403 0) := by
    rw [exec_loadModel serves, if_pos bound]
  obtain ⟨-, -, -, -, boot⟩ := s.endHost_keeps c 0x0403 0
  exact ⟨_, ends, State.endHost_done serves rfl rfl 0x0403 0, boot⟩

section
variable (unbound : s.modelBound c.slot = false)
include unbound

/-- R145: an image beyond the model store changes no slot. -/
theorem exec_loadModel_over (exceeds : s.cfg 0x8100 1 < s.modelsHeld c.slot + c.desc.payloadLength) :
    ∃ u, exec (.loadModel run known) s = .next u ∧ HostDone u run.record c 0x080D 0 ∧ u.boot = s.boot := by
  have ends : exec (.loadModel run known) s = .next (s.endHost c 0x080D 0) := by
    rw [exec_loadModel serves, unbound, if_neg Bool.false_ne_true, if_pos exceeds]
  obtain ⟨-, -, -, -, boot⟩ := s.endHost_keeps c 0x080D 0
  exact ⟨_, ends, State.endHost_done serves rfl rfl 0x080D 0, boot⟩

/-- R145: an image that fits is checked, and its slot holds it or is INVALID. -/
theorem exec_loadModel_loads (fits : s.modelsHeld c.slot + c.desc.payloadLength ≤ s.cfg 0x8100 1) (read : c.payloadOk = true) :
    ∃ u, exec (.loadModel run known) s = .next u ∧ HostDone u run.record c (s.modelStatus c.payload known) 0 ∧
      u.boot = { s.boot with models := s.boot.models.set c.slot (s.modelTaken c.payload known) } := by
  have ends : exec (.loadModel run known) s = .next ((s.modelLoaded c.slot c.payload known).endHost c (s.modelStatus c.payload known) 0) := by
    rw [exec_loadModel serves, unbound, if_neg Bool.false_ne_true, if_neg (Nat.not_lt.2 fits), State.withPayload, if_pos read]
  obtain ⟨journal, items, boot⟩ := s.modelLoaded_slot c.slot c.payload known
  obtain ⟨-, -, -, -, kept⟩ := (s.modelLoaded c.slot c.payload known).endHost_keeps c (s.modelStatus c.payload known) 0
  exact ⟨_, ends, State.endHost_done serves journal items _ 0, kept.trans boot⟩

end

end

/-- R145: an image that passes its checks stands VALID in its slot, and of one that fails them the slot holds nothing. -/
theorem State.modelTaken_holds (s : State) (b : List Byte) (known : Bool) : (s.modelStatus b known = 0 → (s.modelTaken b known).st = .valid ∧ (s.modelTaken b known).image = b) ∧
    (s.modelStatus b known ≠ 0 → (s.modelTaken b known).st = .invalid ∧ (s.modelTaken b known).image = []) := by
  unfold State.modelTaken
  refine ⟨fun passes => ?_, fun fails => ?_⟩
  · rw [if_pos (by simpa using passes)]
    exact ⟨rfl, rfl⟩
  · rw [if_neg (by simpa using fails)]
    exact ⟨rfl, rfl⟩

end Sys2Proof.Machine
end

section
/-!
LOAD_PROGRAM (R410).
-/
namespace Sys2Proof.Machine
open Sys2Proof

set_option Elab.async false

/-- Only the dictionary, the staging of its set and the flash may differ. -/
abbrev State.StageNotes (s t : State) : Prop := t = { s with dict := t.dict, ctl := t.ctl, boot := t.boot }

theorem State.StageNotes.trans {s t u : State} (a : State.StageNotes s t) (b : State.StageNotes t u) : State.StageNotes s u := by
  unfold State.StageNotes at *
  rw [a] at b
  exact b

/-- What staging a value under a key for a session leaves: status 0 with the value staged, or a refusal with nothing staged. -/
structure State.Stages (s : State) (key session : Nat) (v : Value) (r : Nat × State) : Prop where
  notes : State.StageNotes s r.2
  staged : r.1 = 0 → alGet key r.2.dict.shadow = some v ∧ r.2.ctl.st = .staging ∧ r.2.ctl.owner = session
  refused : r.1 ≠ 0 → r.2.dict.shadow = s.dict.shadow

/-- A refusal that changes nothing staged. -/
theorem State.Stages.refuse {s t : State} {key session code : Nat} {v : Value} (h : code ≠ 0) (notes : State.StageNotes s t) (shadow : t.dict.shadow = s.dict.shadow) :
    s.Stages key session v (code, t) := ⟨notes, fun zero => absurd zero h, fun _ => shadow⟩

/-- What changes nothing staged may come before. -/
theorem State.Stages.after {s t : State} {key session : Nat} {v : Value} {r : Nat × State} (notes : State.StageNotes s t) (shadow : t.dict.shadow = s.dict.shadow)
    (h : t.Stages key session v r) : s.Stages key session v r :=
  ⟨notes.trans h.notes, h.staged, fun fails => (h.refused fails).trans shadow⟩

/-- R507: the log of the flash is of no matter to what is staged. -/
theorem State.Stages.logged {s t : State} {key session code : Nat} {v : Value} (h : s.Stages key session v (code, t)) (k : Nat) (b : List Byte) :
    s.Stages key session v (code, t.logStagedDom k b) := by
  have logged : State.StageNotes t (t.logStagedDom k b) := rfl
  exact ⟨State.StageNotes.trans h.notes logged, h.staged, h.refused⟩

theorem State.stageValue_stages (s : State) (x : Session) (idx sub : Nat) (v : Value) : s.Stages (objKey idx sub) x.id v (s.stageValue x idx sub v) := by
  unfold State.stageValue
  extract_lets key rev
  split
  · exact .refuse (by decide) rfl rfl
  · exact ⟨rfl, fun _ => ⟨alGet_alSet_same .., rfl, rfl⟩, fun no => absurd rfl no⟩

/-- R42, R507: a whole value is verified, then staged and logged, or refused. -/
theorem State.stageDom_stages (s : State) (x : Session) (r : ObjRef) (b : List Byte) : s.Stages (objKey r.idx r.sub) x.id (.blob b) (s.stageDom x r b) := by
  obtain ⟨active, frame⟩ := s.verifyDom_frame r.idx r.sub b
  unfold State.stageDom
  generalize s.verifyDom r.idx r.sub b = verdict at frame
  obtain ⟨code, v⟩ := verdict
  have notes : State.StageNotes s v := by
    rw [show v = _ from frame]
  have shadow : v.dict.shadow = s.dict.shadow := congrArg (·.dict.shadow) frame
  dsimp only
  split
  case isTrue fails => exact .refuse (bne_iff_ne.1 fails) notes shadow
  case isFalse =>
    have staged := v.stageValue_stages x r.idx r.sub (.blob b)
    generalize v.stageValue x r.idx r.sub (.blob b) = outcome at staged
    obtain ⟨code, u⟩ := outcome
    dsimp only
    split
    · exact .after notes shadow (staged.logged ..)
    · exact .after notes shadow staged

/-- R52: claiming an ownerless staged set stages nothing. -/
theorem State.gate_stageNotes {s t : State} {x : Session} (h : s.gate x = .ok t) : State.StageNotes s t ∧ t.dict.shadow = s.dict.shadow := by
  unfold State.gate at h
  split at h
  · exact nomatch h
  split at h
  · exact nomatch h
  obtain rfl := Except.ok.inj h
  split <;> exact ⟨rfl, rfl⟩

theorem State.gate_refuses {s : State} {x : Session} {code : Nat} (h : s.gate x = .error code) : code ≠ 0 := by
  unfold State.gate at h
  split at h
  · obtain rfl := Except.error.inj h
    decide
  split at h
  · obtain rfl := Except.error.inj h
    decide
  · exact nomatch h

/-- R410: a program image is staged for the session that it names, or refused. -/
theorem State.loadProgram_stages (s : State) (session idx : Nat) (b : List Byte) : s.Stages (objKey idx 1) session (.blob b) (s.loadProgram session idx b) := by
  unfold State.loadProgram
  split
  case h_2 => exact .refuse (by decide) rfl rfl
  case h_1 x row known _ =>
    split
    · exact .refuse (by decide) rfl rfl
    split
    case h_1 code refused => exact .refuse (State.gate_refuses refused) rfl rfl
    case h_2 t claimed =>
      obtain ⟨notes, shadow⟩ := State.gate_stageNotes claimed
      split
      · exact .refuse (by decide) notes shadow
      · exact .after notes shadow (State.session?_id known ▸ t.stageDom_stages x ⟨idx, 1, 10⟩ b)

/-- R410: LOAD_PROGRAM completes with the outcome of its staging. -/
theorem exec_loadProgram_completes {s : State} {t : Nat} {run : HostRun} {c : HostCmd} (serves : s.hostCmd run 4 = some c) (read : c.payloadOk = true) :
    let r := (s.at t).loadProgram (fieldAt c.desc.specific 4 4) (fieldAt c.desc.specific 0 2) c.payload
    ∃ u, exec (.loadProgram t run) s = .next u ∧ HostDone u run.record c r.1 0 ∧
      (r.1 = 0 → alGet (objKey (fieldAt c.desc.specific 0 2) 1) u.dict.shadow = some (.blob c.payload) ∧ u.ctl.st = .staging ∧ u.ctl.owner = fieldAt c.desc.specific 4 4) ∧
      (r.1 ≠ 0 → u.dict.shadow = s.dict.shadow) ∧ u.tb = s.tb ∧ u.eng = s.eng := by
  have serves' : (s.at t).hostCmd run 4 = some c := serves
  have stages := (s.at t).loadProgram_stages (fieldAt c.desc.specific 4 4) (fieldAt c.desc.specific 0 2) c.payload
  have ends : exec (.loadProgram t run) s = .next (((s.at t).loadProgram (fieldAt c.desc.specific 4 4) (fieldAt c.desc.specific 0 2) c.payload).2.endHost c
      ((s.at t).loadProgram (fieldAt c.desc.specific 4 4) (fieldAt c.desc.specific 0 2) c.payload).1 0) := by
    show execLoadProgram t run s = _
    rw [execLoadProgram]
    dsimp only
    rw [serves']
    dsimp only
    rw [State.withPayload, if_pos read]
  generalize (s.at t).loadProgram (fieldAt c.desc.specific 4 4) (fieldAt c.desc.specific 0 2) c.payload = r at stages ends
  obtain ⟨code, v⟩ := r
  obtain ⟨notes, staged, refused⟩ := stages
  have passes := v.endHost_passes c code 0
  have journal : v.host.journal = s.host.journal := congrArg (·.host.journal) notes
  have items : v.disp.items = s.disp.items := congrArg (·.disp.items) notes
  have tb : v.tb = s.tb := congrArg (·.tb) notes
  have eng : v.eng = s.eng := congrArg (·.eng) notes
  refine ⟨_, ends, State.endHost_done serves journal items code 0, fun zero => ?_, fun fails => passes.shadow.trans (refused fails), passes.tb.trans tb, (passes.eng trivial).trans eng⟩
  rw [passes.shadow, passes.ctl]
  exact staged zero

end Sys2Proof.Machine
end

section
/-!
STREAM_DATA (R301, R302, R343, R345, R410): the packet of a descriptor runs through its stream's filter.
-/
namespace Sys2Proof.Machine
open Sys2Proof

set_option Elab.async false

/-! The packets of a buffer -/

/-- What a packet in a stream's buffer holds from its beginning on: its journal record and its payload. -/
def BufPacket.marks (q : BufPacket) : Nat × List Byte := (q.journal, q.payload)

theorem StreamBuf.put_marks (b : StreamBuf) (w : List Nat × Bool × Nat) (last : Bool) : (b.put w last).packets.map BufPacket.marks = b.packets.map BufPacket.marks := by
  unfold StreamBuf.put
  refine map_modFirst_of_eq _ _ BufPacket.marks ?_ b.packets
  exact fun _ => rfl

theorem StreamBuf.readOn_marks (b : StreamBuf) : b.readOn.packets.map BufPacket.marks = b.packets.map BufPacket.marks := by
  unfold StreamBuf.readOn
  split
  next p rest packets =>
    split
    · rw [packets]
      rfl
    · rfl
  · rfl

/-- R345: writing and reading on change no packet's record and payload. -/
theorem StreamBuf.pump_marks (words : List (List Nat × Bool × Nat)) (b : StreamBuf) : (StreamBuf.pump words b).1.packets.map BufPacket.marks = b.packets.map BufPacket.marks := by
  induction words generalizing b with
  | nil => rfl
  | cons w rest ih =>
    unfold StreamBuf.pump
    split
    · rfl
    · rw [ih, StreamBuf.readOn_marks, StreamBuf.put_marks]

/-! Output written (R345) -/

/-- A stream's working area, and the packets in its buffer. -/
def Stream.marks (x : Stream) : List Host.Cell × List (Nat × List Byte) := (x.working, x.buf.packets.map BufPacket.marks)

/-- Stream n's output is written on: the registers and the timebase stay, and so do its working area and the packets in its buffer. -/
structure State.WritesOn (n : Nat) (s t : State) : Prop where
  frame : t = { s with dict := t.dict, host := t.host, world := t.world, disp := t.disp, newel := t.newel, group := s.group.links t.group, events := t.events, wire := t.wire }
  marks : (t.stream n).marks = (s.stream n).marks

namespace State.WritesOn

variable {n : Nat}

theorem trans {s t u : State} (a : State.WritesOn n s t) (b : State.WritesOn n t u) : State.WritesOn n s u := by
  refine ⟨?_, b.marks.trans a.marks⟩
  have later := b.frame
  rw [a.frame] at later
  exact later

theorem refl (s : State) : State.WritesOn n s s := ⟨rfl, rfl⟩

theorem of_safety {s t : State} (h : State.SafetyNotes s t) : State.WritesOn n s t := ⟨by rw [h], by rw [State.stream, h]; rfl⟩

theorem ite {c : Prop} [Decidable c] {s t u : State} (a : State.WritesOn n s t) (b : State.WritesOn n s u) : State.WritesOn n s (if c then t else u) := by split <;> assumption

theorem modStream (s : State) {f : Stream → Stream} (h : (f (s.stream n)).marks = (s.stream n).marks) : State.WritesOn n s (s.modStream n f) := by
  refine ⟨rfl, ?_⟩
  rcases Nat.lt_or_ge n s.world.streams.length with inside | outside
  · rw [s.stream_modStream_same f inside, h]
  · unfold State.stream
    rw [State.modStream_world, getElem?_modAt, if_pos rfl, List.getElem?_eq_none outside]
    rfl

end State.WritesOn

theorem State.copyToSentry_writesOn (s : State) (m : Nat) (p : InPacket) (output : List Nat) (closed : Bool) {n : Nat} : State.WritesOn n s (s.copyToSentry m p output closed) :=
  .of_safety (by
    unfold State.copyToSentry
    split
    · exact .refl s
    extract_lets bytes held
    split
    · exact (s.count_frame ..).safety
    · exact .of_newel ..)

theorem State.pumpRuns_writesOn (n : Nat) (runs : List FilterRun) (s : State) : State.WritesOn n s (State.pumpRuns n runs s) := by
  induction runs generalizing s with
  | nil => exact .modStream s rfl
  | cons r rs ih =>
    unfold State.pumpRuns
    have pumped := (s.stream n).buf.pump_marks r.rest
    generalize (s.stream n).buf.pump r.rest = outcome at pumped
    obtain ⟨buf, rest⟩ := outcome
    dsimp only
    have written : State.WritesOn n s (s.modBuf n (fun _ => buf)) := .modStream s (congrArg (Prod.mk _) pumped)
    have counted (t : State) (k : Nat) : State.WritesOn n t (t.count (0x8300 + n) 1 k) := .of_safety (t.count_frame ..).safety
    have kept (t : State) (xs : List FilterRun) : State.WritesOn n t (t.modStream n (fun x => { x with running := xs })) := .modStream t rfl
    have told := written.trans (.ite (c := (rest.length == r.rest.length) = true) (.refl _) (counted _ (r.rest.length - rest.length)))
    exact told.trans (.ite ((State.copyToSentry_writesOn ..).trans (ih _)) (kept ..))

/-- R345: an item commits once its output is written in full. -/
theorem State.filterPacket_writesOn (s : State) (n : Nat) (i : Item) : State.WritesOn n (s.beginFilter n i) (s.filterPacket n i) := by
  have pumped : State.WritesOn n (s.beginFilter n i) ((s.beginFilter n i).pump n) := State.pumpRuns_writesOn ..
  exact pumped.trans (.ite (.refl _) ⟨rfl, rfl⟩)

/-! The packet begun (R301, R302) -/

theorem length_modAt {α : Type} (xs : List α) (n : Nat) (f : α → α) : (modAt xs n f).length = xs.length := by
  unfold modAt
  split
  · exact List.length_set
  · rfl

/-- R302, R313: what an invocation leaves of its tally and of its atomic additions is none of the timebase, of the streams or of any processor's registers. -/
theorem State.tallied_keeps (s : State) (v : Invocation) (frame : Nat) : let t := (s.setTally v.progSlot v.tally).fpAtomicChoice frame v.fpAtomic
    t.tb = s.tb ∧ t.world = s.world ∧ ∀ k, t.processor k = s.processor k := by
  have chosen (r : State) : State.ChoiceNotes r (r.fpAtomicChoice frame v.fpAtomic) := by
    unfold State.fpAtomicChoice
    split
    · exact r.choice_choiceNotes ..
    · rfl
  have notes := chosen (s.setTally v.progSlot v.tally)
  dsimp only
  generalize (s.setTally v.progSlot v.tally).fpAtomicChoice frame v.fpAtomic = t at notes
  rw [notes]
  unfold State.setTally
  split <;> exact ⟨rfl, rfl, fun _ => rfl⟩

section
variable {s : State} {n : Nat} {i : Item} {p : InPacket} (waits : (s.stream n).waiting.find? (fun p => p.journal == i.arg) = some p) (ready : (s.stream n).reloadDue = false)
  (inside : n < s.world.streams.length)
include waits ready inside

/-- R302: the packet's invocation runs and is put in hand, its memory is the stream's working area, and the packet is the last in the buffer; no other processor's registers change. -/
theorem State.beginFilter_begins : let v := s.filterRun n (s.stream n) p
    let u := s.beginFilter n i
    (u.stream n).marks = (v.mem, (s.stream n).buf.packets.map BufPacket.marks ++ [(p.journal, p.bytes)]) ∧ u.tb = s.tb ∧ u.engUnit = 512 + n ∧ u.eng = v ∧
      ∀ k, k ≠ 512 + n → u.processor k = s.processor k := by
  unfold State.beginFilter
  dsimp only
  rw [waits]
  dsimp only
  rw [if_neg (by simp [ready])]
  generalize s.filterRun n (s.stream n) p = v
  obtain ⟨tb, world, processors⟩ := s.tallied_keeps v p.frame
  generalize (s.setTally v.progSlot v.tally).fpAtomicChoice p.frame v.fpAtomic = r at tb world processors
  have stream : r.stream n = s.stream n := congrArg (fun x : World => (x.streams[n]?).getD Stream.initial) world
  have held (f : Stream → Stream) : n < (r.modStream n f).world.streams.length := by
    rw [State.modStream_world, length_modAt, world]
    exact inside
  refine ⟨?_, tb, rfl, rfl, fun k other => (State.processor_takeInHand_other _ other _).trans (processors k)⟩
  have opened (f g : Stream → Stream) : ((r.modStream n f).modStream n g).stream n = g (f (s.stream n)) := by
    rw [State.stream_modStream_same _ g (held f), State.stream_modStream_same r f (world ▸ inside), stream]
  refine (congrArg Stream.marks (opened _ _)).trans ?_
  exact congrArg (Prod.mk v.mem) List.map_append

end

/-- R410: the packet of a descriptor in service runs through its stream's filter into the buffer. -/
theorem exec_streamData_runs {s : State} {record : Nat} {i : Item} {j : JRec} {p : InPacket} (serves : s.atUnit 18 .streamPacket (fun i => i.arg == record) = some i)
    (known : s.record? record = some j) (own : j.isDescriptor = true) (inside : i.lane < s.world.streams.length)
    (waits : (s.stream i.lane).waiting.find? (fun p => p.journal == i.arg) = some p) (free : (s.stream i.lane).buf.packets = []) (ready : (s.stream i.lane).reloadDue = false) :
    ∃ u q, exec (.streamData record) s = .next u ∧ (u.stream i.lane).buf.packets = [q] ∧ q.journal = p.journal ∧ q.payload = p.bytes ∧
      (u.stream i.lane).working = (s.filterRun i.lane (s.stream i.lane) p).mem ∧ u.tb = s.tb ∧ u.engUnit = 512 + i.lane ∧
      u.eng = s.filterRun i.lane (s.stream i.lane) p ∧ ∀ k, k ≠ 512 + i.lane → u.processor k = s.processor k := by
  have run : exec (.streamData record) s = .next (s.filterPacket i.lane i) := by
    show execStreamData record s = _
    rw [execStreamData, serves, known]
    exact congrArg Host.Outcome.next (if_pos own)
  obtain ⟨begun, tb, unit, eng, others⟩ := State.beginFilter_begins waits ready inside
  have writes := s.filterPacket_writesOn i.lane i
  generalize s.filterPacket i.lane i = u at run writes
  have marks := writes.marks.trans begun
  rw [free] at marks
  obtain ⟨working, packets⟩ := Prod.mk.inj marks
  obtain ⟨q, only, same⟩ := List.map_eq_singleton_iff.1 packets
  obtain ⟨journal, payload⟩ := Prod.mk.inj same
  refine ⟨u, q, run, only, journal, payload, working, ?_⟩
  rw [writes.frame]
  exact ⟨tb, unit, eng, others⟩

end Sys2Proof.Machine
end

section
/-!
The host's commands (R145, R404, R410).
-/
namespace Sys2Proof.Machine
open Sys2Proof

/-- Settles O46, command by command: each runs to a state that has kept the journal and the items, whose commit write is then the command's. -/
theorem hostCommandsComplete : Obligations.HostCommandsComplete := by
  unfold Obligations.HostCommandsComplete
  intro s t record run c
  refine ⟨exec_nop_completes, fun serves => ⟨exec_dictionary_unread serves, fun b s2 read asked => ⟨fun room whole => ?_, fun fails => ?_⟩, fun s2 read => exec_dictionary_drops serves read⟩,
    fun known serves => ⟨exec_loadModel_bound serves, exec_loadModel_over serves, fun unbound fits read _ => ?_⟩, exec_loadProgram_completes,
    fun i j p serves known own _ inside waits free _ ready => exec_streamData_runs serves known own inside waits free ready⟩
  · exact ⟨_, exec_dictionary_answers serves read asked, State.writeResult_written (by decide) room whole⟩
  · rw [exec_dictionary_answers serves read asked, State.writeResult_fails fails]
  · obtain ⟨u, loads, done, boot⟩ := exec_loadModel_loads serves unbound fits read (known := known)
    exact ⟨u, _, loads, done, boot, s.modelTaken_holds c.payload known⟩

end Sys2Proof.Machine
end

section
/-!
SUPPORT. What the rules call a fault of an engine instruction (R303 to R305, R314, R320), and what a fault makes of the state (R193, R316).
-/
namespace Sys2Proof.Machine
open Sys2Proof

set_option Elab.async false

/-! The consequence of a fault (R193, R316) -/

/-- R316: the invocation in hand marked as faulted, and the consequence of that. -/
def State.faults (s : State) : State := ({ s with eng := { s.eng with status := .faulted } } : State).faultInHand

/-- R316: the consequence of a fault leaves the registers in hand and the tallies as they are. -/
theorem State.faultInHand_keeps (s : State) : s.faultInHand.eng = s.eng ∧ s.faultInHand.boot = s.boot := by
  unfold State.faultInHand
  split
  case isFalse => exact ⟨rfl, rfl⟩
  case isTrue =>
    split
    · rw [(s.abandonItem_works ..).frame]
      exact ⟨rfl, rfl⟩
    · exact ⟨rfl, rfl⟩

theorem State.faults_eng (s : State) : s.faults.eng = { s.eng with status := .faulted } := (State.faultInHand_keeps _).1

/-- R193, R316: the block or the candidate that the engine in hand serves is abandoned. -/
theorem State.faults_engine {s : State} {i : Item} (engine : s.engUnit < 512) (serves : s.servingCandidates s.engUnit = some i) :
    s.faults = ({ s with eng := { s.eng with status := .faulted } } : State).abandonItem s.engUnit i 0x0501 := by
  have serves' : ({ s with eng := { s.eng with status := .faulted } } : State).servingCandidates s.engUnit = some i := serves
  unfold State.faults State.faultInHand
  rw [if_pos engine, serves']

/-- R316: the packet that the ingress processor in hand still writes is closed. -/
theorem State.faults_ingress {s : State} {k : Nat} (ingress : s.engUnit = 512 + k) :
    s.faults = ({ s with eng := { s.eng with status := .faulted } } : State).breakPacket k := by
  unfold State.faults State.faultInHand
  rw [ingress, if_neg (by omega), Nat.add_sub_cancel_left]

theorem State.engHere_running {s : State} (running : s.eng.status = .running) : s.engHere = s.eng := by simp [State.engHere, Invocation.resume, running]

theorem State.engApply_faults {s : State} {i : Instr} (runs : Runs s i) {f : EngEnv → Invocation → Invocation} (gives : f (envOf s) s.eng = s.eng.fault) : s.engApply i f = s.faults := by
  obtain ⟨running, -, formed⟩ := runs
  rw [State.engApply, if_pos formed, State.engHere_running running, State.engEnvHere, gives]
  exact if_pos rfl

/-! The local, tile and constant spaces (R303 to R306, R313) -/

section
variable {v : Invocation} {a n : Nat}

/-- R303 to R305: bytes of the local space that a load faults on. -/
def Invocation.Unreadable (v : Invocation) (a n : Nat) : Prop :=
  a % n ≠ 0 ∨ (v.kind = .filter ∧ (v.packet.length < a + n ∧ a < 0x8000 ∨ 0x10000 ≤ a)) ∨ (v.kind = .tread ∧ v.slot < 64 ∧ 0x31000 < a + n)

/-- R303 to R305: bytes of the local space that a store faults on. -/
def Invocation.Unwritable (v : Invocation) (a n : Nat) : Prop :=
  a % n ≠ 0 ∨ (v.kind = .tread ∧ a < 0x21000) ∨ (v.kind = .filter ∧ (a < 0x8000 ∨ 0x20000 ≤ a))

/-- R304: a candidate's own state area lies in 0x2_1000 to 0x3_0FFF. -/
theorem Invocation.ownState_false (h : a < 0x21000 ∨ v.slot < 64 ∧ 0x31000 < a + n) : v.ownState a n = false := by
  simp only [Invocation.ownState, Bool.and_eq_false_iff, decide_eq_false_iff_not]
  omega

theorem Invocation.loadLocal_unreadable (h : v.Unreadable a n) : v.loadLocal a n = none := by
  unfold Invocation.loadLocal
  by_cases aligned : a % n = 0
  case neg => exact if_pos (by simpa using aligned)
  rw [if_neg (by simpa using aligned)]
  obtain misaligned | ⟨kind, outside⟩ | ⟨kind, slot, beyond⟩ := h
  · exact absurd aligned misaligned
  · rw [kind]
    dsimp only
    obtain ⟨past, low⟩ | high := outside
    · rw [if_pos low, if_neg (by omega)]
    · rw [if_neg (by omega), if_neg (by omega)]
  · rw [kind]
    dsimp only
    rw [if_neg (by omega), Invocation.ownState_false (.inr ⟨slot, beyond⟩), if_neg Bool.false_ne_true]

theorem Invocation.storeLocal_unwritable {bytes : List Byte} (long : bytes.length = n) (h : v.Unwritable a n) : v.storeLocal a bytes = v.fault := by
  unfold Invocation.storeLocal
  rw [long]
  dsimp only
  by_cases aligned : a % n = 0
  case neg => exact if_pos (by simpa using aligned)
  rw [if_neg (by simpa using aligned)]
  obtain misaligned | ⟨kind, low⟩ | ⟨kind, outside⟩ := h
  · exact absurd aligned misaligned
  · rw [kind]
    dsimp only
    rw [Invocation.ownState_false (.inl low), if_neg Bool.false_ne_true]
  · rw [kind]
    dsimp only
    rw [if_neg (by omega), if_neg (by omega)]

section
variable {rd ra : BitVec 6} {imm : BitVec 14}

theorem engLdwS_faults (h : v.Unreadable (v.address ra imm) 4) : engLdwS rd ra imm v = v.fault := by rw [engLdwS, Invocation.loadLocal_unreadable h]

theorem engVldS_faults (h : v.Unreadable (v.address ra imm) 32) : engVldS rd ra imm v = v.fault := by rw [engVldS, Invocation.loadLocal_unreadable h]

theorem engStwS_faults (h : v.Unwritable (v.address ra imm) 4) : engStwS rd ra imm v = v.fault := Invocation.storeLocal_unwritable (leBytes_length ..) h

theorem engVstS_faults (lanes : ∀ x ∈ v.v, x.length = 8) (h : v.Unwritable (v.address ra imm) 32) : engVstS rd ra imm v = v.fault := by
  have eight : (v.getV rd.toNat).length = 8 := by
    unfold Invocation.getV
    cases e : v.v[rd.toNat]? with
    | none => rfl
    | some x => exact lanes x (List.mem_of_getElem? e)
  refine Invocation.storeLocal_unwritable ?_ h
  simp [eight]

theorem engLdwH_faults (h : v.address ra imm % 4 ≠ 0 ∨ v.consts.length < v.address ra imm + 4) : engLdwH rd ra imm v = v.fault := by
  unfold engLdwH
  refine if_neg ?_
  simp only [Bool.and_eq_true, beq_iff_eq, decide_eq_true_eq]
  omega

/-- R315: a filter has no map. -/
theorem engLdwT_faults {env : EngEnv} (filter : v.kind = .filter) : engLdwT env rd ra imm v = v.fault := if_pos (by simp [filter])

end

/-! Loops, places, queries, merits, ends and tallies (R303, R313, R314, R320) -/

theorem engLoop_faults {rs : BitVec 6} {body bound : BitVec 10} (beyond : bound.toNat < (v.getG rs.toNat).toNat) : engLoop rs body bound v = v.fault := if_pos beyond

section
variable {env : EngEnv} {rd ra rb : BitVec 6} {pred : BitVec 3} (holds : v.getP pred.toNat = true)
include holds

theorem engPoseSphere_faults (unknown : env.spheres.length ≤ (v.getG ra.toNat).toNat) : engPoseSphere env rd ra pred v = v.fault := by
  rw [engPoseSphere, Invocation.when_pos holds, List.getElem?_eq_none unknown]

theorem engPoseAxle_faults (unknown : (axles env.body v.here).length ≤ (v.getG ra.toNat).toNat) : engPoseAxle env rd ra pred v = v.fault := by
  rw [engPoseAxle, Invocation.when_pos holds, List.getElem?_eq_none unknown]

theorem engQuery_faults (other : env.map.typeOf (v.getG rb.toNat).toNat ≠ 1) : engQuery env rd ra rb pred v = v.fault := by
  rw [engQuery, Invocation.when_pos holds]
  exact if_pos (by simpa using other)

theorem engLookup_faults (other : env.map.typeOf (v.getG rb.toNat).toNat ≠ 2) : engLookup env rd ra rb pred v = v.fault := by
  rw [engLookup, Invocation.when_pos holds]
  exact if_pos (by simpa using other)

theorem engMerit_faults (early : v.pose ≠ v.horizon) : engMerit ra pred v = v.fault := by
  rw [engMerit, Invocation.when_pos holds, if_neg (by simpa using early)]

theorem engReject_faults {code : BitVec 8} {c : Nat} (tread : v.kind = .tread) (named : (if code = 0#8 then (v.getG ra.toNat).toNat % 256 else code.toNat) = c) (reserved : c ≠ 6 ∧ c < 16) :
    engReject ra pred code v = v.fault := by
  have same : (if (code == 0#8) = true then (v.getG ra.toNat).toNat % 256 else code.toNat) = c := by simpa using named
  rw [engReject, Invocation.when_pos holds]
  dsimp only
  rw [same]
  refine if_neg ?_
  simp [tread, reserved]

theorem engAtomAddI32_faults (outside : (v.getG ra.toNat).toNat % 4 ≠ 0 ∨ v.tallyLength < (v.getG ra.toNat).toNat + 4) : engAtomAddI32 ra rb pred v = v.fault := by
  rw [engAtomAddI32, Invocation.when_pos holds, Invocation.atomic]
  refine if_neg (c := ((v.getG ra.toNat).toNat % 4 == 0 && decide ((v.getG ra.toNat).toNat + 4 ≤ v.tallyLength)) = true) ?_
  simp only [Bool.and_eq_true, beq_iff_eq, decide_eq_true_eq]
  omega

end
end
end Sys2Proof.Machine
end

section
/-!
Instructions that fault, as commands, and the statement on them (R193, R303 to R305, R314, R316, R320).
-/
namespace Sys2Proof.Machine
open Sys2Proof

set_option Elab.async false

/-- An instruction that acts on the invocation in hand, and faults. -/
theorem exec_engApply_faults {s : State} {i : Instr} {f : EngEnv → Invocation → Invocation} (applies : exec i s = .next (s.engApply i f)) (runs : Runs s i)
    (gives : f (envOf s) s.eng = s.eng.fault) : exec i s = .next s.faults := applies.trans (congrArg _ (State.engApply_faults runs gives))

/-! A tally addition that faults (R313) -/

/-- R313: the invocation in hand with its tally as the bank holds it. -/
def State.engAtBank (s : State) : Invocation := { s.eng with fpAtomic := false, tally := s.tallyOf s.eng.progSlot }

/-- R313, R332: that tally written back, where the engine does not add to an old one. -/
def State.tallyBack (s : State) : State := if s.onOldTally s.engUnit then s else s.setTally s.eng.progSlot (s.tallyOf s.eng.progSlot)

/-- A tally written with what it holds reads as before. -/
theorem State.tallyOf_tallyBack (s : State) : s.tallyBack.tallyOf s.eng.progSlot = s.tallyOf s.eng.progSlot := by
  unfold State.tallyBack
  split
  · rfl
  · cases s.eng.progSlot with
    | none => rfl
    | some k =>
      show (alGet k (alSet k (s.tallyOf (some k)) s.boot.tallies)).getD [] = _
      rw [alGet_alSet_same]
      rfl

theorem State.engTally_faults {s : State} {i : Instr} (runs : Runs s i) {f : Invocation → Invocation} (gives : f s.engAtBank = s.engAtBank.fault) :
    s.engTally i f = ({ s.tallyBack with eng := s.engAtBank.fault } : State).faultInHand := by
  obtain ⟨running, -, formed⟩ := runs
  have added : f { s.eng with fpAtomic := false, tally := s.tallyOf s.eng.progSlot } = s.engAtBank.fault := gives
  unfold State.engTally
  rw [if_pos formed, State.engHere_running running]
  dsimp only
  rw [added]
  rfl

section
variable {s : State} {rd ra rb : BitVec 6} {pred : BitVec 3} (holds : s.eng.getP pred.toNat = true)
include holds

/-- R314: a query that faults is not counted. -/
theorem exec_query_faults (runs : Runs s (.query rd ra rb pred)) (other : (envOf s).map.typeOf (s.eng.getG rb.toNat).toNat ≠ 1) : exec (.query rd ra rb pred) s = .next s.faults := by
  have applied : s.engApply (.query rd ra rb pred) (fun env v => engQuery env rd ra rb pred v) = s.faults := State.engApply_faults runs (engQuery_faults holds other)
  have none : s.faults.eng.queries = s.eng.queries := by rw [State.faults_eng]
  show execQuery rd ra rb pred s = _
  unfold execQuery
  dsimp only
  rw [applied, none]
  exact congrArg _ (if_pos (beq_self_eq_true _))

/-- R303, R313: an addition outside the tally area faults, and adds nothing. -/
theorem exec_atomAddI32_faults (runs : Runs s (.atomAddI32 ra rb pred)) (outside : (s.eng.getG ra.toNat).toNat % 4 ≠ 0 ∨ s.eng.tallyLength < (s.eng.getG ra.toNat).toNat + 4) :
    ∃ u, exec (.atomAddI32 ra rb pred) s = .next u ∧ u.eng.status = .faulted ∧ u.tallyOf s.eng.progSlot = s.tallyOf s.eng.progSlot := by
  have adds : engAtomAddI32 ra rb pred s.engAtBank = s.engAtBank.fault := engAtomAddI32_faults (v := s.engAtBank) holds outside
  obtain ⟨eng, boot⟩ := State.faultInHand_keeps { s.tallyBack with eng := s.engAtBank.fault }
  refine ⟨_, congrArg Host.Outcome.next (State.engTally_faults runs adds), congrArg Invocation.status eng, Eq.trans ?_ s.tallyOf_tallyBack⟩
  unfold State.tallyOf
  rw [boot]

end

/-- Settles O30: each named condition makes the instruction fault, and the consequence is that of R316 for the processor in hand. -/
theorem faultingInstructionsMarkTheInvocation : Obligations.FaultingInstructionsMarkTheInvocation := by
  unfold Obligations.FaultingInstructionsMarkTheInvocation
  intro s rd ra rb pred imm holds a x s' t faulted
  refine ⟨s.faults_eng, fun i => State.faults_engine, fun k => State.faults_ingress, ?ldwS, ?vldS, ?stwS, ?vstS, ?ldwH, ?ldwT, ?loop, ?poseSphere, ?poseAxle, ?query, ?lookup, ?merit, ?reject,
    exec_atomAddI32_faults holds⟩
  case ldwS =>
    intro runs outside slot
    refine exec_engApply_faults rfl runs (engLdwS_faults ?_)
    exact outside.imp_right (Or.imp_right fun ⟨tread, beyond⟩ => ⟨tread, slot, Nat.lt_add_right_iff_pos.2 (by decide) |>.trans_le' beyond⟩)
  case vldS =>
    intro runs outside
    exact exec_engApply_faults rfl runs (engVldS_faults (outside.imp_right fun ⟨filter, high⟩ => .inl ⟨filter, .inr high⟩))
  case stwS => exact fun runs outside => exec_engApply_faults rfl runs (engStwS_faults outside)
  case vstS =>
    intro runs outside
    obtain ⟨-, ⟨-, -, -, lanes, -, -⟩, -⟩ := id runs
    exact exec_engApply_faults rfl runs (engVstS_faults lanes (outside.imp_right .inl))
  case ldwH => exact fun runs outside => exec_engApply_faults rfl runs (engLdwH_faults outside)
  case ldwT => exact fun runs filter => exec_engApply_faults rfl runs (engLdwT_faults filter)
  case loop => exact fun body bound runs beyond => exec_engApply_faults rfl runs (engLoop_faults beyond)
  case poseSphere => exact fun runs unknown => exec_engApply_faults rfl runs (engPoseSphere_faults holds unknown)
  case poseAxle => exact fun runs unknown => exec_engApply_faults rfl runs (engPoseAxle_faults holds unknown)
  case query => exact exec_query_faults holds
  case lookup => exact fun runs other => exec_engApply_faults rfl runs (engLookup_faults holds other)
  case merit => exact fun runs early => exec_engApply_faults rfl runs (engMerit_faults holds early)
  case reject => exact fun code runs tread reserved => exec_engApply_faults rfl runs (engReject_faults holds tread rfl reserved)

end Sys2Proof.Machine
end

section
/-!
CANDIDATE_BLOCK and CANDIDATE_SINGLE (R82, R171, R192, R206, R283): a state in which two items share a serial number, and what the commit of a block makes of it.
-/
namespace Sys2Proof.Machine
open Sys2Proof

/-- A chip past the commit point of frame 3, which squashes what has run ahead: engine 0, with its windows filled and no candidate in them, serves a run-ahead block, and a candidate of that
block waits to be evaluated again, under the serial number of the block. -/
def squashedBlockState : State :=
  { State.reset with
    frames := [{ closingWork with squashAll := true }]
    disp := { Dispatch.initial with
      items := [{ closingItem 7 .candidateBlock none (.service 0) with spec := true }, closingItem 7 .candidateSingle none (.ready 0)], nextSerial := 8
      units := [⟨64, [], [], false⟩] } }

/-- R82, R83, R283: the block's record is squashed as it commits, the evaluation of its candidate is cancelled, and the block's item goes with that. -/
theorem squashedBlockState_drops_the_block_in_service : ∃ t, exec (.candidateBlock 0) squashedBlockState = .next t ∧ t.disp.items = [] := by
  have h : (match exec (.candidateBlock 0) squashedBlockState with | .next t => t.disp.items.isEmpty | _ => false) = true := by decide +kernel
  split at h
  case h_1 t ht => exact ⟨t, ht, List.isEmpty_iff.1 h⟩
  case h_2 => cases h

/-- Refutes O32: the statement speaks of every state, and in one where two items share a serial number the item of a block leaves the lists with the cancelled evaluation of one of its
candidates as the block's record is squashed (`squashedBlockState`). -/
theorem not_checkedCandidatesAreRecorded : ¬ Obligations.CheckedCandidatesAreRecorded := by
  unfold Obligations.CheckedCandidatesAreRecorded
  intro h
  obtain ⟨t, -, ht, -, ⟨j, hj, -⟩, -⟩ := h squashedBlockState 0 { closingItem 7 .candidateBlock none (.service 0) with spec := true } { closingWork with squashAll := true } ⟨64, [], [], false⟩
    (by decide +kernel) rfl (by decide +kernel) _ (List.mem_cons_self ..) (by decide +kernel)
  obtain ⟨u, hu, none⟩ := squashedBlockState_drops_the_block_in_service
  obtain rfl : t = u := by simpa [ht] using hu
  rw [none] at hj
  cases hj

end Sys2Proof.Machine
end
